-- ==== Sys2Proof/Word.lean ====
section
/-!
DEFINITION. Words: bytes, the integers the module counts in, and the plainest arithmetic on them.
The spec's own number formats are fixed in 02_drips_turns_and_station_time.md (R37 to R42) and in 00_scope.md.
-/

namespace Sys2Proof

/-- An octet of a frame, of a dictionary value or of memory. -/
abbrev Byte := BitVec 8

/-- An absolute time, the DRIP80 integer `SEC * 2^36 + FRAC` of R37. -/
abbrev Instant := Nat

/-- A signed duration in drips, the DRIP64 of R39. -/
abbrev Duration := Int

/-- Bit `i` of a word kept as a natural number. -/
def bit (w i : Nat) : Bool := Nat.testBit w i

/-- The field `[lo + n - 1 : lo]` of a word kept as a natural number. -/
def field (w lo n : Nat) : Nat := (w >>> lo) % 2 ^ n

/-- `1` for true, `0` for false. -/
def b2n (b : Bool) : Nat := if b then 1 else 0

/-- The word with the field `[lo + n - 1 : lo]` replaced by `v`. -/
def setField (w lo n v : Nat) : Nat :=
  w - field w lo n * 2 ^ lo + (v % 2 ^ n) * 2 ^ lo

/-- The word with bit `i` set to `b`. -/
def setBit (w i : Nat) (b : Bool) : Nat := setField w i 1 (b2n b)

/-- Read a width-`n` two's-complement number. -/
def toSigned (n w : Nat) : Int := if w % 2 ^ n < 2 ^ (n - 1) then ((w % 2 ^ n : Nat) : Int) else ((w % 2 ^ n : Nat) : Int) - 2 ^ n

/-- The width-`n` two's-complement pattern of an integer. -/
def ofSigned (n : Nat) (x : Int) : Nat := (x % 2 ^ n).toNat

/-- `ceil (a / b)` for a positive `b`. -/
def ceilDiv (a b : Nat) : Nat := (a + b - 1) / b

/-- An integer limited to `lo .. hi`. -/
def clampInt (lo hi x : Int) : Int := if x < lo then lo else if hi < x then hi else x

end Sys2Proof
end

