-- ==== Sys2Proof/Syntax.lean ====
section
/-!
DEFINITION. The commands: one constructor of `Instr` for each row of spec/opcode_table.json, and the data a command
carries from outside (a frame, a sampled-value ASDU, a GOOSE message, a PTP message, a pair-link frame, an EDP request).
The table gives its rows no fields, so the operands are the model's own (assumption log 2): what the rules of the row
need from outside the module, and nothing the module's state already holds. Every command carries first the instant at
which it takes place, in drips (log 1).
-/

namespace Sys2Proof

/-- An 802.1Q tag with TPID 0x8100 (R84). -/
structure VlanTag where
  vid : Nat
  pcp : Nat
  deriving DecidableEq, Repr

/-- An HSR tag (R135): path identifier and sequence number. -/
structure HsrTag where
  path : Nat
  seq : Nat
  deriving DecidableEq, Repr

/-- The last six octets before the FCS, read as a PRP redundancy control trailer (R134): LAN identifier, sequence number, LSDU
size, suffix. Whether it is valid is for the separator to say. -/
structure PrpTrailer where
  lan : Nat
  seq : Nat
  size : Nat
  suffix : Nat
  deriving DecidableEq, Repr

/-- An Ethernet frame as the switch sees it: addresses, outer VLAN tag, EtherType after any tag, the two octets that
follow it (the APPID of R85), redundancy tags, the length from destination address to FCS, the octets after the
EtherType, and the svIDs of the ASDUs of a sampled-value frame (R99, R146). -/
structure Frame where
  dst : Nat
  src : Nat
  tag : Option VlanTag
  etherType : Nat
  appid : Nat
  hsr : Option HsrTag
  prp : Option PrpTrailer
  len : Nat
  body : List Byte
  svids : List (List Byte) := []
  deriving DecidableEq, Repr

/-- The end of a reception (R80): octets received, whether the FCS is good, whether the length is whole octets. -/
structure RxEnd where
  len : Nat
  fcsOk : Bool
  alignOk : Bool
  deriving DecidableEq, Repr

/-- An IEC 62351-6 security extension: the octets it authenticates and its tag (R152). -/
structure AuthExt where
  covered : List Byte
  tag : List Byte
  deriving DecidableEq, Repr

/-- One channel of an ASDU: the INT32 value and the quality word of R151. -/
structure Sample where
  value : Int
  quality : Nat
  deriving DecidableEq, Repr

/-- A sampled-value ASDU with the fields of its frame that ingest uses (R146, R150). `port` is the ingress port, `tag` the
frame's VLAN tag (R84), `rxAt` when its start-of-frame delimiter passed the lands (R66), `len` its length from destination
address to FCS (R153), `idAt` when the comparison of its svID ended (R148). The command comes when the frame has ended. -/
structure Asdu where
  port : Nat
  dst : Nat
  appid : Nat
  tag : Option VlanTag
  sim : Bool
  auth : Option AuthExt
  rxAt : Nat
  idAt : Nat
  len : Nat
  svid : List Byte
  smpCnt : Nat
  confRev : Nat
  smpSynch : Nat
  seqLen : Nat
  samples : List Sample
  deriving DecidableEq, Repr

/-- A dataset member on the wire: its TYPE code of R246, its value in the cell form of R246, its quality. -/
structure Member where
  type : Nat
  value : Nat
  quality : Nat
  deriving DecidableEq, Repr

/-- A GOOSE message with the fields of its frame that the subscription uses (R465, R466). -/
structure GooseMsg where
  port : Nat
  dst : Nat
  appid : Nat
  tag : Option VlanTag
  sim : Bool
  auth : Option AuthExt
  gocbRef : List Byte
  datSet : List Byte
  confRev : Nat
  stNum : Nat
  sqNum : Nat
  ttl : Nat
  test : Bool
  ndsCom : Bool
  members : List Member
  deriving DecidableEq, Repr

/-- The kinds of PTP message (R52); `delayReq` and `delayResp` are those of the end-to-end mechanism. -/
inductive PtpKind where
  | sync | followUp | pdelayReq | pdelayResp | pdelayRespFollowUp | announce | management | delayReq | delayResp | other
  deriving DecidableEq, Repr

/-- The data set of an Announce message that the best master clock algorithm compares, and whether the message carries the TLV
that IEEE C37.238-2017 makes mandatory (R52). -/
structure Announce where
  priority1 : Nat
  clockClass : Nat
  accuracy : Nat
  variance : Nat
  priority2 : Nat
  identity : Nat
  stepsRemoved : Nat
  utcOffset : Nat
  tlv : Bool := false
  deriving DecidableEq, Repr

/-- A received PTP message: its header fields and its time with the correction field in 2^-16 ns (R43). For a
two-step Sync or Pdelay_Resp the precise origin time comes in the Follow_Up. -/
structure PtpMsg where
  kind : PtpKind
  domain : Nat
  seq : Nat
  twoStep : Bool
  seconds : Nat
  nanos : Nat
  correction : Int
  data : Option Announce
  deriving DecidableEq, Repr

/-- The edge of PPS_IN: which edge it is and the pulse's width in drips (R61). -/
structure PpsEdge where
  rising : Bool
  width : Nat
  deriving DecidableEq, Repr

/-- The header of a received pair-link frame (R356), and whether it came over the station network. -/
structure PairHdr where
  station : Bool
  sideB : Bool
  lead : Bool
  nak : Option Nat
  seq : Nat
  tick : Nat
  deriving DecidableEq, Repr

/-- The HEARTBEAT payload of R357, and the tag that follows it when HB_KEY_SLOT is set (R332). -/
structure Heartbeat where
  serial : Nat
  state : Nat
  flags : Nat
  slices : Nat
  configTag : Nat
  sentAt : Nat
  pairId : Nat
  auth : Option AuthExt
  deriving DecidableEq, Repr

/-- The DIGEST payload of R357. -/
structure Digest where
  inputDigest : List Byte
  outputHash : List Byte
  inputValid : Bool
  outputValid : Bool
  deriving DecidableEq, Repr

/-- The STATE payload of R357: one fragment of a section. -/
structure StateFrag where
  kind : Nat
  last : Bool
  id : Nat
  offset : Nat
  sectionLength : Nat
  configTag : Nat
  data : List Byte
  deriving DecidableEq, Repr

/-- The ROLE payload of R357 less its OP, which the command names. -/
structure RoleMsg where
  reason : Nat
  opId : Nat
  atTick : Nat
  arg : Nat
  deriving DecidableEq, Repr

/-- The MIGRATE payload of R357 less its OP. -/
structure MigrateMsg where
  kind : Nat
  transferId : Nat
  offset : Nat
  total : Nat
  data : List Byte
  deriving DecidableEq, Repr

/-- The transports of R433. -/
inductive Transport where
  | udp | mailbox | uart
  deriving DecidableEq, Repr

/-- An EDP request (R435): its transport, the header's fields, the tag and the plaintext of the payload. For the tag, none stands for the
one that GCM gives under the session's key. For a UDP datagram `dest` is its address, its port and its VID (0 untagged), none standing
for those of the management stack; for a UART frame `crc` is its CRC-32, none standing for the right one (R433). -/
structure Req where
  transport : Transport
  version : Nat
  flags : Nat
  session : Nat
  seq : Nat
  tag : Option (List Byte)
  index : Nat
  sub : Nat
  handle : Nat
  payload : List Byte
  dest : Option (Nat × Nat × Nat) := none
  crc : Option Nat := none
  deriving DecidableEq, Repr

/-- A key command of R375 less its OP, which the command names. -/
structure KeyCmd where
  slot : Nat
  parent : Nat
  rooted : Bool
  attr : Nat
  bind : Nat
  label : List Byte
  context : List Byte
  key : List Byte
  deriving DecidableEq, Repr

/-- A vendor transition token of R367: its body's fields and its signature. -/
structure Token where
  serial : Nat
  fromState : Nat
  toState : Nat
  flags : Nat
  nonce : List Byte
  signature : List Byte
  deriving DecidableEq, Repr

/-- A life-cycle request of R366 less its TO, which the command names. -/
structure LcReq where
  ownerKeyAlg : Nat
  revoke : Bool
  contribution : List Byte
  ownerPubkey : List Byte
  officerKey : List Byte
  token : Option Token
  deriving DecidableEq, Repr

/-- A firmware image of R384: the header's fields, its first 128 octets, the signatures and the payload. -/
structure Image where
  magic : Nat
  headerVersion : Nat
  imageType : Nat
  flags : Nat
  svn : Nat
  version : Nat
  reserved : Nat
  lcMask : Nat
  payloadDigest : List Byte
  header : List Byte
  vendorSig : List Byte
  ownerSig : List Byte
  payload : List Byte
  deriving DecidableEq, Repr

/-- One refresh of the measured values of R463: eight rails in mV, four dies in 1/16 C, VBAT in mV, power in mW. -/
structure Env where
  supplies : List Nat
  temps : List Int
  vbat : Nat
  power : Nat
  deriving DecidableEq, Repr

/-- Where a double-bit error lies (R402); a raw ring's word is given as the image slot it covers. -/
inductive MemPlace where
  | partition (n : Nat)
  | manager
  | rawRing (tick channel : Nat)
  | imageSlot (tick channel : Nat)
  | phasorRecord (tick output : Nat)
  | churn
  | loops
  | switchFrame (id : Nat)
  | keyCell (slot : Nat)
  deriving DecidableEq, Repr

/-- How a logic self-test ended: the pattern counter, the MISR, and whether it was abandoned (R407, R411). -/
structure TestEnd where
  patterns : Nat
  misr : Nat
  abandoned : Bool
  deriving DecidableEq, Repr

/-- A fault that a march test finds: the memory instance, the row, the failing bit and the type of R415. -/
structure MarchFault where
  memory : Nat
  row : Nat
  bitPos : Nat
  failType : Nat
  deriving DecidableEq, Repr

/-- What a start finds (R423, R424): the network die does not come up in step 4; the unit identifiers that fail step 5, and
whether the fall-back engine does; when each step ended, in ms; what the march tests find (R414). -/
structure StartUp where
  networkFailed : Bool
  failedUnits : List Nat
  fallbackFailed : Bool
  stepTimes : List Nat
  marchFaults : List MarchFault := []
  deriving DecidableEq, Repr

/-- An exception of a partition's hart, with its exception code (R223, R231). -/
structure PartException where
  partition : Nat
  cause : Nat
  deriving DecidableEq, Repr

/-- One constructor for each row of spec/opcode_table.json, in the table's order. `answered` says whether the host answers the reads
of a descriptor's data, which its IOMMU may refuse (R254). -/
inductive Instr where
  -- the tick and the data path
  | workTickBoundary (at_ : Instant)
  | alignmentWindowClose (at_ : Instant) (image : Nat)
  | imageRelease (at_ : Instant) (image : Nat)
  | phasorRelease (at_ : Instant) (image : Nat)
  | residueMismatch (at_ : Instant) (slice group : Nat)
  | fallbackHandover (at_ : Instant) (slice : Nat)
  | fallbackReturn (at_ : Instant) (slice : Nat)
  | curdFrameWrite (at_ : Instant) (firstTick : Nat)
  | triggerNow (at_ : Instant) (value : Nat)
  | releaseWindow (at_ : Instant) (window : Nat)
  | dcFreezeMapWrite (at_ : Instant) (map : Nat)
  -- ports and switch
  | rxFrameStart (at_ : Instant) (port : Nat)
  | rxClassified (at_ : Instant) (port : Nat) (frame : Frame)
  | rxFrameEnd (at_ : Instant) (port : Nat) (ending : RxEnd)
  | cutThroughStart (at_ : Instant) (ingress egress : Nat)
  | egressTxStart (at_ : Instant) (port : Nat)
  | txFrameEnd (at_ : Instant) (port : Nat)
  | timestampCollect (at_ : Instant) (port owner : Nat)
  | timestampUncollected (at_ : Instant) (port : Nat)
  | residenceDiscard (at_ : Instant) (port : Nat)
  | pauseReceived (at_ : Instant) (port pauseTime : Nat)
  | pauseExpiry (at_ : Instant) (port : Nat)
  | pauseRepeat (at_ : Instant) (port : Nat)
  | speedLower (at_ : Instant) (port : Nat)
  | speedRaise (at_ : Instant) (port : Nat)
  | sgmiiSpeedReport (at_ : Instant) (port speed : Nat) (fullDuplex : Bool)
  | linkDown (at_ : Instant) (port : Nat)
  | linkUp (at_ : Instant) (port : Nat)
  | serdesLockLost (at_ : Instant) (port : Nat)
  | halfRangeMapWrite (at_ : Instant) (port value : Nat)
  | staticEntryWrite (at_ : Instant) (entry value : Nat)
  | multicastGroupWrite (at_ : Instant) (group value : Nat)
  | clearTables (at_ : Instant) (value : Nat)
  | tableBarrier (at_ : Instant) (generation : Nat)
  | barrierDone (at_ : Instant)
  | residenceLimitWrite (at_ : Instant) (value : Nat)
  | supervisionFrameSend (at_ : Instant) (group : Nat)
  | lanSilent (at_ : Instant) (group : Nat)
  | entryForget (at_ : Instant) (group mac : Nat)
  -- time
  | ptpMessageReceived (at_ : Instant) (port : Nat) (msg : PtpMsg)
  | ptpSyncSend (at_ : Instant) (port : Nat)
  | ptpAnnounceSend (at_ : Instant) (port : Nat)
  | pdelayReqSend (at_ : Instant) (port : Nat)
  | announceReceiptTimeout (at_ : Instant) (port : Nat)
  | holdoverOutOfSpec (at_ : Instant)
  | frequencyStore (at_ : Instant)
  | setTime (at_ : Instant) (time : Nat)
  | stepNow (at_ : Instant) (value : Nat)
  | ppsInEdge (at_ : Instant) (edge : PpsEdge)
  | ppsInInvalid (at_ : Instant)
  | ppsOutRise (at_ : Instant)
  | ppsOutFall (at_ : Instant)
  | tickRateChange (at_ : Instant)
  -- ingest
  | svAsduReceived (at_ : Instant) (asdu : Asdu)
  | gooseMessageReceived (at_ : Instant) (msg : GooseMsg)
  -- monitor calls
  | info (at_ : Instant) (partition : Nat)
  | tick (at_ : Instant) (partition : Nat)
  | tickDone (at_ : Instant) (partition : Nat)
  | yield (at_ : Instant) (partition : Nat)
  | timerSet (at_ : Instant) (partition time : Nat)
  | timerCancel (at_ : Instant) (partition : Nat)
  | stateDeclare (at_ : Instant) (partition region address length : Nat)
  | stateStatus (at_ : Instant) (partition : Nat)
  | portSend (at_ : Instant) (partition dest address length : Nat)
  | portRecv (at_ : Instant) (partition address length : Nat)
  | log (at_ : Instant) (partition address : Nat)
  | health (at_ : Instant) (partition : Nat)
  | watchdogKick (at_ : Instant) (partition : Nat)
  | restartSelf (at_ : Instant) (partition : Nat)
  | configRead (at_ : Instant) (partition index sub address length : Nat)
  | migrateReady (at_ : Instant) (partition : Nat)
  | invalidMonitorCall (at_ : Instant) (partition number : Nat)
  -- partitions
  | windowStart (at_ : Instant) (partition window : Nat)
  | windowEnd (at_ : Instant) (partition window : Nat)
  | vsTimerInterrupt (at_ : Instant) (partition : Nat)
  | partitionException (at_ : Instant) (exception : PartException)
  | partitionRestart (at_ : Instant) (partition : Nat)
  | partitionWatchdogExpiry (at_ : Instant) (partition : Nat)
  -- pails
  | pailReset (at_ : Instant) (pail : Nat)
  | pailResetComplete (at_ : Instant) (pail : Nat)
  | freeze (at_ : Instant) (pail : Nat)
  | pailFrozen (at_ : Instant) (pail : Nat)
  | freezeRelease (at_ : Instant) (pail : Nat)
  | stateRecordWrite (at_ : Instant) (pail : Nat) (record : List Byte)
  | txDbWrite (at_ : Instant) (pail queue value : Nat)
  | rxDbWrite (at_ : Instant) (pail queue value : Nat)
  | qCtrlWrite (at_ : Instant) (pail queue value : Nat)
  | imageCopy (at_ : Instant) (pail queue : Nat)
  | phasorCopy (at_ : Instant) (pail queue : Nat)
  | freqCopy (at_ : Instant) (pail queue : Nat)
  | rxBuffer (at_ : Instant) (pail queue : Nat)
  | txFrame (at_ : Instant) (pail queue : Nat) (answered : Bool)
  | cryptoSeal (at_ : Instant) (pail queue : Nat) (answered : Bool)
  | cryptoOpen (at_ : Instant) (pail queue : Nat) (answered : Bool)
  | hmacGenerate (at_ : Instant) (pail queue : Nat) (answered : Bool)
  | hmacVerify (at_ : Instant) (pail queue : Nat) (answered : Bool)
  | rxFrameCompletion (at_ : Instant) (pail : Nat)
  | txTimestampCompletion (at_ : Instant) (pail : Nat)
  | pubCommit (at_ : Instant) (pail value : Nat)
  | histTrigger (at_ : Instant) (pail value : Nat)
  | dcFreezeWrite (at_ : Instant) (pail value : Nat)
  | evqHeadWrite (at_ : Instant) (pail value : Nat)
  | dirtySwap (at_ : Instant) (pail : Nat)
  | dirtySwapComplete (at_ : Instant) (pail : Nat)
  | functionLevelReset (at_ : Instant)
  | mbxDoorbell (at_ : Instant) (value : Nat)
  -- the churn engine
  | churnCycleBoundary (at_ : Instant)
  | churnEvalDone (at_ : Instant)
  | onlineBatch (at_ : Instant) (batch : List Byte)
  | forceWrite (at_ : Instant) (entry value : Nat)
  | releaseAll (at_ : Instant) (value : Nat)
  | restart (at_ : Instant) (value : Nat)
  | gpioSample (at_ : Instant) (levels : Nat)
  -- the closed-loop engine
  | unitComputation (at_ : Instant) (head : Nat)
  | generatorComputation (at_ : Instant) (gen : Nat)
  | loopOverrun (at_ : Instant) (head : Nat)
  | loopRelease (at_ : Instant) (loop value : Nat)
  | groupRelease (at_ : Instant) (group value : Nat)
  | modeRequest (at_ : Instant) (loop value : Nat)
  | manualValue (at_ : Instant) (loop value : Nat)
  | valueEntryWrite (at_ : Instant) (index sub value : Nat)
  | tuningWrite (at_ : Instant) (loop sub value : Nat)
  -- the pair
  | heartbeatSend (at_ : Instant)
  | heartbeat (at_ : Instant) (hdr : PairHdr) (hb : Heartbeat)
  | hbWaitExpiry (at_ : Instant)
  | digestSend (at_ : Instant)
  | digest (at_ : Instant) (hdr : PairHdr) (dig : Digest)
  | state (at_ : Instant) (hdr : PairHdr) (frag : StateFrag)
  | relinquish (at_ : Instant) (hdr : PairHdr) (msg : RoleMsg)
  | swapRequest (at_ : Instant) (hdr : PairHdr) (msg : RoleMsg)
  | swapAccept (at_ : Instant) (hdr : PairHdr) (msg : RoleMsg)
  | swapRefuse (at_ : Instant) (hdr : PairHdr) (msg : RoleMsg)
  | ack (at_ : Instant) (hdr : PairHdr) (msg : RoleMsg)
  | selftest (at_ : Instant) (hdr : PairHdr) (msg : RoleMsg)
  | regions (at_ : Instant) (hdr : PairHdr) (msg : RoleMsg)
  | changeAck (at_ : Instant) (hdr : PairHdr) (msg : RoleMsg)
  | roleRepeat (at_ : Instant)
  | migrateData (at_ : Instant) (hdr : PairHdr) (msg : MigrateMsg)
  | migrateAck (at_ : Instant) (hdr : PairHdr) (msg : MigrateMsg)
  | migrateAbort (at_ : Instant) (hdr : PairHdr) (msg : MigrateMsg)
  | migrateResend (at_ : Instant)
  | pailMove (at_ : Instant) (value : Nat)
  | laneLost (at_ : Instant) (lane : Nat)
  | laneRestored (at_ : Instant) (lane : Nat)
  | revertDelayExpiry (at_ : Instant)
  | swapIntervalExpiry (at_ : Instant)
  | swapNow (at_ : Instant) (value : Nat)
  -- keys, life-cycle, attestation and tamper
  | lcToShipped (at_ : Instant) (session : Nat) (req : LcReq)
  | lcToOwned (at_ : Instant) (session : Nat) (req : LcReq)
  | lcReown (at_ : Instant) (session : Nat) (req : LcReq)
  | lcToReturn (at_ : Instant) (session : Nat) (req : LcReq)
  | lcDecommission (at_ : Instant) (session : Nat) (req : LcReq)
  | lcRevoke (at_ : Instant) (session : Nat) (req : LcReq)
  | derive (at_ : Instant) (session : Nat) (cmd : KeyCmd)
  | load (at_ : Instant) (session : Nat) (cmd : KeyCmd)
  | generate (at_ : Instant) (session : Nat) (cmd : KeyCmd)
  | destroy (at_ : Instant) (session : Nat) (cmd : KeyCmd)
  | bump (at_ : Instant) (session : Nat) (cmd : KeyCmd)
  | keyExport (at_ : Instant) (session : Nat) (cmd : KeyCmd)
  | keyImport (at_ : Instant) (session : Nat) (cmd : KeyCmd)
  | journalCommit (at_ : Instant)
  | tamperAlarm (at_ : Instant) (sources : Nat)
  | tamperLoopCheck (at_ : Instant) (faults : Nat)
  | tamperClear (at_ : Instant) (session value : Nat)
  | attestSign (at_ : Instant) (req : Req)
  | keygenSlhdsa (at_ : Instant) (req : Req)
  | firmwareInstall (at_ : Instant) (req : Req)
  | fullSelfTest (at_ : Instant) (req : Req)
  | historyExport (at_ : Instant) (req : Req)
  | partitionMigrate (at_ : Instant) (req : Req)
  | configApply (at_ : Instant) (req : Req)
  | memoryScrub (at_ : Instant) (req : Req)
  | opSafePoint (at_ : Instant) (slot : Nat)
  | opComplete (at_ : Instant) (slot : Nat)
  | opResultExpiry (at_ : Instant) (slot : Nat)
  | opSuspendExpiry (at_ : Instant) (slot : Nat)
  -- faults, retirement and self-test
  | lockstepMismatch (at_ : Instant) (unit : Nat)
  | spareTakeover (at_ : Instant) (herd : Nat)
  | partitionRelocate (at_ : Instant) (herd : Nat)
  | regionLost (at_ : Instant) (region : Nat)
  | managerMoved (at_ : Instant)
  | eccCorrected (at_ : Instant) (memory row bitPos : Nat)
  | doubleBitError (at_ : Instant) (memory row : Nat) (place : MemPlace)
  | dieLinkFailed (at_ : Instant) (link : Nat)
  | selfTestSlotStart (at_ : Instant) (unit : Nat)
  | selfTestEnd (at_ : Instant) (unit : Nat) (ending : TestEnd)
  | sliceSelfTestStart (at_ : Instant) (slice : Nat)
  | patrolScrub (at_ : Instant) (memory row : Nat) (errors : Nat)
  | clearRetirement (at_ : Instant) (unit : Nat)
  | hardRepair (at_ : Instant) (record : Nat)
  | manualRun (at_ : Instant) (value : Nat)
  | supWatchdogKick (at_ : Instant) (manager : Bool)
  | supWatchdogExpiry (at_ : Instant)
  | restartModule (at_ : Instant) (value : Nat)
  | powerGood (at_ : Instant) (start : StartUp)
  -- the dictionary protocol
  | read (at_ : Instant) (req : Req)
  | write (at_ : Instant) (req : Req)
  | readBlock (at_ : Instant) (req : Req)
  | writeBlock (at_ : Instant) (req : Req)
  | stage (at_ : Instant) (req : Req)
  | commit (at_ : Instant) (req : Req)
  | commitApply (at_ : Instant)
  | discard (at_ : Instant) (req : Req)
  | opSuspend (at_ : Instant) (req : Req)
  | opResume (at_ : Instant) (req : Req)
  | opCancel (at_ : Instant) (req : Req)
  | opStatus (at_ : Instant) (req : Req)
  | subscribeEvents (at_ : Instant) (req : Req)
  | sessionOpen (at_ : Instant) (req : Req)
  | sessionClose (at_ : Instant) (req : Req)
  | keepalive (at_ : Instant) (req : Req)
  | unsupportedOpcode (at_ : Instant) (opcode : Nat) (req : Req)
  | sessionTimeout (at_ : Instant) (session : Nat)
  | sessionOpenTimeout (at_ : Instant) (session : Nat)
  | blockTransferTimeout (at_ : Instant) (session : Nat)
  | readSnapshotTimeout (at_ : Instant) (session : Nat)
  | eventHoldExpiry (at_ : Instant) (session source : Nat)
  | eventStatusWrite (at_ : Instant) (source value : Nat) (setMeanwhile : Nat)
  | enableMaskWrite (at_ : Instant) (source value : Nat)
  -- power and pins
  | powerRequestRun (at_ : Instant) (start : StartUp)
  | powerRequestHold (at_ : Instant)
  | powerRequestOff (at_ : Instant)
  | vddAonLoss (at_ : Instant)
  | railOutOfRange (at_ : Instant) (rail : Nat)
  | pwrFail (at_ : Instant)
  | pwrFailSustained (at_ : Instant)
  | pwrFailReleased (at_ : Instant)
  | porst (at_ : Instant) (width : Nat)
  | refclk25mLost (at_ : Instant)
  | osc10mLost (at_ : Instant)
  | environmentRefresh (at_ : Instant) (env : Env)
  | tapInstruction (at_ : Instant) (code : Nat)
  | registerWrite (at_ : Instant) (space offset value : Nat)
  | refclk25mRestored (at_ : Instant)
  | osc10mRestored (at_ : Instant)
  | testOverdue (at_ : Instant)
  | badOpcode (at_ : Instant) (pail queue : Nat)
  deriving DecidableEq, Repr

/-- The instant of a command. -/
def Instr.instant : Instr → Instant
  | .workTickBoundary at_ => at_
  | .alignmentWindowClose at_ _ => at_
  | .imageRelease at_ _ => at_
  | .phasorRelease at_ _ => at_
  | .residueMismatch at_ _ _ => at_
  | .fallbackHandover at_ _ => at_
  | .fallbackReturn at_ _ => at_
  | .curdFrameWrite at_ _ => at_
  | .triggerNow at_ _ => at_
  | .releaseWindow at_ _ => at_
  | .dcFreezeMapWrite at_ _ => at_
  | .rxFrameStart at_ _ => at_
  | .rxClassified at_ _ _ => at_
  | .rxFrameEnd at_ _ _ => at_
  | .cutThroughStart at_ _ _ => at_
  | .egressTxStart at_ _ => at_
  | .txFrameEnd at_ _ => at_
  | .timestampCollect at_ _ _ => at_
  | .timestampUncollected at_ _ => at_
  | .residenceDiscard at_ _ => at_
  | .pauseReceived at_ _ _ => at_
  | .pauseExpiry at_ _ => at_
  | .pauseRepeat at_ _ => at_
  | .speedLower at_ _ => at_
  | .speedRaise at_ _ => at_
  | .sgmiiSpeedReport at_ _ _ _ => at_
  | .linkDown at_ _ => at_
  | .linkUp at_ _ => at_
  | .serdesLockLost at_ _ => at_
  | .halfRangeMapWrite at_ _ _ => at_
  | .staticEntryWrite at_ _ _ => at_
  | .multicastGroupWrite at_ _ _ => at_
  | .clearTables at_ _ => at_
  | .tableBarrier at_ _ => at_
  | .barrierDone at_ => at_
  | .residenceLimitWrite at_ _ => at_
  | .supervisionFrameSend at_ _ => at_
  | .lanSilent at_ _ => at_
  | .entryForget at_ _ _ => at_
  | .ptpMessageReceived at_ _ _ => at_
  | .ptpSyncSend at_ _ => at_
  | .ptpAnnounceSend at_ _ => at_
  | .pdelayReqSend at_ _ => at_
  | .announceReceiptTimeout at_ _ => at_
  | .holdoverOutOfSpec at_ => at_
  | .frequencyStore at_ => at_
  | .setTime at_ _ => at_
  | .stepNow at_ _ => at_
  | .ppsInEdge at_ _ => at_
  | .ppsInInvalid at_ => at_
  | .ppsOutRise at_ => at_
  | .ppsOutFall at_ => at_
  | .tickRateChange at_ => at_
  | .svAsduReceived at_ _ => at_
  | .gooseMessageReceived at_ _ => at_
  | .info at_ _ => at_
  | .tick at_ _ => at_
  | .tickDone at_ _ => at_
  | .yield at_ _ => at_
  | .timerSet at_ _ _ => at_
  | .timerCancel at_ _ => at_
  | .stateDeclare at_ _ _ _ _ => at_
  | .stateStatus at_ _ => at_
  | .portSend at_ _ _ _ _ => at_
  | .portRecv at_ _ _ _ => at_
  | .log at_ _ _ => at_
  | .health at_ _ => at_
  | .watchdogKick at_ _ => at_
  | .restartSelf at_ _ => at_
  | .configRead at_ _ _ _ _ _ => at_
  | .migrateReady at_ _ => at_
  | .invalidMonitorCall at_ _ _ => at_
  | .windowStart at_ _ _ => at_
  | .windowEnd at_ _ _ => at_
  | .vsTimerInterrupt at_ _ => at_
  | .partitionException at_ _ => at_
  | .partitionRestart at_ _ => at_
  | .partitionWatchdogExpiry at_ _ => at_
  | .pailReset at_ _ => at_
  | .pailResetComplete at_ _ => at_
  | .freeze at_ _ => at_
  | .pailFrozen at_ _ => at_
  | .freezeRelease at_ _ => at_
  | .stateRecordWrite at_ _ _ => at_
  | .txDbWrite at_ _ _ _ => at_
  | .rxDbWrite at_ _ _ _ => at_
  | .qCtrlWrite at_ _ _ _ => at_
  | .imageCopy at_ _ _ => at_
  | .phasorCopy at_ _ _ => at_
  | .freqCopy at_ _ _ => at_
  | .rxBuffer at_ _ _ => at_
  | .txFrame at_ _ _ _ => at_
  | .cryptoSeal at_ _ _ _ => at_
  | .cryptoOpen at_ _ _ _ => at_
  | .hmacGenerate at_ _ _ _ => at_
  | .hmacVerify at_ _ _ _ => at_
  | .rxFrameCompletion at_ _ => at_
  | .txTimestampCompletion at_ _ => at_
  | .pubCommit at_ _ _ => at_
  | .histTrigger at_ _ _ => at_
  | .dcFreezeWrite at_ _ _ => at_
  | .evqHeadWrite at_ _ _ => at_
  | .dirtySwap at_ _ => at_
  | .dirtySwapComplete at_ _ => at_
  | .functionLevelReset at_ => at_
  | .mbxDoorbell at_ _ => at_
  | .churnCycleBoundary at_ => at_
  | .churnEvalDone at_ => at_
  | .onlineBatch at_ _ => at_
  | .forceWrite at_ _ _ => at_
  | .releaseAll at_ _ => at_
  | .restart at_ _ => at_
  | .gpioSample at_ _ => at_
  | .unitComputation at_ _ => at_
  | .generatorComputation at_ _ => at_
  | .loopOverrun at_ _ => at_
  | .loopRelease at_ _ _ => at_
  | .groupRelease at_ _ _ => at_
  | .modeRequest at_ _ _ => at_
  | .manualValue at_ _ _ => at_
  | .valueEntryWrite at_ _ _ _ => at_
  | .tuningWrite at_ _ _ _ => at_
  | .heartbeatSend at_ => at_
  | .heartbeat at_ _ _ => at_
  | .hbWaitExpiry at_ => at_
  | .digestSend at_ => at_
  | .digest at_ _ _ => at_
  | .state at_ _ _ => at_
  | .relinquish at_ _ _ => at_
  | .swapRequest at_ _ _ => at_
  | .swapAccept at_ _ _ => at_
  | .swapRefuse at_ _ _ => at_
  | .ack at_ _ _ => at_
  | .selftest at_ _ _ => at_
  | .regions at_ _ _ => at_
  | .changeAck at_ _ _ => at_
  | .roleRepeat at_ => at_
  | .migrateData at_ _ _ => at_
  | .migrateAck at_ _ _ => at_
  | .migrateAbort at_ _ _ => at_
  | .migrateResend at_ => at_
  | .pailMove at_ _ => at_
  | .laneLost at_ _ => at_
  | .laneRestored at_ _ => at_
  | .revertDelayExpiry at_ => at_
  | .swapIntervalExpiry at_ => at_
  | .swapNow at_ _ => at_
  | .lcToShipped at_ _ _ => at_
  | .lcToOwned at_ _ _ => at_
  | .lcReown at_ _ _ => at_
  | .lcToReturn at_ _ _ => at_
  | .lcDecommission at_ _ _ => at_
  | .lcRevoke at_ _ _ => at_
  | .derive at_ _ _ => at_
  | .load at_ _ _ => at_
  | .generate at_ _ _ => at_
  | .destroy at_ _ _ => at_
  | .bump at_ _ _ => at_
  | .keyExport at_ _ _ => at_
  | .keyImport at_ _ _ => at_
  | .journalCommit at_ => at_
  | .tamperAlarm at_ _ => at_
  | .tamperLoopCheck at_ _ => at_
  | .tamperClear at_ _ _ => at_
  | .attestSign at_ _ => at_
  | .keygenSlhdsa at_ _ => at_
  | .firmwareInstall at_ _ => at_
  | .fullSelfTest at_ _ => at_
  | .historyExport at_ _ => at_
  | .partitionMigrate at_ _ => at_
  | .configApply at_ _ => at_
  | .memoryScrub at_ _ => at_
  | .opSafePoint at_ _ => at_
  | .opComplete at_ _ => at_
  | .opResultExpiry at_ _ => at_
  | .opSuspendExpiry at_ _ => at_
  | .lockstepMismatch at_ _ => at_
  | .spareTakeover at_ _ => at_
  | .partitionRelocate at_ _ => at_
  | .regionLost at_ _ => at_
  | .managerMoved at_ => at_
  | .eccCorrected at_ _ _ _ => at_
  | .doubleBitError at_ _ _ _ => at_
  | .dieLinkFailed at_ _ => at_
  | .selfTestSlotStart at_ _ => at_
  | .selfTestEnd at_ _ _ => at_
  | .sliceSelfTestStart at_ _ => at_
  | .patrolScrub at_ _ _ _ => at_
  | .clearRetirement at_ _ => at_
  | .hardRepair at_ _ => at_
  | .manualRun at_ _ => at_
  | .supWatchdogKick at_ _ => at_
  | .supWatchdogExpiry at_ => at_
  | .restartModule at_ _ => at_
  | .powerGood at_ _ => at_
  | .read at_ _ => at_
  | .write at_ _ => at_
  | .readBlock at_ _ => at_
  | .writeBlock at_ _ => at_
  | .stage at_ _ => at_
  | .commit at_ _ => at_
  | .commitApply at_ => at_
  | .discard at_ _ => at_
  | .opSuspend at_ _ => at_
  | .opResume at_ _ => at_
  | .opCancel at_ _ => at_
  | .opStatus at_ _ => at_
  | .subscribeEvents at_ _ => at_
  | .sessionOpen at_ _ => at_
  | .sessionClose at_ _ => at_
  | .keepalive at_ _ => at_
  | .unsupportedOpcode at_ _ _ => at_
  | .sessionTimeout at_ _ => at_
  | .sessionOpenTimeout at_ _ => at_
  | .blockTransferTimeout at_ _ => at_
  | .readSnapshotTimeout at_ _ => at_
  | .eventHoldExpiry at_ _ _ => at_
  | .eventStatusWrite at_ _ _ _ => at_
  | .enableMaskWrite at_ _ _ => at_
  | .powerRequestRun at_ _ => at_
  | .powerRequestHold at_ => at_
  | .powerRequestOff at_ => at_
  | .vddAonLoss at_ => at_
  | .railOutOfRange at_ _ => at_
  | .pwrFail at_ => at_
  | .pwrFailSustained at_ => at_
  | .pwrFailReleased at_ => at_
  | .porst at_ _ => at_
  | .refclk25mLost at_ => at_
  | .osc10mLost at_ => at_
  | .environmentRefresh at_ _ => at_
  | .tapInstruction at_ _ => at_
  | .registerWrite at_ _ _ _ => at_
  | .refclk25mRestored at_ => at_
  | .osc10mRestored at_ => at_
  | .testOverdue at_ => at_
  | .badOpcode at_ _ _ => at_

end Sys2Proof
end

