-- ==== Sys2Proof/Decode.lean ====
section
/-!
DEFINITION. The table of commands gives its rows no bits (spec/opcode_table.json lists no fields), so no word spells a
command: a command reaches the module as a frame, a request, a register write or an event of its own (log 2).
-/

namespace Sys2Proof

/-- The command a word spells by the table's bits: none, since no row has bits. -/
def decodeTableWord (_nbits _w : Nat) : Option Instr := none

end Sys2Proof
end

