-- ==== Sys2Proof/Config.lean ====
section
/-!
DEFINITION. What one module fixes and the spec leaves open: constants without a body, so that no proof can see a value.
`Config.free n` is the n-th value drawn where the spec states none (assumption log 5); the cryptographic functions are
those of the standards the spec names, kept abstract octet by octet (log 7); the factory values are those of R460 (log 13).
-/

namespace Sys2Proof.Config

/-- The n-th value that nothing constrains (log 5); reduced to the width its use needs. -/
opaque free : Nat → Nat

/-- The CORDIC's choices within its bounds (R196), and the S48 pattern of a result outside the format (logs 8, 23); functions
of the operands, so that equal inputs give equal bits (R178). -/
opaque cordicMag : Int → Int → Nat
opaque cordicAngle : Int → Int → Nat
opaque s48Over : Int → Nat

/-- SERIAL, what BASE_MAC is made of, HW_REVISION, MANUFACTURED and PCI_VENDOR_ID of R460, written once by Enesk. -/
opaque serial : BitVec 64
opaque macOui : BitVec 24
opaque macLow : BitVec 24
opaque hwRevision : BitVec 16
opaque manufactured : BitVec 80
opaque pciVendorId : BitVec 16

/-- BASE_MAC: the group bit is clear, and the block of 33 addresses does not cross a change of the first three octets (R461). -/
def baseMac : BitVec 48 := BitVec.ofNat 48 ((macOui &&& 0xFEFFFF#24).toNat * 2 ^ 24 + macLow.toNat % (2 ^ 24 - 32))

/-- The interface identifier of the management stack's link-local address, which R454 does not give. -/
opaque interfaceId : BitVec 64

/-- Octet `i` of SHAKE256 (FIPS 202) of a message. -/
opaque shakeByte : List Byte → Nat → Byte

/-- Octet `i` of KMAC256 (SP 800-185): key, data, customisation string, output length in bits. -/
opaque kmacByte : List Byte → List Byte → List Byte → Nat → Nat → Byte

/-- Octet `i` of the AES-256-GCM key stream of a key and an IV. -/
opaque gcmStreamByte : List Byte → List Byte → Nat → Byte

/-- Octet `i` of the AES-256-GCM tag: key, IV, additional data, ciphertext. -/
opaque gcmTagByte : List Byte → List Byte → List Byte → List Byte → Nat → Byte

/-- Octet `i` of HMAC-SHA-256 of a key and a message. -/
opaque hmacByte : List Byte → List Byte → Nat → Byte

/-- Octet `i` of the AES-GMAC-128 tag of IEC 62351-6: key, covered octets. -/
opaque gmacByte : List Byte → List Byte → Nat → Byte

/-- Octet `i` of the SLH-DSA signature under a 128-octet private key: key, message. -/
opaque slhSignByte : List Byte → List Byte → Nat → Byte

/-- Octet `i` of the 64-octet public key of an SLH-DSA seed. -/
opaque slhPublicByte : List Byte → Nat → Byte

/-- Whether a signature verifies: parameter set (5 or 6 of R371), public key, message, signature. -/
opaque slhVerify : Nat → List Byte → List Byte → List Byte → Bool

/-- The vendor's root and device root secrets, and the vendor public keys by VENDOR_KEY_INDEX (R367, R373, R385). -/
opaque vendorRoot : List Byte
opaque deviceRoot : List Byte
opaque vendorKey : Nat → List Byte

/-- The static entry and the multicast group that a TABLE_BLOCK carries at a number; the spec gives the block no format
(log 19). -/
opaque tableBlockEntry : List Byte → Nat → BitVec 128
opaque tableBlockGroup : List Byte → Nat → BitVec 64

/-- The expected self-test signature and the pattern count of a unit kind (R407); they come with the firmware images. -/
opaque expectedMisr : Nat → BitVec 64
opaque patternCount : Nat → BitVec 32

/-- The length of a GOOSE frame of a publication, destination address to FCS, less 64: the encoding of IEC 61850-8-1 decides
it, of which the spec gives no lengths (publication, member types, the quality and values sent). -/
opaque gooseLength : Nat → List Nat → List Nat → Nat

/-- The manager's own choice of windows in the reserve (R230): draw, partition; the words of R225. -/
opaque reserveWindows : Nat → Nat → List Nat

/-- What a partition reads in cycle or instret (R223), whose rates the spec does not give: partition, CSR number, instant. -/
opaque coreCounter : Nat → Nat → Nat → BitVec 64

/-- The bank of a row of an L2 or DRAM instance (R414), and the bytes withheld for a row of DRAM (R416). -/
opaque rowBank : Nat → Nat → Nat
opaque rowBytes : Nat → Nat → Nat

/-- Octet `i` of the diagnostic deposits in the last-gasp record written at an instant (R421). -/
opaque deposit : Nat → Nat → Byte

/-- The octet `i` of an entry of the vendor range (R469): key, its octets. -/
opaque vendorByte : Nat → Nat → Byte

/-- The text of the items of a .CFG file that R216 does not state: 0 the least and the greatest value of an analog channel, 1 the normal
state of a digital one, 2 the time quality code of an unlocked clock, 3 that of a locked clock, 4 the leap second indicator. -/
opaque exportText : Nat → List Byte

/-- The contents of the boot ROM (R389). -/
opaque bootRom : List Byte

end Sys2Proof.Config
end

