-- ==== Sys2Proof/Machine/OdTable.lean ====
section
/-!
DEFINITION. The object dictionary's table (14_dictionary_map.md and the entry tables of every chapter): types, access,
application, defaults and stated ranges, and a name for the key of every entry. A key is `index * 256 + subindex`.
An entry that has never been written holds its default (R432); R457 gives the defaults that differ by number.
-/

namespace Sys2Proof

/-- The types of R428. -/
inductive EdpType where
  | bool | u8 | u16 | u32 | u64 | i8 | i16 | i32 | i64 | q16_16 | q1_31 | drip80 | drip64 | turn32 | iturn32 | mac48
  | ipaddr | string (n : Nat) | octets (n : Nat) | domain
  deriving DecidableEq, Repr

/-- The type code of R428. -/
def EdpType.code : EdpType → Nat
  | .bool => 0x01 | .u8 => 0x02 | .u16 => 0x03 | .u32 => 0x04 | .u64 => 0x05 | .i8 => 0x06 | .i16 => 0x07
  | .i32 => 0x08 | .i64 => 0x09 | .q16_16 => 0x0A | .q1_31 => 0x0B | .drip80 => 0x0C | .drip64 => 0x0D
  | .turn32 => 0x0E | .iturn32 => 0x0F | .mac48 => 0x10 | .ipaddr => 0x11 | .string _ => 0x12 | .octets _ => 0x13
  | .domain => 0x14

/-- The number of octets of the EDP form of a numeric type (R428); 0 for STRING and DOMAIN. -/
def EdpType.size : EdpType → Nat
  | .bool | .u8 | .i8 => 1
  | .u16 | .i16 => 2
  | .u32 | .i32 | .q16_16 | .q1_31 | .turn32 | .iturn32 => 4
  | .u64 | .i64 | .drip64 => 8
  | .drip80 => 10
  | .mac48 => 6
  | .ipaddr => 16
  | .octets n => n
  | .string _ | .domain => 0

/-- Whether values of the type are kept as octet strings (STRING and DOMAIN) and not as numbers. -/
def EdpType.isBlob : EdpType → Bool
  | .string _ | .domain => true
  | _ => false

/-- The Apply column: LIVE, STAGED, or none for an entry that is never written. -/
inductive Apply where
  | live | staged | none
  deriving DecidableEq, Repr

/-- One row of an entry table: its subindices, type, minimum roles to read and to write (5 for never, R430),
application, default, the ranges of raw patterns the table admits (empty: any) and the writable bits (0: all). -/
structure OdRow where
  lo : Nat
  hi : Nat
  ty : EdpType
  rd : Nat
  wr : Nat
  ap : Apply
  dflt : Nat
  ok : List (Nat × Nat)
  mask : Nat
  deriving DecidableEq, Repr

/-- The indices that share one record layout. `per` is the number of instances in one index of a packed array (R458),
0 for an ordinary record, and `count` the number of instances of the array. -/
structure OdGroup where
  first : Nat
  last : Nat
  per : Nat
  count : Nat
  rows : List OdRow
  deriving DecidableEq, Repr

/-- Rows of OD 0x1000 (R460). -/
def odRows1000 : List OdRow := [
  ⟨0x01, 0x01, (.octets 8), 0, 5, .none, 0, [], 0⟩,
  ⟨0x02, 0x02, (.string 8), 0, 5, .none, 0, [], 0⟩,
  ⟨0x03, 0x03, .u16, 0, 5, .none, 0, [], 0⟩,
  ⟨0x04, 0x04, .mac48, 0, 5, .none, 0, [], 0⟩,
  ⟨0x05, 0x05, .drip80, 0, 5, .none, 0, [], 0⟩,
  ⟨0x06, 0x06, .u16, 0, 5, .none, 1, [], 0⟩,
  ⟨0x07, 0x07, (.string 16), 0, 5, .none, 0, [], 0⟩,
  ⟨0x08, 0x08, (.string 64), 0, 2, .live, 0, [], 0⟩,
  ⟨0x09, 0x09, (.string 64), 0, 2, .live, 0, [], 0⟩,
  ⟨0x0A, 0x0A, (.string 32), 0, 2, .live, 0, [], 0⟩,
  ⟨0x0B, 0x0B, .u16, 0, 5, .none, 0, [], 0⟩]

/-- Rows of OD 0x1080 (R454). -/
def odRows1080 : List OdRow := [
  ⟨0x01, 0x01, .u16, 0, 3, .staged, 4917, [], 0⟩,
  ⟨0x02, 0x02, .ipaddr, 0, 2, .staged, 0xffff00000000, [], 0⟩,
  ⟨0x03, 0x03, .ipaddr, 0, 2, .staged, 0, [], 0⟩,
  ⟨0x04, 0x04, .u16, 0, 2, .staged, 0, [], 0⟩,
  ⟨0x05, 0x05, .u16, 0, 3, .live, 60, [(10, 3600)], 0⟩,
  ⟨0x06, 0x06, .bool, 0, 3, .live, 0, [], 0⟩,
  ⟨0x07, 0x07, .u32, 0, 2, .live, 115200, [(115200, 921600)], 0⟩,
  ⟨0x08, 0x08, .u8, 0, 5, .none, 0, [], 0⟩,
  ⟨0x09, 0x09, .u32, 0, 5, .none, 0, [], 0⟩,
  ⟨0x0A, 0x0A, .u32, 0, 5, .none, 0, [], 0⟩,
  ⟨0x0B, 0x0B, .u32, 0, 5, .none, 0, [], 0⟩]

/-- Rows of OD 0x1100 (R72). -/
def odRows1100 : List OdRow := [
  ⟨0x01, 0x01, .drip80, 0, 5, .none, 0, [], 0⟩,
  ⟨0x02, 0x02, .u8, 0, 5, .none, 0, [], 0⟩,
  ⟨0x03, 0x03, .drip64, 0, 5, .none, 0, [], 0⟩,
  ⟨0x04, 0x04, .i64, 0, 5, .none, 0, [], 0⟩,
  ⟨0x05, 0x05, .drip64, 0, 5, .none, 0, [], 0⟩,
  ⟨0x06, 0x06, .i16, 0, 5, .none, 37, [], 0⟩,
  ⟨0x07, 0x07, .drip80, 5, 2, .live, 0, [], 0⟩,
  ⟨0x08, 0x08, .bool, 5, 2, .live, 0, [], 0⟩]

/-- Rows of OD 0x1101 (R72). -/
def odRows1101 : List OdRow := [
  ⟨0x01, 0x01, .u16, 0, 2, .staged, 4800, [(4000, 4000), (4800, 4800), (12800, 12800), (14400, 14400)], 0⟩]

/-- Rows of OD 0x1110 (R72). -/
def odRows1110 : List OdRow := [
  ⟨0x01, 0x01, .u8, 0, 2, .staged, 3, [(0, 3)], 0⟩,
  ⟨0x02, 0x02, .u8, 0, 2, .staged, 0, [(0, 2)], 0⟩,
  ⟨0x03, 0x03, .u8, 0, 2, .staged, 0, [(0, 127)], 0⟩,
  ⟨0x04, 0x04, .u8, 0, 2, .staged, 128, [], 0⟩,
  ⟨0x05, 0x05, .u8, 0, 2, .staged, 128, [], 0⟩,
  ⟨0x06, 0x06, .i8, 0, 2, .staged, 0, [(0, 1), (252, 255)], 0⟩,
  ⟨0x07, 0x07, .i8, 0, 2, .staged, 0, [(0, 1), (252, 255)], 0⟩,
  ⟨0x08, 0x08, .drip64, 0, 2, .live, 6872, [], 0⟩,
  ⟨0x09, 0x09, .drip64, 0, 2, .live, 0x4189375, [], 0⟩,
  ⟨0x0A, 0x0A, .u32, 0, 2, .live, 10000, [(100, 100000)], 0⟩,
  ⟨0x0B, 0x0B, .u8, 0, 2, .staged, 0, [(0, 1)], 0⟩]

/-- Rows of OD 0x1120 (R72). -/
def odRows1120 : List OdRow := [
  ⟨0x01, 0x01, .bool, 0, 2, .staged, 0, [], 0⟩,
  ⟨0x02, 0x02, .bool, 0, 2, .staged, 0, [], 0⟩,
  ⟨0x03, 0x03, .drip64, 0, 2, .live, 0, [], 0⟩,
  ⟨0x04, 0x04, .drip64, 0, 2, .live, 0, [], 0⟩,
  ⟨0x05, 0x05, .drip64, 0, 2, .live, 0, [], 0⟩,
  ⟨0x06, 0x06, .drip64, 0, 5, .none, 0, [], 0⟩,
  ⟨0x07, 0x07, .i64, 0, 5, .none, 0, [], 0⟩]

/-- Rows of OD 0x1140 (R72). -/
def odRows1140 : List OdRow := [
  ⟨0x01, 0x01, .bool, 0, 2, .live, 0, [], 0⟩,
  ⟨0x02, 0x02, .drip64, 0, 2, .live, 0, [], 0⟩,
  ⟨0x03, 0x03, .u8, 0, 2, .live, 1, [(0, 2)], 0⟩,
  ⟨0x04, 0x04, .drip64, 0, 2, .live, 0x19999999a, [(68719, 34359738368)], 0⟩,
  ⟨0x05, 0x05, .drip64, 0, 2, .live, 0, [(0, 34359738368), (18446744039349813248, 18446744073709551615)], 0⟩]

/-- Rows of OD 0x1150 (R72). -/
def odRows1150 : List OdRow := [
  ⟨0x01, 0x01, .u32, 0, 2, .live, 1000, [], 0⟩,
  ⟨0x02, 0x02, .u32, 0, 2, .live, 100, [], 0⟩,
  ⟨0x03, 0x03, .drip64, 0, 2, .live, 68719, [(6872, 6871948)], 0⟩]

/-- Rows of OD 0x1160 (R71). -/
def odRows1160 : List OdRow := [
  ⟨0x01, 0x10, .u64, 0, 5, .none, 0, [], 0⟩]

/-- Rows of OD 0x1200 (R426). -/
def odRows1200 : List OdRow := [
  ⟨0x01, 0x01, (.octets 12), 0, 5, .none, 0, [], 0⟩,
  ⟨0x02, 0x02, .u8, 0, 5, .none, 0, [], 0⟩,
  ⟨0x03, 0x03, .u32, 0, 5, .none, 0, [], 0⟩,
  ⟨0x04, 0x04, .u8, 0, 5, .none, 0, [], 0⟩,
  ⟨0x05, 0x05, .u8, 0, 5, .none, 63, [], 0⟩,
  ⟨0x06, 0x06, .domain, 0, 5, .none, 0, [], 0⟩,
  ⟨0x07, 0x07, .u16, 5, 2, .live, 0, [], 0⟩,
  ⟨0x08, 0x08, .u8, 0, 5, .none, 0, [], 0⟩,
  ⟨0x09, 0x09, .u32, 0, 5, .none, 0, [], 0⟩,
  ⟨0x0A, 0x0A, .domain, 0, 5, .none, 0, [], 0⟩,
  ⟨0x0B, 0x0B, .u16, 0, 2, .staged, 100, [(10, 1000)], 0⟩,
  ⟨0x0C, 0x0C, .bool, 5, 2, .live, 0, [], 0⟩,
  ⟨0x0D, 0x0D, .u32, 0, 5, .none, 0, [], 0⟩,
  ⟨0x0E, 0x0E, .u32, 0, 5, .none, 0, [], 0⟩,
  ⟨0x0F, 0x0F, .u32, 0, 5, .none, 0, [], 0⟩,
  ⟨0x10, 0x10, .domain, 0, 5, .none, 0, [], 0⟩,
  ⟨0x11, 0x11, .u16, 0, 2, .live, 24, [(1, 168)], 0⟩,
  ⟨0x12, 0x12, (.octets 32), 0, 5, .none, 0, [], 0⟩]

/-- Rows of OD 0x2000 (R105). -/
def odRows2000 : List OdRow := [
  ⟨0x01, 0x01, .u8, 0, 2, .staged, 0, [(0, 4)], 0⟩,
  ⟨0x02, 0x02, .u8, 0, 2, .staged, 4, [(0, 4)], 0⟩,
  ⟨0x03, 0x03, .bool, 0, 2, .staged, 1, [], 0⟩,
  ⟨0x04, 0x04, .u16, 0, 2, .staged, 2048, [(1518, 2048)], 0⟩,
  ⟨0x05, 0x05, .bool, 0, 2, .live, 0, [], 0⟩,
  ⟨0x06, 0x06, .u16, 0, 2, .staged, 1, [], 0⟩,
  ⟨0x07, 0x07, .u8, 0, 2, .staged, 0, [], 0⟩,
  ⟨0x08, 0x08, .bool, 0, 2, .staged, 2, [], 0⟩,
  ⟨0x09, 0x09, .bool, 0, 2, .staged, 0, [], 0⟩,
  ⟨0x0A, 0x0A, .u16, 0, 2, .live, 12288, [(4096, 14336)], 0⟩,
  ⟨0x0B, 0x0B, .u16, 0, 2, .live, 4096, [], 0⟩,
  ⟨0x0C, 0x0C, .bool, 0, 2, .staged, 0, [], 0⟩,
  ⟨0x0D, 0x0D, .u8, 0, 2, .staged, 1, [(0, 4)], 0⟩,
  ⟨0x0E, 0x0E, .u16, 0, 2, .live, 50, [], 0⟩,
  ⟨0x0F, 0x0F, .u16, 0, 2, .live, 500, [], 0⟩,
  ⟨0x10, 0x10, .u16, 0, 2, .live, 60, [(10, 3600)], 0⟩,
  ⟨0x11, 0x11, .u16, 0, 2, .live, 10, [(0, 1000)], 0⟩,
  ⟨0x12, 0x12, .u8, 0, 5, .none, 2, [(0, 3)], 0⟩,
  ⟨0x13, 0x13, .u8, 0, 5, .none, 4, [], 0⟩,
  ⟨0x14, 0x14, .u16, 0, 5, .none, 0, [], 0⟩,
  ⟨0x15, 0x15, .mac48, 0, 5, .none, 0, [], 0⟩]

/-- Rows of OD 0x2040 (R91). -/
def odRows2040 : List OdRow := [
  ⟨0x01, 0x01, .u64, 0, 5, .none, 0, [], 0⟩,
  ⟨0x02, 0x08, .u32, 0, 5, .none, 0, [], 0⟩,
  ⟨0x09, 0x10, .u32, 0, 5, .none, 0, [], 0⟩,
  ⟨0x11, 0x11, .u64, 0, 5, .none, 0, [], 0⟩,
  ⟨0x12, 0x18, .u32, 0, 5, .none, 0, [], 0⟩,
  ⟨0x19, 0x20, .u32, 0, 5, .none, 0, [], 0⟩,
  ⟨0x21, 0x21, .u32, 0, 5, .none, 0, [], 0⟩,
  ⟨0x22, 0x22, .u32, 0, 5, .none, 0, [], 0⟩,
  ⟨0x23, 0x23, .u32, 0, 5, .none, 0, [], 0⟩,
  ⟨0x24, 0x24, .u32, 0, 5, .none, 0, [], 0⟩,
  ⟨0x25, 0x25, .u32, 0, 5, .none, 0, [], 0⟩,
  ⟨0x26, 0x26, .u32, 0, 5, .none, 0, [], 0⟩,
  ⟨0x27, 0x27, .u32, 0, 5, .none, 0, [], 0⟩,
  ⟨0x28, 0x28, .u32, 0, 5, .none, 0, [], 0⟩,
  ⟨0x29, 0x29, .u32, 0, 5, .none, 0, [], 0⟩,
  ⟨0x2A, 0x2A, .u64, 0, 1, .live, 0, [], 0⟩]

/-- Rows of OD 0x2080 (R85). -/
def odRows2080 : List OdRow := [
  ⟨0x01, 0x40, .u64, 0, 2, .staged, 0, [], 0x83ffffffffff7fff⟩]

/-- Rows of OD 0x2200 (R143). -/
def odRows2200 : List OdRow := [
  ⟨0x01, 0x01, .u16, 0, 2, .live, 2000, [(100, 2000)], 0⟩,
  ⟨0x02, 0x02, .u16, 0, 5, .none, 0, [], 0⟩,
  ⟨0x03, 0x03, .u16, 5, 2, .live, 0, [], 0⟩,
  ⟨0x04, 0x04, .u16, 0, 5, .none, 0, [], 0⟩,
  ⟨0x05, 0x05, .u16, 0, 5, .none, 0, [], 0⟩,
  ⟨0x06, 0x06, .u8, 5, 2, .live, 0, [(1, 3)], 0⟩,
  ⟨0x07, 0x07, .u16, 0, 5, .none, 24576, [], 0⟩,
  ⟨0x08, 0x08, .domain, 2, 2, .staged, 0, [], 0⟩]

/-- Rows of OD 0x2210 (R143). -/
def odRows2210 : List OdRow := [
  ⟨0x01, 0xFF, (.octets 16), 0, 2, .live, 0, [], 0x1fffffffffffffffffffffffff⟩]

/-- Rows of OD 0x2260 (R143). -/
def odRows2260 : List OdRow := [
  ⟨0x01, 0xFF, .u64, 0, 2, .live, 0, [], 0x80000000ffffffff⟩]

/-- Rows of OD 0x2280 (R143). -/
def odRows2280 : List OdRow := [
  ⟨0x01, 0x01, .u8, 0, 2, .staged, 0, [], 0⟩,
  ⟨0x02, 0x02, .u8, 0, 2, .staged, 1, [(1, 127)], 0⟩,
  ⟨0x03, 0x03, .u8, 0, 2, .staged, 2, [(1, 127)], 0⟩,
  ⟨0x04, 0x04, .u8, 0, 2, .staged, 4, [(1, 127)], 0⟩,
  ⟨0x05, 0x05, .u8, 0, 2, .staged, 8, [(1, 127)], 0⟩,
  ⟨0x06, 0x06, .u8, 0, 2, .staged, 16, [(1, 127)], 0⟩,
  ⟨0x07, 0x07, .u8, 0, 2, .staged, 32, [(1, 127)], 0⟩,
  ⟨0x08, 0x0F, .u8, 0, 2, .live, 4, [(0, 6)], 0⟩,
  ⟨0x10, 0x10, .u8, 0, 2, .staged, 0, [(0, 1)], 0⟩,
  ⟨0x11, 0x11, .u8, 0, 2, .staged, 2, [(0, 1)], 0⟩,
  ⟨0x12, 0x12, .u32, 0, 2, .staged, 0, [], 0⟩]

/-- Rows of OD 0x22C0 (R143). -/
def odRows22C0 : List OdRow := [
  ⟨0x01, 0x01, .u32, 0, 5, .none, 0, [], 0⟩,
  ⟨0x02, 0x02, .u32, 0, 5, .none, 0, [], 0⟩,
  ⟨0x03, 0x0A, .u16, 0, 5, .none, 0, [], 0⟩]

/-- Rows of OD 0x2300 (R144). -/
def odRows2300 : List OdRow := [
  ⟨0x01, 0x01, .u16, 0, 2, .live, 400, [(10, 2000)], 0⟩,
  ⟨0x02, 0x02, .u16, 0, 2, .live, 2000, [(100, 10000)], 0⟩,
  ⟨0x03, 0x03, .u8, 0, 2, .staged, 0, [], 0⟩,
  ⟨0x04, 0x04, .u16, 0, 5, .none, 0, [], 0⟩]

/-- Rows of OD 0x2310 (R144). -/
def odRows2310 : List OdRow := [
  ⟨0x01, 0x01, .u8, 0, 2, .staged, 0, [(0, 2)], 0⟩,
  ⟨0x02, 0x02, .u8, 0, 2, .staged, 0, [(0, 2)], 0⟩,
  ⟨0x03, 0x03, .u8, 0, 2, .staged, 0, [], 0⟩,
  ⟨0x04, 0x04, .u8, 0, 2, .staged, 1, [], 0⟩,
  ⟨0x05, 0x05, .u8, 0, 2, .staged, 0, [(0, 1)], 0⟩,
  ⟨0x06, 0x06, .u8, 0, 2, .staged, 0, [], 0⟩]

/-- Rows of OD 0x2330 (R144). -/
def odRows2330 : List OdRow := [
  ⟨0x01, 0x04, .u32, 0, 5, .none, 0, [], 0⟩,
  ⟨0x05, 0x05, .u32, 0, 5, .none, 0, [], 0⟩,
  ⟨0x06, 0x06, .u32, 0, 5, .none, 0, [], 0⟩,
  ⟨0x07, 0x07, .u32, 0, 5, .none, 0, [], 0⟩,
  ⟨0x08, 0x08, .u32, 0, 5, .none, 0, [], 0⟩,
  ⟨0x09, 0x09, .u32, 0, 5, .none, 0, [], 0⟩,
  ⟨0x0A, 0x0A, .u32, 0, 5, .none, 0, [], 0⟩]

/-- Rows of OD 0x3000 (R145). -/
def odRows3000 : List OdRow := [
  ⟨0x01, 0x01, .bool, 0, 2, .staged, 0, [], 0⟩,
  ⟨0x02, 0x02, .mac48, 0, 2, .staged, 0x10ccd040000, [], 0⟩,
  ⟨0x03, 0x03, .u16, 0, 2, .staged, 16384, [], 0⟩,
  ⟨0x04, 0x04, .u16, 0, 2, .staged, 65535, [(0, 4094), (65535, 65535)], 0⟩,
  ⟨0x05, 0x05, (.string 64), 0, 2, .staged, 0, [], 0⟩,
  ⟨0x06, 0x06, .u32, 0, 2, .staged, 0, [], 0⟩,
  ⟨0x07, 0x07, .u16, 0, 2, .staged, 4800, [(4000, 4000), (4800, 4800), (12800, 12800), (14400, 14400)], 0⟩,
  ⟨0x08, 0x08, .u8, 0, 2, .staged, 8, [(1, 32)], 0⟩,
  ⟨0x09, 0x09, .u8, 0, 2, .staged, 0, [(0, 1)], 0⟩,
  ⟨0x0A, 0x0A, .bool, 0, 2, .staged, 0, [], 0⟩,
  ⟨0x0B, 0x0B, .bool, 0, 2, .staged, 0, [], 0⟩,
  ⟨0x0C, 0x0C, .u8, 0, 3, .staged, 0, [(0, 1)], 0⟩,
  ⟨0x0D, 0x0D, .u8, 0, 3, .staged, 0, [], 0⟩,
  ⟨0x0E, 0x0E, .u8, 0, 3, .staged, 0, [], 0⟩,
  ⟨0x0F, 0x0F, .u16, 0, 2, .staged, 10, [(1, 1000)], 0⟩,
  ⟨0x10, 0x10, .u32, 0, 2, .staged, 0xffffffff, [], 0⟩,
  ⟨0x20, 0x3F, .u16, 0, 2, .staged, 65535, [], 0⟩,
  ⟨0x40, 0x40, .bool, 0, 5, .none, 0, [], 0⟩,
  ⟨0x41, 0x41, .u32, 0, 5, .none, 0, [], 0⟩,
  ⟨0x42, 0x42, .u32, 0, 5, .none, 0, [], 0⟩,
  ⟨0x43, 0x43, .u32, 0, 5, .none, 0, [], 0⟩,
  ⟨0x44, 0x44, .u32, 0, 5, .none, 0, [], 0⟩,
  ⟨0x45, 0x45, .u32, 0, 5, .none, 0, [], 0⟩,
  ⟨0x46, 0x46, .u32, 0, 5, .none, 0, [], 0⟩,
  ⟨0x47, 0x47, .u32, 0, 5, .none, 0, [], 0⟩,
  ⟨0x48, 0x48, .u32, 0, 5, .none, 0, [], 0⟩,
  ⟨0x49, 0x49, .u32, 0, 5, .none, 0, [], 0⟩,
  ⟨0x4A, 0x4A, .u32, 0, 5, .none, 0, [], 0⟩,
  ⟨0x4B, 0x4B, .u32, 0, 5, .none, 0, [], 0⟩,
  ⟨0x4C, 0x4C, .u16, 0, 5, .none, 0, [], 0⟩,
  ⟨0x4D, 0x4D, .drip80, 0, 5, .none, 0, [], 0⟩]

/-- Rows of OD 0x3400 (R175). -/
def odRows3400 : List OdRow := [
  ⟨0x01, 0x01, .u16, 0, 2, .staged, 1000, [(100, 3000)], 0⟩,
  ⟨0x02, 0x02, .u8, 0, 5, .none, 5, [], 0⟩,
  ⟨0x03, 0x03, .u16, 0, 5, .none, 0, [], 0⟩,
  ⟨0x04, 0x04, .u16, 0, 5, .none, 8192, [], 0⟩,
  ⟨0x05, 0x05, .u16, 0, 5, .none, 0, [], 0⟩,
  ⟨0x06, 0x06, (.octets 64), 0, 5, .none, 0, [], 0⟩]

/-- Rows of OD 0x3401 (R175). -/
def odRows3401 : List OdRow := [
  ⟨0x01, 0x01, .u32, 0, 5, .none, 0, [], 0⟩,
  ⟨0x02, 0x02, .u32, 0, 5, .none, 0, [], 0⟩,
  ⟨0x03, 0x03, .u32, 0, 5, .none, 0, [], 0⟩]

/-- Rows of OD 0x3480 (R174). -/
def odRows3480 : List OdRow := [
  ⟨0x01, 0x40, (.octets 16), 0, 2, .staged, 0x30000000000000000, [], 0x3ffffffffffffffff⟩]

/-- Rows of OD 0x4000 (R217). -/
def odRows4000 : List OdRow := [
  ⟨0x01, 0x01, .u16, 0, 2, .staged, 0, [(0, 256)], 0⟩,
  ⟨0x02, 0x02, .u8, 0, 2, .staged, 1, [(1, 16)], 0⟩,
  ⟨0x03, 0x03, .bool, 0, 2, .staged, 1, [], 0⟩,
  ⟨0x04, 0x04, .u16, 0, 2, .staged, 100, [(0, 0), (10, 2000)], 0⟩,
  ⟨0x05, 0x05, .u8, 0, 2, .staged, 1, [(1, 2)], 0⟩,
  ⟨0x06, 0x06, .drip64, 0, 2, .staged, 0, [], 0⟩,
  ⟨0x07, 0x07, .domain, 0, 2, .staged, 0, [], 0⟩,
  ⟨0x08, 0x08, .domain, 0, 2, .staged, 0, [], 0⟩]

/-- Rows of OD 0x4040 (R218). -/
def odRows4040 : List OdRow := [
  ⟨0x01, 0x01, .u8, 0, 5, .none, 0, [(0, 2)], 0⟩,
  ⟨0x02, 0x02, .u8, 0, 5, .none, 0, [], 0⟩,
  ⟨0x03, 0x03, .u16, 0, 5, .none, 0, [], 0⟩,
  ⟨0x04, 0x04, .u16, 0, 5, .none, 2083, [], 0⟩,
  ⟨0x05, 0x05, .u16, 0, 5, .none, 0, [], 0⟩,
  ⟨0x06, 0x06, .u32, 0, 5, .none, 0, [], 0⟩,
  ⟨0x07, 0x07, .u32, 0, 5, .none, 0, [], 0⟩]

/-- Rows of OD 0x4100 (R219). -/
def odRows4100 : List OdRow := [
  ⟨0x01, 0x01, .u8, 0, 2, .staged, 50, [(50, 50), (60, 60)], 0⟩,
  ⟨0x02, 0x02, .u16, 0, 2, .staged, 65535, [], 0⟩,
  ⟨0x03, 0x03, .u16, 0, 2, .staged, 65535, [], 0⟩,
  ⟨0x04, 0x04, .q16_16, 0, 5, .none, 0x320000, [], 0⟩,
  ⟨0x05, 0x05, .q16_16, 0, 5, .none, 0, [], 0⟩,
  ⟨0x06, 0x06, .u16, 0, 5, .none, 1, [], 0⟩]

/-- Rows of OD 0x4140 (R219). -/
def odRows4140 : List OdRow := [
  ⟨0x01, 0x80, .u16, 0, 2, .staged, 0, [], 0xbfff⟩]

/-- Rows of OD 0x4180 (R220). -/
def odRows4180 : List OdRow := [
  ⟨0x01, 0x80, (.octets 16), 0, 2, .staged, 0x400000000000, [], 0x1ffffffffff3f⟩]

/-- Rows of OD 0x41C0 (R221). -/
def odRows41C0 : List OdRow := [
  ⟨0x01, 0x01, (.octets 1024), 0, 1, .live, 0, [], 0⟩]

/-- Rows of OD 0x4200 (R221). -/
def odRows4200 : List OdRow := [
  ⟨0x01, 0x01, .u16, 0, 5, .none, 0, [], 0⟩,
  ⟨0x02, 0x02, .u32, 0, 5, .none, 0, [], 0⟩,
  ⟨0x03, 0x03, .u64, 0, 5, .none, 0, [], 0⟩,
  ⟨0x04, 0x04, .u32, 0, 2, .live, 2400, [], 0⟩,
  ⟨0x05, 0x05, .u32, 0, 2, .live, 9600, [], 0⟩,
  ⟨0x06, 0x06, .bool, 5, 1, .live, 0, [], 0⟩,
  ⟨0x07, 0x07, .u8, 5, 2, .live, 0, [], 0⟩,
  ⟨0x08, 0x08, .u32, 0, 5, .none, 0, [], 0⟩,
  ⟨0x09, 0x09, (.string 64), 0, 2, .live, 0, [], 0⟩]

/-- Rows of OD 0x4210 (R221). -/
def odRows4210 : List OdRow := [
  ⟨0x01, 0x01, .u8, 0, 5, .none, 0, [(0, 3)], 0⟩,
  ⟨0x02, 0x02, .u64, 0, 5, .none, 0, [], 0⟩,
  ⟨0x03, 0x03, .u64, 0, 5, .none, 0, [], 0⟩,
  ⟨0x04, 0x04, .u64, 0, 5, .none, 0, [], 0⟩,
  ⟨0x05, 0x05, .u8, 0, 5, .none, 0, [], 0⟩,
  ⟨0x06, 0x06, .bool, 0, 5, .none, 0, [], 0⟩]

/-- Rows of OD 0x4220 (R221). -/
def odRows4220 : List OdRow := [
  ⟨0x01, 0x01, .u64, 0, 2, .live, 0, [], 0⟩,
  ⟨0x02, 0x02, .u64, 0, 2, .live, 0, [], 0⟩,
  ⟨0x03, 0x03, .domain, 0, 2, .live, 0, [], 0⟩,
  ⟨0x04, 0x04, .domain, 2, 5, .none, 0, [], 0⟩]

/-- Rows of OD 0x5000 (R300). -/
def odRows5000 : List OdRow := [
  ⟨0x01, 0x01, .bool, 0, 2, .staged, 0, [], 0⟩,
  ⟨0x02, 0x02, .domain, 2, 2, .staged, 0, [], 0⟩,
  ⟨0x03, 0x03, .u8, 0, 2, .staged, 1, [(1, 64)], 0⟩,
  ⟨0x04, 0x04, .domain, 0, 2, .staged, 0, [], 0⟩,
  ⟨0x05, 0x05, .domain, 0, 2, .staged, 0, [], 0⟩,
  ⟨0x06, 0x06, .u8, 0, 2, .staged, 8, [(1, 64)], 0⟩,
  ⟨0x07, 0x07, .u8, 0, 5, .none, 0, [(0, 2)], 0⟩,
  ⟨0x08, 0x08, .bool, 5, 2, .live, 0, [], 0⟩,
  ⟨0x09, 0x09, .u32, 0, 5, .none, 0, [], 0⟩,
  ⟨0x0A, 0x0A, .u32, 0, 5, .none, 0, [], 0⟩,
  ⟨0x0B, 0x0B, .u32, 0, 5, .none, 0, [], 0⟩,
  ⟨0x0C, 0x0C, .u32, 0, 5, .none, 0, [], 0⟩,
  ⟨0x0D, 0x0D, .u32, 0, 5, .none, 0, [], 0⟩,
  ⟨0x0E, 0x0E, (.octets 64), 0, 5, .none, 0, [], 0⟩,
  ⟨0x0F, 0x0F, .u32, 0, 5, .none, 0, [], 0⟩,
  ⟨0x10, 0x10, .u32, 0, 5, .none, 0, [], 0⟩]

/-- Rows of OD 0x5020 (R300). -/
def odRows5020 : List OdRow := [
  ⟨0x01, 0x01, .domain, 5, 2, .live, 0, [], 0⟩]

/-- Rows of OD 0x5030 (R300). -/
def odRows5030 : List OdRow := [
  ⟨0x01, 0x10, .u32, 0, 2, .staged, 128000, [], 0x3fff03⟩]

/-- Rows of OD 0x5040 (R300). -/
def odRows5040 : List OdRow := [
  ⟨0x01, 0x01, .domain, 0, 5, .none, 0, [], 0⟩,
  ⟨0x02, 0x02, .domain, 0, 5, .none, 0, [], 0⟩]

/-- Rows of OD 0x5060 (R300). -/
def odRows5060 : List OdRow := [
  ⟨0x01, 0x40, .u32, 0, 5, .none, 0, [], 0⟩]

/-- Rows of OD 0x5100 (R300). -/
def odRows5100 : List OdRow := [
  ⟨0x01, 0x01, .u16, 0, 5, .none, 0, [], 0⟩,
  ⟨0x02, 0x02, .bool, 5, 2, .live, 0, [], 0⟩]

/-- Rows of OD 0x5110 (R300). -/
def odRows5110 : List OdRow := [
  ⟨0x01, 0x80, .u64, 0, 2, .live, 0, [], 0x8001ffffffffffff⟩]

/-- Rows of OD 0x6000 (R324). -/
def odRows6000 : List OdRow := [
  ⟨0x01, 0x01, .bool, 0, 2, .staged, 0, [], 0⟩,
  ⟨0x02, 0x02, .u8, 0, 2, .staged, 1, [(1, 16)], 0⟩,
  ⟨0x03, 0x03, .u8, 0, 2, .staged, 0, [], 0⟩,
  ⟨0x04, 0x04, .u8, 0, 2, .staged, 255, [(0, 7), (255, 255)], 0⟩,
  ⟨0x05, 0x05, .u32, 0, 2, .staged, 0, [], 0xf000ffff⟩,
  ⟨0x06, 0x06, (.octets 8), 0, 2, .staged, 0x3ff0000000000000, [], 0⟩,
  ⟨0x07, 0x07, (.octets 8), 0, 2, .staged, 0, [], 0⟩,
  ⟨0x08, 0x08, .u32, 0, 2, .staged, 0, [], 0xf000ffff⟩,
  ⟨0x09, 0x09, .u32, 0, 2, .staged, 0, [], 0xf000ffff⟩,
  ⟨0x0A, 0x0F, (.octets 8), 0, 2, .live, 0, [], 0⟩,
  ⟨0x10, 0x10, .bool, 0, 2, .staged, 0, [], 0⟩,
  ⟨0x11, 0x11, (.octets 8), 0, 2, .live, 0xbff0000000000000, [], 0⟩,
  ⟨0x12, 0x12, (.octets 8), 0, 2, .live, 0x3ff0000000000000, [], 0⟩,
  ⟨0x13, 0x14, (.octets 8), 0, 2, .live, 0x3ff0000000000000, [], 0⟩,
  ⟨0x15, 0x15, .u32, 0, 2, .staged, 0x10000000, [], 0xf000ffff⟩,
  ⟨0x16, 0x16, (.octets 8), 0, 1, .live, 0, [], 0⟩,
  ⟨0x17, 0x17, .bool, 0, 2, .staged, 1, [], 0⟩,
  ⟨0x18, 0x18, .u32, 0, 2, .staged, 0, [], 0xf000ffff⟩,
  ⟨0x19, 0x19, (.octets 8), 0, 1, .live, 0, [], 0⟩,
  ⟨0x1A, 0x1A, (.octets 8), 0, 1, .live, 0, [], 0⟩,
  ⟨0x1B, 0x1B, .u8, 0, 1, .live, 3, [], 0⟩,
  ⟨0x1C, 0x1C, .bool, 5, 1, .live, 0, [], 0⟩,
  ⟨0x1D, 0x1D, (.octets 8), 0, 2, .staged, 0, [], 0⟩,
  ⟨0x1E, 0x1E, .u16, 0, 2, .staged, 65535, [(0, 255), (65535, 65535)], 0⟩,
  ⟨0x1F, 0x1F, .u8, 0, 2, .staged, 0, [(0, 31)], 0⟩,
  ⟨0x20, 0x20, .u32, 0, 5, .none, 15, [], 0⟩,
  ⟨0x21, 0x24, (.octets 8), 0, 5, .none, 0, [], 0⟩,
  ⟨0x25, 0x25, .u32, 0, 5, .none, 0, [], 0⟩]

/-- Rows of OD 0x6080 (R325). -/
def odRows6080 : List OdRow := [
  ⟨0x01, 0x01, .bool, 0, 2, .staged, 0, [], 0⟩,
  ⟨0x02, 0x02, .u32, 0, 5, .none, 0, [], 0⟩,
  ⟨0x03, 0x03, .u32, 0, 5, .none, 201333, [], 0⟩,
  ⟨0x04, 0x04, .u32, 0, 5, .none, 0, [], 0⟩]

/-- Rows of OD 0x6100 (R326). -/
def odRows6100 : List OdRow := [
  ⟨0x01, 0x01, .bool, 0, 2, .staged, 0, [], 0⟩,
  ⟨0x02, 0x02, .u8, 0, 2, .staged, 1, [(1, 16)], 0⟩,
  ⟨0x03, 0x03, .u8, 0, 2, .staged, 0, [], 0⟩,
  ⟨0x04, 0x04, .u32, 0, 2, .staged, 0x10000000, [], 0xf000ffff⟩,
  ⟨0x05, 0x05, (.octets 8), 0, 1, .live, 0, [], 0⟩,
  ⟨0x06, 0x08, (.octets 8), 0, 2, .live, 0x3ff0000000000000, [], 0⟩,
  ⟨0x09, 0x0B, (.octets 8), 0, 5, .none, 0, [], 0⟩,
  ⟨0x0C, 0x0C, .u8, 0, 5, .none, 0, [], 0⟩]

/-- Rows of OD 0x6200 (R327). -/
def odRows6200 : List OdRow := [
  ⟨0x01, 0x01, .u32, 0, 5, .none, 0, [], 0⟩,
  ⟨0x02, 0x02, .u8, 0, 5, .none, 255, [], 0⟩,
  ⟨0x03, 0x03, .bool, 5, 1, .live, 0, [], 0⟩,
  ⟨0x04, 0x04, .bool, 0, 5, .none, 0, [], 0⟩,
  ⟨0x05, 0x05, (.octets 8), 0, 5, .none, 0, [], 0⟩,
  ⟨0x06, 0x06, .u8, 0, 5, .none, 255, [], 0⟩,
  ⟨0x07, 0x07, .u8, 0, 5, .none, 0, [], 0⟩]

/-- Rows of OD 0x7000 (R264). -/
def odRows7000 : List OdRow := [
  ⟨0x01, 0x01, .bool, 0, 2, .staged, 0, [], 0⟩,
  ⟨0x02, 0x02, (.string 32), 0, 2, .staged, 0, [], 0⟩,
  ⟨0x03, 0x03, .domain, 2, 2, .staged, 0, [], 0⟩,
  ⟨0x04, 0x04, .u16, 0, 2, .staged, 64, [(2, 4096)], 0⟩,
  ⟨0x05, 0x05, .u8, 0, 2, .staged, 255, [], 0⟩,
  ⟨0x06, 0x06, .domain, 0, 2, .staged, 0, [], 0⟩,
  ⟨0x07, 0x07, .u32, 0, 2, .staged, 0, [], 0⟩,
  ⟨0x08, 0x08, .u16, 0, 2, .staged, 0, [], 0⟩,
  ⟨0x09, 0x09, (.octets 8), 0, 2, .staged, 0xffffffffffffffff, [], 0⟩,
  ⟨0x10, 0x10, .u8, 0, 5, .none, 0, [(0, 4)], 0⟩,
  ⟨0x11, 0x11, (.octets 8), 0, 5, .none, 0, [], 0⟩,
  ⟨0x12, 0x12, .u16, 0, 5, .none, 0, [], 0⟩,
  ⟨0x13, 0x13, .u32, 0, 5, .none, 0, [], 0⟩,
  ⟨0x14, 0x14, .u32, 0, 5, .none, 0, [], 0⟩,
  ⟨0x15, 0x15, .u32, 0, 5, .none, 0, [], 0⟩,
  ⟨0x16, 0x16, .domain, 0, 5, .none, 0, [], 0⟩,
  ⟨0x17, 0x17, (.octets 64), 0, 5, .none, 0, [], 0⟩]

/-- Rows of OD 0x7060 (R263). -/
def odRows7060 : List OdRow := [
  ⟨0x01, 0x01, .u8, 0, 2, .staged, 1, [(1, 64)], 0⟩,
  ⟨0x02, 0x02, .u8, 0, 2, .staged, 25, [(0, 50)], 0⟩,
  ⟨0x03, 0x03, .u16, 0, 5, .none, 21, [], 0⟩,
  ⟨0x04, 0x04, (.octets 8), 0, 5, .none, 0, [], 0⟩,
  ⟨0x05, 0x05, .u8, 0, 5, .none, 0, [], 0⟩,
  ⟨0x06, 0x06, .u16, 0, 5, .none, 20480, [], 0⟩]

/-- Rows of OD 0x7100 (R266). -/
def odRows7100 : List OdRow := [
  ⟨0x01, 0x01, .bool, 0, 2, .staged, 0, [], 0⟩,
  ⟨0x02, 0x02, .u8, 0, 2, .staged, 0, [(0, 2)], 0⟩,
  ⟨0x03, 0x03, .u8, 0, 2, .staged, 0, [], 0⟩,
  ⟨0x04, 0x04, .u32, 0, 2, .staged, 0, [(0, 1048575)], 0⟩,
  ⟨0x05, 0x05, .u8, 0, 2, .staged, 1, [(1, 4)], 0⟩,
  ⟨0x06, 0x06, (.octets 1024), 0, 2, .staged, 0, [], 0⟩,
  ⟨0x07, 0x07, (.octets 1024), 0, 2, .staged, 0, [], 0⟩,
  ⟨0x08, 0x08, (.octets 64), 0, 2, .staged, 0xffffffffffffffffffffffffffffffffffffffffffffffffffffffffffffffffffffffffffffffffffffffffffffffffffffffffffffffffffffffffffffffff, [], 0⟩,
  ⟨0x09, 0x09, (.octets 32), 0, 2, .staged, 0xffffffffffffffffffffffffffffffffffffffffffffffffffffffffffffffff, [], 0⟩,
  ⟨0x0A, 0x0A, (.octets 16), 0, 3, .staged, 0xffffffffffffffffffffffffffffffff, [], 0⟩,
  ⟨0x0B, 0x0B, .u8, 0, 2, .staged, 255, [(5, 14), (255, 255)], 0⟩,
  ⟨0x0C, 0x0C, .u8, 0, 2, .staged, 255, [(5, 14), (255, 255)], 0⟩,
  ⟨0x0D, 0x0D, .bool, 0, 2, .staged, 0, [], 0⟩,
  ⟨0x0E, 0x0E, .bool, 0, 2, .staged, 0, [], 0⟩,
  ⟨0x10, 0x10, .u8, 0, 5, .none, 0, [], 0⟩,
  ⟨0x11, 0x11, .u8, 0, 5, .none, 0, [], 0⟩,
  ⟨0x12, 0x12, .bool, 5, 2, .live, 0, [], 0⟩,
  ⟨0x13, 0x13, (.octets 256), 2, 2, .live, 0, [], 0⟩,
  ⟨0x14, 0x14, .u32, 0, 5, .none, 0, [], 0⟩,
  ⟨0x15, 0x15, .u32, 0, 5, .none, 0, [], 0⟩]

/-- Rows of OD 0x8000 (R361). -/
def odRows8000 : List OdRow := [
  ⟨0x01, 0x01, .bool, 0, 2, .staged, 0, [], 0⟩,
  ⟨0x02, 0x02, .u8, 0, 2, .staged, 0, [(0, 1)], 0⟩,
  ⟨0x03, 0x03, .bool, 0, 2, .staged, 0, [], 0⟩,
  ⟨0x04, 0x04, .u16, 0, 2, .staged, 0, [], 0⟩,
  ⟨0x05, 0x05, .u8, 0, 5, .none, 0, [], 0⟩,
  ⟨0x06, 0x06, .u16, 0, 2, .staged, 34997, [], 0⟩,
  ⟨0x07, 0x07, .mac48, 0, 2, .staged, 0x3454e000001, [], 0⟩,
  ⟨0x08, 0x08, .u16, 0, 2, .staged, 0, [], 0⟩,
  ⟨0x09, 0x09, .u32, 0, 2, .staged, 0, [], 0⟩,
  ⟨0x0A, 0x0A, .u8, 0, 3, .staged, 255, [], 0⟩,
  ⟨0x0B, 0x0B, .u16, 0, 2, .staged, 2000, [(100, 60000)], 0⟩,
  ⟨0x0C, 0x0C, .u16, 0, 2, .live, 60, [(1, 3600)], 0⟩,
  ⟨0x0D, 0x0D, .u32, 0, 2, .live, 86400, [(0, 0), (3600, 2592000)], 0⟩,
  ⟨0x0E, 0x0E, .bool, 5, 2, .live, 0, [], 0⟩,
  ⟨0x0F, 0x0F, .mac48, 0, 2, .staged, 0, [], 0⟩,
  ⟨0x10, 0x10, .u16, 5, 2, .live, 0, [], 0x3f3f⟩,
  ⟨0x11, 0x11, (.octets 8), 0, 5, .none, 0, [], 0⟩,
  ⟨0x12, 0x12, .u8, 0, 5, .none, 0, [], 0⟩,
  ⟨0x13, 0x13, .u32, 0, 5, .none, 0, [], 0⟩,
  ⟨0x14, 0x14, .u32, 0, 5, .none, 0, [], 0⟩,
  ⟨0x15, 0x15, .u32, 0, 5, .none, 0, [], 0⟩,
  ⟨0x16, 0x16, .u32, 0, 5, .none, 0, [], 0⟩,
  ⟨0x17, 0x17, .u32, 0, 5, .none, 0, [], 0⟩,
  ⟨0x18, 0x18, .drip80, 0, 5, .none, 0, [], 0⟩,
  ⟨0x19, 0x19, .u32, 0, 5, .none, 8704, [], 0⟩,
  ⟨0x1A, 0x1A, .u32, 0, 5, .none, 262144, [], 0⟩]

/-- Rows of OD 0x9000 (R396). -/
def odRows9000 : List OdRow := [
  ⟨0x01, 0x01, .u16, 0, 5, .none, 2, [], 0⟩,
  ⟨0x02, 0x02, .u64, 0, 5, .none, 0, [], 0⟩,
  ⟨0x03, 0x03, .u8, 0, 5, .none, 0, [(0, 2)], 0⟩,
  ⟨0x04, 0x04, .u32, 0, 5, .none, 0, [], 0⟩]

/-- Rows of OD 0x9001 (R396). -/
def odRows9001 : List OdRow := [
  ⟨0x01, 0x01, .domain, 5, 3, .live, 0, [], 0⟩,
  ⟨0x02, 0x02, .domain, 3, 5, .none, 0, [], 0⟩]

/-- Rows of OD 0x9002 (R396). -/
def odRows9002 : List OdRow := [
  ⟨0x01, 0x05, .u8, 0, 3, .live, 255, [], 0⟩]

/-- Rows of OD 0x9010 (R396). -/
def odRows9010 : List OdRow := [
  ⟨0x01, 0x80, (.octets 16), 0, 5, .none, 0, [], 0⟩]

/-- Rows of OD 0x9100 (R397). -/
def odRows9100 : List OdRow := [
  ⟨0x01, 0x01, .u8, 0, 5, .none, 0, [], 0⟩,
  ⟨0x02, 0x02, (.octets 32), 0, 5, .none, 0, [], 0⟩,
  ⟨0x03, 0x03, .domain, 5, 3, .live, 0, [], 0⟩,
  ⟨0x04, 0x04, .u16, 0, 5, .none, 0, [], 0⟩,
  ⟨0x05, 0x05, (.octets 64), 0, 5, .none, 0, [], 0⟩,
  ⟨0x06, 0x06, .u8, 0, 5, .none, 0, [], 0⟩,
  ⟨0x07, 0x07, .bool, 0, 3, .live, 0, [], 0⟩,
  ⟨0x08, 0x08, .u8, 0, 5, .none, 0, [], 0⟩,
  ⟨0x09, 0x09, .bool, 0, 5, .none, 0, [], 0⟩]

/-- Rows of OD 0x9110 (R397). -/
def odRows9110 : List OdRow := [
  ⟨0x01, 0x01, .u8, 0, 5, .none, 0, [], 0⟩,
  ⟨0x02, 0x02, (.octets 20), 0, 5, .none, 0, [], 0⟩,
  ⟨0x03, 0x03, (.octets 20), 0, 5, .none, 0, [], 0⟩,
  ⟨0x04, 0x04, .domain, 5, 3, .live, 0, [], 0⟩]

/-- Rows of OD 0x9140 (R397). -/
def odRows9140 : List OdRow := [
  ⟨0x01, 0x01, .u16, 0, 5, .none, 0, [], 0⟩,
  ⟨0x02, 0x02, .u16, 0, 3, .live, 0, [], 0x6⟩,
  ⟨0x03, 0x03, .bool, 5, 3, .live, 0, [], 0⟩,
  ⟨0x04, 0x04, .domain, 0, 5, .none, 0, [], 0⟩,
  ⟨0x05, 0x05, .u16, 0, 5, .none, 0, [], 0⟩]

/-- Rows of OD 0x9200 (R398). -/
def odRows9200 : List OdRow := [
  ⟨0x01, 0x01, (.octets 32), 5, 1, .live, 0, [], 0⟩,
  ⟨0x02, 0x02, .domain, 0, 5, .none, 0, [], 0⟩,
  ⟨0x03, 0x03, (.octets 64), 0, 5, .none, 0, [], 0⟩,
  ⟨0x04, 0x04, (.octets 462), 0, 5, .none, 0, [], 0⟩,
  ⟨0x05, 0x05, (.octets 64), 0, 5, .none, 0, [], 0⟩,
  ⟨0x06, 0x06, .u32, 0, 5, .none, 0, [], 0⟩]

/-- Rows of OD 0xA000 (R427). -/
def odRowsA000 : List OdRow := [
  ⟨0x01, 0x01, .u8, 0, 2, .staged, 15, [(1, 60)], 0⟩,
  ⟨0x02, 0x02, .bool, 0, 4, .staged, 1, [], 0⟩,
  ⟨0x03, 0x03, .u16, 0, 5, .none, 0, [], 0⟩,
  ⟨0x04, 0x04, .u32, 0, 5, .none, 0, [], 0⟩,
  ⟨0x05, 0x05, .domain, 0, 5, .none, 0, [], 0⟩,
  ⟨0x06, 0x06, .u32, 0, 5, .none, 0, [], 0⟩,
  ⟨0x07, 0x07, .u32, 0, 5, .none, 0, [], 0⟩,
  ⟨0x08, 0x08, .u32, 0, 5, .none, 0, [], 0⟩]

/-- Rows of OD 0xA010 (R427). -/
def odRowsA010 : List OdRow := [
  ⟨0x01, 0x01, .u16, 4, 4, .live, 0, [], 0⟩,
  ⟨0x02, 0x02, .u64, 4, 4, .live, 0, [], 0⟩,
  ⟨0x03, 0x03, .u32, 4, 4, .live, 0, [], 0⟩,
  ⟨0x04, 0x04, .u64, 4, 4, .live, 0, [], 0⟩,
  ⟨0x05, 0x05, .bool, 5, 4, .live, 0, [], 0⟩,
  ⟨0x06, 0x06, .u64, 4, 5, .none, 0, [], 0⟩,
  ⟨0x07, 0x07, .u16, 5, 4, .live, 0, [], 0⟩]

/-- Rows of OD 0xB000 (R462). -/
def odRowsB000 : List OdRow := [
  ⟨0x01, 0x01, .u32, 0, 1, .live, 0, [], 0⟩,
  ⟨0x02, 0x02, .u32, 0, 2, .live, 0xffffffff, [], 0⟩,
  ⟨0x03, 0x03, .u32, 0, 5, .none, 0, [], 0⟩,
  ⟨0x04, 0x04, .u8, 0, 2, .live, 4, [], 0xf⟩,
  ⟨0x05, 0x05, (.octets 8), 0, 2, .live, 0, [], 0⟩,
  ⟨0x06, 0x06, .u8, 0, 2, .live, 0, [(65, 127)], 0⟩,
  ⟨0x07, 0x07, (.string 32), 0, 5, .none, 0, [], 0⟩,
  ⟨0x08, 0x08, .drip80, 0, 5, .none, 0, [], 0⟩]

/-- Rows of OD 0xC000 (R455). -/
def odRowsC000 : List OdRow := [
  ⟨0x01, 0x01, .u8, 0, 5, .none, 0, [], 0⟩,
  ⟨0x02, 0x02, .u8, 0, 5, .none, 0, [], 0⟩,
  ⟨0x03, 0x03, .u32, 0, 5, .none, 0, [], 0⟩,
  ⟨0x04, 0x04, .u16, 0, 5, .none, 0, [], 0⟩,
  ⟨0x05, 0x05, .u8, 0, 5, .none, 0, [], 0⟩,
  ⟨0x06, 0x06, .u32, 0, 5, .none, 0, [], 0⟩,
  ⟨0x07, 0x07, .u8, 0, 5, .none, 0, [], 0⟩,
  ⟨0x08, 0x08, .drip80, 0, 5, .none, 0, [], 0⟩,
  ⟨0x09, 0x09, .drip80, 0, 5, .none, 0, [], 0⟩]

/-- Rows of OD 0xD000 (R463). -/
def odRowsD000 : List OdRow := [
  ⟨0x01, 0x01, .u8, 0, 5, .none, 0, [(0, 2)], 0⟩,
  ⟨0x02, 0x02, .u8, 5, 2, .live, 0, [(0, 2)], 0⟩,
  ⟨0x03, 0x03, .u16, 0, 5, .none, 4095, [], 0⟩]

/-- Rows of OD 0xD010 (R463). -/
def odRowsD010 : List OdRow := [
  ⟨0x01, 0x08, .u16, 0, 5, .none, 0, [], 0⟩]

/-- Rows of OD 0xD020 (R463). -/
def odRowsD020 : List OdRow := [
  ⟨0x01, 0x04, .i16, 0, 5, .none, 0, [], 0⟩,
  ⟨0x05, 0x05, .i16, 0, 2, .live, 1840, [], 0⟩,
  ⟨0x06, 0x06, .i16, 0, 5, .none, 0, [], 0⟩]

/-- Rows of OD 0xD030 (R463). -/
def odRowsD030 : List OdRow := [
  ⟨0x01, 0x01, .u16, 0, 5, .none, 0, [], 0⟩,
  ⟨0x02, 0x02, .u16, 0, 2, .live, 2500, [], 0⟩]

/-- Rows of OD 0xD040 (R463). -/
def odRowsD040 : List OdRow := [
  ⟨0x01, 0x01, .u32, 0, 5, .none, 0, [], 0⟩,
  ⟨0x02, 0x02, .u32, 0, 5, .none, 0, [], 0⟩]

/-- Rows of OD 0xD050 (R463). -/
def odRowsD050 : List OdRow := [
  ⟨0x01, 0x01, .u32, 0, 5, .none, 0, [], 0⟩]

/-- Rows of OD 0xE000 (R464). -/
def odRowsE000 : List OdRow := [
  ⟨0x01, 0x01, .bool, 0, 2, .staged, 0, [], 0⟩,
  ⟨0x02, 0x02, .mac48, 0, 2, .staged, 0x10ccd010000, [], 0⟩,
  ⟨0x03, 0x03, .u16, 0, 2, .staged, 0, [], 0⟩,
  ⟨0x04, 0x04, .u16, 0, 2, .staged, 65535, [(0, 4094), (65535, 65535)], 0⟩,
  ⟨0x05, 0x05, (.string 64), 0, 2, .staged, 0, [], 0⟩,
  ⟨0x06, 0x06, (.string 64), 0, 2, .staged, 0, [], 0⟩,
  ⟨0x07, 0x07, .u32, 0, 2, .staged, 0, [], 0⟩,
  ⟨0x08, 0x08, (.octets 32), 0, 2, .staged, 0, [], 0⟩,
  ⟨0x09, 0x09, .bool, 0, 2, .staged, 0, [], 0⟩,
  ⟨0x0A, 0x0A, .bool, 0, 2, .staged, 0, [], 0⟩,
  ⟨0x0B, 0x0B, .u8, 0, 3, .staged, 0, [(0, 1)], 0⟩,
  ⟨0x0C, 0x0C, .u8, 0, 3, .staged, 0, [], 0⟩,
  ⟨0x0D, 0x0D, .u8, 0, 3, .staged, 0, [], 0⟩,
  ⟨0x0E, 0x0E, .u32, 0, 2, .staged, 0xffffffff, [], 0⟩,
  ⟨0x10, 0x10, .bool, 0, 5, .none, 0, [], 0⟩,
  ⟨0x11, 0x11, .u32, 0, 5, .none, 0, [], 0⟩,
  ⟨0x12, 0x12, .u32, 0, 5, .none, 0, [], 0⟩,
  ⟨0x13, 0x13, .u32, 0, 5, .none, 0, [], 0⟩,
  ⟨0x14, 0x14, .u32, 0, 5, .none, 0, [], 0⟩,
  ⟨0x15, 0x15, .u32, 0, 5, .none, 0, [], 0⟩,
  ⟨0x16, 0x16, .u32, 0, 5, .none, 0, [], 0⟩,
  ⟨0x17, 0x17, .u32, 0, 5, .none, 0, [], 0⟩,
  ⟨0x18, 0x18, .u32, 0, 5, .none, 0, [], 0⟩,
  ⟨0x19, 0x19, .u32, 0, 5, .none, 0, [], 0⟩,
  ⟨0x1A, 0x1A, .u32, 0, 5, .none, 0, [], 0⟩,
  ⟨0x1B, 0x1B, .u32, 0, 5, .none, 0, [], 0⟩,
  ⟨0x1C, 0x1C, .drip80, 0, 5, .none, 0, [], 0⟩]

/-- Rows of OD 0xE400 (R362). -/
def odRowsE400 : List OdRow := [
  ⟨0x01, 0x01, .bool, 0, 2, .staged, 0, [], 0⟩,
  ⟨0x02, 0x02, .mac48, 0, 2, .staged, 0x10ccd010000, [], 0⟩,
  ⟨0x03, 0x03, .u16, 0, 2, .staged, 0, [], 0⟩,
  ⟨0x04, 0x04, .u16, 0, 2, .staged, 16384, [], 0x7fff⟩,
  ⟨0x05, 0x05, (.string 64), 0, 2, .staged, 0, [], 0⟩,
  ⟨0x06, 0x06, (.string 64), 0, 2, .staged, 0, [], 0⟩,
  ⟨0x07, 0x07, (.string 64), 0, 2, .staged, 0, [], 0⟩,
  ⟨0x08, 0x08, .u32, 0, 2, .staged, 1, [], 0⟩,
  ⟨0x09, 0x09, (.octets 32), 0, 2, .staged, 0, [], 0⟩,
  ⟨0x0A, 0x0A, .u16, 0, 2, .staged, 2, [(1, 1000)], 0⟩,
  ⟨0x0B, 0x0B, .u16, 0, 2, .staged, 1000, [(10, 60000)], 0⟩,
  ⟨0x0C, 0x0C, .u8, 0, 2, .staged, 0, [(0, 1)], 0⟩,
  ⟨0x0D, 0x0D, .u8, 0, 3, .staged, 0, [(0, 1)], 0⟩,
  ⟨0x0E, 0x0E, .u8, 0, 3, .staged, 0, [], 0⟩,
  ⟨0x0F, 0x0F, .u32, 0, 5, .none, 1, [], 0⟩,
  ⟨0x10, 0x10, .u32, 0, 5, .none, 0, [], 0⟩,
  ⟨0x11, 0x11, .u32, 0, 5, .none, 0, [], 0⟩]

/-- Every index of the dictionary (R456, R459), but the vendor range of R469. -/
def odGroups : List OdGroup := [
  ⟨0x1000, 0x1000, 0, 0, odRows1000⟩,
  ⟨0x1080, 0x1080, 0, 0, odRows1080⟩,
  ⟨0x1100, 0x1100, 0, 0, odRows1100⟩,
  ⟨0x1101, 0x1101, 0, 0, odRows1101⟩,
  ⟨0x1110, 0x1110, 0, 0, odRows1110⟩,
  ⟨0x1120, 0x113F, 0, 0, odRows1120⟩,
  ⟨0x1140, 0x1140, 0, 0, odRows1140⟩,
  ⟨0x1150, 0x1150, 0, 0, odRows1150⟩,
  ⟨0x1160, 0x117F, 0, 0, odRows1160⟩,
  ⟨0x1200, 0x1200, 0, 0, odRows1200⟩,
  ⟨0x2000, 0x201F, 0, 0, odRows2000⟩,
  ⟨0x2040, 0x205F, 0, 0, odRows2040⟩,
  ⟨0x2080, 0x209F, 0, 0, odRows2080⟩,
  ⟨0x2200, 0x2200, 0, 0, odRows2200⟩,
  ⟨0x2210, 0x2250, 255, 16384, odRows2210⟩,
  ⟨0x2260, 0x2264, 255, 1024, odRows2260⟩,
  ⟨0x2280, 0x229F, 0, 0, odRows2280⟩,
  ⟨0x22C0, 0x22DF, 0, 0, odRows22C0⟩,
  ⟨0x2300, 0x2300, 0, 0, odRows2300⟩,
  ⟨0x2310, 0x231F, 0, 0, odRows2310⟩,
  ⟨0x2330, 0x233F, 0, 0, odRows2330⟩,
  ⟨0x3000, 0x31FF, 0, 0, odRows3000⟩,
  ⟨0x3400, 0x3400, 0, 0, odRows3400⟩,
  ⟨0x3401, 0x3401, 0, 0, odRows3401⟩,
  ⟨0x3480, 0x34FF, 64, 8192, odRows3480⟩,
  ⟨0x4000, 0x403F, 0, 0, odRows4000⟩,
  ⟨0x4040, 0x4040, 0, 0, odRows4040⟩,
  ⟨0x4100, 0x413F, 0, 0, odRows4100⟩,
  ⟨0x4140, 0x417F, 128, 8192, odRows4140⟩,
  ⟨0x4180, 0x41BF, 128, 8192, odRows4180⟩,
  ⟨0x41C0, 0x41C0, 0, 0, odRows41C0⟩,
  ⟨0x4200, 0x4200, 0, 0, odRows4200⟩] ++ [
  ⟨0x4210, 0x4217, 0, 0, odRows4210⟩,
  ⟨0x4220, 0x4220, 0, 0, odRows4220⟩,
  ⟨0x5000, 0x5000, 0, 0, odRows5000⟩,
  ⟨0x5020, 0x5020, 0, 0, odRows5020⟩,
  ⟨0x5030, 0x5030, 0, 0, odRows5030⟩,
  ⟨0x5040, 0x5040, 0, 0, odRows5040⟩,
  ⟨0x5060, 0x5060, 0, 0, odRows5060⟩,
  ⟨0x5100, 0x5100, 0, 0, odRows5100⟩,
  ⟨0x5110, 0x5117, 128, 1024, odRows5110⟩,
  ⟨0x6000, 0x601F, 0, 0, odRows6000⟩,
  ⟨0x6080, 0x6080, 0, 0, odRows6080⟩,
  ⟨0x6100, 0x611F, 0, 0, odRows6100⟩,
  ⟨0x6200, 0x6207, 0, 0, odRows6200⟩,
  ⟨0x7000, 0x705F, 0, 0, odRows7000⟩,
  ⟨0x7060, 0x7060, 0, 0, odRows7060⟩,
  ⟨0x7100, 0x713F, 0, 0, odRows7100⟩,
  ⟨0x8000, 0x8000, 0, 0, odRows8000⟩,
  ⟨0x9000, 0x9000, 0, 0, odRows9000⟩,
  ⟨0x9001, 0x9001, 0, 0, odRows9001⟩,
  ⟨0x9002, 0x9002, 0, 0, odRows9002⟩,
  ⟨0x9010, 0x9011, 128, 256, odRows9010⟩,
  ⟨0x9100, 0x9100, 0, 0, odRows9100⟩,
  ⟨0x9110, 0x9110, 0, 0, odRows9110⟩,
  ⟨0x9140, 0x9140, 0, 0, odRows9140⟩,
  ⟨0x9200, 0x9200, 0, 0, odRows9200⟩,
  ⟨0xA000, 0xA000, 0, 0, odRowsA000⟩,
  ⟨0xA010, 0xA010, 0, 0, odRowsA010⟩,
  ⟨0xB000, 0xB07F, 0, 0, odRowsB000⟩,
  ⟨0xC000, 0xC00F, 0, 0, odRowsC000⟩,
  ⟨0xD000, 0xD000, 0, 0, odRowsD000⟩,
  ⟨0xD010, 0xD010, 0, 0, odRowsD010⟩,
  ⟨0xD020, 0xD020, 0, 0, odRowsD020⟩,
  ⟨0xD030, 0xD030, 0, 0, odRowsD030⟩,
  ⟨0xD040, 0xD040, 0, 0, odRowsD040⟩,
  ⟨0xD050, 0xD050, 0, 0, odRowsD050⟩,
  ⟨0xE000, 0xE3FF, 0, 0, odRowsE000⟩,
  ⟨0xE400, 0xE4FF, 0, 0, odRowsE400⟩]

/-- The group an index belongs to. -/
def odGroup? (index : Nat) : Option OdGroup :=
  odGroups.find? fun g => g.first ≤ index && index ≤ g.last

/-- The highest subindex of an index (R428, R458). -/
def OdGroup.highest (g : OdGroup) (index : Nat) : Nat :=
  if g.per = 0 then (g.rows.map (·.hi)).foldl max 0
  else min g.per (g.count - (index - g.first) * g.per)

/-- The row of an entry; none where the dictionary has no such entry (R456). -/
def odRow? (index sub : Nat) : Option OdRow :=
  match odGroup? index with
  | none => none
  | some g =>
    if sub ≤ g.highest index then g.rows.find? fun r => r.lo ≤ sub && sub ≤ r.hi else none

/-- The value of a numeric entry that has never been written (R432, R457). -/
def odDefault (key : Nat) : Nat :=
  let index := key / 256
  let sub := key % 256
  if 0x2280 ≤ index && index ≤ 0x229F && sub = 0x12 then 0xFFFFFFFF - 2 ^ (index - 0x2280)
  else if 0xB000 ≤ index && index ≤ 0xB07F && sub = 0x06 then 65 + (index - 0xB000) % 63
  else ((odRow? index sub).map (·.dflt)).getD 0

/-- The octets of a STRING or DOMAIN that has never been written: empty, but for CORRECTION (R217), whose default is 21
times a magnitude of 0x4000_0000 and an angle of 0. -/
def blobDefault (key : Nat) : List Byte :=
  if 0x4000 ≤ key / 256 && key / 256 ≤ 0x403F && key % 256 = 0x08 then
    (List.replicate 21 [0x40, 0, 0, 0, 0, 0, 0, 0]).flatten
  else []

/-! ### Keys by name. An argument `n` is the instance, a second `i` the element of an array of entries. -/

namespace Od

def identSerial : Nat := 0x100000 + 0x01
def identOrderingCode : Nat := 0x100000 + 0x02
def identHwRevision : Nat := 0x100000 + 0x03
def identBaseMac : Nat := 0x100000 + 0x04
def identManufactured : Nat := 0x100000 + 0x05
def identDictionaryVersion : Nat := 0x100000 + 0x06
def identDocument : Nat := 0x100000 + 0x07
def identDeviceName : Nat := 0x100000 + 0x08
def identLocation : Nat := 0x100000 + 0x09
def identAssetTag : Nat := 0x100000 + 0x0A
def identPciVendorId : Nat := 0x100000 + 0x0B
def mgmtEdpUdpPort : Nat := 0x108000 + 0x01
def mgmtIpv4 : Nat := 0x108000 + 0x02
def mgmtIpv6 : Nat := 0x108000 + 0x03
def mgmtVid : Nat := 0x108000 + 0x04
def mgmtSessionTimeout : Nat := 0x108000 + 0x05
def mgmtUartEnable : Nat := 0x108000 + 0x06
def mgmtUartBaud : Nat := 0x108000 + 0x07
def mgmtSessionsOpen : Nat := 0x108000 + 0x08
def mgmtAuthFailures : Nat := 0x108000 + 0x09
def mgmtReplays : Nat := 0x108000 + 0x0A
def mgmtStageOwner : Nat := 0x108000 + 0x0B
def timeNow : Nat := 0x110000 + 0x01
def timeServoState : Nat := 0x110000 + 0x02
def timeOffset : Nat := 0x110000 + 0x03
def timeFreqOffset : Nat := 0x110000 + 0x04
def timeHoldoverError : Nat := 0x110000 + 0x05
def timeUtcOffset : Nat := 0x110000 + 0x06
def timeSetTime : Nat := 0x110000 + 0x07
def timeStepNow : Nat := 0x110000 + 0x08
def tickRate : Nat := 0x110100 + 0x01
def ptpClockType : Nat := 0x111000 + 0x01
def ptpProfile : Nat := 0x111000 + 0x02
def ptpDomain : Nat := 0x111000 + 0x03
def ptpPriority1 : Nat := 0x111000 + 0x04
def ptpPriority2 : Nat := 0x111000 + 0x05
def ptpLogSyncInterval : Nat := 0x111000 + 0x06
def ptpLogPdelayInterval : Nat := 0x111000 + 0x07
def ptpLockThreshold : Nat := 0x111000 + 0x08
def ptpStepThreshold : Nat := 0x111000 + 0x09
def ptpSlewLimit : Nat := 0x111000 + 0x0A
def ptpSourceOrder : Nat := 0x111000 + 0x0B
def ptpPortPtpEnable (n : Nat) : Nat := (0x1120 + n) * 256 + 0x01
def ptpPortTwoStep (n : Nat) : Nat := (0x1120 + n) * 256 + 0x02
def ptpPortIngressLatency (n : Nat) : Nat := (0x1120 + n) * 256 + 0x03
def ptpPortEgressLatency (n : Nat) : Nat := (0x1120 + n) * 256 + 0x04
def ptpPortDelayAsymmetry (n : Nat) : Nat := (0x1120 + n) * 256 + 0x05
def ptpPortMeanLinkDelay (n : Nat) : Nat := (0x1120 + n) * 256 + 0x06
def ptpPortRateRatio (n : Nat) : Nat := (0x1120 + n) * 256 + 0x07
def ppsInEnable : Nat := 0x114000 + 0x01
def ppsInCableDelay : Nat := 0x114000 + 0x02
def ppsOutMode : Nat := 0x114000 + 0x03
def ppsOutWidth : Nat := 0x114000 + 0x04
def ppsOutOffset : Nat := 0x114000 + 0x05
def holdoverStability : Nat := 0x115000 + 0x01
def holdoverAgeing : Nat := 0x115000 + 0x02
def holdoverLimit : Nat := 0x115000 + 0x03
def lostId (n : Nat) (i : Nat) : Nat := (0x1160 + n) * 256 + 0x01 + i
def healthHerdStatus : Nat := 0x120000 + 0x01
def healthSliceStatus : Nat := 0x120000 + 0x02
def healthPortsRetired : Nat := 0x120000 + 0x03
def healthLanesRetired : Nat := 0x120000 + 0x04
def healthDieLinks : Nat := 0x120000 + 0x05
def healthRetirements : Nat := 0x120000 + 0x06
def healthClearRetirement : Nat := 0x120000 + 0x07
def healthResetCause : Nat := 0x120000 + 0x08
def healthStartCount : Nat := 0x120000 + 0x09
def healthLastGasp : Nat := 0x120000 + 0x0A
def healthSupWatchdog : Nat := 0x120000 + 0x0B
def healthRestart : Nat := 0x120000 + 0x0C
def healthCorrectedErrors : Nat := 0x120000 + 0x0D
def healthUncorrectedErrors : Nat := 0x120000 + 0x0E
def healthMemDiscard : Nat := 0x120000 + 0x0F
def healthRepairs : Nat := 0x120000 + 0x10
def healthScrubPeriod : Nat := 0x120000 + 0x11
def healthStartupTimes : Nat := 0x120000 + 0x12
def portRole (n : Nat) : Nat := (0x2000 + n) * 256 + 0x01
def portMode (n : Nat) : Nat := (0x2000 + n) * 256 + 0x02
def portAutoneg (n : Nat) : Nat := (0x2000 + n) * 256 + 0x03
def portFrameLimit (n : Nat) : Nat := (0x2000 + n) * 256 + 0x04
def portDiagEnable (n : Nat) : Nat := (0x2000 + n) * 256 + 0x05
def portPvid (n : Nat) : Nat := (0x2000 + n) * 256 + 0x06
def portDefaultPcp (n : Nat) : Nat := (0x2000 + n) * 256 + 0x07
def portRxPauseEnable (n : Nat) : Nat := (0x2000 + n) * 256 + 0x08
def portTxPauseEnable (n : Nat) : Nat := (0x2000 + n) * 256 + 0x09
def portXoffThreshold (n : Nat) : Nat := (0x2000 + n) * 256 + 0x0A
def portXonThreshold (n : Nat) : Nat := (0x2000 + n) * 256 + 0x0B
def portSpeedLowering (n : Nat) : Nat := (0x2000 + n) * 256 + 0x0C
def portLowerMode (n : Nat) : Nat := (0x2000 + n) * 256 + 0x0D
def portLowerThreshold (n : Nat) : Nat := (0x2000 + n) * 256 + 0x0E
def portRaiseThreshold (n : Nat) : Nat := (0x2000 + n) * 256 + 0x0F
def portLowerHold (n : Nat) : Nat := (0x2000 + n) * 256 + 0x10
def portLinkUpHold (n : Nat) : Nat := (0x2000 + n) * 256 + 0x11
def portLinkState (n : Nat) : Nat := (0x2000 + n) * 256 + 0x12
def portCurrentMode (n : Nat) : Nat := (0x2000 + n) * 256 + 0x13
def portCurrentSpeed (n : Nat) : Nat := (0x2000 + n) * 256 + 0x14
def portMac (n : Nat) : Nat := (0x2000 + n) * 256 + 0x15
def cntRxBytes (n : Nat) : Nat := (0x2040 + n) * 256 + 0x01
def cntRx64 (n : Nat) : Nat := (0x2040 + n) * 256 + 0x02
def cntRx65127 (n : Nat) : Nat := (0x2040 + n) * 256 + 0x03
def cntRx128255 (n : Nat) : Nat := (0x2040 + n) * 256 + 0x04
def cntRx256511 (n : Nat) : Nat := (0x2040 + n) * 256 + 0x05
def cntRx5121023 (n : Nat) : Nat := (0x2040 + n) * 256 + 0x06
def cntRx10241518 (n : Nat) : Nat := (0x2040 + n) * 256 + 0x07
def cntRx1519Limit (n : Nat) : Nat := (0x2040 + n) * 256 + 0x08
def cntRxUnicast (n : Nat) : Nat := (0x2040 + n) * 256 + 0x09
def cntRxMulticast (n : Nat) : Nat := (0x2040 + n) * 256 + 0x0A
def cntRxBroadcast (n : Nat) : Nat := (0x2040 + n) * 256 + 0x0B
def cntRxPause (n : Nat) : Nat := (0x2040 + n) * 256 + 0x0C
def cntRxVlan (n : Nat) : Nat := (0x2040 + n) * 256 + 0x0D
def cntRxSv (n : Nat) : Nat := (0x2040 + n) * 256 + 0x0E
def cntRxGoose (n : Nat) : Nat := (0x2040 + n) * 256 + 0x0F
def cntRxPtp (n : Nat) : Nat := (0x2040 + n) * 256 + 0x10
def cntTxBytes (n : Nat) : Nat := (0x2040 + n) * 256 + 0x11
def cntTxSize (n : Nat) (i : Nat) : Nat := (0x2040 + n) * 256 + 0x12 + i
def cntTxKind (n : Nat) (i : Nat) : Nat := (0x2040 + n) * 256 + 0x19 + i
def cntFcs (n : Nat) : Nat := (0x2040 + n) * 256 + 0x21
def cntAlignment (n : Nat) : Nat := (0x2040 + n) * 256 + 0x22
def cntRunt (n : Nat) : Nat := (0x2040 + n) * 256 + 0x23
def cntOversize (n : Nat) : Nat := (0x2040 + n) * 256 + 0x24
def cntTruncated (n : Nat) : Nat := (0x2040 + n) * 256 + 0x25
def cntOverflowDrop (n : Nat) : Nat := (0x2040 + n) * 256 + 0x26
def cntLinkDownDiscard (n : Nat) : Nat := (0x2040 + n) * 256 + 0x27
def cntStomped (n : Nat) : Nat := (0x2040 + n) * 256 + 0x28
def cntTimestampLost (n : Nat) : Nat := (0x2040 + n) * 256 + 0x29
def cntHalfRangeMap (n : Nat) : Nat := (0x2040 + n) * 256 + 0x2A
def filterRule (n : Nat) (i : Nat) : Nat := (0x2080 + n) * 256 + 0x01 + i
def swResidenceLimit : Nat := 0x220000 + 0x01
def swTableGeneration : Nat := 0x220000 + 0x02
def swTableBarrier : Nat := 0x220000 + 0x03
def swEntriesValid : Nat := 0x220000 + 0x04
def swGroupsValid : Nat := 0x220000 + 0x05
def swClearTables : Nat := 0x220000 + 0x06
def swFreeCells : Nat := 0x220000 + 0x07
def swTableBlock : Nat := 0x220000 + 0x08
def staticEntry (n : Nat) : Nat := (0x2210 + n / 255) * 256 + 1 + n % 255
def mcGroup (n : Nat) : Nat := (0x2260 + n / 255) * 256 + 1 + n % 255
def swPortCutThrough (n : Nat) : Nat := (0x2280 + n) * 256 + 0x01
def swPortWrrWeight (n : Nat) (i : Nat) : Nat := (0x2280 + n) * 256 + 0x02 + i
def swPortAlpha (n : Nat) (i : Nat) : Nat := (0x2280 + n) * 256 + 0x08 + i
def swPortUnknownUc (n : Nat) : Nat := (0x2280 + n) * 256 + 0x10
def swPortUnknownMc (n : Nat) : Nat := (0x2280 + n) * 256 + 0x11
def swPortFloodMask (n : Nat) : Nat := (0x2280 + n) * 256 + 0x12
def swCntResidenceDiscard (n : Nat) : Nat := (0x22C0 + n) * 256 + 0x01
def swCntUnknownDiscard (n : Nat) : Nat := (0x22C0 + n) * 256 + 0x02
def swCntClassCells (n : Nat) (i : Nat) : Nat := (0x22C0 + n) * 256 + 0x03 + i
def sepEntryForgetTime : Nat := 0x230000 + 0x01
def sepLifeCheckInterval : Nat := 0x230000 + 0x02
def sepSupervisionAddrLsb : Nat := 0x230000 + 0x03
def sepSourceEntriesUsed : Nat := 0x230000 + 0x04
def sepGroupKind (n : Nat) : Nat := (0x2310 + n) * 256 + 0x01
def sepGroupRole (n : Nat) : Nat := (0x2310 + n) * 256 + 0x02
def sepGroupPortA (n : Nat) : Nat := (0x2310 + n) * 256 + 0x03
def sepGroupPortB (n : Nat) : Nat := (0x2310 + n) * 256 + 0x04
def sepGroupHsrMode (n : Nat) : Nat := (0x2310 + n) * 256 + 0x05
def sepGroupQuadboxPeer (n : Nat) : Nat := (0x2310 + n) * 256 + 0x06
def sepCntRxA (n : Nat) : Nat := (0x2330 + n) * 256 + 0x01
def sepCntRxB (n : Nat) : Nat := (0x2330 + n) * 256 + 0x02
def sepCntTxA (n : Nat) : Nat := (0x2330 + n) * 256 + 0x03
def sepCntTxB (n : Nat) : Nat := (0x2330 + n) * 256 + 0x04
def sepCntDuplicateDiscard (n : Nat) : Nat := (0x2330 + n) * 256 + 0x05
def sepCntWrongLan (n : Nat) : Nat := (0x2330 + n) * 256 + 0x06
def sepCntOutOfWindow (n : Nat) : Nat := (0x2330 + n) * 256 + 0x07
def sepCntOwnRemoved (n : Nat) : Nat := (0x2330 + n) * 256 + 0x08
def sepCntTableFull (n : Nat) : Nat := (0x2330 + n) * 256 + 0x09
def sepCntUntagged (n : Nat) : Nat := (0x2330 + n) * 256 + 0x0A
def svEnable (n : Nat) : Nat := (0x3000 + n) * 256 + 0x01
def svDstMac (n : Nat) : Nat := (0x3000 + n) * 256 + 0x02
def svAppid (n : Nat) : Nat := (0x3000 + n) * 256 + 0x03
def svVid (n : Nat) : Nat := (0x3000 + n) * 256 + 0x04
def svid (n : Nat) : Nat := (0x3000 + n) * 256 + 0x05
def svConfRev (n : Nat) : Nat := (0x3000 + n) * 256 + 0x06
def svStreamRate (n : Nat) : Nat := (0x3000 + n) * 256 + 0x07
def svChannels (n : Nat) : Nat := (0x3000 + n) * 256 + 0x08
def svSyncPolicy (n : Nat) : Nat := (0x3000 + n) * 256 + 0x09
def svTestAccept (n : Nat) : Nat := (0x3000 + n) * 256 + 0x0A
def svSimAccept (n : Nat) : Nat := (0x3000 + n) * 256 + 0x0B
def svAuthMode (n : Nat) : Nat := (0x3000 + n) * 256 + 0x0C
def svKeySlotA (n : Nat) : Nat := (0x3000 + n) * 256 + 0x0D
def svKeySlotB (n : Nat) : Nat := (0x3000 + n) * 256 + 0x0E
def svAliveTimeout (n : Nat) : Nat := (0x3000 + n) * 256 + 0x0F
def svIngressMask (n : Nat) : Nat := (0x3000 + n) * 256 + 0x10
def svMap (n : Nat) (i : Nat) : Nat := (0x3000 + n) * 256 + 0x20 + i
def svAlive (n : Nat) : Nat := (0x3000 + n) * 256 + 0x40
def svFrames (n : Nat) : Nat := (0x3000 + n) * 256 + 0x41
def svMissing (n : Nat) : Nat := (0x3000 + n) * 256 + 0x42
def svSubstituted (n : Nat) : Nat := (0x3000 + n) * 256 + 0x43
def svLate (n : Nat) : Nat := (0x3000 + n) * 256 + 0x44
def svDuplicate (n : Nat) : Nat := (0x3000 + n) * 256 + 0x45
def svAuthFail (n : Nat) : Nat := (0x3000 + n) * 256 + 0x46
def svConfRevMismatch (n : Nat) : Nat := (0x3000 + n) * 256 + 0x47
def svUnsynced (n : Nat) : Nat := (0x3000 + n) * 256 + 0x48
def svTestSimDiscard (n : Nat) : Nat := (0x3000 + n) * 256 + 0x49
def svBadSmpcnt (n : Nat) : Nat := (0x3000 + n) * 256 + 0x4A
def svWrongPort (n : Nat) : Nat := (0x3000 + n) * 256 + 0x4B
def svLastSmpcnt (n : Nat) : Nat := (0x3000 + n) * 256 + 0x4C
def svLastEnd (n : Nat) : Nat := (0x3000 + n) * 256 + 0x4D
def ingestAlignWindow : Nat := 0x340000 + 0x01
def ingestImageLag : Nat := 0x340000 + 0x02
def ingestChannelsMapped : Nat := 0x340000 + 0x03
def ingestChannelLimit : Nat := 0x340000 + 0x04
def ingestSubscriptionGen : Nat := 0x340000 + 0x05
def ingestAliveMap : Nat := 0x340000 + 0x06
def ingestCntUnsubscribed : Nat := 0x340100 + 0x01
def ingestCntMalformed : Nat := 0x340100 + 0x02
def ingestCntAuthLoad : Nat := 0x340100 + 0x03
def channelRecord (n : Nat) : Nat := (0x3480 + n / 64) * 256 + 1 + n % 64
def profileTaps (n : Nat) : Nat := (0x4000 + n) * 256 + 0x01
def profileDecimation (n : Nat) : Nat := (0x4000 + n) * 256 + 0x02
def profileSymmetric (n : Nat) : Nat := (0x4000 + n) * 256 + 0x03
def profileDcCorner (n : Nat) : Nat := (0x4000 + n) * 256 + 0x04
def profileFineCycles (n : Nat) : Nat := (0x4000 + n) * 256 + 0x05
def profileGroupDelay (n : Nat) : Nat := (0x4000 + n) * 256 + 0x06
def profileCoefficients (n : Nat) : Nat := (0x4000 + n) * 256 + 0x07
def profileCorrection (n : Nat) : Nat := (0x4000 + n) * 256 + 0x08
def fbFallbackState : Nat := 0x404000 + 0x01
def fbFallbackSlices : Nat := 0x404000 + 0x02
def fbFallbackChannels : Nat := 0x404000 + 0x03
def fbFallbackCapacity : Nat := 0x404000 + 0x04
def fbShedChannels : Nat := 0x404000 + 0x05
def fbResidueMismatch : Nat := 0x404000 + 0x06
def fbRecomputedChannels : Nat := 0x404000 + 0x07
def fgroupNominal (n : Nat) : Nat := (0x4100 + n) * 256 + 0x01
def fgroupRefChannel (n : Nat) : Nat := (0x4100 + n) * 256 + 0x02
def fgroupBackupChannel (n : Nat) : Nat := (0x4100 + n) * 256 + 0x03
def fgroupFrequency (n : Nat) : Nat := (0x4100 + n) * 256 + 0x04
def fgroupRocof (n : Nat) : Nat := (0x4100 + n) * 256 + 0x05
def fgroupFreqStatus (n : Nat) : Nat := (0x4100 + n) * 256 + 0x06
def output (n : Nat) : Nat := (0x4140 + n / 128) * 256 + 1 + n % 128
def filterRecord (n : Nat) : Nat := (0x4180 + n / 128) * 256 + 1 + n % 128
def freezeDcFreezeMap : Nat := 0x41C000 + 0x01
def histStoredChannels : Nat := 0x420000 + 0x01
def histStoreFrames : Nat := 0x420000 + 0x02
def histOldestTick : Nat := 0x420000 + 0x03
def histPreTrigger : Nat := 0x420000 + 0x04
def histPostTrigger : Nat := 0x420000 + 0x05
def histTriggerNow : Nat := 0x420000 + 0x06
def histReleaseWindow : Nat := 0x420000 + 0x07
def histFreezeRefused : Nat := 0x420000 + 0x08
def histStationName : Nat := 0x420000 + 0x09
def histWinState (n : Nat) : Nat := (0x4210 + n) * 256 + 0x01
def histWinFirstTick (n : Nat) : Nat := (0x4210 + n) * 256 + 0x02
def histWinLastTick (n : Nat) : Nat := (0x4210 + n) * 256 + 0x03
def histWinTriggerTick (n : Nat) : Nat := (0x4210 + n) * 256 + 0x04
def histWinTriggers (n : Nat) : Nat := (0x4210 + n) * 256 + 0x05
def histWinTruncated (n : Nat) : Nat := (0x4210 + n) * 256 + 0x06
def histExportFirstTick : Nat := 0x422000 + 0x01
def histExportLastTick : Nat := 0x422000 + 0x02
def histExportChannels : Nat := 0x422000 + 0x03
def histExportFiles : Nat := 0x422000 + 0x04
def churnEnable : Nat := 0x500000 + 0x01
def churnProgram : Nat := 0x500000 + 0x02
def churnCycleTicks : Nat := 0x500000 + 0x03
def churnInputTable : Nat := 0x500000 + 0x04
def churnOutputTable : Nat := 0x500000 + 0x05
def churnOverrunLimit : Nat := 0x500000 + 0x06
def churnEngineState : Nat := 0x500000 + 0x07
def churnRestart : Nat := 0x500000 + 0x08
def churnCycles : Nat := 0x500000 + 0x09
def churnOverruns : Nat := 0x500000 + 0x0A
def churnLastEvalNs : Nat := 0x500000 + 0x0B
def churnMaxEvalNs : Nat := 0x500000 + 0x0C
def churnProgramId : Nat := 0x500000 + 0x0D
def churnMeasurement : Nat := 0x500000 + 0x0E
def churnBatchesApplied : Nat := 0x500000 + 0x0F
def churnBatchRefused : Nat := 0x500000 + 0x10
def churnBatchOnlineBatch : Nat := 0x502000 + 0x01
def gpioConfig (i : Nat) : Nat := 0x503000 + 0x01 + i
def churnVarBitVariables : Nat := 0x504000 + 0x01
def churnVarWordVariables : Nat := 0x504000 + 0x02
def pwordPartitionWord (i : Nat) : Nat := 0x506000 + 0x01 + i
def forcesActive : Nat := 0x510000 + 0x01
def forceReleaseAll : Nat := 0x510000 + 0x02
def force (n : Nat) : Nat := (0x5110 + n / 128) * 256 + 1 + n % 128
def loopEnable (n : Nat) : Nat := (0x6000 + n) * 256 + 0x01
def loopPeriod (n : Nat) : Nat := (0x6000 + n) * 256 + 0x02
def loopPhase (n : Nat) : Nat := (0x6000 + n) * 256 + 0x03
def loopGroup (n : Nat) : Nat := (0x6000 + n) * 256 + 0x04
def loopMeasSource (n : Nat) : Nat := (0x6000 + n) * 256 + 0x05
def loopMeasScale (n : Nat) : Nat := (0x6000 + n) * 256 + 0x06
def loopMeasOffset (n : Nat) : Nat := (0x6000 + n) * 256 + 0x07
def loopSpSource (n : Nat) : Nat := (0x6000 + n) * 256 + 0x08
def loopFfSource (n : Nat) : Nat := (0x6000 + n) * 256 + 0x09
def loopKp (n : Nat) : Nat := (0x6000 + n) * 256 + 0x0A
def loopKi (n : Nat) : Nat := (0x6000 + n) * 256 + 0x0B
def loopKd (n : Nat) : Nat := (0x6000 + n) * 256 + 0x0C
def loopTf (n : Nat) : Nat := (0x6000 + n) * 256 + 0x0D
def loopKb (n : Nat) : Nat := (0x6000 + n) * 256 + 0x0E
def loopKff (n : Nat) : Nat := (0x6000 + n) * 256 + 0x0F
def loopReverse (n : Nat) : Nat := (0x6000 + n) * 256 + 0x10
def loopOutMin (n : Nat) : Nat := (0x6000 + n) * 256 + 0x11
def loopOutMax (n : Nat) : Nat := (0x6000 + n) * 256 + 0x12
def loopRateLimit (n : Nat) : Nat := (0x6000 + n) * 256 + 0x13
def loopTransferRate (n : Nat) : Nat := (0x6000 + n) * 256 + 0x14
def loopManualSource (n : Nat) : Nat := (0x6000 + n) * 256 + 0x15
def loopManualValue (n : Nat) : Nat := (0x6000 + n) * 256 + 0x16
def loopManualTrack (n : Nat) : Nat := (0x6000 + n) * 256 + 0x17
def loopFollowSource (n : Nat) : Nat := (0x6000 + n) * 256 + 0x18
def loopFollowValue (n : Nat) : Nat := (0x6000 + n) * 256 + 0x19
def loopSpValue (n : Nat) : Nat := (0x6000 + n) * 256 + 0x1A
def loopModeRequest (n : Nat) : Nat := (0x6000 + n) * 256 + 0x1B
def loopRelease (n : Nat) : Nat := (0x6000 + n) * 256 + 0x1C
def loopInitOutput (n : Nat) : Nat := (0x6000 + n) * 256 + 0x1D
def loopOutPub (n : Nat) : Nat := (0x6000 + n) * 256 + 0x1E
def loopOutMember (n : Nat) : Nat := (0x6000 + n) * 256 + 0x1F
def loopStatus (n : Nat) : Nat := (0x6000 + n) * 256 + 0x20
def loopOutput (n : Nat) : Nat := (0x6000 + n) * 256 + 0x21
def loopMeasurement (n : Nat) : Nat := (0x6000 + n) * 256 + 0x22
def loopSetpoint (n : Nat) : Nat := (0x6000 + n) * 256 + 0x23
def loopIntegrator (n : Nat) : Nat := (0x6000 + n) * 256 + 0x24
def loopOverruns (n : Nat) : Nat := (0x6000 + n) * 256 + 0x25
def clEnable : Nat := 0x608000 + 0x01
def clSchedulePeak : Nat := 0x608000 + 0x02
def clScheduleBudget : Nat := 0x608000 + 0x03
def clOverruns : Nat := 0x608000 + 0x04
def genEnable (n : Nat) : Nat := (0x6100 + n) * 256 + 0x01
def genPeriod (n : Nat) : Nat := (0x6100 + n) * 256 + 0x02
def genPhase (n : Nat) : Nat := (0x6100 + n) * 256 + 0x03
def genTargetSource (n : Nat) : Nat := (0x6100 + n) * 256 + 0x04
def genTarget (n : Nat) : Nat := (0x6100 + n) * 256 + 0x05
def genVmax (n : Nat) : Nat := (0x6100 + n) * 256 + 0x06
def genAmax (n : Nat) : Nat := (0x6100 + n) * 256 + 0x07
def genJmax (n : Nat) : Nat := (0x6100 + n) * 256 + 0x08
def genPosition (n : Nat) : Nat := (0x6100 + n) * 256 + 0x09
def genVelocity (n : Nat) : Nat := (0x6100 + n) * 256 + 0x0A
def genAcceleration (n : Nat) : Nat := (0x6100 + n) * 256 + 0x0B
def genState (n : Nat) : Nat := (0x6100 + n) * 256 + 0x0C
def cgroupMembers (n : Nat) : Nat := (0x6200 + n) * 256 + 0x01
def cgroupHead (n : Nat) : Nat := (0x6200 + n) * 256 + 0x02
def cgroupRelease (n : Nat) : Nat := (0x6200 + n) * 256 + 0x03
def cgroupHoldLatched (n : Nat) : Nat := (0x6200 + n) * 256 + 0x04
def cgroupOutput (n : Nat) : Nat := (0x6200 + n) * 256 + 0x05
def cgroupWinner (n : Nat) : Nat := (0x6200 + n) * 256 + 0x06
def cgroupOverrunRun (n : Nat) : Nat := (0x6200 + n) * 256 + 0x07
def partEnable (n : Nat) : Nat := (0x7000 + n) * 256 + 0x01
def partName (n : Nat) : Nat := (0x7000 + n) * 256 + 0x02
def partProgram (n : Nat) : Nat := (0x7000 + n) * 256 + 0x03
def partMemory (n : Nat) : Nat := (0x7000 + n) * 256 + 0x04
def partPail (n : Nat) : Nat := (0x7000 + n) * 256 + 0x05
def partWindows (n : Nat) : Nat := (0x7000 + n) * 256 + 0x06
def partStateMax (n : Nat) : Nat := (0x7000 + n) * 256 + 0x07
def partWatchdogTicks (n : Nat) : Nat := (0x7000 + n) * 256 + 0x08
def partPorts (n : Nat) : Nat := (0x7000 + n) * 256 + 0x09
def partRunState (n : Nat) : Nat := (0x7000 + n) * 256 + 0x10
def partRunUnits (n : Nat) : Nat := (0x7000 + n) * 256 + 0x11
def partLoad (n : Nat) : Nat := (0x7000 + n) * 256 + 0x12
def partOverruns (n : Nat) : Nat := (0x7000 + n) * 256 + 0x13
def partRestarts (n : Nat) : Nat := (0x7000 + n) * 256 + 0x14
def partFaults (n : Nat) : Nat := (0x7000 + n) * 256 + 0x15
def partLog (n : Nat) : Nat := (0x7000 + n) * 256 + 0x16
def partMeasurement (n : Nat) : Nat := (0x7000 + n) * 256 + 0x17
def mgrMajorFrame : Nat := 0x706000 + 0x01
def mgrCapacityReserve : Nat := 0x706000 + 0x02
def mgrLoadTotal : Nat := 0x706000 + 0x03
def mgrLoadRegion : Nat := 0x706000 + 0x04
def mgrManagerHerd : Nat := 0x706000 + 0x05
def mgrPartitionPool : Nat := 0x706000 + 0x06
def pailEnable (n : Nat) : Nat := (0x7100 + n) * 256 + 0x01
def pailBindKind (n : Nat) : Nat := (0x7100 + n) * 256 + 0x02
def pailPartition (n : Nat) : Nat := (0x7100 + n) * 256 + 0x03
def pailPasid (n : Nat) : Nat := (0x7100 + n) * 256 + 0x04
def pailQueuePairs (n : Nat) : Nat := (0x7100 + n) * 256 + 0x05
def pailImageGrant (n : Nat) : Nat := (0x7100 + n) * 256 + 0x06
def pailPhasorGrant (n : Nat) : Nat := (0x7100 + n) * 256 + 0x07
def pailGooseSubs (n : Nat) : Nat := (0x7100 + n) * 256 + 0x08
def pailGoosePubs (n : Nat) : Nat := (0x7100 + n) * 256 + 0x09
def pailCryptoSlots (n : Nat) : Nat := (0x7100 + n) * 256 + 0x0A
def pailRxQueue (n : Nat) : Nat := (0x7100 + n) * 256 + 0x0B
def pailTxQueue (n : Nat) : Nat := (0x7100 + n) * 256 + 0x0C
def pailHistTriggerEnable (n : Nat) : Nat := (0x7100 + n) * 256 + 0x0D
def pailDcFreezeEnable (n : Nat) : Nat := (0x7100 + n) * 256 + 0x0E
def pailState (n : Nat) : Nat := (0x7100 + n) * 256 + 0x10
def pailEpoch (n : Nat) : Nat := (0x7100 + n) * 256 + 0x11
def pailReset (n : Nat) : Nat := (0x7100 + n) * 256 + 0x12
def pailStateRecord (n : Nat) : Nat := (0x7100 + n) * 256 + 0x13
def pailStaleDrops (n : Nat) : Nat := (0x7100 + n) * 256 + 0x14
def pailPubLate (n : Nat) : Nat := (0x7100 + n) * 256 + 0x15
def pairEnable : Nat := 0x800000 + 0x01
def pairSide : Nat := 0x800000 + 0x02
def pairPreferredLead : Nat := 0x800000 + 0x03
def pairId : Nat := 0x800000 + 0x04
def pairRoleState : Nat := 0x800000 + 0x05
def pairHbEthertype : Nat := 0x800000 + 0x06
def pairHbDstMac : Nat := 0x800000 + 0x07
def pairHbVid : Nat := 0x800000 + 0x08
def pairHbPorts : Nat := 0x800000 + 0x09
def pairHbKeySlot : Nat := 0x800000 + 0x0A
def pairHbWait : Nat := 0x800000 + 0x0B
def pairRevertDelay : Nat := 0x800000 + 0x0C
def pairSwapInterval : Nat := 0x800000 + 0x0D
def pairSwapNow : Nat := 0x800000 + 0x0E
def pairServiceMac : Nat := 0x800000 + 0x0F
def pairPailMove : Nat := 0x800000 + 0x10
def pairPartnerSerial : Nat := 0x800000 + 0x11
def pairPathState : Nat := 0x800000 + 0x12
def pairDivergences : Nat := 0x800000 + 0x13
def pairStateMismatch : Nat := 0x800000 + 0x14
def pairStateLate : Nat := 0x800000 + 0x15
def pairDigestMissing : Nat := 0x800000 + 0x16
def pairRoleChanges : Nat := 0x800000 + 0x17
def pairLastRoleChange : Nat := 0x800000 + 0x18
def pairStateImageSize : Nat := 0x800000 + 0x19
def pairStateImageLimit : Nat := 0x800000 + 0x1A
def keysSlotsValid : Nat := 0x900000 + 0x01
def keysUpdateSeq : Nat := 0x900000 + 0x02
def keysUpdateState : Nat := 0x900000 + 0x03
def keysOrphanDenials : Nat := 0x900000 + 0x04
def keyCmdKeyCommand : Nat := 0x900100 + 0x01
def keyCmdKeyResult : Nat := 0x900100 + 0x02
def roleKey (i : Nat) : Nat := 0x900200 + 0x01 + i
def keySlot (n : Nat) : Nat := (0x9010 + n / 128) * 256 + 1 + n % 128
def lcState : Nat := 0x910000 + 0x01
def lcNonce : Nat := 0x910000 + 0x02
def lcRequest : Nat := 0x910000 + 0x03
def lcRootGen : Nat := 0x910000 + 0x04
def lcOwnerPubkey : Nat := 0x910000 + 0x05
def lcOwnerKeyAlg : Nat := 0x910000 + 0x06
def lcOwnerCosignRequired : Nat := 0x910000 + 0x07
def lcVendorKeyIndex : Nat := 0x910000 + 0x08
def lcTestAccess : Nat := 0x910000 + 0x09
def fwActiveBank : Nat := 0x911000 + 0x01
def fwSvn : Nat := 0x911000 + 0x02
def fwVersions : Nat := 0x911000 + 0x03
def fwImages : Nat := 0x911000 + 0x04
def tamperStatus : Nat := 0x914000 + 0x01
def tamperEnable : Nat := 0x914000 + 0x02
def tamperClear : Nat := 0x914000 + 0x03
def tamperLog : Nat := 0x914000 + 0x04
def tamperLogTotal : Nat := 0x914000 + 0x05
def attNonce : Nat := 0x920000 + 0x01
def attStatement : Nat := 0x920000 + 0x02
def attestPubkey : Nat := 0x920000 + 0x03
def attMeasurements : Nat := 0x920000 + 0x04
def attConfigMeasurement : Nat := 0x920000 + 0x05
def attConfigTag : Nat := 0x920000 + 0x06
def stPeriod : Nat := 0xA00000 + 0x01
def stEnable : Nat := 0xA00000 + 0x02
def stCoverageDegraded : Nat := 0xA00000 + 0x03
def stOldestTestAge : Nat := 0xA00000 + 0x04
def stResults : Nat := 0xA00000 + 0x05
def stPasses : Nat := 0xA00000 + 0x06
def stFails : Nat := 0xA00000 + 0x07
def stDeferred : Nat := 0xA00000 + 0x08
def manualUnit : Nat := 0xA01000 + 0x01
def manualSeed : Nat := 0xA01000 + 0x02
def manualCount : Nat := 0xA01000 + 0x03
def manualExpect : Nat := 0xA01000 + 0x04
def manualRun : Nat := 0xA01000 + 0x05
def manualMisr : Nat := 0xA01000 + 0x06
def manHardRepair : Nat := 0xA01000 + 0x07
def evStatus (n : Nat) : Nat := (0xB000 + n) * 256 + 0x01
def evEnableMask (n : Nat) : Nat := (0xB000 + n) * 256 + 0x02
def evResets (n : Nat) : Nat := (0xB000 + n) * 256 + 0x03
def evRoute (n : Nat) : Nat := (0xB000 + n) * 256 + 0x04
def evPailMask (n : Nat) : Nat := (0xB000 + n) * 256 + 0x05
def evMsixVector (n : Nat) : Nat := (0xB000 + n) * 256 + 0x06
def evName (n : Nat) : Nat := (0xB000 + n) * 256 + 0x07
def evLastSet (n : Nat) : Nat := (0xB000 + n) * 256 + 0x08
def opState (n : Nat) : Nat := (0xC000 + n) * 256 + 0x01
def opType (n : Nat) : Nat := (0xC000 + n) * 256 + 0x02
def opHandle (n : Nat) : Nat := (0xC000 + n) * 256 + 0x03
def opProgress (n : Nat) : Nat := (0xC000 + n) * 256 + 0x04
def opResult (n : Nat) : Nat := (0xC000 + n) * 256 + 0x05
def opDetail (n : Nat) : Nat := (0xC000 + n) * 256 + 0x06
def opRole (n : Nat) : Nat := (0xC000 + n) * 256 + 0x07
def opStarted (n : Nat) : Nat := (0xC000 + n) * 256 + 0x08
def opEnded (n : Nat) : Nat := (0xC000 + n) * 256 + 0x09
def pwrPowerState : Nat := 0xD00000 + 0x01
def pwrPowerRequest : Nat := 0xD00000 + 0x02
def pwrDomainsOn : Nat := 0xD00000 + 0x03
def supply (i : Nat) : Nat := 0xD01000 + 0x01 + i
def tempCompute : Nat := 0xD02000 + 0x01
def tempNetwork : Nat := 0xD02000 + 0x02
def tempSecurity : Nat := 0xD02000 + 0x03
def tempIo : Nat := 0xD02000 + 0x04
def tempWarn : Nat := 0xD02000 + 0x05
def tempMaxSeen : Nat := 0xD02000 + 0x06
def vbat : Nat := 0xD03000 + 0x01
def vbatLow : Nat := 0xD03000 + 0x02
def powerModulePower : Nat := 0xD04000 + 0x01
def powerPeakPower : Nat := 0xD04000 + 0x02
def pfPwrFailCount : Nat := 0xD05000 + 0x01
def gsEnable (n : Nat) : Nat := (0xE000 + n) * 256 + 0x01
def gsDstMac (n : Nat) : Nat := (0xE000 + n) * 256 + 0x02
def gsAppid (n : Nat) : Nat := (0xE000 + n) * 256 + 0x03
def gsVid (n : Nat) : Nat := (0xE000 + n) * 256 + 0x04
def gsGocbRef (n : Nat) : Nat := (0xE000 + n) * 256 + 0x05
def gsDatset (n : Nat) : Nat := (0xE000 + n) * 256 + 0x06
def gsConfRev (n : Nat) : Nat := (0xE000 + n) * 256 + 0x07
def gsMemberTypes (n : Nat) : Nat := (0xE000 + n) * 256 + 0x08
def gsTestAccept (n : Nat) : Nat := (0xE000 + n) * 256 + 0x09
def gsSimAccept (n : Nat) : Nat := (0xE000 + n) * 256 + 0x0A
def gsAuthMode (n : Nat) : Nat := (0xE000 + n) * 256 + 0x0B
def gsKeySlotA (n : Nat) : Nat := (0xE000 + n) * 256 + 0x0C
def gsKeySlotB (n : Nat) : Nat := (0xE000 + n) * 256 + 0x0D
def gsIngressMask (n : Nat) : Nat := (0xE000 + n) * 256 + 0x0E
def gsAlive (n : Nat) : Nat := (0xE000 + n) * 256 + 0x10
def gsStnum (n : Nat) : Nat := (0xE000 + n) * 256 + 0x11
def gsSqnum (n : Nat) : Nat := (0xE000 + n) * 256 + 0x12
def gsFrames (n : Nat) : Nat := (0xE000 + n) * 256 + 0x13
def gsDuplicate (n : Nat) : Nat := (0xE000 + n) * 256 + 0x14
def gsStale (n : Nat) : Nat := (0xE000 + n) * 256 + 0x15
def gsSeqGap (n : Nat) : Nat := (0xE000 + n) * 256 + 0x16
def gsWrongPort (n : Nat) : Nat := (0xE000 + n) * 256 + 0x17
def gsConfRevMismatch (n : Nat) : Nat := (0xE000 + n) * 256 + 0x18
def gsMalformed (n : Nat) : Nat := (0xE000 + n) * 256 + 0x19
def gsTestSimDiscard (n : Nat) : Nat := (0xE000 + n) * 256 + 0x1A
def gsAuthFail (n : Nat) : Nat := (0xE000 + n) * 256 + 0x1B
def gsLastRx (n : Nat) : Nat := (0xE000 + n) * 256 + 0x1C
def gpEnable (n : Nat) : Nat := (0xE400 + n) * 256 + 0x01
def gpDstMac (n : Nat) : Nat := (0xE400 + n) * 256 + 0x02
def gpAppid (n : Nat) : Nat := (0xE400 + n) * 256 + 0x03
def gpVidPcp (n : Nat) : Nat := (0xE400 + n) * 256 + 0x04
def gpGocbRef (n : Nat) : Nat := (0xE400 + n) * 256 + 0x05
def gpDatset (n : Nat) : Nat := (0xE400 + n) * 256 + 0x06
def gpGoId (n : Nat) : Nat := (0xE400 + n) * 256 + 0x07
def gpConfRev (n : Nat) : Nat := (0xE400 + n) * 256 + 0x08
def gpMemberTypes (n : Nat) : Nat := (0xE400 + n) * 256 + 0x09
def gpMinTime (n : Nat) : Nat := (0xE400 + n) * 256 + 0x0A
def gpMaxTime (n : Nat) : Nat := (0xE400 + n) * 256 + 0x0B
def gpSrcMode (n : Nat) : Nat := (0xE400 + n) * 256 + 0x0C
def gpAuthMode (n : Nat) : Nat := (0xE400 + n) * 256 + 0x0D
def gpKeySlot (n : Nat) : Nat := (0xE400 + n) * 256 + 0x0E
def gpStnum (n : Nat) : Nat := (0xE400 + n) * 256 + 0x0F
def gpSqnum (n : Nat) : Nat := (0xE400 + n) * 256 + 0x10
def gpWithheld (n : Nat) : Nat := (0xE400 + n) * 256 + 0x11

end Od

end Sys2Proof
end

