-- ==== Sys2Proof/Machine/State.lean ====
section
/-!
DEFINITION. The machine's state: plain data, every piece of state the spec gives the module.
Dictionary entries that hold a number (every type of R428 but STRING and DOMAIN) are kept in `regs`, keyed
`index * 256 + subindex`; the others in `blobs`. Both list only values that differ from the entry's default, which
Machine/OdTable.lean holds. State that no entry names stands in the structures below, one for each block of the module.
-/

namespace Sys2Proof.Machine

/-- A table with a default: the entries that differ from it, by rising key. -/
abbrev Tab (α : Type) := List (Nat × α)

/-! ### The time unit (02_drips_turns_and_station_time.md) -/

/-- The servo states of R56, coded as SERVO_STATE of R72. -/
inductive Servo where
  | freeRun | acquiring | locked | holdover | holdoverOutOfSpec
  deriving DecidableEq, Repr

/-- The selected time source of R57. -/
inductive TimeSource where
  | ptp (port : Nat)
  | pps
  deriving DecidableEq, Repr

/-- A valid peer-delay exchange (R55): the link delay it gave, the responder's transmit time where it was told, the
receive time of the response. -/
structure PdExchange where
  delay : Int
  t3 : Option Nat
  t4 : Nat
  deriving DecidableEq, Repr

/-- PTP state of one port (R52 to R55): the last five valid peer-delay exchanges, newest first, and how many have completed
in a row since link-up; the exchange in progress (its request's sequence and transmit time, the two-step response waiting
for its follow-up: receive time, request receipt time in seconds and nanoseconds, correction); the best Announce heard and when; the Sync waiting for
its Follow_Up (receive time and correction); residence times and Follow_Ups of a two-step transparent clock, by sequence. -/
structure PtpPort where
  exchanges : List PdExchange := []
  validSinceUp : Nat := 0
  awaiting : Bool := false
  reqSeq : Nat := 0
  reqSentAt : Option Nat := none
  respPending : Option (Nat × Nat × Nat × Int) := none
  foreign : Option Announce := none
  lastAnnounce : Nat := 0
  syncSeq : Nat := 0
  announceSeq : Nat := 0
  syncPending : Option (Nat × Nat × Int) := none
  tcResidence : Tab Int := []
  tcFollow : Tab PtpMsg := []
  deriving DecidableEq, Repr

/-- The time unit: the drip count and the servo that steers it (R50, R56 to R60, R511), PPS_IN (R61, R62), PPS_OUT
(R63), the PTP ports. -/
structure TimeUnit where
  /-- The drip count, DRIP80 (R50). -/
  now : Nat := 0
  /-- SERVO_STATE (R56). -/
  servo : Servo := .freeRun
  /-- The selected source (R57). -/
  source : Option TimeSource := none
  /-- The selected source is valid (R56). -/
  sourceValid : Bool := false
  /-- The last measured offset, DRIP64 (R58, OFFSET of R72). -/
  offset : Int := 0
  /-- An offset from SET_TIME still being slewed away (R511). -/
  setOffset : Int := 0
  setAt : Nat := 0
  /-- The offset last measured at the PTP slave port, whichever source is selected: it tells the second number (R62). -/
  ptpOffset : Option Int := none
  /-- Consecutive measurements within the lock threshold (R56). -/
  lockRun : Nat := 0
  /-- The rate offset in force, 2^-48 (R50). -/
  freq : Int := 0
  /-- The filtered frequency stored in MRAM, if any (R56). -/
  storedFreq : Option Int := none
  /-- When the frequency was last stored (R56). -/
  storedAt : Nat := 0
  /-- When holdover began, and the magnitude of the filtered offset then (R60). -/
  holdSince : Nat := 0
  holdError : Nat := 0
  /-- The clock is frozen: OSC_10M is lost (R497). -/
  frozen : Bool := false
  /-- PPS_IN is valid, locked once, and when its last edge was accepted (R62). -/
  ppsValid : Bool := false
  ppsLocked : Bool := false
  ppsLastEdge : Nat := 0
  ppsRejected : Nat := 0
  /-- PPS_OUT is high, and since when (R63). -/
  ppsOut : Bool := false
  ppsRoseAt : Nat := 0
  /-- PPS_OUT offset, width and mode in force since the last top of a second (R63). -/
  ppsOffset : Int := 0
  ppsWidth : Nat := 6871947674
  ppsMode : Nat := 1
  /-- The top of a second from which written PPS_OUT settings are in force. -/
  ppsChangeAt : Option Nat := none
  /-- PTP messages discarded as malformed (R44). -/
  malformed : Nat := 0
  ptp : Tab PtpPort := []
  /-- A tick rate committed and not yet in force, and the second boundary at which it applies (R49). -/
  rateNext : Option (Nat × Nat) := none
  deriving DecidableEq, Repr

/-! ### Ports (03_ports_and_mac.md) -/

/-- A PTP message of the time unit on its way out (R45, R52 to R54): its time and correction in 2^-16 ns, and the
receive timestamp from which a residence or turnaround time runs; `inFrame` says that what the port adds as the message
departs goes into it (one-step), `twoStep` is its flag. -/
structure PtpTx where
  kind : PtpKind
  seq : Nat
  twoStep : Bool
  seconds : Nat
  nanos : Nat
  correction : Int
  residenceFrom : Option Nat
  data : Option Announce
  /-- The request's correction, for the follow-up of a peer-delay response. -/
  carry : Int
  inFrame : Bool := false
  deriving DecidableEq, Repr

/-- A transmit timestamp queue entry (R67), the instant of its capture (R68) and the tick then in progress (R71). -/
structure TsEntry where
  ts : Nat
  seqId : Nat
  msg : Nat
  domain : Nat
  owner : Nat
  nonPtp : Bool
  captured : Nat
  tick : Nat
  /-- The switch frame it belongs to, and the message of the time unit that waits for it. -/
  frameId : Nat
  ptp : Option PtpTx
  deriving DecidableEq, Repr

/-- A frame in reception (R88 to R90): its identity in the switch once classified, its receive
timestamp (R66), whether it is dropped, its header once it has arrived; a frame of a PRP group is judged as it ends, when its
trailer has been received (R137): the group, and whether the port is its PORT_A. -/
structure Reception where
  startedAt : Nat
  dropped : Bool
  frame : Option Frame
  swId : Option Nat
  prp : Option (Nat × Bool) := none
  deriving DecidableEq, Repr

/-- The PAUSE state of a port (R96): none, pending for so many quanta, or running to an instant. -/
inductive Pause where
  | none
  | pending (quanta : Nat)
  | running (until_ : Nat)
  deriving DecidableEq, Repr

/-- What a port is sending: a frame of the egress area by identity, or a PAUSE it generated (R97). -/
inductive Sending where
  | frame (id : Nat)
  | pause (quanta : Nat)
  deriving DecidableEq, Repr

/-- A port: link, reception, transmission, PAUSE, timestamps, speed lowering (R64 to R104). -/
structure Port where
  /-- The link is up (R100, R102). -/
  linkUp : Bool := false
  /-- Retired for repeated loss of lock (R77, R399). -/
  retired : Bool := false
  /-- CURRENT_MODE and CURRENT_SPEED (R75, R105). -/
  mode : Nat := 4
  speed : Nat := 0
  /-- The rate the SGMII PHY last reported; 0 before its first report (R75). -/
  phySpeed : Nat := 0
  /-- The SGMII PHY reports half duplex, so the link is held down (R74). -/
  duplexHeld : Bool := false
  /-- The frame in reception (R88). -/
  rx : Option Reception := none
  /-- Occupancy of the 16 KiB receive buffer (R88). -/
  rxUsed : Nat := 0
  /-- What is being sent (R125, R128). -/
  tx : Option Sending := none
  pause : Pause := .none
  /-- An XOFF has been sent and not yet withdrawn (R97). -/
  xoff : Bool := false
  xoffSentAt : Nat := 0
  /-- Generated PAUSE frames waiting for the frame in transmission (R97). -/
  pauseOut : List Nat := []
  /-- The 64-entry transmit timestamp queue, oldest first (R67). -/
  tsQueue : List TsEntry := []
  /-- The instant of the last collection and how many entries were freed at it (R69). -/
  tsFreedAt : Nat := 0
  tsFreed : Nat := 0
  /-- The instant at which a counter last reached half range, and the bits of HALF_RANGE_MAP set at it (R93). -/
  halfAt : Nat := 0
  halfBits : Nat := 0
  /-- When the PCS last lost the link (R102). -/
  pcsLostAt : Option Nat := none
  /-- Running in LOWER_MODE; the last automatic change; further changes blocked (R98, R99). -/
  lowered : Bool := false
  lastSpeedChange : Option Nat := none
  speedBlocked : Bool := false
  /-- A change that waits for the end of the frame in transmission: to LOWER_MODE, or back (R98). -/
  speedWaits : Option Bool := none
  /-- Octets received and sent in the last 100 ms, newest first, with the instants of the frames' ends; until when the
  utilisation of a direction is at or above LOWER_THRESHOLD; RAISE_THRESHOLD was exceeded since the last change (R98). -/
  rxLoad : List (Nat × Nat) := []
  txLoad : List (Nat × Nat) := []
  busyUntil : Nat := 0
  raiseSeen : Bool := false
  /-- Deficits of classes 1 to 6 (R125). -/
  deficits : List Nat := [0, 0, 0, 0, 0, 0]
  /-- The class the deficit round-robin serves (R125). -/
  drr : Nat := 0
  deriving DecidableEq, Repr

/-! ### Switch core and separator (04_switch_core_and_separator.md) -/

/-- Where a switched frame stands at one egress class queue (R111, R127). -/
structure Egress where
  port : Nat
  cls : Nat
  cutThrough : Bool
  started : Bool
  /-- Sent with the HSR tag it came with: to the other ring port or to a QuadBox peer (R136, R140). -/
  keepTag : Bool
  deriving DecidableEq, Repr

/-- A frame in the egress area (R106, R110, R114): header, cells, generation of its decision, receive timestamp or entry
instant for its age (R112), completeness, and the queues that still hold it. -/
structure SwFrame where
  frame : Frame
  ingress : Option Nat
  cells : Nat
  generation : Nat
  ageFrom : Nat
  bytesIn : Nat
  complete : Bool
  bad : Bool
  egress : List Egress
  /-- The sender's request: timestamp owner and tag (R67), and the pail whose TX_FRAME it is (R245). -/
  tsOwner : Option Nat
  tsTag : Nat
  /-- The message, for a frame of the time unit. -/
  ptp : Option PtpTx
  /-- Sequence numbers taken for the redundancy groups it is sent into (R136). -/
  seqs : List (Nat × Nat)
  /-- KIND of the redundancy group it came in on, whose tag or trailer is removed where it leaves; 0 for none (R116, R136). -/
  inKind : Nat := 0
  deriving DecidableEq, Repr

/-- A frame in a local receive queue (R87). -/
structure LocalFrame where
  frame : Frame
  port : Nat
  len : Nat
  rxTime : Nat
  truncated : Bool
  complete : Bool
  cells : Nat
  deriving DecidableEq, Repr

/-- A source entry of the separator (R137): key, TOP, the windows (delivery, ring A to B, ring B to A) as 64-bit masks
with bit 0 for TOP, when it last accepted, whether it is proxied (R140). -/
structure SrcEntry where
  group : Nat
  mac : Nat
  top : Nat
  windows : List Nat
  lastAccept : Nat
  forgotten : Bool
  proxied : Bool
  /-- Entered for a proxied node and not yet judged. -/
  fresh : Bool
  deriving DecidableEq, Repr

/-- The switch core and the separator. -/
structure Switch where
  /-- F, the free cells of the egress area (R108). -/
  free : Nat := 24576
  /-- Cells charged to each egress class queue, keyed `port * 8 + class` (R108). -/
  accounts : Tab Nat := []
  /-- The frames in the egress area by identity (R106). -/
  frames : Tab SwFrame := []
  /-- The egress class queues, keyed `port * 8 + class`: frame identities, head first (R111). -/
  queues : Tab (List Nat) := []
  nextId : Nat := 0
  /-- The 16 local receive queues (R87). -/
  localQs : Tab (List LocalFrame) := []
  /-- Instants of recent generation-changing writes (R123). -/
  tableWrites : List Nat := []
  /-- The generations that TABLE_BARRIERs wait for (R124). -/
  barriers : List Nat := []
  /-- The source table of the separator, most recently used first (R137, R139). -/
  sources : List SrcEntry := []
  /-- One 16-bit sequence counter per redundancy group (R136). -/
  groupSeq : Tab Nat := []
  /-- When each group port last received a tagged frame, or has been watched since, keyed `group * 2 + (0 for A, 1 for B)`
  (R141). -/
  lastTagged : Tab Nat := []
  /-- Groups that are LAN_SILENT (R141, R470). -/
  silent : List Nat := []
  /-- Operations on the memory for local copies and the module's own frames in the last 2 µs: instant and number (R107). -/
  internalOps : List (Nat × Nat) := []
  deriving DecidableEq, Repr

/-! ### Ingest and the tick image (05_sampled_value_ingest_and_the_tick_image.md) -/

/-- How a sample stands (R157 to R160). -/
inductive Judged where
  | waiting | present | missing
  deriving DecidableEq, Repr

/-- What makes a stream the one it is: the keys of its entry and its rate (R146, R149). -/
structure StreamKeys where
  dst : Nat
  appid : Nat
  vid : Nat
  rate : Nat
  svid : List Byte
  deriving DecidableEq, Repr

/-- A position of a raw ring (R157 to R160): the stream whose sample it is (R148), whether an accepted ASDU brought the sample, when it
arrived, whether its ASDU was UNSYNCED, whether samples under test are used (R151), its channels, the judgement, and whether its
substitution has been counted (R161). -/
structure RawSample where
  keys : StreamKeys
  received : Bool
  arrival : Nat
  unsynced : Bool
  testOk : Bool
  samples : List Sample
  judged : Judged
  substituted : Bool
  deriving DecidableEq, Repr

/-- A stream subscription's running state (R148 to R168): its raw ring keyed by sample number, the sample numbers accepted
or counted LATE lately (R160) and the stream they are of, the highest sample number judged and what it was before the last close, its ALIVE bit,
whether a LATE was counted since the previous image, and whether the image now closed tells of one. -/
structure Stream where
  ring : Tab RawSample := []
  seen : List Nat := []
  keys : Option StreamKeys := none
  judgedTo : Option Nat := none
  judgedBefore : Nat := 0
  /-- When accepted ASDUs arrived, newest first: those since the deadline of the last image, and the last before it (R168). -/
  arrivals : List Nat := []
  alive : Bool := false
  lateSeen : Bool := false
  lateShown : Bool := false
  deriving DecidableEq, Repr

/-- A slot of a tick image (R169): VALUE as S48 and the STATUS word. -/
structure Slot where
  value : Int
  status : Nat
  deriving DecidableEq, Repr

/-- An image descriptor (R170) with its ALIVE bits, and the image's slots by channel. -/
structure ImageSlot where
  tick : Nat
  instant : Nat
  tickRate : Nat
  timeState : Nat
  flags : Nat
  subscriptionGen : Nat
  invalidCount : Nat
  substitutedCount : Nat
  lateCount : Nat
  releaseNs : Nat
  alive : List Nat
  slots : Tab Slot
  deriving DecidableEq, Repr

/-- What one image leaves for the windows (R190, R194): its tick, the decimated output, the aligned value and slope at the
image instant, the oscillator phase and f_g of that tick, the slot's status, whether the output counts as settling (R198). -/
structure HistPoint where
  tick : Nat
  v : Int
  y : Int
  slope : Int
  theta : Nat
  freq : Nat
  status : Nat
  unsettled : Bool
  deriving DecidableEq, Repr

/-- What a FIR clear and a phasor restart follow (R187): the profile in use with its TAPS, DECIMATION, SYMMETRIC and
COEFFICIENTS, and the frequency group. -/
structure FilterUse where
  profile : Nat
  taps : Nat
  decimation : Nat
  symmetric : Bool
  coefficients : List Byte
  group : Nat
  deriving DecidableEq, Repr

/-- Where an image channel's samples come from (R149): the entry, the place within its ASDU, the DELAY, the stream. -/
structure Source where
  entry : Nat
  place : Nat
  delay : Int
  keys : StreamKeys
  deriving DecidableEq, Repr

/-- The filter state of one image channel (R149, R161, R180 to R198): the source it is mapped to (stream, channel within
it, DELAY), the filter in use; the DC estimate with 48 further fractional bits, the blocked samples by number; the FIR inputs
newest first; the points of the windows newest first; how far its samples
have been scanned for missing runs, and where the recovery stands. -/
structure Channel where
  source : Option Source := none
  filter : Option FilterUse := none
  dc : Int := 0
  blockedTo : Option Nat := none
  blocked : Tab Int := []
  fir : List Int := []
  hist : List HistPoint := []
  scannedTo : Nat := 0
  /-- INVALID under R149 or R161 until four samples in a row are present; the first of those counted so far. -/
  invalid : Bool := true
  runGood : Nat := 0
  recoverFrom : Nat := 0
  /-- The first sample number at or after which a neighbourhood must lie. -/
  validFrom : Nat := 0
  /-- A restart is due at the next valid image (R187), or at a given image (R207). -/
  restartDue : Bool := true
  restartAt : Option Nat := none
  deriving DecidableEq, Repr

/-- A frequency group (R189, R192, R193): oscillator phase; the frequency last estimated, exactly, if any; the channel in
use; ticks of hold left; the reference angles of past ticks while it is in use, and the frequencies of past ticks, newest
first; the last record. -/
structure FreqGroup where
  theta : Nat := 0
  freq : Option Rat := none
  inUse : Option Nat := none
  holdLeft : Nat := 0
  angles : List Nat := []
  freqs : List Rat := []
  status : Nat := 1
  deriving DecidableEq, Repr

/-- A phasor record (R200). -/
structure PhasorRec where
  real : Int
  imag : Int
  mag : Nat
  angle : Nat
  status : Nat
  skew : Int
  source : Nat
  tickLow : Nat
  deriving DecidableEq, Repr

/-- A frequency record (R202). -/
structure FreqRec where
  freq : Int
  rocof : Int
  status : Nat
  ref : Nat
  tickLow : Nat
  deriving DecidableEq, Repr

/-- Why the fall-back engine serves a slice (R207). -/
inductive FbKind where
  | test | retired | mirror
  deriving DecidableEq, Repr

/-- The service of a slice by the fall-back engine: from an image instant to another (R207). -/
structure FbServe where
  kind : FbKind
  from_ : Nat
  until_ : Option Nat
  deriving DecidableEq, Repr

/-- DC freeze requests as they stand at a boundary (R181): the map, the churn engine's group bits, the pails' group bits. -/
structure Freeze where
  map : Nat := 0
  groups : Nat := 0
  pails : Tab Nat := []
  deriving DecidableEq, Repr

/-- Ingest, the filter slices, the fall-back engine and their rings. -/
structure DataPath where
  streams : Tab Stream := []
  channels : Tab Channel := []
  groups : Tab FreqGroup := []
  /-- The image ring, by slot `tick mod 64` (R171). -/
  images : Tab ImageSlot := []
  /-- The images last closed and released (R158, R171), and those whose phasors were last released (R197). -/
  lastClosed : Option Nat := none
  lastReleased : Option Nat := none
  lastPhasor : Option Nat := none
  /-- Samples counted LATE since the last close, and those the image now closed tells of (R170). -/
  lateCount : Nat := 0
  lateShown : Nat := 0
  /-- The phasor ring keyed `(tick mod 64) * 8192 + output` (R199), the frequency ring keyed `(tick mod 64) * 64 + group` (R202). -/
  phasors : Tab PhasorRec := []
  freqRecs : Tab FreqRec := []
  /-- Lane groups reported in the current tick, keyed by slice: group numbers (R203); slice 4 is the fall-back engine. -/
  mismatched : Tab (List Nat) := []
  /-- Image slots, by tick and channel, that a double-bit error in a raw ring covers (R402). -/
  damaged : List (Nat × Nat) := []
  /-- The fall-back engine's services of each slice, newest first (R207), and the channels shed from an image instant on (R206). -/
  fb : Tab (List FbServe) := []
  sheds : List (Nat × List Nat) := []
  /-- DC freeze requests sampled at the last boundary, and those the image now closed uses (R181). -/
  freezeNow : Freeze := {}
  freezeImage : Freeze := {}
  /-- SERVO_STATE at past tick instants (R164), by tick. -/
  timeAt : Tab Nat := []
  /-- The first tick instant at or after the new time of the last step: no earlier image is built (R59). -/
  imagesFrom : Nat := 0
  deriving DecidableEq, Repr

/-! ### The curd store (06_filter_chain_phasors_and_history.md) -/

/-- A curd block (R208). -/
structure Curd where
  channel : Nat
  mant : List Int
  exp : Nat
  flags : Nat
  seq : Nat
  deriving DecidableEq, Repr

/-- A frame of curd blocks: its first tick, its blocks (R210), a bit for each of its images that has TIME_STATE LOCKED (R216). -/
structure CurdFrame where
  tick : Nat
  blocks : List Curd
  locked : Nat
  deriving DecidableEq, Repr

/-- A history window (R212 to R214): 0 free, 1 capturing, 2 held, 3 exporting. -/
structure Window where
  state : Nat := 0
  first : Nat := 0
  last : Nat := 0
  trigger : Nat := 0
  triggers : Nat := 0
  truncated : Bool := false
  deriving DecidableEq, Repr

/-- The curd store: frames oldest first, the eight windows, the export's protection (R210 to R215). -/
structure History where
  frames : List CurdFrame := []
  /-- RESTARTS of the stored channels at the first tick of the group of eight now filling (R208). -/
  seqs : Tab Nat := []
  windows : Tab Window := []
  exportRange : Option (Nat × Nat) := none
  exportSlot : Option Nat := none
  deriving DecidableEq, Repr

/-! ### Partitions and pails (07_partitions_and_pails.md) -/

/-- Run states of a partition (R264); RUN_STATE shows a running one as suppressed while its outputs are. -/
inductive RunState where
  | stopped | running | restarting | migrating
  deriving DecidableEq, Repr

/-- A state region (R235). -/
structure Region where
  addr : Nat
  len : Nat
  deriving DecidableEq, Repr

/-- The privilege modes of R222: M, HS (the manager), VS and VU (partitions). -/
inductive Priv where
  | m | hs | vs | vu
  deriving DecidableEq, Repr

/-- What a core unit holds beside the hart it runs (R222): the 16 entries of its PMP, configuration and address, and
hpmcounter3 to hpmcounter6. The module's firmware alone writes them. -/
structure CoreUnit where
  pmp : List (Nat × Nat) := List.replicate 16 (0, 0)
  hpm : List Nat := [0, 0, 0, 0]
  deriving DecidableEq, Repr

/-- A message between partitions (R233). -/
structure Message where
  sender : Nat
  data : List Byte
  deriving DecidableEq, Repr

/-- A partition: its virtual hart's results registers a0 to a3 and entry pc, its windows, timer, regions, messages, log,
watchdog (R225 to R236). -/
structure Partition where
  run : RunState := .stopped
  /-- Results of the last monitor call, a0 to a3 (R232), or the entry registers of R231. -/
  regs : List Int := [0, 0, 0, 0]
  /-- The pc at entry, and vsatp (R231). -/
  pc : Nat := 0
  vsatp : Nat := 0
  /-- The privilege mode of the hart (R222, R231), and its hcounteren: it may read cycle, time and instret (R223). -/
  priv : Priv := .vs
  hcounteren : Nat := 7
  /-- The window that is open, if any (R226), the instant from which the partition runs in it, after the manager's switch, and
  the instant of its end. -/
  window : Option Nat := none
  runsFrom : Nat := 0
  windowEndsAt : Nat := 0
  /-- TICK_DONE has been called in the current work tick; an overrun of it has been counted (R229). -/
  done : Bool := false
  overran : Bool := false
  /-- The VS timer as a time value (R232), its interrupt pending, the external interrupt pending (R251). -/
  timer : Option Nat := none
  timerPending : Bool := false
  extPending : Bool := false
  /-- Declared state regions in force and, once changed, those effective from the next boundary (R235). -/
  regions : Tab Region := []
  regionsNext : Option (Tab Region) := none
  /-- Regions captured at the last TICK_DONE, by region number (R236). -/
  captured : Tab (List Byte) := []
  /-- Messages waiting to be received, and messages sent to it in this work tick (R233). -/
  inbox : List Message := []
  sent : List Message := []
  logRing : List (List Byte) := []
  /-- Work ticks since the last kick (R234). -/
  watchdog : Nat := 0
  /-- A restart is due, with its cause, from a work tick on (R231). -/
  restartDue : Option Nat := none
  restartFrom : Nat := 0
  /-- Outputs are suppressed on this module before this work tick, and for as long as the partition awaits a place in the
  reserve (R21, R23, R24, R402). -/
  suppressedTo : Nat := 0
  displaced : Bool := false
  /-- Outputs are suppressed until the regions asked for after a double-bit error are written (R402). -/
  held : Bool := false
  /-- The last checkpoint: the registers at the start of the work tick, and then of each window that opens in it (R20, R224). -/
  checkpoint : List Int := [0, 0, 0, 0]
  /-- Its REGION sections were asked for and have not come (R342). -/
  awaitingRegions : Bool := false
  /-- REGION sections of the partner to be written between windows, by region number (R236, R341). -/
  resync : Tab (List Byte) := []
  /-- Resynchronisations from the partner and the work tick of the last (R232). -/
  resyncs : Nat := 0
  lastResync : Nat := 0
  /-- Windows in use, as the words of R225: the configured table's, or the manager's own in the reserve (R230); the list
  that takes their place where a major frame begins (R227, R262). -/
  windows : List Nat := []
  windowsNext : Option (List Nat) := none
  /-- A migration's new window list while it waits for MIGRATE_READY, and the work tick in which the wait began (R262). -/
  migrateTo : Option (List Nat) := none
  migrateSince : Nat := 0
  /-- Needed memory could not be placed (R265, R424). -/
  unplaced : Bool := false
  deriving DecidableEq, Repr

/-- One queue pair of a pail (R239, R240, R245). -/
structure Queue where
  sqBase : Nat := 0
  cqBase : Nat := 0
  ctrl : Nat := 1088
  sqHead : Nat := 0
  sqTail : Nat := 0
  cqHead : Nat := 0
  cqTail : Nat := 0
  cqPhase : Bool := true
  error : Nat := 0
  /-- Receive buffers posted: address, length, descriptor flags (R242). -/
  buffers : List (Nat × Nat × Nat) := []
  deriving DecidableEq, Repr

/-- A TX_FRAME that waits for its timestamp (R245): queue, tag, flags, switch frame, transmit timestamp once captured. -/
structure PendingTx where
  queue : Nat
  tag : Nat
  flags : Nat
  len : Nat
  frameId : Nat
  epoch : Nat
  lost : Bool
  deriving DecidableEq, Repr

/-- Pail states (R239). -/
inductive PailState where
  | disabled | active | resetting | frozen
  deriving DecidableEq, Repr

/-- The event ring registers of a pail (R239, R250, R251). -/
structure EvRing where
  base : Nat := 0
  ctrl : Nat := 8
  head : Nat := 0
  tail : Nat := 0
  lost : Nat := 0
  /-- Dropped since the last OVERFLOW entry (R251). -/
  lostSince : Nat := 0
  phase : Bool := true
  /-- The MODULE_EVENT entries posted last that share one TIME, and that TIME: slot, source, data, phase (R478). -/
  run : List (Nat × Nat × Nat × Bool) := []
  runTime : Nat := 0
  deriving DecidableEq, Repr

/-- Dirty logging registers (R239, R258, R259). -/
structure Dirty where
  origin : Nat := 0
  inUse : Nat := 0
  next : Nat := 0
  prev : Nat := 0
  span : Nat := 0
  ctrl : Nat := 0
  deriving DecidableEq, Repr

/-- A pail: its register window and the work behind it (R237 to R261). Member cells are the 64-bit words of R246. -/
structure Pail where
  state : PailState := .disabled
  /-- CTRL.FREEZE; until the pail is FROZEN, STATE.FREEZING shows it (R239, R260). -/
  freeze : Bool := false
  /-- The work tick in which the freeze was requested (R260). -/
  freezeAt : Nat := 0
  epoch : Nat := 0
  resetCount : Nat := 0
  resetAt : Nat := 0
  /-- A CTRL.RESET reached the pail in the cycle in which its reset completes: another one follows (R257). -/
  again : Bool := false
  /-- The publications of the work tick that ended last were withheld (R248). -/
  suppressed : Bool := false
  queues : Tab Queue := []
  ev : EvRing := {}
  dirty : Dirty := {}
  dcFreeze : Nat := 0
  /-- Staged member cells keyed `slot * 32 + member`; the committed ones are the publication's (R246). -/
  staged : Tab Nat := []
  /-- PUB_STATUS: slots committed in this work tick, LATE (R246, R247). -/
  committed : Nat := 0
  late : Bool := false
  /-- Writes of PUB_COMMIT in the cycle of a boundary, oldest first: they belong to the new work tick (R247). -/
  commits : List Nat := []
  pendingTx : List PendingTx := []
  deriving DecidableEq, Repr

/-! ### The churn engine (08_churn_engine.md) -/

/-- Engine states (R300). -/
inductive EngineState where
  | stopped | running | safeStop
  deriving DecidableEq, Repr

/-- The state of a stateful block: ET or CV, RUN, PREV (R279, R280, R338). A CTUD block, which sees two edges and has no use
for RUN, keeps the previous value of CD there. -/
structure BlockState where
  val : Int := 0
  run : Bool := false
  prev : Bool := false
  deriving DecidableEq, Repr

/-- Variables, block states and Q' values at one point of the cycle (R281); words as 32-bit patterns. -/
structure Vars where
  bits : Tab Bool := []
  words : Tab Nat := []
  states : Tab BlockState := []
  /-- Q' of a block by its number (R276, R294). -/
  q : Tab Int := []
  deriving DecidableEq, Repr

/-- An accepted online batch (R291, R292): kind, target and value of each entry, and the instant of acceptance. -/
structure Batch where
  entries : List (Nat × Nat × Nat)
  acceptedAt : Nat
  deriving DecidableEq, Repr

/-- The churn engine. -/
structure Churn where
  state : EngineState := .stopped
  committed : Vars := {}
  working : Vars := {}
  /-- The evaluation of a cycle is in progress, or has completed and not been committed (R281). -/
  evaluating : Bool := false
  evalDone : Bool := false
  /-- The work tick at whose boundary the engine last ran R281. -/
  boundaryAt : Option Nat := none
  /-- The first cycle after a start has not completed; a start is due (R289, R298). -/
  firstCycle : Bool := true
  startDue : Bool := false
  loadConstants : Bool := true
  lastSkipped : Bool := false
  overrunRun : Nat := 0
  /-- Snapshot instant of the cycle in progress and of the last completed one, ELAPSED (R279). -/
  snapAt : Nat := 0
  snapTick : Nat := 0
  doneAt : Option Nat := none
  elapsed : Int := 0
  cycleCount : Nat := 0
  /-- The program, tables and CYCLE_TICKS in use since the last start (R298). -/
  program : List Byte := []
  inputs : List Byte := []
  outputs : List Byte := []
  cycleTicks : Nat := 1
  /-- Constants in use that online batches changed, by block (R298). -/
  constants : Tab Nat := []
  batch : Option Batch := none
  /-- The active forces, by `space * 65536 + variable` (R293). -/
  forces : Tab Nat := []
  /-- DC-freeze bits of the frequency groups and the history trigger as last driven (R288). -/
  freezeGroups : Nat := 0
  prevTrigger : Bool := false
  /-- Debounced GPIO input levels, and the level and length of each run of samples (R286). -/
  gpio : Nat := 0
  gpioRun : Tab (Nat × Nat) := []
  /-- Output levels driven to GPIO lands; none is high impedance (R286, R494). -/
  gpioOut : Tab Bool := []
  /-- Input words as the last completed cycle saw them, for PREV (R277). -/
  inputsDone : Tab Nat := []
  /-- The partner's CHURN section that takes the place of the next commit (R341). -/
  adopt : Option (List Byte) := none
  /-- A double-bit error lies in the state, and no section has been adopted since (R402). -/
  poisoned : Bool := false
  deriving DecidableEq, Repr

/-! ### The closed-loop engine (09_closed_loop_engine.md) -/

/-- A member loop's state (R306, R307), binary64 as bit patterns; `status` holds the bits of R319 that are the loop's own. -/
structure Loop where
  iState : Nat := 0
  dState : Nat := 0
  yPrev : Nat := 0
  status : Nat := 0
  measurement : Nat := 0
  setpoint : Nat := 0
  deriving DecidableEq, Repr

/-- An output unit, by its head loop (R308 to R318). -/
structure Unit_ where
  /-- out_prev, and its value before the computation of the present work tick (R302). -/
  out : Nat := 0
  outBefore : Nat := 0
  /-- The work tick of the last computation, completed or abandoned. -/
  computedAt : Option Nat := none
  /-- Effective and requested mode of the last completed computation. -/
  mode : Nat := 3
  requested : Nat := 3
  overrunRun : Nat := 0
  latch : Bool := false
  latchedAt : Nat := 0
  numeric : Bool := false
  overran : Bool := false
  transferring : Bool := false
  /-- HOLD by item 1 or 2 of R308; a source was INVALID. -/
  held : Bool := false
  invalid : Bool := false
  /-- A tuning entry has changed since the last computation (R310, R321). -/
  tuned : Bool := false
  winner : Option Nat := none
  deriving DecidableEq, Repr

/-- A profile generator (R313, R314). -/
structure Gen where
  x : Nat := 0
  vel : Nat := 0
  acc : Nat := 0
  lastTarget : Nat := 0
  started : Bool := false
  moving : Bool := false
  held : Bool := false
  computedAt : Option Nat := none
  deriving DecidableEq, Repr

/-- The closed-loop engine. -/
structure Loops where
  loops : Tab Loop := []
  units : Tab Unit_ := []
  gens : Tab Gen := []
  /-- The LOOP_MODE word last driven for each loop (R312). -/
  modeWords : Tab Nat := []
  /-- As for the churn engine (R402). -/
  poisoned : Bool := false
  deriving DecidableEq, Repr

/-! ### GOOSE and the pair (10_station_pair.md, 14_dictionary_map.md) -/

/-- A GOOSE subscription's running state (R249, R285, R464 to R468): the last accepted message and the snapshot. -/
structure Sub where
  cells : Tab Nat := []
  stNum : Nat := 0
  sqNum : Nat := 0
  ttl : Nat := 0
  flags : Nat := 0
  lastRx : Option Nat := none
  lastTick : Nat := 0
  snapCells : Tab Nat := []
  snapSt : Nat := 0
  snapSq : Nat := 0
  snapFlags : Nat := 0
  snapAge : Nat := 0
  alive : Bool := false
  deriving DecidableEq, Repr

/-- A publication's publisher state (R246, R343): committed cells, the last dataset sent, stNum, sqNum, ticks to the next
frame, the interval in ms, t, whether it starts afresh; the instant of its TIMESTAMP members and whether time was good
there, as committed and as last sent. -/
structure Pub where
  cells : Tab Nat := []
  lastSent : Tab Nat := []
  stamp : Nat × Bool := (0, false)
  stampSent : Nat × Bool := (0, false)
  stNum : Nat := 1
  sqNum : Nat := 0
  ticksLeft : Nat := 0
  interval : Nat := 0
  changedAt : Nat := 0
  fresh : Bool := true
  /-- The lead's hash of the last dataset sent, where a COUNTERS section took the place of this module's own (R341). -/
  adopted : Option (List Byte) := none
  deriving DecidableEq, Repr

/-- Pair roles of R329, coded as HEARTBEAT STATE. -/
inductive Role where
  | init | syncing | follow | lead | withdrawn
  deriving DecidableEq, Repr

/-- One heartbeat path (R333): ticks it has had, newest first, how many in a row it has lacked or had, the fault. -/
structure Path where
  ticks : List Nat := []
  lacked : Nat := 0
  had : Nat := 0
  fault : Bool := false
  deriving DecidableEq, Repr

/-- A section of the partner's state image as it arrives (R338, R341). -/
structure Section where
  kind : Nat
  id : Nat
  tick : Nat
  total : Nat
  tag : Nat
  /-- Fragments by their offset. -/
  pieces : Tab (List Byte)
  arrivedAt : Nat
  deriving DecidableEq, Repr

/-- A fragment of a section sent, kept for one NAK (R358). -/
structure Kept where
  seq : Nat
  tick : Nat
  frag : StateFrag
  deriving DecidableEq, Repr

/-- A LIVE write carried as a CHANGE section (R346). -/
structure Change where
  id : Nat
  applyTick : Nat
  index : Nat
  sub : Nat
  value : List Byte
  acked : Bool
  deriving DecidableEq, Repr

/-- A ROLE frame sent and not yet answered (R358): op, message, repetitions. -/
structure RoleOut where
  op : Nat
  msg : RoleMsg
  repeats : Nat
  deriving DecidableEq, Repr

/-- A swap in progress (R352). -/
structure Swap where
  atTick : Nat
  opId : Nat
  lead : Bool
  accepted : Option Nat
  acked : Option Nat
  void : Bool
  deriving DecidableEq, Repr

/-- A pail record on its way to the partner, or from it (R358, R360). -/
structure Transfer where
  id : Nat
  total : Nat
  data : List Byte
  /-- Octets acknowledged, when the oldest was last sent, how often it was sent again. -/
  acked : Nat
  sentAt : Nat
  resends : Nat
  deriving DecidableEq, Repr

/-- A planned slice self-test or mirror of both modules (R349). -/
structure Plan where
  slice : Nat
  atTick : Nat
  mirror : Bool
  deriving DecidableEq, Repr

/-- The station pair. -/
structure Pair where
  role : Role := .init
  /-- PAIR_ENABLE with which the module started (R328). -/
  enabled : Bool := false
  link : Path := {}
  station : Path := {}
  /-- The partner's latest heartbeat, its path's PAIR_ID on the link (R328), and ticks its state has shown (R330). -/
  partner : Option Heartbeat := none
  partnerAt : Nat := 0
  partnerShown : Nat := 0
  linkPairId : Option Nat := none
  partnerRun : Nat := 0
  sideClash : Bool := false
  partnerFailed : Bool := false
  relinquished : Bool := false
  relinquishSent : Bool := false
  /-- The module has been in FOLLOW or LEAD since its start (R425). -/
  settled : Bool := false
  /-- Ticks in SYNCING in which everything matched; ticks in FOLLOW without DIVERGENCE (R330, R352). -/
  syncRun : Nat := 0
  followClean : Nat := 0
  lastDiverged : Nat := 0
  swapFrom : Nat := 0
  swap : Option Swap := none
  /-- The sender's frame counter, and frames kept for a NAK (R356, R358). -/
  seq : Nat := 0
  opId : Nat := 0
  changeId : Nat := 0
  kept : List Kept := []
  seenSeqs : List Nat := []
  seenOps : List Nat := []
  roleOut : List RoleOut := []
  sections : List Section := []
  /-- Partitions whose REGION sections the partner asked for in this work tick (R342). -/
  regionsWanted : List Nat := []
  changes : List Change := []
  changesIn : List Change := []
  /-- OUTPUT_VALID, the GPIO levels as snapshotted at the boundary, the partner's last DIGEST and its tick (R335 to R337). -/
  gpioSnap : Nat := 0
  outputValid : Bool := false
  partnerDigest : Option Digest := none
  partnerDigestTick : Nat := 0
  withhold : Bool := false
  lanesUp : List Bool := [true, true]
  lanesRetired : List Nat := []
  transferOut : Option Transfer := none
  transferIn : Option Transfer := none
  plans : List Plan := []
  /-- Frames discarded for a PAIR_ID or a side that does not fit (R328). -/
  mismatches : Nat := 0
  /-- Start-up step 7 was reached here (R423); HB_WAIT has run out since (R330). -/
  bootAt : Nat := 0
  hbWaited : Bool := false
  deriving DecidableEq, Repr

/-! ### Keys, life-cycle, tamper (11_keys_life_cycle_and_attestation.md) -/

/-- Life-cycle states of R363. -/
inductive LifeCycle where
  | manufacture | shipped | owned | return_ | decommissioned
  deriving DecidableEq, Repr

/-- A journal update in phase 1 (R382), as what it will do when its commit record is written. -/
inductive Update where
  | slot (slot : Nat) (record : Nat) (key : List Byte)
  | transition (to_ : LifeCycle) (req : LcReq) (revoke : Bool)
  | firmware (bank : Nat) (svns : List (Nat × Nat))
  deriving DecidableEq, Repr

/-- An entry of the battery log (R393). -/
structure TamperEntry where
  time : Nat
  sources : Nat
  power : Nat
  lc : Nat
  deriving DecidableEq, Repr

/-- The security die. -/
structure Security where
  lc : LifeCycle := .shipped
  /-- One-time fuses (R364, R367). -/
  mfgDone : Bool := true
  decom : Bool := false
  vendorRevoked : Bool := false
  rootGen : Nat := 0
  /-- The owner seed; none outside OWNED, in pending re-provisioning or with the tamper key gone (R368, R395). -/
  ownerSeed : Option (List Byte) := none
  /-- Key cells by slot (R370, R380); the records are the SLOT entries. -/
  cells : Tab (List Byte) := []
  /-- Key cells lost to a double-bit error (R402). -/
  brokenCells : List Nat := []
  seq : Nat := 0
  update : Option Update := none
  /-- The phase the update is in (R382): 0 idle, 1, 2. -/
  phase : Nat := 0
  /-- The tamper key exists (R395, R509). -/
  tamperKey : Bool := false
  tamperHold : Bool := false
  /-- An alarm fired in BATTERY that no start has reported yet (R394). -/
  unreported : Bool := false
  reprovision : Bool := false
  firing : Nat := 0
  tamperLog : List TamperEntry := []
  loopFaults : List Nat := [0, 0]
  /-- The SEC domain is lost (R29). -/
  secLost : Bool := false
  /-- The images in the two firmware banks (R387, R499), and those running. -/
  banks : Tab (List Image) := []
  running : List Image := []
  deriving DecidableEq, Repr

/-! ### Faults, self-test, start-up, supervisor (12_faults_self_test_and_start_up.md) -/

/-- A retirement record of R404. -/
structure Retirement where
  unit_ : Nat
  cause : Nat
  count : Nat
  time : Nat
  start : Nat
  deriving DecidableEq, Repr

/-- A repair record of R415. -/
structure Repair where
  inst : Nat
  row : Nat
  bit_ : Nat
  failType : Nat
  repair : Nat
  spare : Nat
  tickLow : Nat
  deriving DecidableEq, Repr

/-- A self-test result record of R413. -/
structure TestResult where
  unit_ : Nat
  result : Nat
  flags : Nat
  patterns : Nat
  misr : Nat
  tick : Nat
  deriving DecidableEq, Repr

/-- A last-gasp record of R421 with the fields this model can observe. -/
structure LastGasp where
  cause : Nat
  power : Nat
  lc : Nat
  time : Nat
  tick : Nat
  role : Nat
  timeState : Nat
  startCount : Nat
  herds : List Nat
  slices : Nat
  dies : Nat
  links : Nat
  portsRetired : Nat
  portsUp : Nat
  supplies : List Nat
  temps : List Int
  events : List Nat
  deriving DecidableEq, Repr

/-- A herd (R20, R22, R408): the physical position that runs each of the four logical units, and the spare. -/
structure Herd where
  units : List Nat := [0, 1, 2, 3]
  spare : Option Nat := some 4
  /-- A logical unit (0 to 3) whose unit retires at the next tick boundary (R20), the work tick in which that was found, and
  the cause and the count of its record (R404). -/
  pending : Option Nat := none
  pendingAt : Nat := 0
  pendingCause : Nat := 1
  pendingCount : Nat := 0
  /-- The position under self-test (R408). -/
  testing : Option Nat := none
  deriving DecidableEq, Repr

/-- Health: error windows, retirements, repairs, self-test. -/
structure Health where
  herds : Tab Herd := []
  /-- Error instants by unit identifier (R400) and by memory row (keyed `memory * 2^32 + row`). -/
  errors : Tab (List Nat) := []
  rowErrors : Tab (List Nat) := []
  retired : List Retirement := []
  /-- Instances retired in this start (a cleared record leaves its instance retired until the next start, R405). -/
  out : List Nat := []
  repairs : List Repair := []
  spareRows : Tab Nat := []
  lockedRows : List Nat := []
  results : List TestResult := []
  retest : List Nat := []
  lastPass : Tab Nat := []
  /-- Slice under test, and the unit under a manual run (R409, R427). -/
  sliceTest : Option Nat := none
  manual : Option Nat := none
  lostRegions : List Nat := []
  /-- The fall-back engine failed its start-up test (R424). -/
  fallbackFailed : Bool := false
  managerHerd : Nat := 0
  managerLent : Bool := false
  linksFailed : List Nat := []
  gasps : List LastGasp := []
  lastEvents : List Nat := []
  kickManager : Nat := 0
  kickNetwork : Nat := 0
  refclkLost : Bool := false
  withheldPages : Nat := 0
  deriving DecidableEq, Repr

/-! ### The dictionary protocol (13_dictionary_protocol_and_long_operations.md) -/

/-- A value in EDP form waiting in the stage (R445), by key. -/
structure Staged where
  key : Nat
  value : List Byte
  deriving DecidableEq, Repr

/-- An unfinished write transfer (R443). -/
structure WriteXfer where
  key : Nat
  total : Nat
  data : List Byte
  lastAt : Nat
  deriving DecidableEq, Repr

/-- A READ_BLOCK snapshot (R444). -/
structure ReadXfer where
  key : Nat
  data : List Byte
  sent : Nat
  lastAt : Nat
  deriving DecidableEq, Repr

/-- What the module sends back to a request (R435). -/
structure Reply where
  opcode : Nat
  flags : Nat
  session : Nat
  seq : Nat
  index : Nat
  sub : Nat
  status : Nat
  handle : Nat
  payload : List Byte
  tagged : Bool
  deriving DecidableEq, Repr

/-- An EDP session (R439 to R444, R449). -/
structure Session where
  transport : Transport
  role : Nat
  slot : Nat
  opened : Bool
  createdAt : Nat
  lastAt : Nat
  highest : Nat
  lastReply : Option Reply
  keys : List Byte
  write : Option WriteXfer
  reads : Option ReadXfer
  mask : Nat
  /-- When an EVENT of a source was last sent, and the sources held back (R449). -/
  evSent : Tab Nat
  evHeld : List Nat
  evSeq : Nat
  deriving DecidableEq, Repr

/-- States of a long operation (R451). -/
inductive OpState where
  | idle | running | suspending | suspended | resuming | cancelling | done | failed | cancelled
  deriving DecidableEq, Repr

/-- A long-operation slot (R450 to R455). -/
structure Op where
  state : OpState := .idle
  type : Nat := 0
  handle : Nat := 0
  progress : Nat := 0
  result : Nat := 0
  detail : Nat := 0
  role : Nat := 0
  session : Nat := 0
  started : Nat := 0
  ended : Nat := 0
  suspendedAt : Nat := 0
  commitPhase : Bool := false
  cancelDeferred : Bool := false
  suspendDeferred : Bool := false
  params : List Byte := []
  /-- Where the operation stands in its work: entries staged, frames written, rows scrubbed. -/
  pos : Nat := 0
  deriving DecidableEq, Repr

/-- A commit accepted and not yet applied (R446). -/
structure PendingCommit where
  session : Nat
  seq : Nat
  acceptedAt : Nat
  applyAt : Nat
  applyTick : Nat
  op : Option Nat
  deriving DecidableEq, Repr

/-- The dictionary server. -/
structure Edp where
  sessions : Tab Session := []
  nextSession : Nat := 1
  stage : List Staged := []
  owner : Option Nat := none
  commit : Option PendingCommit := none
  ops : Tab Op := []
  opSerial : Nat := 0
  /-- The mailbox of R434: request and response buffers, lengths, BUSY, RESPONSE_READY. -/
  mbxReq : Tab Nat := []
  mbxReqLen : Nat := 0
  mbxResp : List Byte := []
  mbxBusy : Bool := false
  mbxReady : Bool := false
  /-- MSI-X table entries that are masked, and vectors pending while masked (R255, R475). -/
  msixMasked : List Nat := []
  msixPending : List Nat := []
  /-- The MSI-X table words written, by offset in BAR 0 (R255). -/
  msixTable : Tab Nat := []
  /-- When the last message of a vector leaves, or left (R251, R475). -/
  msixSent : Tab Nat := []
  deriving DecidableEq, Repr

/-! ### Power and pins (16_power_pins_and_electrical.md) -/

/-- Power states of R484. -/
inductive PowerState where
  | run | hold | tamperHold | off | battery
  deriving DecidableEq, Repr

/-- The output lands of R494; for the open-drain ones true is asserted (R493). -/
structure Pins where
  modOk : Bool := false
  outEnable : Bool := false
  tamperN : Bool := false
  irqN : Bool := false
  ppsOut : Option Bool := some false
  gpio : List (Option Bool) := [none, none, none, none, none, none, none, none, none, none, none, none, none, none, none, none]
  bootSpi : Bool := true
  deriving DecidableEq, Repr

/-- Power, rails, clocks and start-up progress. -/
structure Power where
  state : PowerState := .run
  /-- DOMAINS_ON (R463, R482). -/
  domains : Nat := 4095
  /-- Rails out of range (R490). -/
  badRails : List Nat := []
  pwrFail : Bool := false
  pwrFailSince : Nat := 0
  /-- Every domain but BAT, SUP and SEC is held in reset, and SEC too (R490, R491). -/
  heldReset : Bool := false
  secHeld : Bool := false
  withdrawn : Bool := false
  /-- The next start's cause (R422). -/
  nextCause : Nat := 0
  /-- The start-up steps completed: 0 to 8 (R423). -/
  step : Nat := 0
  /-- When the last transition from HOLD to RUN was accepted (R485, R488). -/
  rising : Option Nat := none
  bootStopped : Bool := false
  supplies : List Nat := [0, 0, 0, 0, 0, 0, 0, 0]
  temps : List Int := [0, 0, 0, 0]
  osc10Lost : Bool := false
  /-- The highest die temperature since the start (R463). -/
  tempMax : Option Int := none
  /-- SEQ of the configuration bank last written, 0 while neither is complete (R432, R500). -/
  configSeq : Nat := 0
  /-- What the TAP's selected register captures: IDCODE, or the 0 of BYPASS (R501). -/
  tapRegister : Nat := 0x1096155B
  deriving DecidableEq, Repr

/-! ### What leaves the module -/

/-- What the module sends out of its boundary. -/
inductive Out where
  /-- A frame started on a port, with the switch frame's identity. -/
  | frame (port : Nat) (frame : Frame)
  /-- A frame ended with an inverted FCS after so many octets (R130). -/
  | stomped (port : Nat) (octets : Nat)
  /-- A generated PAUSE (R97). -/
  | pause (port : Nat) (quanta : Nat)
  /-- A PTP message of the time unit (R52). -/
  | ptp (port : Nat) (m : PtpTx)
  /-- A GOOSE frame of a publication (R343). -/
  | goose (pub : Nat) (stNum sqNum ttl t : Nat) (cells : Tab Nat) (stamp : Nat × Bool) (auth : List Byte)
  /-- An EDP reply, and a clear one of R439. -/
  | reply (r : Reply)
  /-- The octets of a PDU over UDP, or of its frame over the service UART (R433, R435). -/
  | pdu (transport : Transport) (octets : List Byte)
  /-- An EVENT PDU (R436, R449). -/
  | event (session source status resets time seq : Nat)
  /-- An MSI-X message, with the instant at which it leaves (R251, R255). -/
  | msix (vector at_ : Nat)
  /-- A HEARTBEAT on both lanes, or from a port (R332). -/
  | heartbeat (port : Option Nat) (tick : Nat) (hb : Heartbeat)
  | digest (tick : Nat) (d : Digest)
  | state (tick : Nat) (f : StateFrag)
  | role (op : Nat) (tick : Nat) (m : RoleMsg)
  | migrate (op : Nat) (m : MigrateMsg)
  /-- The answer to a write that reached an entry outside a session (assumption log 4). -/
  | status (code : Nat) (payload : List Byte)
  deriving DecidableEq, Repr

/-! ### The whole machine -/

/-- The module's state. -/
structure State where
  /-- Numeric dictionary entries that differ from their default, keyed `index * 256 + subindex` (R428, R432). -/
  regs : Tab Nat := []
  /-- STRING and DOMAIN entries that are not empty (R428). -/
  blobs : Tab (List Byte) := []
  time : TimeUnit := {}
  /-- The entries as they stood before the latest changes at a boundary: images of earlier instants are built with them
  (R148). Latest first: the boundary's instant, the numeric entries, the others. -/
  befores : List (Nat × Tab Nat × Tab (List Byte)) := []
  /-- The work tick in progress (R9, R11). -/
  workTick : Nat := 0
  ports : Tab Port := []
  sw : Switch := {}
  dp : DataPath := {}
  hist : History := {}
  parts : Tab Partition := []
  pails : Tab Pail := []
  /-- MAJOR_FRAME of the window table in use (R227). -/
  majorFrame : Nat := 1
  /-- The core units, by `5 * herd + position` (R222). -/
  cores : Tab CoreUnit := []
  churn : Churn := {}
  loops : Loops := {}
  subs : Tab Sub := []
  pubs : Tab Pub := []
  pair : Pair := {}
  sec : Security := {}
  health : Health := {}
  edp : Edp := {}
  power : Power := {}
  pins : Pins := {}
  /-- Owner memory that differs from zero (R235, R242, R254): address `2^64 * owner + a`, owner the partition, or 128 plus the
  PASID of a host's address space. -/
  mem : List Host.Cell := []
  /-- What has left the module, latest first (the model's own record). -/
  out : List Out := []
  /-- How many free values have been drawn (the model's own counter, assumption log 5). -/
  freeUsed : Nat := 0
  /-- The commands that are waiting, first in, first out. -/
  pending : List Instr := []
  deriving DecidableEq, Repr

/-- The module as it leaves reset: every field at its declared value, nothing waiting. -/
def State.reset : State := {}

/-- Why a step stops with a fault. -/
inductive Fault where
  /-- The command names a port, queue, slot, channel or other instance the module does not have. Raised by every meaning
  whose operand numbers an instance; safe: no command of the hardware can do so. -/
  | noSuchInstance
  deriving DecidableEq, Repr

/-- Why a step gives no meaning. -/
inductive Refusal where
  /-- An arm of `exec` without its meaning yet. Raised by Dispatch.lean only; safe. -/
  | notModelled (mnemonic : String)
  /-- An IEEE 1149.1 instruction other than BYPASS and IDCODE with test access open: R501 says that it works and not what
  it does. Raised by TAP_INSTRUCTION; safe. -/
  | tapInstructionUndescribed
  deriving DecidableEq, Repr

end Sys2Proof.Machine
end

