-- ==== Sys2Proof/Machine/Tab.lean ====
section
/-!
DEFINITION. Tables with a default and octet strings: lookup, update that keeps the canonical form (rising keys, no entry
equal to the default), byte order.
-/

namespace Sys2Proof.Machine

/-- The entry at a key, if listed. -/
def Tab.find {α : Type} : Tab α → Nat → Option α
  | [], _ => none
  | (k, v) :: t, j => if k = j then some v else Tab.find t j

/-- The entry at a key, or the default. -/
def Tab.look {α : Type} (t : Tab α) (j : Nat) (d : α) : α := (Tab.find t j).getD d

/-- The table with an entry listed at a key. -/
def Tab.insert {α : Type} : Tab α → Nat → α → Tab α
  | [], j, x => [(j, x)]
  | (k, v) :: t, j, x =>
    if j < k then (j, x) :: (k, v) :: t else if j = k then (j, x) :: t else (k, v) :: Tab.insert t j x

/-- The table without an entry at a key. -/
def Tab.del {α : Type} (t : Tab α) (j : Nat) : Tab α := t.filter fun e => e.1 ≠ j

/-- The table with a value at a key, the default meaning no entry. -/
def Tab.put {α : Type} [DecidableEq α] (t : Tab α) (j : Nat) (x d : α) : Tab α :=
  if x = d then Tab.del t j else Tab.insert t j x

/-- Change the entry at a key. -/
def Tab.mod {α : Type} [DecidableEq α] (t : Tab α) (j : Nat) (d : α) (f : α → α) : Tab α :=
  Tab.put t j (f (Tab.look t j d)) d

/-- The canonical form: keys strictly rising, no entry equal to the default. -/
def Tab.wf {α : Type} [DecidableEq α] (t : Tab α) (d : α) : Bool :=
  match t with
  | [] => true
  | (k, v) :: u => (v ≠ d : Bool) && (match u with | [] => true | (k', _) :: _ => decide (k < k')) && Tab.wf u d

/-- Replace the element at a position of a list, if it has one. -/
def setAt {α : Type} (l : List α) (i : Nat) (x : α) : List α := l.set i x

/-- `n` octets of a number, least significant first (R5, R38 memory form). -/
def leBytes (n v : Nat) : List Byte := (List.range n).map fun i => BitVec.ofNat 8 (v >>> (8 * i))

/-- `n` octets of a number, most significant first (R5, the wire and EDP form). -/
def beBytes (n v : Nat) : List Byte := (leBytes n v).reverse

/-- The number of a little-endian octet string. -/
def ofLe (bs : List Byte) : Nat := bs.foldr (fun b acc => b.toNat + 256 * acc) 0

/-- The number of a big-endian octet string. -/
def ofBe (bs : List Byte) : Nat := bs.foldl (fun acc b => 256 * acc + b.toNat) 0

/-- `n` octets from offset `o`, missing ones zero. -/
def slice (bs : List Byte) (o n : Nat) : List Byte :=
  let r := (bs.drop o).take n
  r ++ List.replicate (n - r.length) 0

/-- Big-endian and little-endian fields of an octet string. -/
def beAt (bs : List Byte) (o n : Nat) : Nat := ofBe (slice bs o n)
def leAt (bs : List Byte) (o n : Nat) : Nat := ofLe (slice bs o n)

/-- The octets of ASCII text. -/
def ascii (t : String) : List Byte := t.toList.map fun c => BitVec.ofNat 8 c.toNat

/-- Bit `c mod 8` of octet `c / 8` of an `n`-octet value kept as a big-endian number (R221, R266, R462). -/
def octetBit (n v c : Nat) : Bool := c / 8 < n && bit v (8 * (n - 1 - c / 8) + c % 8)

/-- Element `i` of an `n`-octet value of `w`-octet big-endian elements kept as a number (R264, R266). -/
def octetElem (n w v i : Nat) : Nat := field v (8 * (n - w * (i + 1))) (8 * w)

/-- CRC-32 of IEEE 802.3: reflected polynomial 0xEDB88320, initial value and final complement of all ones. -/
def crcStep (c : Nat) : Nat → Nat
  | 0 => c
  | n + 1 => crcStep (if c % 2 = 1 then (c / 2) ^^^ 0xEDB88320 else c / 2) n

def crc32 (bs : List Byte) : Nat :=
  (bs.foldl (fun c b => crcStep (c ^^^ b.toNat) 8) 0xFFFFFFFF) ^^^ 0xFFFFFFFF

/-! ### Abstract cryptography as octet strings (assumption log 7) -/

def shake256 (m : List Byte) (n : Nat) : List Byte := (List.range n).map fun i => Config.shakeByte m i

/-- KMAC256 with an output of `n` octets. -/
def kmac256 (key data custom : List Byte) (n : Nat) : List Byte :=
  (List.range n).map fun i => Config.kmacByte key data custom (8 * n) i

def gcmCrypt (key iv data : List Byte) : List Byte :=
  data.zipIdx.map fun (b, i) => b ^^^ Config.gcmStreamByte key iv i

def gcmTag (key iv aad ct : List Byte) : List Byte :=
  (List.range 16).map fun i => Config.gcmTagByte key iv aad ct i

def hmacSha256 (key m : List Byte) : List Byte := (List.range 32).map fun i => Config.hmacByte key m i

/-- The tag of an IEC 62351-6 extension under a slot's algorithm: 3 AES-GMAC-128, 4 HMAC-SHA256-128 (R371). -/
def mac62351 (alg : Nat) (key m : List Byte) : List Byte :=
  if alg = 3 then (List.range 16).map fun i => Config.gmacByte key m i else (hmacSha256 key m).take 16

def slhSign (key m : List Byte) : List Byte := (List.range 29792).map fun i => Config.slhSignByte key m i

def slhPublic (seed : List Byte) : List Byte := (List.range 64).map fun i => Config.slhPublicByte seed i

end Sys2Proof.Machine
end

