-- ==== Sys2Proof/Machine/Num.lean ====
section
/-!
DEFINITION. Exact arithmetic for the data path (06_filter_chain_phasors_and_history.md): integer square root, rounding of
rationals and of their products with the square root of two, cosine and sine of turns, the exponential of R180.
Transcendental values are taken to 2^-190 or better before their one rounding (R177).
-/

namespace Sys2Proof.Machine

open Sys2Proof

/-- `num / den` rounded half to even, for a positive `den`. -/
def roundDiv (num : Int) (den : Nat) : Int :=
  let q := num.fdiv den
  let r := (num.fmod den).toNat
  if 2 * r < den then q else if den < 2 * r then q + 1 else if q % 2 = 0 then q else q + 1

/-- A rational rounded half to even. -/
def roundRat (x : Rat) : Int := roundDiv x.num x.den

/-- The square root of a number, rounded down, bit by bit from `k` bits. -/
def isqrtFrom (n : Nat) : Nat → Nat → Nat
  | 0, r => r
  | k + 1, r => isqrtFrom n k (if (r + 2 ^ k) * (r + 2 ^ k) ≤ n then r + 2 ^ k else r)

def isqrt (n : Nat) : Nat := isqrtFrom n (n.log2 / 2 + 1) 0

/-- The product of the square root of two and a rational, rounded to the nearest integer; only 0 could be a tie. -/
def roundRoot2 (x : Rat) : Int :=
  let n := x.num.natAbs
  let m : Int := ((isqrt (8 * n * n) + x.den) / (2 * x.den) : Nat)
  if x.num < 0 then -m else m

/-- Pi times 2^200, rounded down. -/
def piFix : Nat := 5048344754617993871973410141242436836214643421488662971535368

/-- Fixed point with 200 fractional bits. -/
def fixMul (a b : Int) : Int := (a * b).fdiv (2 ^ 200)

/-- `sum over j < n of t_j` with `t_(j+1) = -t_j x^2 / ((k + 1) (k + 2))`, the series of sine and cosine. -/
def trigSeries (x2 : Int) : Nat → Nat → Int → Int
  | 0, _, _ => 0
  | n + 1, k, t => t + trigSeries x2 n (k + 2) (-((fixMul t x2).fdiv (((k + 1) * (k + 2) : Nat) : Int)))

/-- Cosine and sine of `r` units of 2^-32 turn in the first quadrant, 200 fractional bits. -/
def quadrantTrig (r : Nat) : Int × Int :=
  let x : Int := (2 * piFix * r / 2 ^ 32 : Nat)
  let x2 := fixMul x x
  (trigSeries x2 45 0 (2 ^ 200), trigSeries x2 45 1 x)

/-- Cosine and sine of a TURN32 angle, 200 fractional bits. -/
def turnTrig (a : Nat) : Int × Int :=
  let (c, s) := quadrantTrig (a % 2 ^ 30)
  match a / 2 ^ 30 % 4 with
  | 0 => (c, s)
  | 1 => (-s, c)
  | 2 => (-c, -s)
  | _ => (s, -c)

/-- The Q1_31 factor of an angle (R190): each part rounded half to even and limited to `2^31 - 1`. -/
def turnFactor (a : Nat) : Int × Int :=
  let (c, s) := turnTrig a
  let q (v : Int) : Int := min (2 ^ 31 - 1) (roundDiv v (2 ^ 169))
  (q c, q s)

/-- The largest integer TURN32 angle at or before that of a vector in the first quadrant with a positive real part, by
halving the interval `k` times from `a`. -/
def angleFrom (re im : Int) : Nat → Nat → Nat
  | 0, a => a
  | k + 1, a =>
    let b := a + 2 ^ k
    let (c, s) := quadrantTrig b
    angleFrom re im k (if 0 ≤ im * c - re * s then b else a)

/-- The angle of a vector that is not 0 in TURN32 units, rounded down, and whether it is exact (a multiple of an eighth
turn). -/
def angleFloor (re im : Int) : Nat × Bool :=
  let first (x y : Int) (turn : Nat) : Nat × Bool :=
    if y = 0 then (turn, true) else if x = y then (turn + 2 ^ 29, true) else (turn + angleFrom x y 30 0, false)
  if 0 < re ∧ 0 ≤ im then first re im 0
  else if re ≤ 0 ∧ 0 < im then first im (-re) (2 ^ 30)
  else if re < 0 ∧ im ≤ 0 then first (-re) (-im) (2 ^ 31)
  else first (-im) re (3 * 2 ^ 30)

/-- `1 - exp (-x)` for a small `x`, 200 fractional bits: the terms `x^k / k!` with alternating signs. -/
def expSeries (x : Int) : Nat → Nat → Int → Int
  | 0, _, _ => 0
  | n + 1, k, t => t + expSeries x n (k + 1) (-((fixMul t x).fdiv ((k + 1 : Nat) : Int)))

/-- The coefficient of R180 for a corner in mHz and a stream rate in Hz. -/
def dcCoefficient (corner rate : Nat) : Int :=
  let x : Int := (2 * piFix * corner / (1000 * rate) : Nat)
  roundDiv (expSeries x 40 1 x) (2 ^ 169)

/-! ### S48 values -/

/-- A result that lies outside S48 has no value the spec states (log 23). -/
def s48 (x : Int) : Int := if -(2 ^ 47) ≤ x ∧ x < 2 ^ 47 then x else toSigned 48 (Config.s48Over x)

/-- `sat` of R179. -/
def sat48 (x : Int) : Int := clampInt (-(2 ^ 47 - 2 ^ 24)) (2 ^ 47 - 2 ^ 24) x

/-! ### CORDIC (R196) -/

/-- MAG: a value within 2^-22 of the exact one, or the nearest integers to it; which one is not stated (log 8). -/
def cordicMag (re im : Int) : Nat :=
  let n := re.natAbs * re.natAbs + im.natAbs * im.natAbs
  if n = 0 then 0
  else
    let below := (n * (2 ^ 22 - 1) ^ 2 - 1) / 2 ^ 44
    let lo := min (isqrt below + 1) (isqrt n)
    let hi := max (isqrt (n * (2 ^ 22 + 1) ^ 2 / 2 ^ 44)) (isqrt (n - 1) + 1)
    lo + Config.cordicMag re im % (hi + 1 - lo)

/-- ANGLE: a value within 32 units of the exact one (log 8). -/
def cordicAngle (re im : Int) : Nat :=
  if re = 0 ∧ im = 0 then 0
  else
    let (f, exact) := angleFloor re im
    let v := Config.cordicAngle re im
    if exact then (f + 2 ^ 32 - 32 + v % 65) % 2 ^ 32 else (f + 2 ^ 32 - 31 + v % 64) % 2 ^ 32

end Sys2Proof.Machine
end

