-- ==== Sys2Proof/Machine/Ops.lean ====
section
/-!
DEFINITION. The named operations on the state: dictionary values, time and ticks, memory, the outcome of a command, the
discrete outputs. Meanings reach the state through these.
-/

namespace Sys2Proof.Machine

open Sys2Proof

/-! ### Dictionary values (R428, R432) -/

/-- The value of a numeric entry in force. -/
def State.reg (s : State) (k : Nat) : Nat := (Tab.find s.regs k).getD (odDefault k)

/-- Give a numeric entry a value. -/
def State.setReg (s : State) (k v : Nat) : State := { s with regs := Tab.put s.regs k v (odDefault k) }

/-- A BOOL entry. -/
def State.on (s : State) (k : Nat) : Bool := s.reg k ≠ 0

/-- An entry of a signed type of `w` bits. -/
def State.regI (s : State) (w k : Nat) : Int := toSigned w (s.reg k)

/-- A STRING or DOMAIN entry in force. -/
def State.blob (s : State) (k : Nat) : List Byte := (Tab.find s.blobs k).getD (blobDefault k)

/-- Give a STRING or DOMAIN entry a value. -/
def State.setBlob (s : State) (k : Nat) (v : List Byte) : State :=
  { s with blobs := Tab.put s.blobs k v (blobDefault k) }

/-- Count one in a counter of `w` bits that wraps. -/
def State.count (s : State) (w k : Nat) : State := s.setReg k ((s.reg k + 1) % 2 ^ w)

/-! ### The blocks' instances -/

def State.port (s : State) (p : Nat) : Port := Tab.look s.ports p {}
def State.setPort (s : State) (p : Nat) (x : Port) : State := { s with ports := Tab.put s.ports p x {} }
def State.modPort (s : State) (p : Nat) (f : Port → Port) : State := s.setPort p (f (s.port p))
def State.ptpPort (s : State) (p : Nat) : PtpPort := Tab.look s.time.ptp p {}
def State.setPtpPort (s : State) (p : Nat) (x : PtpPort) : State :=
  { s with time := { s.time with ptp := Tab.put s.time.ptp p x {} } }
def State.stream (s : State) (n : Nat) : Stream := Tab.look s.dp.streams n {}
def State.setStream (s : State) (n : Nat) (x : Stream) : State :=
  { s with dp := { s.dp with streams := Tab.put s.dp.streams n x {} } }
def State.chan (s : State) (c : Nat) : Channel := Tab.look s.dp.channels c {}
def State.setChan (s : State) (c : Nat) (x : Channel) : State :=
  { s with dp := { s.dp with channels := Tab.put s.dp.channels c x {} } }
def State.fgroup (s : State) (g : Nat) : FreqGroup := Tab.look s.dp.groups g {}
def State.setFgroup (s : State) (g : Nat) (x : FreqGroup) : State :=
  { s with dp := { s.dp with groups := Tab.put s.dp.groups g x {} } }
def State.window (s : State) (w : Nat) : Window := Tab.look s.hist.windows w {}
def State.setWindow (s : State) (w : Nat) (x : Window) : State :=
  { s with hist := { s.hist with windows := Tab.put s.hist.windows w x {} } }
def State.part (s : State) (n : Nat) : Partition := Tab.look s.parts n {}
def State.setPart (s : State) (n : Nat) (x : Partition) : State := { s with parts := Tab.put s.parts n x {} }
def State.modPart (s : State) (n : Nat) (f : Partition → Partition) : State := s.setPart n (f (s.part n))
def State.pail (s : State) (p : Nat) : Pail := Tab.look s.pails p {}
def State.setPail (s : State) (p : Nat) (x : Pail) : State := { s with pails := Tab.put s.pails p x {} }
def State.modPail (s : State) (p : Nat) (f : Pail → Pail) : State := s.setPail p (f (s.pail p))
def Pail.queue (x : Pail) (q : Nat) : Queue := Tab.look x.queues q {}
def Pail.setQueue (x : Pail) (q : Nat) (y : Queue) : Pail := { x with queues := Tab.put x.queues q y {} }
def State.loopAt (s : State) (l : Nat) : Loop := Tab.look s.loops.loops l {}
def State.setLoop (s : State) (l : Nat) (x : Loop) : State :=
  { s with loops := { s.loops with loops := Tab.put s.loops.loops l x {} } }
def State.unitAt (s : State) (l : Nat) : Unit_ := Tab.look s.loops.units l {}
def State.setUnit (s : State) (l : Nat) (x : Unit_) : State :=
  { s with loops := { s.loops with units := Tab.put s.loops.units l x {} } }
def State.genAt (s : State) (g : Nat) : Gen := Tab.look s.loops.gens g {}
def State.setGen (s : State) (g : Nat) (x : Gen) : State :=
  { s with loops := { s.loops with gens := Tab.put s.loops.gens g x {} } }
def State.sub (s : State) (n : Nat) : Sub := Tab.look s.subs n {}
def State.setSub (s : State) (n : Nat) (x : Sub) : State := { s with subs := Tab.put s.subs n x {} }
def State.pub (s : State) (n : Nat) : Pub := Tab.look s.pubs n {}
def State.setPub (s : State) (n : Nat) (x : Pub) : State := { s with pubs := Tab.put s.pubs n x {} }
def State.herd (s : State) (h : Nat) : Herd := Tab.look s.health.herds h {}
def State.setHerd (s : State) (h : Nat) (x : Herd) : State :=
  { s with health := { s.health with herds := Tab.put s.health.herds h x {} } }
def State.op (s : State) (n : Nat) : Op := Tab.look s.edp.ops n {}
def State.setOp (s : State) (n : Nat) (x : Op) : State :=
  { s with edp := { s.edp with ops := Tab.put s.edp.ops n x {} } }
def State.session? (s : State) (n : Nat) : Option Session := Tab.find s.edp.sessions n
def State.setSession (s : State) (n : Nat) (x : Session) : State :=
  { s with edp := { s.edp with sessions := Tab.insert s.edp.sessions n x } }

/-! ### Time and ticks -/

/-- One second, millisecond, microsecond in drips (R4: the conversions of lengths given in decimal, rounded). -/
def second : Nat := 2 ^ 36
def ofMs (n : Nat) : Nat := (n * 2 ^ 37 + 1000) / 2000
def ofUs (n : Nat) : Nat := (n * 2 ^ 37 + 1000000) / 2000000

def State.now (s : State) : Nat := s.time.now
def State.setNow (s : State) (t : Nat) : State := { s with time := { s.time with now := t } }

/-- A command's instant: the drip count reaches it and never runs back on its own (assumption log 1); a count frozen for
a lost oscillator stands still (R497). -/
def State.arrive (s : State) (t : Instant) : State := if s.time.frozen then s else s.setNow (max s.now t)

/-- The commands that take place in the same cycle, after this one in the queue: those whose instant has come already. -/
def State.sameCycle (s : State) : List Instr := s.pending.takeWhile fun c => c.instant ≤ s.now

/-- TICK_RATE in force (R49). -/
def State.rate (s : State) : Nat := s.reg Od.tickRate

/-- FRAC(n) of R46. -/
def tickFrac (ft n : Nat) : Nat := (n * 2 ^ 36 + ft / 2) / ft

/-- The instant of global tick `g` (R46). -/
def tickInstant (ft g : Nat) : Nat := g / ft * 2 ^ 36 + tickFrac ft (g % ft)

/-- The tick containing an instant, by the procedure of R48. -/
def tickOf (ft t : Nat) : Nat :=
  let frac := t % 2 ^ 36
  let n0 := frac * ft / 2 ^ 36
  let n1 := if n0 + 1 < ft && tickFrac ft (n0 + 1) ≤ frac then n0 + 1 else n0
  let n2 := if frac < tickFrac ft n1 then n1 - 1 else n1
  t / 2 ^ 36 * ft + n2

/-- The tick in progress, and its instant. -/
def State.tickNow (s : State) : Nat := tickOf s.rate s.now
def State.tickAt (s : State) (g : Nat) : Nat := tickInstant s.rate g

/-- The image lag D of R9. -/
def State.lag (s : State) : Nat := (s.reg Od.ingestAlignWindow + 25) * s.rate / 1000000 + 1

/-- A DRIP64 difference of two instants, saturated (R40). -/
def dripDiff (a b : Nat) : Int := clampInt (-(2 ^ 63)) (2 ^ 63 - 1) ((a : Int) - b)

/-- The sum of a time and a duration (R40). -/
def dripAdd (a : Nat) (d : Int) : Nat := ((a : Int) + d).toNat

/-! ### What leaves the module, and values the spec leaves open -/

def State.emit (s : State) (o : Out) : State := { s with out := o :: s.out }

/-- What a write that reached its block does: the state after it, the status of R437, and what its reply carries. -/
structure Answer where
  state : State
  code : Nat
  payload : List Byte

/-- A write refused with a status: nothing changes. -/
def State.refuse (s : State) (code : Nat) : Answer := ⟨s, code, []⟩

/-- A write done. -/
def State.ok (s : State) (payload : List Byte := []) : Answer := ⟨s, 0, payload⟩

/-- The answer of a write that came as a command of its own (assumption log 4). -/
def Answer.told (a : Answer) : State := a.state.emit (.status a.code a.payload)

/-- The answer of a write to a block that start-up reaches before the firmware is verified: a module that stopped there takes an
installation only (R386, assumption log 68). -/
def State.whileRunning (s : State) (a : Answer) : Answer := if s.power.bootStopped then s.refuse 0x07 else a

/-- The statuses of R437 by name. -/
def stNoEntry : Nat := 0x01
def stTypeMismatch : Nat := 0x02
def stInvalidValue : Nat := 0x03
def stDenied : Nat := 0x04
def stReadOnly : Nat := 0x05
def stWriteOnly : Nat := 0x06
def stBusy : Nat := 0x07
def stForced : Nat := 0x08
def stCommitting : Nat := 0x09
def stNoSession : Nat := 0x0A
def stSegmentError : Nat := 0x0B
def stUnknownHandle : Nat := 0x0C
def stBadState : Nat := 0x0D
def stTooLarge : Nat := 0x0E
def stUnsupported : Nat := 0x0F
def stFailed : Nat := 0x10

/-- The next free value below `n` (assumption log 5). -/
def State.freeBelow (s : State) (n : Nat) : Nat := Config.free s.freeUsed % n

/-- Take one free value. -/
def State.drew (s : State) : State := { s with freeUsed := s.freeUsed + 1 }

/-! ### Memory (R235, R239, R242) -/

/-- The canonical form of memory: rising addresses, no listed zero. -/
def Memory.wf (m : List Host.Cell) : Bool := Tab.wf m (0 : Byte)

/-- The byte at an owner's address. -/
def State.memByte (s : State) (owner a : Nat) : Byte := Tab.look s.mem (2 ^ 64 * owner + a % 2 ^ 64) 0

/-- Store a byte. -/
def State.storeByte (s : State) (owner a : Nat) (b : Byte) : State :=
  { s with mem := Tab.put s.mem (2 ^ 64 * owner + a % 2 ^ 64) b 0 }

/-- Store octets at rising addresses. -/
def State.storeBytes (s : State) (owner a : Nat) : List Byte → State
  | [] => s
  | b :: bs => (s.storeByte owner a b).storeBytes owner (a + 1) bs

/-- Octets from rising addresses. -/
def State.loadBytes (s : State) (owner a n : Nat) : List Byte := (List.range n).map fun i => s.memByte owner (a + i)

/-- The owner of a pail's memory: the bound partition, or the host's address space of its PASID (R239, R254). -/
def State.pailOwner (s : State) (p : Nat) : Nat :=
  if s.reg (Od.pailBindKind p) = 1 then s.reg (Od.pailPartition p) else 128 + s.reg (Od.pailPasid p)

/-! ### Die links (R27 to R29, R404) -/

/-- A die link has failed: 0 compute to network, 1 compute to I/O, 2 compute to security, 3 network to I/O, 4 network to security, 5 I/O
to security. What it carried is absent (R28). -/
def State.cut (s : State) (link : Nat) : Bool := s.health.linksFailed.contains link

/-! ### The discrete outputs (R329, R477, R493, R494) -/

/-- A source has an enabled flag that is 1 (R476). -/
def State.eventPending (s : State) (n : Nat) : Bool := s.reg (Od.evStatus n) % 2 ^ 16 &&& s.reg (Od.evEnableMask n) ≠ 0

/-- A source with IRQ_N routed has an enabled flag that is 1 (R477). -/
def State.irqDriven (s : State) : Bool :=
  s.regs.any fun (k, _) =>
    let n := k / 256 - 0xB000
    0xB000 * 256 ≤ k && k < 0xB080 * 256 && k % 256 = 1 && bit (s.reg (Od.evRoute n)) 3 && s.eventPending n

/-- A GPIO land: high impedance until driven, never while it is an input (R286, R494). -/
def State.gpioLand (s : State) (g : Nat) : Option Bool :=
  let c := s.reg (Od.gpioConfig g)
  if s.power.state = .run && bit c 0 then (Tab.find s.churn.gpioOut g).map fun l => l != bit c 1 else none

/-- What the state gives each output land (R494). -/
def State.pinsOf (s : State) : Pins :=
  let st := s.power.state
  let supplied := st = .run || st = .hold || st = .tamperHold
  { modOk := st = .run && decide (5 ≤ s.power.step) && !s.power.withdrawn
    outEnable := st = .run && (s.pair.role = .follow || s.pair.role = .lead) && !s.power.withdrawn
    tamperN := st ≠ .battery && s.sec.tamperHold
    irqN := supplied && s.irqDriven
    ppsOut := if supplied then some s.time.ppsOut else if st = .off then some false else none
    gpio := (List.range 16).map s.gpioLand
    bootSpi := supplied }

/-- The output lands follow the state. -/
def State.settle (s : State) : State := { s with pins := s.pinsOf }

/-- OUT_ENABLE is asserted (R329). -/
def State.outEnabled (s : State) : Bool := s.pinsOf.outEnable

/-! ### Outcomes -/

/-- The outcome of a meaning. -/
abbrev Result := Host.Outcome State Fault Refusal

/-- A command that has had its effect. -/
def done (s : State) : Result := .next s.settle

/-- A command whose operands name an instance the module has. -/
def need (c : Bool) (r : Result) : Result := if c then r else .fault .noSuchInstance

/-- A power domain of R482 is powered and out of reset: 0 BAT, 1 SUP, 2 SEC, 3 NETC, 4 and 5 SerDes, 6 to 9 regions,
10 CFAB, 11 HIO. -/
def State.powered (s : State) (d : Nat) : Bool :=
  bit s.power.domains d && !(s.power.heldReset && 3 ≤ d) && !(s.power.secHeld && d = 2)

/-- A command on a block of a power domain: its effect while the domain is powered (R28, R479), none otherwise. -/
def act (c : Bool) (domain : Nat) (s : State) (f : State → State) : Result :=
  need c (done (if s.powered domain then f s else s))

/-- Apply an effect for each element of a list, in order. -/
def State.each {α : Type} (s : State) (l : List α) (f : α → State → State) : State := l.foldl (fun t a => f a t) s

/-- Apply an effect only if a condition holds. -/
def State.when_ (s : State) (c : Bool) (f : State → State) : State := if c then f s else s

/-- The set positions of a word of `n` bits, rising. -/
def bitsOf (n w : Nat) : List Nat := (List.range n).filter fun i => bit w i

/-- A word with the given positions set. -/
def maskOf (l : List Nat) : Nat := l.foldl (fun m i => setBit m i true) 0

end Sys2Proof.Machine
end

