-- ==== Sys2Proof/Machine/Flags.lean ====
section
/-!
DEFINITION. Status flags and the event system (15_events_and_status_flags.md), the counters that report their half range
(R93), the pail's writes to its owner's memory with dirty logging (R258), and the event ring (R250, R251).
-/

namespace Sys2Proof.Machine

open Sys2Proof

/-! ### MSI-X (R251, R255, R475) -/

/-- When a message of a vector asked for now leaves: 1 µs after the last one at the earliest; none where one that is still to
leave speaks for it (log 107). -/
def State.msixTurn (s : State) (v : Nat) : Option Nat :=
  match Tab.find s.edp.msixSent v with
  | none => some s.now
  | some t => if s.now < t then none else some (max s.now (t + ofUs 1))

/-- An MSI-X message: pending while its vector is masked; at most one of a vector leaves per 1 µs, and what was asked for in
between leaves with the next. -/
def State.msix (s : State) (v : Nat) : State :=
  if s.edp.msixMasked.contains v then
    { s with edp := { s.edp with msixPending := if s.edp.msixPending.contains v then s.edp.msixPending
                                                 else v :: s.edp.msixPending } }
  else
    match s.msixTurn v with
    | none => s
    | some t => { s with edp := { s.edp with msixSent := Tab.insert s.edp.msixSent v t } }.emit (.msix v t)

/-! ### A pail's writes (R257, R258) -/

/-- The 4 KiB pages that `n` octets at `a` touch. -/
def pagesOf (a n : Nat) : List Nat :=
  if n = 0 then [] else (List.range ((a + n - 1) / 4096 - a / 4096 + 1)).map fun i => a / 4096 + i

/-- Mark one page in the bitmap in use, as a whole 8-byte OR (R258); the flag says that it lies outside the span. -/
def State.markPage (s : State) (p page : Nat) : State × Bool :=
  let d := (s.pail p).dirty
  let first := d.origin / 4096
  if first ≤ page && page - first < min d.span (2 ^ 24) then
    let i := page - first
    let o := s.pailOwner p
    let a := d.inUse + i / 8
    (s.storeByte o a (s.memByte o a ||| BitVec.ofNat 8 (2 ^ (i % 8))), false)
  else (s.modPail p fun x => { x with dirty := { x.dirty with ctrl := setBit x.dirty.ctrl 3 true } }, true)

/-- The RAM of a partition, guest-physical (R235). -/
def ramBase : Nat := 0x80000000
def State.inRam (s : State) (n a len : Nat) : Bool :=
  ramBase ≤ a && a + len ≤ ramBase + s.reg (Od.partMemory n) * 2 ^ 20 && !s.cut 1

/-- Octets that a pail's engine can reach: the bound partition's RAM (R235), or the host's 64-bit IO virtual space (R254); neither
without the I/O die (R29). -/
def State.pailReach (s : State) (p a len : Nat) : Bool :=
  if s.reg (Od.pailBindKind p) = 1 then s.inRam (s.reg (Od.pailPartition p)) a len else a + len ≤ 2 ^ 64 && !s.cut 1

/-- Octets that a pail's engine can read: in host memory those whose reads the host answers (R254). -/
def State.pailReads (s : State) (p a len : Nat) (answered : Bool) : Bool :=
  s.pailReach p a len && (answered || s.reg (Od.pailBindKind p) ≠ 2)

/-- Octets a pail writes into its owner's memory, marked while DIRTY_CTRL.ENABLE is set; the flag says that a page fell
outside the span. Octets outside what the owner has are not written (R235). -/
def State.pailStore (s : State) (p a : Nat) (bs : List Byte) : State × Bool :=
  let s1 := s.storeBytes (s.pailOwner p) a bs
  if !s.pailReach p a bs.length then (s, false)
  else if bit (s.pail p).dirty.ctrl 0 then
    (pagesOf a bs.length).foldl (fun acc page =>
      let r := acc.1.markPage p page
      (r.1, acc.2 || r.2)) (s1, false)
  else (s1, false)

/-! ### The event ring (R250, R251) -/

/-- Free entries of the ring. -/
def EvRing.free (e : EvRing) : Nat :=
  2 ^ field e.ctrl 1 4 - (e.tail + 2 ^ 16 - e.head) % 2 ^ 16

/-- The 32 octets of a ring entry. -/
def evEntry (type epoch source data tick time phase : Nat) : List Byte :=
  leBytes 1 type ++ leBytes 1 epoch ++ leBytes 2 source ++ leBytes 4 data ++ leBytes 8 tick ++ leBytes 10 time ++
    leBytes 5 0 ++ leBytes 1 phase

/-- Write one entry at the tail, whatever the room; the flag as `pailStore`. -/
def State.ringEntry (s : State) (p type source data time : Nat) : State × Bool :=
  let x := s.pail p
  let size := 2 ^ field x.ev.ctrl 1 4
  let r := s.pailStore p (x.ev.base + x.ev.tail % size * 32)
    (evEntry type x.epoch source data s.workTick time (b2n x.ev.phase))
  let tail := (x.ev.tail + 1) % 2 ^ 16
  (r.1.modPail p fun y =>
      { y with ev := { y.ev with tail := tail, phase := if tail % size = 0 then !y.ev.phase else y.ev.phase } }, r.2)

/-- New entries interrupt (R251): vector `p` for a host-bound pail, the VS external interrupt of its partition. -/
def State.ringInterrupt (s : State) (p : Nat) : State :=
  if bit (s.pail p).ev.ctrl 5 then
    if s.reg (Od.pailBindKind p) = 2 then s.msix p
    else if s.reg (Od.pailBindKind p) = 1 then
      s.modPart (s.reg (Od.pailPartition p)) fun x => { x with extPending := true }
    else s
  else s

/-- Whether a ring takes entries: enabled, and the pail built and not in a reset (R256). -/
def Pail.ringUp (x : Pail) : Bool := bit x.ev.ctrl 0 && (x.state = .active || x.state = .frozen)

/-- The OVERFLOW entry that reports what was dropped, once at least 2 entries are free (R251); the flag as `pailStore`. -/
def State.overflowEntry (s : State) (p : Nat) : State × Bool :=
  let e := (s.pail p).ev
  if (s.pail p).ringUp && e.lostSince ≠ 0 && 2 ≤ e.free then
    let r := s.ringEntry p 0x08 0 e.lostSince s.now
    ((r.1.modPail p fun y => { y with ev := { y.ev with lostSince := 0 } }).ringInterrupt p, r.2)
  else (s, false)

/-- Post an entry under the room rule of R251, without the report of an unlogged write. -/
def State.ringPost (s : State) (p type source data time : Nat) : State × Bool :=
  let x := s.pail p
  if !x.ringUp then (s, false)
  else if x.ev.free < 2 then
    (s.modPail p fun y => { y with ev := { y.ev with lost := (y.ev.lost + 1) % 2 ^ 32, lostSince := y.ev.lostSince + 1 } },
      false)
  else
    let o := s.overflowEntry p
    let r := o.1.ringEntry p type source data time
    (r.1.ringInterrupt p, o.2 || r.2)

/-- The OVERFLOW entry, with the DIRTY_OUT_OF_SPAN entry that its own write may ask for (R258). -/
def State.ringOverflow (s : State) (p : Nat) : State :=
  let r := s.overflowEntry p
  if r.2 then (r.1.ringPost p 0x0A 0 0 s.now).1 else r.1

/-- Post an entry; a write of it outside the dirty span posts DIRTY_OUT_OF_SPAN (R258), whose own write is only flagged
(assumption log 16). -/
def State.post (s : State) (p type source data time : Nat) : State :=
  let r := s.ringPost p type source data time
  if r.2 then (r.1.ringPost p 0x0A 0 0 s.now).1 else r.1

/-- Octets of work a pail writes: data and completions, with the DIRTY_OUT_OF_SPAN entry where it is due (R258). -/
def State.pailWrite (s : State) (p a : Nat) (bs : List Byte) : State :=
  let r := s.pailStore p a bs
  if r.2 then r.1.post p 0x0A 0 0 s.now else r.1

/-- The slot and the phase of the entry posted last. -/
def EvRing.lastSlot (e : EvRing) : Nat := (e.tail + 2 ^ 16 - 1) % 2 ^ 16 % 2 ^ field e.ctrl 1 4
def EvRing.lastPhase (e : EvRing) : Bool := if e.tail % 2 ^ field e.ctrl 1 4 = 0 then !e.phase else e.phase

/-- The entry in a slot has not been taken by the owner of the ring. -/
def EvRing.holds (e : EvRing) (slot : Nat) : Bool :=
  let size := 2 ^ field e.ctrl 1 4
  (e.tail + 2 * size - 1 - slot) % size < size - e.free

/-- Write an entry of the run again. -/
def State.runEntry (s : State) (p time : Nat) (e : Nat × Nat × Nat × Bool) : State × Bool :=
  let x := s.pail p
  s.pailStore p (x.ev.base + e.1 * 32) (evEntry 0x07 x.epoch e.2.1 e.2.2.1 s.workTick time (b2n e.2.2.2))

/-- The place of an entry among those of one TIME: after those of the same source and of lower ones (R478). -/
def placeSource (e : Nat × Nat) : List (Nat × Nat) → List (Nat × Nat)
  | [] => [e]
  | x :: r => if e.1 < x.1 then e :: x :: r else x :: placeSource e r

/-- A MODULE_EVENT entry: those of one TIME stand in ascending source number, so that one of a lower source than entries already there and
not yet taken moves them one slot on (R478). -/
def State.moduleEntry (s : State) (p source data time : Nat) : State × Bool :=
  let r := s.ringPost p 0x07 source data time
  let e := (r.1.pail p).ev
  if e.tail = (s.pail p).ev.tail then r
  else
    let before := if e.runTime = time then e.run.filter fun x => (s.pail p).ev.holds x.1 else []
    let all := before ++ [(e.lastSlot, source, data, e.lastPhase)]
    let sorted := placeSource (source, data) (before.map fun x => (x.2.1, x.2.2.1))
    let run := (all.zip sorted).map fun (x, c) => (x.1, c.1, c.2, x.2.2.2)
    let moved := ((all.zip run).filter fun (x, y) => x ≠ y).map (·.2)
    let w := moved.foldl (fun (acc : State × Bool) x =>
      let q := acc.1.runEntry p time x
      (q.1, acc.2 || q.2)) r
    (w.1.modPail p fun y => { y with ev := { y.ev with run := run, runTime := time } }, w.2)

/-- Post a MODULE_EVENT entry, as `post`. -/
def State.postModule (s : State) (p source data time : Nat) : State :=
  let r := s.moduleEntry p source data time
  if r.2 then (r.1.ringPost p 0x0A 0 0 s.now).1 else r.1

/-! ### PDUs (R433, R435, R440) -/

/-- The GCM IV: SESSION, DIRECTION, three zero octets, SEQUENCE. -/
def gcmIv (session direction seq : Nat) : List Byte := beBytes 4 session ++ beBytes 1 direction ++ beBytes 3 0 ++ beBytes 4 seq

/-- The 24-byte header of a PDU. -/
def pduHeader (version opcode flags session seq index sub status length handle : Nat) : List Byte :=
  beBytes 1 version ++ beBytes 1 opcode ++ beBytes 2 flags ++ beBytes 4 session ++ beBytes 4 seq ++ beBytes 2 index ++
    beBytes 1 sub ++ beBytes 1 status ++ beBytes 4 length ++ beBytes 4 handle

/-- A PDU under a key: its header, the ciphertext and the tag. -/
def sealedPdu (key iv header payload : List Byte) : List Byte :=
  let ct := gcmCrypt key iv payload
  header ++ ct ++ gcmTag key iv header ct

/-- A UART frame: 0x7E, the length, the PDU, the CRC-32 over length and PDU. -/
def uartCrc (pdu : List Byte) : Nat := crc32 (beBytes 2 pdu.length ++ pdu)
def uartFrame (pdu : List Byte) : List Byte := beBytes 1 0x7E ++ beBytes 2 pdu.length ++ pdu ++ beBytes 4 (uartCrc pdu)

/-- A PDU leaves over UDP or the UART. -/
def State.sendPdu (s : State) (t : Transport) (pdu : List Byte) : State :=
  match t with
  | .udp => s.emit (.pdu .udp pdu)
  | .uart => s.emit (.pdu .uart (uartFrame pdu))
  | .mailbox => s

/-! ### Event sources (R470 to R479) -/

/-- A source's block can set flags in the present power state (R479). -/
def State.sourceUp (s : State) (n : Nat) : Bool :=
  match s.power.state with
  | .run => true
  | .hold | .tamperHold => n ≤ 37 || n = 80 || n = 81 || (96 ≤ n && n ≤ 117)
  | .off => n = 97 || n = 114
  | .battery => false

/-- An EVENT PDU of a source to one session, under the 10 ms rule of R449. -/
def State.sendEvent (s : State) (sid n : Nat) : State :=
  match s.session? sid with
  | none => s
  | some x =>
    let s1 := s.setSession sid { x with evSent := Tab.insert x.evSent n s.now, evHeld := x.evHeld.filter (· ≠ n), evSeq := x.evSeq + 1 }
    let payload := beBytes 2 n ++ beBytes 4 (s.reg (Od.evStatus n)) ++ beBytes 4 (s.reg (Od.evResets n)) ++
      beBytes 10 (s.reg (Od.evLastSet n))
    (s1.emit (.event sid n (s.reg (Od.evStatus n)) (s.reg (Od.evResets n)) (s.reg (Od.evLastSet n)) x.evSeq)).sendPdu x.transport
      (sealedPdu (x.keys.drop 32) (gcmIv sid 2 x.evSeq) (pduHeader 1 0x21 0 sid x.evSeq 0 0 0 payload.length 0) payload)

/-- A notification on the EDP route for one session (R449, R475). -/
def State.notifySession (s : State) (sid n : Nat) : State :=
  match s.session? sid with
  | none => s
  | some x =>
    if x.opened && x.transport ≠ .mailbox && bit x.mask n then
      match Tab.find x.evSent n with
      | some t =>
        if s.now < t + ofMs 10 && t ≤ s.now then
          s.setSession sid { x with evHeld := if x.evHeld.contains n then x.evHeld else n :: x.evHeld }
        else s.sendEvent sid n
      | none => s.sendEvent sid n
    else s

/-- A notification of a source goes to every route of ROUTE (R474, R475); the level of IRQ_N follows from the flags. -/
def State.notify (s : State) (n : Nat) : State :=
  let route := s.reg (Od.evRoute n)
  let s1 := if bit route 0 then
      (List.range 64).foldl (fun t p =>
        if octetBit 8 (s.reg (Od.evPailMask n)) p then
          t.postModule p n (s.reg (Od.evStatus n)) (s.reg (Od.evLastSet n))
        else t) s
    else s
  let s2 := if bit route 1 then s1.msix (s.reg (Od.evMsixVector n)) else s1
  if bit route 2 then (s.edp.sessions.map (·.1)).foldl (fun t sid => t.notifySession sid n) s2 else s2

/-- The status word after a set: the flag, and INFO where the source carries one (R471). -/
def statusSet (w flag : Nat) (info : Option Nat) : Nat :=
  let f := setBit w flag true
  match info with
  | some i => setField f 16 16 i
  | none => f

/-- A condition sets a flag of a source (R471 to R474, R478). -/
def State.setFlag (s : State) (n flag : Nat) (info : Option Nat := none) : State :=
  if !s.sourceUp n then s
  else
    let w := s.reg (Od.evStatus n)
    let was := bit w flag
    let s1 := (s.setReg (Od.evStatus n) (statusSet w flag info)).setReg (Od.evLastSet n) s.now
    let s2 := if was then s1.setReg (Od.evResets n) (min (s.reg (Od.evResets n) + 1) (2 ^ 32 - 1)) else s1
    let s3 := { s2 with health := { s2.health with lastEvents := (n :: s2.health.lastEvents).take 16 } }
    if !was && bit (s.reg (Od.evEnableMask n)) flag then s3.notify n else s3

/-- The standing flags of R470. -/
def standing (n flag : Nat) : Bool :=
  match n with
  | 32 => flag = 3
  | 34 => flag = 2
  | 52 => flag = 2
  | 64 => flag = 1 || flag = 2
  | 65 => flag = 1
  | 80 => flag = 2 || flag = 6 || flag = 7
  | 81 => flag = 1
  | 96 => flag = 0
  | 97 => flag = 1
  | 112 => flag = 1 || flag = 2
  | 113 => flag = 3
  | 114 => flag = 3
  | 115 => flag = 0 || flag = 1
  | _ => false

/-- A standing condition begins or ends (R472): only its beginning sets and notifies; its end clears silently. -/
def State.stand (s : State) (n flag : Nat) (holds : Bool) (info : Option Nat := none) : State :=
  let w := s.reg (Od.evStatus n)
  if holds then if bit w flag then s else s.setFlag n flag info
  else if bit w flag then s.setReg (Od.evStatus n) (setBit w flag false) else s

/-! ### Counters that report half range (R93 and the chapters that follow it) -/

/-- Count one in a U32 counter of a source's block; the top bit rising sets HALF_RANGE, flag 0. -/
def State.countEv (s : State) (k n : Nat) (info : Option Nat) : State :=
  let v := (s.reg k + 1) % 2 ^ 32
  let s1 := s.setReg k v
  if v = 2 ^ 31 then s1.setFlag n 0 info else s1

/-- Add to a counter of port `p` at subindex `sub` (R91, R93). -/
def State.countPort (s : State) (p sub : Nat) (by_ : Nat := 1) : State :=
  let k := (0x2040 + p) * 256 + sub
  let w := if sub = 0x01 || sub = 0x11 then 48 else 32
  let old := s.reg k
  let v := (old + by_) % 2 ^ w
  let s1 := s.setReg k v
  if !bit old (w - 1) && bit v (w - 1) then
    let s2 := s1.setReg (Od.cntHalfRangeMap p) (setBit (s.reg (Od.cntHalfRangeMap p)) (sub - 1) true)
    (s2.modPort p fun x => { x with
      halfAt := s.now, halfBits := setBit (if x.halfAt = s.now then x.halfBits else 0) (sub - 1) true }).setFlag p 2
  else s1

/-- OVERFLOW_DROP of a port with its OVERFLOW flag (R90, R104). -/
def State.overflowDrop (s : State) (p : Nat) : State := (s.countPort p 0x26).setFlag p 9

/-! ### Writes of event sources (R462, R471, R473, R474) -/

/-- A write of STATUS: the flags that are 1 in the value clear, but for standing ones. -/
def State.clearStatus (s : State) (n value : Nat) : State :=
  let w := s.reg (Od.evStatus n)
  let gone := (List.range 16).filter fun f => bit value f && !standing n f
  s.setReg (Od.evStatus n) (gone.foldl (fun v f => setBit v f false) w)

/-- A write of ENABLE_MASK: enabling a flag that is 1 notifies once (R474). -/
def State.writeEnableMask (s : State) (n value : Nat) : State :=
  let old := s.reg (Od.evEnableMask n)
  let s1 := s.setReg (Od.evEnableMask n) value
  if (List.range 16).any fun f => bit (s.reg (Od.evStatus n)) f && bit value f && !bit old f then s1.notify n else s1

/-! ### What a flag may change -/

/-- What a notification leaves alone. -/
def State.still (s : State) : State := { s with mem := [], pails := [], parts := [], edp := {}, out := [] }

/-- What a flag leaves alone: as a notification, without the entries and the log of latest sources. -/
def State.calm (s : State) : State := { s.still with regs := [], health := {} }

end Sys2Proof.Machine
end

