-- ==== Sys2Proof/Machine/Operands.lean ====
section
/-!
DEFINITION. Operand forms: the fields of the packed words that entries, registers and descriptors carry.
Each accessor is named after the field it reads; the rule that lays out the word is in its docstring.
-/

namespace Sys2Proof.Machine

open Sys2Proof

/-! ### Frames (R84, R117, R135) -/

/-- A destination address with its group bit set, and the broadcast address. -/
def isGroupMac (m : Nat) : Bool := bit m 40
def broadcastMac : Nat := 0xFFFFFFFFFFFF

/-! ### Filter rules (R85) -/

structure FilterRule where
  vid : Nat
  pcp : Nat
  etherType : Nat
  appid : Nat
  matchVid : Bool
  matchPcp : Bool
  matchEtype : Bool
  matchAppid : Bool
  queue : Nat
  action : Nat
  enable : Bool
  deriving DecidableEq, Repr

/-- The word of R85. -/
def filterRule (w : Nat) : FilterRule :=
  { vid := field w 0 12, pcp := field w 12 3, etherType := field w 16 16, appid := field w 32 16
    matchVid := bit w 48, matchPcp := bit w 49, matchEtype := bit w 50, matchAppid := bit w 51
    queue := field w 52 4, action := field w 56 2, enable := bit w 63 }

/-- The words R85 refuses. -/
def filterRuleOk (w : Nat) : Bool :=
  let r := filterRule w
  r.action ≠ 3 && (!r.matchAppid || (r.matchEtype && (r.etherType = 0x88BA || r.etherType = 0x88B8)))

/-! ### Static entries and multicast groups (R118, R119) -/

structure StaticEntry where
  mac : Nat
  vid : Nat
  vidAny : Bool
  valid : Bool
  kind : Nat
  egress : Nat
  group : Nat
  cls : Nat
  clsEn : Bool
  ctInhibit : Bool
  generation : Nat
  deriving DecidableEq, Repr

/-- The word of R118; the group of KIND 1 is all of [95:64], so that a set reserved bit names none (log 117). -/
def staticEntry (w : Nat) : StaticEntry :=
  { mac := field w 0 48, vid := field w 48 12, vidAny := bit w 60, valid := bit w 61, kind := field w 62 2
    egress := field w 64 32, group := field w 64 32, cls := field w 96 3, clsEn := bit w 99, ctInhibit := bit w 100
    generation := field w 112 16 }

/-- The keys of two entries are equal (R118). -/
def StaticEntry.sameKey (a b : StaticEntry) : Bool :=
  a.mac = b.mac && a.vidAny = b.vidAny && (a.vidAny || a.vid = b.vid)

/-! ### Channel records, filter records, phasor outputs (R174, R219, R220) -/

/-- DELAY of R174. -/
def State.channelDelay (s : State) (c : Nat) : Int := toSigned 64 (field (s.reg (Od.channelRecord c)) 0 64)
/-- PRIORITY of R174. -/
def State.channelPriority (s : State) (c : Nat) : Nat := field (s.reg (Od.channelRecord c)) 64 2

structure FilterRecord where
  profile : Nat
  group : Nat
  invert : Bool
  volts : Bool
  gain : Nat
  hist : Bool
  restarts : Nat
  deriving DecidableEq, Repr

/-- The word of R220. -/
def filterRecord (w : Nat) : FilterRecord :=
  { profile := field w 0 6, group := field w 8 6, invert := bit w 14, volts := bit w 15, gain := field w 16 32
    hist := bit w 48, restarts := field w 56 8 }

def State.frec (s : State) (c : Nat) : FilterRecord := filterRecord (s.reg (Od.filterRecord c))

/-- CHANNEL, PATH (true for SKIM) and ENABLE of R219. -/
def State.outChannel (s : State) (p : Nat) : Nat := field (s.reg (Od.output p)) 0 13
def State.outSkim (s : State) (p : Nat) : Bool := bit (s.reg (Od.output p)) 13
def State.outEnable (s : State) (p : Nat) : Bool := bit (s.reg (Od.output p)) 15

/-! ### Key slots (R370) -/

structure SlotRec where
  parent : Nat
  rooted : Bool
  valid : Bool
  persist : Bool
  exportable : Bool
  alg : Nat
  usage : Nat
  lcMask : Nat
  bindKind : Nat
  bindId : Nat
  ownGen : Nat
  parentGen : Nat
  deriving DecidableEq, Repr

/-- The word of R370; `usage` is bits [23:16]: DERIVE, ENCRYPT, DECRYPT, SIGN, VERIFY, MAC_GEN, MAC_VERIFY, WRAP. -/
def slotRec (w : Nat) : SlotRec :=
  { parent := field w 0 8, rooted := bit w 8, valid := bit w 9, persist := bit w 10, exportable := bit w 11
    alg := field w 12 4, usage := field w 16 8, lcMask := field w 24 8, bindKind := field w 32 2, bindId := field w 34 7
    ownGen := field w 64 16, parentGen := field w 80 16 }

/-- The word of a record. -/
def SlotRec.word (r : SlotRec) : Nat :=
  r.parent % 256 + b2n r.rooted * 2 ^ 8 + b2n r.valid * 2 ^ 9 + b2n r.persist * 2 ^ 10 + b2n r.exportable * 2 ^ 11 +
    r.alg % 16 * 2 ^ 12 + r.usage % 256 * 2 ^ 16 + r.lcMask % 256 * 2 ^ 24 + r.bindKind % 4 * 2 ^ 32 +
    r.bindId % 128 * 2 ^ 34 + r.ownGen % 65536 * 2 ^ 64 + r.parentGen % 65536 * 2 ^ 80

def State.slot (s : State) (n : Nat) : SlotRec := slotRec (s.reg (Od.keySlot n))
def State.setSlot (s : State) (n : Nat) (r : SlotRec) : State := s.setReg (Od.keySlot n) r.word

/-! ### Grants of a pail (R266) -/

/-- The subscription, publication or key slot of a pail's local slot; none for 0xFFFF. -/
def State.pailSub (s : State) (p i : Nat) : Option Nat :=
  let v := octetElem 64 2 (s.reg (Od.pailGooseSubs p)) i
  if i < 32 && v ≠ 0xFFFF then some v else none
def State.pailPub (s : State) (p i : Nat) : Option Nat :=
  let v := octetElem 32 2 (s.reg (Od.pailGoosePubs p)) i
  if i < 16 && v ≠ 0xFFFF then some v else none
def State.pailCrypto (s : State) (p i : Nat) : Option Nat :=
  let v := octetElem 16 2 (s.reg (Od.pailCryptoSlots p)) i
  if i < 8 && v ≠ 0xFFFF then some v else none
def State.pailImage (s : State) (p c : Nat) : Bool := octetBit 1024 (s.reg (Od.pailImageGrant p)) c
def State.pailPhasor (s : State) (p o : Nat) : Bool := octetBit 1024 (s.reg (Od.pailPhasorGrant p)) o

/-! ### Dataset members (R246, R464) -/

/-- TYPE codes of a subscription, read up to the first 0 (R465). -/
def memberTypes (v : Nat) : List Nat := ((List.range 32).map (octetElem 32 1 v)).takeWhile (· ≠ 0)

/-- A member cell of R246: VALUE [31:0], QUALITY [44:32], TYPE [55:48]. -/
def cellValue (c : Nat) : Nat := field c 0 32
def cellQuality (c : Nat) : Nat := field c 32 13
def cellType (c : Nat) : Nat := field c 48 8
def cell (type value quality : Nat) : Nat := value % 2 ^ 32 + quality % 2 ^ 13 * 2 ^ 32 + type % 256 * 2 ^ 48

/-! ### A pail queue's control word (R240) -/

def Queue.enabled (q : Queue) : Bool := bit q.ctrl 0
def Queue.kind (q : Queue) : Nat := field q.ctrl 1 3
def Queue.sqSize (q : Queue) : Nat := 2 ^ field q.ctrl 4 4
def Queue.cqSize (q : Queue) : Nat := 2 ^ field q.ctrl 8 4
def Queue.cqEvent (q : Queue) : Bool := bit q.ctrl 12

end Sys2Proof.Machine
end

