-- ==== Sys2Proof/Machine/SwitchOps.lean ====
section
/-!
DEFINITION. Shared operations of the switch core (04_switch_core_and_separator.md): forwarding, admission, class queues,
release of cells, frames the module sends itself, transmit timestamps (R67 to R71).
-/

namespace Sys2Proof.Machine

open Sys2Proof

/-! ### Accounts and cells (R106 to R110) -/

def Switch.account (w : Switch) (port cls : Nat) : Nat := Tab.look w.accounts (port * 8 + cls) 0
def Switch.charge (w : Switch) (port cls n : Nat) : Switch :=
  { w with accounts := Tab.put w.accounts (port * 8 + cls) (w.account port cls + n) 0 }
def Switch.discharge (w : Switch) (port cls n : Nat) : Switch :=
  { w with accounts := Tab.put w.accounts (port * 8 + cls) (w.account port cls - n) 0 }
def Switch.queue (w : Switch) (port cls : Nat) : List Nat := Tab.look w.queues (port * 8 + cls) []
def Switch.setQueue (w : Switch) (port cls : Nat) (l : List Nat) : Switch :=
  { w with queues := Tab.put w.queues (port * 8 + cls) l [] }

/-- RV of R108: what the guarantees of 8 cells still owe the 256 class queues. -/
def Switch.rv (w : Switch) : Nat := 2048 - (w.accounts.map fun e => min 8 e.2).sum

/-- Cells of a length. -/
def cellsOf (len : Nat) : Nat := (len + 255) / 256

/-- How one egress class queue answers (R109). -/
inductive Verdict where
  | admitted | linkDown | overflow
  deriving DecidableEq, Repr

/-- The admission test of R109 for `n` cells; `code` is the ALPHA code of the class at the port. -/
def Switch.admits (w : Switch) (up : Bool) (code port cls n : Nat) : Verdict :=
  if !up then .linkDown
  else if w.account port cls + n ≤ 8 then .admitted
  else
    let spare := w.free - w.rv
    let excess := w.account port cls + n - 8
    if n ≤ spare && excess * 8 ≤ 2 ^ code * (spare - n) then .admitted else .overflow

/-- A destination of a frame: the port and class queue, whether it is cut through there (R127), whether it keeps the
tag it came with (R136, R140). -/
structure Dest where
  port : Nat
  cls : Nat
  cut : Bool
  keepTag : Bool
  deriving DecidableEq, Repr

/-- A port whose PCS has reported link for LINK_UP_HOLD may come up (R74, R77, R102). -/
def State.mayRise (s : State) (p : Nat) : Bool :=
  let x := s.port p
  !x.linkUp && !x.retired && !x.duplexHeld && s.reg (Od.portRole p) ≠ 0 &&
    match x.pcsLostAt with
    | some t => t + ofMs (s.reg (Od.portLinkUpHold p)) ≤ s.now
    | none => true

/-- The link state that admission reads (R103): a link that comes up in the same cycle is up, one that goes down is down. -/
def State.linkRead (s : State) (p : Nat) : Bool :=
  let falls := s.sameCycle.any fun c => match c with
    | .linkDown _ q => q = p
    | _ => false
  let rises := s.sameCycle.any fun c => match c with
    | .linkUp _ q => q = p
    | _ => false
  !falls && ((s.port p).linkUp || (rises && s.mayRise p))

/-- What admission of a frame to its destinations leaves: the state, those that admitted it, those without cells. -/
structure Admission where
  state : State
  admitted : List Dest
  overflowed : List Nat

/-- Take in `n` cells of one frame to each destination in turn; the first to take it stores the frame (R109). -/
def State.admitCopies (s : State) (n : Nat) (dests : List Dest) : Admission :=
  dests.foldl (fun a d =>
    match a.state.sw.admits (a.state.linkRead d.port) (a.state.reg (Od.swPortAlpha d.port d.cls)) d.port d.cls n with
    | .linkDown => { a with state := a.state.countPort d.port 0x27 }
    | .overflow => { a with overflowed := a.overflowed ++ [d.port] }
    | .admitted =>
      let w := a.state.sw.charge d.port d.cls n
      { a with state := { a.state with sw := if a.admitted.isEmpty then { w with free := w.free - n } else w }
               admitted := a.admitted ++ [d] }) ⟨s, [], []⟩

/-- Operations on the memory beside those of the ports: local copies, their reads, frames of the module's own (R107). -/
def State.useMemory (s : State) (n : Nat) : State :=
  { s with sw := { s.sw with internalOps := (s.now, n) :: s.sw.internalOps.filter fun e => s.now < e.1 + ofUs 2 } }

/-- A local copy may have to wait 2 µs for the memory: no more than the 95 operations that 47.6 million a second guarantee in that
time are sure of their place (R107; log 106). -/
def State.memoryFull (s : State) : Bool :=
  95 < ((s.sw.internalOps.filter fun e => s.now < e.1 + ofUs 2).map (·.2)).sum

/-- Put an admitted frame into the class queues of its destinations (R111). -/
def State.enqueue (s : State) (f : SwFrame) (dests : List Dest) : State :=
  if dests.isEmpty then s
  else
    let id := s.sw.nextId
    let w := dests.foldl (fun (w : Switch) d => w.setQueue d.port d.cls (w.queue d.port d.cls ++ [id])) s.sw
    let f' := { f with egress := dests.map fun d =>
      { port := d.port, cls := d.cls, cutThrough := d.cut, started := false, keepTag := d.keepTag } }
    { s with sw := { w with frames := Tab.insert w.frames id f', nextId := id + 1 } }

/-- A class whose queue at a port is empty keeps no deficit (R125). -/
def State.emptyDeficits (s : State) (p : Nat) : State :=
  s.modPort p fun x => { x with deficits := x.deficits.zipIdx.map fun (d, c) => if (s.sw.queue p c).isEmpty then 0 else d }

/-- A frame leaves one class queue: its account falls, and F regains the cells when the last queue releases it (R110). -/
def State.leave (s : State) (id port : Nat) : State :=
  match Tab.find s.sw.frames id with
  | none => s
  | some f =>
    let w := (f.egress.filter (·.port = port)).foldl (fun (w : Switch) e =>
      (w.discharge port e.cls f.cells).setQueue port e.cls ((w.queue port e.cls).filter (· ≠ id))) s.sw
    let rest := f.egress.filter (·.port ≠ port)
    let t : State :=
      if rest.isEmpty then { s with sw := { w with frames := Tab.del w.frames id, free := w.free + f.cells } }
      else { s with sw := { w with frames := Tab.insert w.frames id { f with egress := rest } } }
    t.emptyDeficits port

/-- Cells a frame did not fill return to F and to every account it is charged to (R110). -/
def State.trimCells (s : State) (id used : Nat) : State :=
  match Tab.find s.sw.frames id with
  | none => s
  | some f =>
    let back := f.cells - used
    let w := f.egress.foldl (fun (w : Switch) e => w.discharge e.port e.cls back) s.sw
    { s with sw := { w with frames := Tab.insert w.frames id { f with cells := f.cells - back }, free := w.free + back } }

/-! ### Redundancy groups (R131, R132) -/

/-- KIND of a group: 0 off, 1 PRP, 2 HSR. -/
def State.groupKind (s : State) (g : Nat) : Nat := s.reg (Od.sepGroupKind g)

/-- The group a port belongs to, and whether it is its PORT_A. -/
def State.groupOf (s : State) (p : Nat) : Option (Nat × Bool) :=
  (List.range 16).findSome? fun g =>
    if s.groupKind g = 0 then none
    else if s.reg (Od.sepGroupPortA g) = p then some (g, true)
    else if s.reg (Od.sepGroupPortB g) = p then some (g, false)
    else none

/-- The two ports of a group. -/
def State.groupPorts (s : State) (g : Nat) : List Nat := [s.reg (Od.sepGroupPortA g), s.reg (Od.sepGroupPortB g)]

/-- PORT_MAC (R461); both ports of a group use that of PORT_A (R132). -/
def State.portMac (s : State) (p : Nat) : Nat :=
  let q := match s.groupOf p with
    | some (g, _) => s.reg (Od.sepGroupPortA g)
    | none => p
  Config.baseMac.toNat + q

/-- An egress set with both ports of every group that it names one port of (R136). -/
def State.widen (s : State) (ports : List Nat) : List Nat :=
  (List.range 32).filter fun p =>
    ports.contains p || match s.groupOf p with
      | some (g, _) => (s.groupPorts g).any ports.contains
      | none => false

/-! ### The forwarding decision (R114 to R117) -/

/-- The valid static entries. -/
def State.staticEntries (s : State) : List StaticEntry :=
  (s.regs.filter fun e => 0x221001 ≤ e.1 && e.1 ≤ 0x2250FF).map (fun e => staticEntry e.2) |>.filter (·.valid)

/-- The static entry that decides a destination: an exact VID before VID_ANY (R115). -/
def State.lookup (s : State) (mac vid : Nat) : Option StaticEntry :=
  let es := s.staticEntries.filter (·.mac = mac)
  match es.find? fun e => !e.vidAny && e.vid = vid with
  | some e => some e
  | none => es.find? (·.vidAny)

/-- The VLAN ID of a received frame: an untagged one, and one tagged with VLAN ID 0, takes the port's PVID (R84). -/
def State.readVid (s : State) (p : Nat) (tag : Option VlanTag) : Nat :=
  match tag with
  | some t => if t.vid = 0 then s.reg (Od.portPvid p) else t.vid
  | none => s.reg (Od.portPvid p)

/-- The VLAN ID of a frame at its ingress port (R84), or of a frame the module sends itself (R114). -/
def State.vidOf (s : State) (ingress : Option Nat) (f : Frame) : Nat :=
  match ingress with
  | some p => s.readVid p f.tag
  | none => (f.tag.map (·.vid)).getD 0

/-- UNKNOWN_MC of a port, whose default is by role (R457). -/
def State.unknownMc (s : State) (p : Nat) : Bool :=
  match s.reg (Od.swPortUnknownMc p) with
  | 2 => s.reg (Od.portRole p) ≠ 1
  | v => v ≠ 0

/-- RX_PAUSE_ENABLE of a port, whose default is by role (R76). -/
def State.rxPause (s : State) (p : Nat) : Bool :=
  match s.reg (Od.portRxPauseEnable p) with
  | 2 => s.reg (Od.portRole p) = 2 || s.reg (Od.portRole p) = 3
  | v => v ≠ 0

/-- What a forwarding decision records: the egress ports, the class, whether cut-through is inhibited, and whether the
frame counts as UNKNOWN_DISCARD. -/
structure Decision where
  ports : List Nat
  cls : Nat
  inhibit : Bool
  unknown : Bool
  deriving DecidableEq, Repr

/-- The action on a miss (R115). A frame of the module's own that no entry carries goes nowhere (log 20). -/
def State.onMiss (s : State) (ingress : Option Nat) (dst cls : Nat) : Decision :=
  match ingress with
  | none => ⟨[], cls, false, false⟩
  | some p =>
    let flood : Decision := ⟨bitsOf 32 (s.reg (Od.swPortFloodMask p)), cls, false, false⟩
    if dst = broadcastMac then flood
    else if isGroupMac dst then if s.unknownMc p then flood else ⟨[], cls, false, true⟩
    else if s.on (Od.swPortUnknownUc p) then flood else ⟨[], cls, false, true⟩

/-- The forwarding decision of R114 to R117, before the ingress port is removed. -/
def State.decide_ (s : State) (ingress : Option Nat) (f : Frame) : Decision :=
  let cls := match f.tag, ingress with
    | some t, _ => t.pcp % 8
    | none, some p => s.reg (Od.portDefaultPcp p) % 8
    | none, none => 0
  match s.lookup f.dst (s.vidOf ingress f) with
  | none => s.onMiss ingress f.dst cls
  | some e =>
    let c := if e.clsEn then e.cls else cls
    match e.kind with
    | 0 => ⟨bitsOf 32 e.egress, c, e.ctInhibit, false⟩
    | 1 =>
      let g := s.reg (Od.mcGroup e.group)
      if bit g 63 then ⟨bitsOf 32 (field g 0 32), c, e.ctInhibit, false⟩ else s.onMiss ingress f.dst cls
    | _ => ⟨[], c, false, true⟩

/-! ### Lengths and times on the wire -/

/-- Drips that `n` octets take at a port's current rate in Mb/s. -/
def wireTime (speed n : Nat) : Nat := if speed = 0 then 0 else n * 8 * 2 ^ 36 / (speed * 1000000)

/-- The sequence number a frame takes in a group: one counter, one number per frame (R136). -/
def State.takeSeq (s : State) (g : Nat) : State × Nat :=
  let n := Tab.look s.sw.groupSeq g 0
  ({ s with sw := { s.sw with groupSeq := Tab.put s.sw.groupSeq g ((n + 1) % 2 ^ 16) 0 } }, n)

/-- Take sequence numbers for every group among the destinations that do not keep their tag. -/
def State.takeSeqs (s : State) (dests : List Dest) : State × List (Nat × Nat) :=
  (List.range 16).foldl (fun acc g =>
    if s.groupKind g ≠ 0 && dests.any (fun d => !d.keepTag && (s.groupPorts g).contains d.port) then
      let r := acc.1.takeSeq g
      (r.1, acc.2 ++ [(g, r.2)])
    else acc) (s, [])

/-- The LSDU size of a frame (R134; log 116): its octets after the EtherType up to the FCS, a trailer among them. -/
def lsduSize (f : Frame) : Nat := f.len - 18 - (if f.tag.isSome then 4 else 0)

/-- The redundancy control trailer of a frame, if it is valid (R134). -/
def trailer (f : Frame) : Option PrpTrailer := f.prp.filter fun t => t.suffix = 0x88FB && t.size = lsduSize f % 4096

/-- A frame without the tag or trailer of a group of a kind: 1 PRP, 2 HSR. -/
def withoutTag (f : Frame) (kind : Nat) : Frame :=
  if kind = 1 && (trailer f).isSome then { f with prp := none, len := f.len - 6 }
  else if kind = 2 && f.hsr.isSome then { f with hsr := none, len := f.len - 6 }
  else f

/-- The frame as it leaves a port (R116, R136, R344): a frame of the module's own without a source takes PORT_MAC; as it came where it
keeps its tag, else without the tag of the group it came in on and with that of the port's group, with the number it took. -/
def State.onWire (s : State) (f : SwFrame) (e : Egress) : Frame :=
  let sent : Frame := if f.ingress.isNone && f.frame.src = 0 then { f.frame with src := s.portMac e.port } else f.frame
  if e.keepTag then sent
  else
    let bare := withoutTag sent f.inKind
    match s.groupOf e.port with
    | none => bare
    | some (g, a) =>
      let n := Tab.look f.seqs g 0
      if s.groupKind g = 1 then
        let t : Frame := { bare with len := bare.len + 6 }
        { t with prp := some ⟨if a then 0xA else 0xB, n, lsduSize t % 4096, 0x88FB⟩ }
      else { bare with hsr := some ⟨if a then 0 else 1, n⟩, len := bare.len + 6 }

/-! ### Frames the module sends itself (R90, R112, R114, R117) -/

/-- What a frame of the module's own comes to: the state, and the ports that admitted it. -/
structure Sent where
  state : State
  ports : List Nat
  id : Nat

/-- Send a frame of the module's own: to given ports, or as the forwarding table decides (R114). A port whose link is down counts
LINK_DOWN_DISCARD (R101), one whose frame limit it exceeds as it would be sent OVERSIZE (R81), one without cells OVERFLOW_DROP (R90).
A PTP frame bypasses the separator (R133). -/
def State.sendOwn (s : State) (f : Frame) (direct : Option (List Nat)) (owner : Option Nat) (tag : Nat)
    (ptp : Option PtpTx) : Sent :=
  let cls := match f.tag with
    | some t => t.pcp % 8
    | none => 0
  let dec : Decision := match direct with
    | some ps => ⟨ps, cls, true, false⟩
    | none => s.decide_ none f
  let bypass := decide (f.etherType = 0x88F7)
  let ports := if bypass then (List.range 32).filter dec.ports.contains else s.widen dec.ports
  let long := ports.filter fun p =>
    s.linkRead p && s.reg (Od.portFrameLimit p) < f.len + (if !bypass && (s.groupOf p).isSome then 6 else 0)
  let s1 := (s.useMemory (cellsOf f.len)).each long fun p t => t.countPort p 0x24
  let dests := (ports.filter fun p => !long.contains p).map fun p => (⟨p, dec.cls, false, bypass⟩ : Dest)
  let a := s1.admitCopies (cellsOf f.len) dests
  let s2 := a.state.each a.overflowed fun p t => t.overflowDrop p
  let r := s2.takeSeqs a.admitted
  let id := r.1.sw.nextId
  ⟨r.1.enqueue { frame := f, ingress := none, cells := cellsOf f.len, generation := s.reg Od.swTableGeneration
                 ageFrom := s.now, bytesIn := f.len, complete := true, bad := false, egress := []
                 tsOwner := owner, tsTag := tag, ptp := ptp, seqs := r.2 } a.admitted,
    a.admitted.map (·.port), id⟩

/-! ### Transmit timestamps (R67 to R71) -/

/-- The PTP messageType of IEEE 1588-2019. -/
def msgType : PtpKind → Nat
  | .sync => 0x0
  | .pdelayReq => 0x2
  | .pdelayResp => 0x3
  | .followUp => 0x8
  | .pdelayRespFollowUp => 0xA
  | .announce => 0xB
  | .management => 0xD
  | .delayReq => 0x1
  | .delayResp => 0x9
  | .other => 0xF

/-- A timestamp that is lost: counted, logged in the lost-ID ring, the port's event raised (R70, R71), and told to the
pail whose frame it was (R245). -/
def State.timestampLost (s : State) (p : Nat) (e : TsEntry) (cause : Nat) : State :=
  let w := e.seqId % 2 ^ 16 + e.msg % 16 * 2 ^ 16 + e.domain % 256 * 2 ^ 20 + cause * 2 ^ 28 + 2 ^ 29 +
    e.tick % 2 ^ 32 * 2 ^ 32
  let s1 := (s.countPort p 0x29).setFlag p 3
  let s2 := (List.range 15).reverse.foldl (fun t i => t.setReg (Od.lostId p (i + 1)) (t.reg (Od.lostId p i))) s1
  let s3 := s2.setReg (Od.lostId p 0) w
  { s3 with pails := s3.pails.map fun (k, x) =>
      (k, { x with pendingTx := x.pendingTx.map fun t => if t.frameId = e.frameId then { t with lost := true } else t }) }

/-- Places of a transmit timestamp queue that are taken at this instant: those freed at it are not available (R69). -/
def Port.tsTaken (x : Port) (now : Nat) : Nat := x.tsQueue.length + (if x.tsFreedAt = now then x.tsFreed else 0)

/-- Capture of a transmit timestamp at a port (R65, R67, R69): queued if there is room at this instant, else lost. A PTP frame of a
local transmit queue is known by its header (IEEE 1588-2019 clause 13). -/
def State.capture (s : State) (p : Nat) (f : SwFrame) (id owner : Nat) : State :=
  let x := s.port p
  let header := f.ptp.isNone && decide (f.frame.etherType = 0x88F7)
  let e : TsEntry :=
    { ts := dripAdd s.now (s.regI 64 (Od.ptpPortEgressLatency p))
      seqId := match f.ptp with | some m => m.seq | none => if header then beAt f.frame.body 30 2 else f.tsTag
      msg := match f.ptp with | some m => msgType m.kind | none => if header then beAt f.frame.body 0 1 else 0
      domain := if f.ptp.isSome then s.reg Od.ptpDomain else if header then beAt f.frame.body 4 1 else 0
      owner := owner, nonPtp := f.ptp.isNone && !header, captured := s.now, tick := s.tickNow, frameId := id, ptp := f.ptp }
  if x.tsTaken s.now < 64 then s.setPort p { x with tsQueue := x.tsQueue ++ [e] } else s.timestampLost p e 0

end Sys2Proof.Machine
end

