-- ==== Sys2Proof/Machine/TimeOps.lean ====
section
/-!
DEFINITION. Shared operations of the time unit (02_drips_turns_and_station_time.md): conversion to and from PTP time, the
servo, the choice of source, steps, holdover.
-/

namespace Sys2Proof.Machine

open Sys2Proof

/-! ### Conversion (R43 to R45) -/

/-- A PTP time with the corrections that apply to it, exactly, in 2^-16 ns (R43). -/
def ptpExact (seconds nanos : Nat) (correction : Int) : Int := ((seconds * 1000000000 + nanos) * 2 ^ 16 : Nat) + correction

/-- The drip value of a PTP time with every correction that applies, those counted in drips apart, as one exact quantity rounded
once; none where R44 refuses it. -/
def fromPtp (seconds nanos : Nat) (correction : Int) (drips : Int := 0) : Option Nat :=
  let a := roundDiv (ptpExact seconds nanos correction * 2 ^ 20 + drips * 1000000000) 1000000000
  if seconds < 2 ^ 44 ∧ 0 ≤ a then some a.toNat else none

/-- Seconds, nanoseconds and the remainder for the correction field, of a drip value (R45). -/
def toPtp (a : Nat) : Nat × Nat × Int :=
  let frac := a % 2 ^ 36
  let ns := frac * 1000000000 / 2 ^ 36
  (a / 2 ^ 36, ns, roundDiv (frac * 1000000000 : Nat) (2 ^ 20) - (ns * 2 ^ 16 : Nat))

/-- Seconds and nanoseconds where no correction field stands beside them (R45). -/
def toPtpRounded (a : Nat) : Nat × Nat :=
  let ns := (roundDiv (a % 2 ^ 36 * 1000000000 : Nat) (2 ^ 36)).toNat
  if ns = 1000000000 then (a / 2 ^ 36 + 1, 0) else (a / 2 ^ 36, ns)

/-- A duration in drips as a count of 2^-16 ns (R45, R54). -/
def toCorrection (d : Int) : Int := roundDiv (d * 1000000000) (2 ^ 20)

/-! ### The servo (R56 to R60) -/

/-- SERVO_STATE of R72. -/
def servoCode : Servo → Nat
  | .freeRun => 0 | .acquiring => 1 | .locked => 2 | .holdover => 3 | .holdoverOutOfSpec => 4

def State.setTimeUnit (s : State) (f : TimeUnit → TimeUnit) : State := { s with time := f s.time }

/-- A flag of the TIME source; INFO is SERVO_STATE (R470). -/
def State.timeFlag (s : State) (flag : Nat) : State := s.setFlag 32 flag (some (servoCode s.time.servo))

/-- PPS_OUT pulses are driven (R63). -/
def TimeUnit.drivesPps (t : TimeUnit) : Bool :=
  t.ppsMode = 2 || (t.ppsMode = 1 && (t.servo = .locked || t.servo = .holdover))

/-- A top of a second plus the PPS_OUT offset in force, to the ±2 ns (137 drips) of R63. -/
def TimeUnit.ppsDue (t : TimeUnit) : Bool := ((t.now : Int) - t.ppsOffset + 137) % 2 ^ 36 ≤ 274

/-- Settings of PPS_OUT written before a top of a second are in force from it (R63). -/
def State.ppsRefresh (s : State) : State :=
  match s.time.ppsChangeAt with
  | some t =>
    if t ≤ s.now then
      s.setTimeUnit fun u => { u with
        ppsChangeAt := none, ppsMode := s.reg Od.ppsOutMode, ppsWidth := s.reg Od.ppsOutWidth
        ppsOffset := s.regI 64 Od.ppsOutOffset }
    else s
  | none => s

/-- The next top of a second. -/
def nextTop (t : Nat) : Nat := (t / 2 ^ 36 + 1) * 2 ^ 36

/-- A write of a PPS_OUT setting: in force from the next top of a second. -/
def State.ppsChanged (s : State) : State := s.setTimeUnit fun u => { u with ppsChangeAt := some (nextTop s.now) }

/-- Enter a servo state; the change is an event, HOLDOVER_OUT_OF_SPEC stands while it lasts, and PPS_OUT is low where no
pulses are driven. -/
def State.setServo (s : State) (v : Servo) : State :=
  if s.time.servo = v then s
  else
    let s1 := s.ppsRefresh.setTimeUnit fun t => { t with servo := v, lockRun := 0 }
    let s2 := s1.setTimeUnit fun t => { t with ppsOut := t.ppsOut && t.drivesPps }
    (s2.timeFlag 0).stand 32 3 (v = .holdoverOutOfSpec) (some (servoCode v))

/-- The estimated error of R60 exceeds a limit: `e0 + y t + a t^2 / 2` in drips, exactly, with `y` in 10^-12 and `a` in
10^-12 per day. -/
def holdNum (e0 y a t : Nat) : Nat :=
  e0 * (2 * 86400 * 10 ^ 12 * 2 ^ 36) + y * t * (2 * 86400 * 2 ^ 36) + a * t * t
def holdDen : Nat := 2 * 86400 * 10 ^ 12 * 2 ^ 36

/-- HOLDOVER_ERROR (R60, R72): the estimate now, rounded down, 0 outside holdover (log 105). -/
def State.holdError (s : State) : Nat :=
  if s.time.servo = .holdover ∨ s.time.servo = .holdoverOutOfSpec then
    holdNum s.time.holdError (s.reg Od.holdoverStability) (s.reg Od.holdoverAgeing) (s.now - s.time.holdSince) / holdDen
  else 0

/-- Whether the estimate exceeds HOLDOVER_LIMIT. -/
def State.holdExceeded (s : State) : Bool :=
  s.reg Od.holdoverLimit * holdDen <
    holdNum s.time.holdError (s.reg Od.holdoverStability) (s.reg Od.holdoverAgeing) (s.now - s.time.holdSince)

/-- The selected source is lost (R56): from LOCKED the module holds over at the frequency in force, its error that of the offset
last measured (log 105); from ACQUIRING it runs free at the stored frequency, or at nominal. -/
def State.loseSource (s : State) : State :=
  let s1 := s.setTimeUnit fun t => { t with sourceValid := false, source := none, ppsLocked := false }
  match s.time.servo with
  | .locked =>
    let s2 := s1.setTimeUnit fun t => { t with holdSince := t.now, holdError := t.offset.natAbs }
    s2.setServo (if s2.holdExceeded then .holdoverOutOfSpec else .holdover)
  | .acquiring => (s1.setTimeUnit fun t => { t with freq := t.storedFreq.getD 0 }).setServo .freeRun
  | _ => s1

/-- A source is selected and valid (R56, R57); an offset of SET_TIME is abandoned (R511). A LOCKED time unit stays LOCKED under
another source (log 105), to which it has then locked (R62). -/
def State.takeSource (s : State) (src : TimeSource) : State :=
  let changed := s.time.source ≠ some src
  let s1 := s.setTimeUnit fun t => { t with
    source := some src, sourceValid := true, setOffset := 0, offset := if t.setOffset = 0 then t.offset else 0
    ppsLocked := t.ppsLocked || (decide (t.servo = .locked) && decide (src = .pps)) }
  let s2 := if changed then s1.timeFlag 6 else s1
  match s.time.servo with
  | .locked | .acquiring => s2
  | _ => s2.setServo .acquiring

/-- Clear the raw sample rings and the image ring and restart every channel (R49, R59). -/
def State.clearRings (s : State) : State :=
  { s with dp := { s.dp with
      streams := s.dp.streams.map fun (k, x) =>
        (k, { x with ring := [], seen := [], keys := none, judgedTo := none, judgedBefore := 0, lateSeen := false, lateShown := false })
      images := [], phasors := [], freqRecs := [], lastClosed := none, lastReleased := none, lastPhasor := none
      lateCount := 0, lateShown := 0, timeAt := []
      channels := s.dp.channels.map fun (k, x) => (k, { x with source := none })
      groups := s.dp.groups.map fun (k, x) => (k, { x with inUse := none, angles := [], freqs := [] }) } }

/-- Tick numbers start anew, so what was counted in the old ones is forgotten (R49, R59). -/
def State.renumber (s : State) : State :=
  { s with
    parts := s.parts.map fun (n, x) => (n, { x with restartFrom := 0, suppressedTo := 0 })
    pails := s.pails.map fun (p, x) => (p, { x with resetAt := 0, freezeAt := 0 })
    churn := { s.churn with boundaryAt := none }
    loops := { s.loops with
      units := s.loops.units.map fun (h, x) => (h, { x with computedAt := none })
      gens := s.loops.gens.map fun (g, x) => (g, { x with computedAt := none }) } }

/-- The first tick whose instant lies at or after a time. -/
def firstTickFrom (ft t : Nat) : Nat := if tickInstant ft (tickOf ft t) = t then tickOf ft t else tickOf ft t + 1

/-- A step of the drip count by an offset (R58, R59); a LOCKED unit returns to ACQUIRING. Holding time does not count the step
(R60), nor do the waits of the time unit for an edge, an Announce or the hour; the second that PPS_OUT settings wait for is the next
one, and every configuration of the past is over. -/
def State.stepTime (s : State) (offset : Int) : State :=
  let s1 := (s.ppsRefresh.setNow (dripAdd s.now offset % 2 ^ 80)).clearRings.renumber
  let s2 : State := { s1 with
    time := { s1.time with
      offset := 0, setOffset := 0, lockRun := 0, ptpOffset := s1.time.ptpOffset.map fun o => o - offset
      holdSince := dripAdd s1.time.holdSince offset, ppsChangeAt := s1.time.ppsChangeAt.map fun _ => nextTop s1.now
      ppsLastEdge := dripAdd s1.time.ppsLastEdge offset, storedAt := dripAdd s1.time.storedAt offset
      ppsRoseAt := dripAdd s1.time.ppsRoseAt offset
      ptp := s1.time.ptp.map fun (p, x) => (p, { x with lastAnnounce := dripAdd x.lastAnnounce offset }) }
    dp := { s1.dp with
      imagesFrom := firstTickFrom s1.rate s1.now
      streams := s1.dp.streams.map fun (k, x) => (k, { x with arrivals := x.arrivals.map fun a => dripAdd a offset }) }
    befores := [] }
  let s3 := s2.timeFlag 2
  if s.time.servo = .locked then s3.setServo .acquiring else s3

/-- STEP_THRESHOLD and LOCK_THRESHOLD as durations. -/
def State.beyondStep (s : State) (offset : Int) : Bool := s.regI 64 Od.ptpStepThreshold < offset.natAbs

/-- The range of the increment, ±200 × 10^-6 of nominal, in 2^-48 (R50). -/
def freqRange : Nat := 2 ^ 48 / 5000

/-- SLEW_LIMIT in units of 2^-48, within the range of the increment (R50, R58). -/
def State.slewMax (s : State) : Nat := min freqRange (s.reg Od.ptpSlewLimit * 2 ^ 48 / 1000000000)

/-- The rate offset in force from this update: the spec states its limit and no law, so a free value within it (log 12). -/
def State.steer (s : State) : State :=
  let m := s.slewMax
  let v : Int := (s.freeBelow (2 * m + 1) : Nat) - (m : Int)
  s.drew.setTimeUnit fun t => { t with freq := v }

/-- A new measurement of the offset (R56, R58): step, or slew and count toward lock. -/
def State.servoUpdate (s : State) (offset : Int) : State :=
  let s1 := s.setTimeUnit fun t => { t with offset := offset }
  if s.beyondStep offset && !s.outEnabled then s1.stepTime offset
  else
    let s2 := if s.beyondStep offset then s1.timeFlag 1 else s1
    let s3 := s2.steer
    let near : Bool := (offset.natAbs : Int) ≤ s.regI 64 Od.ptpLockThreshold
    let run := if near then s.time.lockRun + 1 else 0
    let s4 := s3.setTimeUnit fun t => { t with lockRun := run }
    if s.time.servo = .acquiring && 16 ≤ run then
      let s5 := s4.setServo .locked
      s5.setTimeUnit fun t => { t with ppsLocked := t.ppsLocked || t.source = some .pps }
    else s4

/-! ### The choice of source (R52, R57) -/

/-- The data set order of the best master clock algorithm (log 11): smaller first. -/
def announceKey (a : Announce) : List Nat :=
  [a.priority1, a.clockClass, a.accuracy, a.variance, a.priority2, a.identity, a.stepsRemoved]

/-- Lexicographic order of keys. -/
def keyBefore : List Nat → List Nat → Bool
  | x :: xs, y :: ys => if x = y then keyBefore xs ys else x < y
  | _, _ => false

/-- CLOCK_CLASS announced by a grandmaster-capable clock (R53). -/
def State.clockClass (s : State) : Nat :=
  match s.time.servo with
  | .locked => if s.time.source = some .pps then 6 else 248
  | .holdover => 7
  | .holdoverOutOfSpec => 52
  | _ => 248

/-- The module's own data set (log 11 for what the dictionary does not give). -/
def State.ownAnnounce (s : State) : Announce :=
  { priority1 := s.reg Od.ptpPriority1, clockClass := s.clockClass, accuracy := 0xFE, variance := 0xFFFF
    priority2 := s.reg Od.ptpPriority2
    identity := Config.baseMac.toNat / 2 ^ 24 * 2 ^ 40 + 0xFFFE * 2 ^ 24 + Config.baseMac.toNat % 2 ^ 24
    stepsRemoved := 0, utcOffset := s.reg Od.timeUtcOffset, tlv := s.reg Od.ptpProfile = 1 }

/-- Whether a port runs PTP: enabled, not DISABLED, link up, not retired (R52). -/
def State.ptpUp (s : State) (p : Nat) : Bool :=
  s.on (Od.ptpPortPtpEnable p) && s.reg (Od.portRole p) ≠ 0 && (s.port p).linkUp && !s.time.frozen

/-- The PTP slave port of the best master clock algorithm, among ports with two valid exchanges since link-up (R55). -/
def State.bestPort (s : State) : Option Nat :=
  let cands := (List.range 32).filterMap fun p =>
    match (s.ptpPort p).foreign with
    | some a => if s.ptpUp p && 2 ≤ (s.ptpPort p).validSinceUp then some (announceKey a, p) else none
    | none => none
  let best := cands.foldl (fun b c =>
    match b with
    | none => some c
    | some d => if keyBefore c.1 d.1 then some c else some d) (none : Option (List Nat × Nat))
  match best with
  | none => none
  | some (k, p) =>
    let own := s.reg Od.ptpClockType = 1 || s.reg Od.ptpClockType = 2
    if own && keyBefore (announceKey s.ownAnnounce) k then none else some p

/-- Select the source in the order of SOURCE_ORDER (R57); its loss where none is left. -/
def State.reselect (s : State) : State :=
  let ptp := (s.bestPort).map TimeSource.ptp
  let pps := if s.time.ppsValid && s.on Od.ppsInEnable then some TimeSource.pps else none
  let s := if ptp.isSome then s else s.setTimeUnit fun t => { t with ptpOffset := none }
  let src := if s.reg Od.ptpSourceOrder = 0 then ptp.orElse (fun _ => pps) else pps.orElse (fun _ => ptp)
  match src with
  | some x =>
    let s1 := s.takeSource x
    match x with
    | .ptp p =>
      match (s.ptpPort p).foreign with
      | some a => s1.setReg Od.timeUtcOffset (a.utcOffset % 2 ^ 16)
      | none => s1
    | .pps => s1
  | none => if s.time.sourceValid then s.loseSource else s

/-- The peer-delay history of a port is cleared when its link goes down, and a source on it is lost (R55, R56, R100). -/
def State.ptpLinkDown (s : State) (p : Nat) : State :=
  let x := s.ptpPort p
  let s1 := s.setPtpPort p { x with exchanges := [], validSinceUp := 0, awaiting := false, reqSentAt := none, respPending := none,
                                    syncPending := none, tcResidence := [], tcFollow := [], foreign := none }
  let s2 := (s1.setReg (Od.ptpPortMeanLinkDelay p) 0).setReg (Od.ptpPortRateRatio p) 0
  if s.time.source = some (.ptp p) then s2.reselect else s2

/-- The median of peer delays (R55); of an even number, the lower middle one (log 22). -/
def median (l : List Int) : Int :=
  let sorted := l.mergeSort (fun a b => decide (a ≤ b))
  sorted.getD ((sorted.length - 1) / 2) 0

/-! ### Messages of the time unit (R52, R54) -/

/-- The Ethernet frame of a PTP message: the peer-delay address or the general one, untagged, and its length with FCS
(IEEE 1588-2019 Annex F and clause 13; log 114 for the TLV of an Announce). -/
def State.ptpFrame (s : State) (p : Nat) (m : PtpTx) : Frame :=
  let k := m.kind
  let peer : Bool := k = .pdelayReq || k = .pdelayResp || k = .pdelayRespFollowUp
  let tlv : Nat := if m.data.any (·.tlv) then 22 else 0
  { dst := if peer then 0x0180C200000E else 0x011B19000000, src := s.portMac p, tag := none, etherType := 0x88F7, appid := 0
    hsr := none, prp := none, len := if peer then 72 else if k = .announce then 82 + tlv else 64, body := [] }

/-- Send a message of the time unit from a port, with a timestamp request or without. -/
def State.sendPtp (s : State) (p : Nat) (m : PtpTx) (stamped : Bool) : State :=
  (s.sendOwn (s.ptpFrame p m) (some [p]) (if stamped then some 0 else none) 0 (some m)).state

/-- The residence time of a two-step Sync at an egress port is known: it goes into the matching Follow_Up (R54). -/
def State.residenceKnown (s : State) (p seq : Nat) (r : Int) : State :=
  let x := s.ptpPort p
  match Tab.find x.tcFollow seq with
  | some m =>
    (s.setPtpPort p { x with tcFollow := Tab.del x.tcFollow seq }).sendPtp p
      ⟨.followUp, seq, false, m.seconds, m.nanos, m.correction + toCorrection r, none, none, 0, false⟩ false
  | none => s.setPtpPort p { x with tcResidence := Tab.insert x.tcResidence seq r }

end Sys2Proof.Machine
end

