-- ==== Sys2Proof/Machine/PortOps.lean ====
section
/-!
DEFINITION. Shared operations of the ports (03_ports_and_mac.md): rates, counting of frames (R92), the receive buffer and
the PAUSE it generates (R88, R97), link down (R100), the end of a bad frame at its egress ports (R130).
-/

namespace Sys2Proof.Machine

open Sys2Proof

/-! ### Rates (R73) -/

/-- The data rate in Mb/s of a mode; SGMII without a report of its PHY takes 1,000. -/
def modeSpeed : Nat → Nat
  | 0 => 100
  | 1 => 1000
  | 2 => 1000
  | 3 => 2500
  | _ => 10000

/-- The mode a port's next link comes up in: LOWER_MODE while its speed is lowered (R98). -/
def State.nextMode (s : State) (p : Nat) : Nat :=
  if (s.port p).lowered then s.reg (Od.portLowerMode p) else s.reg (Od.portMode p)

/-- Octets of a frame that have arrived. -/
def State.arrived (s : State) (p : Nat) (r : Reception) : Nat :=
  (s.now - r.startedAt) * ((s.port p).speed * 1000000) / (8 * 2 ^ 36)

/-! ### Utilisation (R98; log 115) -/

/-- Until when the octets of the last 100 ms reach a sum, newest first: 100 ms after the one that makes it up; 0 where they do not. -/
def busyEnd (need : Nat) : List (Nat × Nat) → Nat → Nat
  | [], _ => 0
  | (t, n) :: r, acc => if need ≤ 2 * (acc + n) then t + ofMs 100 else busyEnd need r (acc + n)

/-- Twice the octets that a per mille share of a rate in Mb/s carries in 100 ms. -/
def shareOctets (speed perMille : Nat) : Nat := 25 * speed * perMille

/-- A frame has ended at a port that may lower its speed: its octets, preamble and gap among them, count toward the utilisation. -/
def State.noteLoad (s : State) (p octets : Nat) (sent : Bool) : State :=
  if !s.on (Od.portSpeedLowering p) then s
  else
    let rate := modeSpeed (s.reg (Od.portLowerMode p))
    s.modPort p fun x =>
      let l := (s.now, octets + 20) :: (if sent then x.txLoad else x.rxLoad).filter fun e => s.now < e.1 + ofMs 100
      { x with
        rxLoad := if sent then x.rxLoad else l, txLoad := if sent then l else x.txLoad
        busyUntil := max x.busyUntil (busyEnd (shareOctets rate (s.reg (Od.portLowerThreshold p))) l 0)
        raiseSeen := x.raiseSeen || busyEnd (shareOctets rate (s.reg (Od.portRaiseThreshold p)) + 1) l 0 ≠ 0 }

/-! ### Counters of good frames (R91, R92) -/

/-- Which size counter a length counts in: 0 for 64 octets to 6 for 1,519 to the limit. -/
def sizeClass (len : Nat) : Nat :=
  if len ≤ 64 then 0 else if len ≤ 127 then 1 else if len ≤ 255 then 2 else if len ≤ 511 then 3
  else if len ≤ 1023 then 4 else if len ≤ 1518 then 5 else 6

/-- Count a good frame; `dir` is 0 for received and 0x10 for transmitted. PAUSE is counted apart (R92). -/
def State.countGood (s : State) (p dir : Nat) (f : Frame) (len : Nat) : State :=
  let s1 := (s.countPort p (0x01 + dir) len).countPort p (0x02 + dir + sizeClass len)
  let s2 := s1.countPort p (dir + (if f.dst = broadcastMac then 0x0B else if isGroupMac f.dst then 0x0A else 0x09))
  let s3 := s2.when_ f.tag.isSome fun t => t.countPort p (0x0D + dir)
  let s4 := s3.when_ (f.etherType = 0x88BA) fun t => t.countPort p (0x0E + dir)
  let s5 := s4.when_ (f.etherType = 0x88B8) fun t => t.countPort p (0x0F + dir)
  s5.when_ (f.etherType = 0x88F7) fun t => t.countPort p (0x10 + dir)

/-! ### The receive buffer and generated PAUSE (R88, R97) -/

/-- The pause a receive buffer asks for: XOFF when its occupancy rises above XOFF_THRESHOLD, XON when it falls to
XON_THRESHOLD. -/
def State.pauseRule (s : State) (p : Nat) : State :=
  let x := s.port p
  if s.reg (Od.portRole p) = 3 && s.on (Od.portTxPauseEnable p) then
    if !x.xoff && s.reg (Od.portXoffThreshold p) < x.rxUsed then
      s.setPort p { x with xoff := true, xoffSentAt := s.now, pauseOut := x.pauseOut ++ [0xFFFF] }
    else if x.xoff && x.rxUsed ≤ s.reg (Od.portXonThreshold p) then
      s.setPort p { x with xoff := false, pauseOut := x.pauseOut ++ [0] }
    else s
  else s

/-- The occupancy of a receive buffer that may hold up to `most` octets: how fast it drains is not stated, so a free
value (log 21). -/
def State.occupancy (s : State) (p most : Nat) : State :=
  let v := s.freeBelow (min most 16384 + 1)
  (s.drew.modPort p fun x => { x with rxUsed := v }).pauseRule p

/-! ### Frames that must not be sent (R81, R100, R110, R130) -/

/-- A pause that has ended is no pause; a pending one begins (R96). -/
def State.pauseBegins (s : State) (p : Nat) : State :=
  s.modPort p fun x =>
    match x.pause with
    | .pending q => { x with pause := .running (s.now + wireTime x.speed (64 * q)) }
    | _ => x

/-- A port ends the frame it is sending with an inverted FCS: what has arrived is sent, STOMPED counts, the frame leaves its queue,
and a pending pause begins. -/
def State.stomp (s : State) (id p octets : Nat) : State :=
  let s1 := if (s.port p).tx = some (.frame id) then (s.modPort p fun x => { x with tx := none }).pauseBegins p else s
  (((s1.noteLoad p octets true).countPort p 0x28).leave id p).emit (.stomped p octets)

/-- A frame proves bad: a port sending it stomps it, a port that has not started removes it (R130). -/
def State.badFrame (s : State) (id octets : Nat) : State :=
  match Tab.find s.sw.frames id with
  | none => s
  | some f => s.each f.egress fun e t => if e.started then t.stomp id e.port octets else t.leave id e.port

/-- The switch frames queued at a port or in transmission there. -/
def State.framesAt (s : State) (p : Nat) : List Nat :=
  (s.sw.frames.filter fun e => e.2.egress.any (·.port = p)).map (·.1)

/-- A pause holds a port's transmission. -/
def State.paused (s : State) (p : Nat) : Bool :=
  match (s.port p).pause with
  | .none => false
  | .pending _ => true
  | .running t => s.now < t

/-- The pending and lost frames of a local receive: a reception ends without its frame (R80, R87). -/
def State.dropLocal (s : State) (p : Nat) : State :=
  { s with sw := { s.sw with localQs := s.sw.localQs.map fun (q, l) => (q, l.filter fun e => e.complete || e.port ≠ p) } }

/-- A port's link goes down (R100): the frame in transmission is abandoned and every queued frame discarded, each a
LINK_DOWN_DISCARD, a generated PAUSE in transmission too (log 117); a frame in reception counts as RUNT or FCS (R80) and proves bad;
any pause ends (R96); the time unit clears the port's history. -/
def State.linkLoss (s : State) (p : Nat) : State :=
  if !(s.port p).linkUp then s
  else
    let s0 := match (s.port p).tx with
      | some (.pause _) => s.countPort p 0x27
      | _ => s
    let s1 := s0.each (s.framesAt p) fun id t => (t.leave id p).countPort p 0x27
    let s2 := match (s.port p).rx with
      | none => s1
      | some r =>
        let n := s.arrived p r
        let t := if r.dropped then s1 else s1.countPort p (if n < 64 then 0x23 else 0x21)
        let t := match r.swId with
          | some id => t.badFrame id n
          | none => t
        t.dropLocal p
    let s3 := s2.modPort p fun x => { x with
      linkUp := false, speed := 0, tx := none, rx := none, pause := .none, xoff := false, pauseOut := []
      pcsLostAt := some s.now, speedWaits := none
      deficits := [0, 0, 0, 0, 0, 0], drr := 0 }
    (s3.ptpLinkDown p).setFlag p 0

/-- The PCS reports loss of link (R100); during LINK_UP_HOLD the report restarts the hold (R102). -/
def State.pcsLoss (s : State) (p : Nat) : State := (s.linkLoss p).modPort p fun x => { x with pcsLostAt := some s.now }

/-- The link comes up in the configured or lowered mode (R102). -/
def State.linkGain (s : State) (p : Nat) : State :=
  if !s.mayRise p then s
  else
    let x := s.port p
    let m := s.nextMode p
    let v := if m = 2 && x.phySpeed ≠ 0 then x.phySpeed else modeSpeed m
    (s.setPort p { x with linkUp := true, mode := m, speed := v }).setFlag p 1

end Sys2Proof.Machine
end

