-- ==== Sys2Proof/Machine/PairOps.lean ====
section
/-!
DEFINITION. Shared operations of the station pair (10_station_pair.md): roles, the link, ROLE frames and their
repetition, the pair's events.
-/

namespace Sys2Proof.Machine

open Sys2Proof

/-- HEARTBEAT STATE of R357. -/
def roleCode : Role → Nat
  | .init => 0 | .syncing => 1 | .follow => 2 | .lead => 3 | .withdrawn => 4

def State.setPair (s : State) (f : Pair → Pair) : State := { s with pair := f s.pair }

/-- A flag of the PAIR source; INFO is ROLE_STATE (R470). -/
def State.pairFlag (s : State) (flag : Nat) : State := s.setFlag 80 flag (some (roleCode s.pair.role))

/-- A standing flag of the PAIR source. -/
def State.pairStand (s : State) (flag : Nat) (holds : Bool) : State :=
  s.stand 80 flag holds (some (roleCode s.pair.role))

/-- A lane carries frames: neither lost nor retired (R359, R399). -/
def State.laneUp (s : State) (l : Nat) : Bool := s.pair.lanesUp.getD l false && !s.pair.lanesRetired.contains l

/-- The pair link works: at least one lane does, and the link to the I/O die that holds it (R29). -/
def State.linkUp (s : State) : Bool := (s.laneUp 0 || s.laneUp 1) && !s.cut 1

/-- The pair's functions are in use (R328). -/
def State.paired (s : State) : Bool := s.pair.enabled

/-- Take the next frame counter (R356). -/
def State.nextSeq (s : State) : State := s.setPair fun p => { p with seq := (p.seq + 1) % 2 ^ 32 }

/-- A ROLE frame may go out: before it reaches FOLLOW a starting module sends only REGIONS (R425), and CHANGE_ACK as R346 asks of a module
in SYNCING. -/
def State.sendsRole (s : State) (op : Nat) : Bool :=
  s.paired && s.linkUp && (s.pair.settled || decide (s.pair.role = .follow ∨ s.pair.role = .lead) || op = 7 || op = 8)

/-- A ROLE frame goes out if the link works (R357, R359). -/
def State.roleFrame (s : State) (op : Nat) (m : RoleMsg) : State :=
  if s.sendsRole op then s.nextSeq.emit (.role op s.workTick m) else s

/-- Send a ROLE frame; all but ACK and CHANGE_ACK are repeated until their answer (R358). -/
def State.sendRole (s : State) (op : Nat) (m : RoleMsg) : State :=
  if s.sendsRole op then
    let s1 := s.roleFrame op m
    if op = 5 || op = 8 then s1 else s1.setPair fun p => { p with roleOut := p.roleOut ++ [⟨op, m, 0⟩] }
  else s

/-- A new OP_ID and the state that has taken it. -/
def State.takeOpId (s : State) : State × Nat := (s.setPair fun p => { p with opId := (p.opId + 1) % 2 ^ 16 }, s.pair.opId)

/-- Send a ROLE frame with an OP_ID of its own. -/
def State.newRole (s : State) (op reason atTick arg : Nat) : State :=
  let r := s.takeOpId
  r.1.sendRole op ⟨reason, r.2, atTick, arg⟩

/-- The answer to a ROLE frame has come: it is no longer repeated. -/
def State.answered (s : State) (id : Nat) (ops : List Nat) : State :=
  s.setPair fun p => { p with roleOut := p.roleOut.filter fun r => !(r.msg.opId = id && ops.contains r.op) }

/-- A role change (R330): counted, timed and an event; the swap in progress and the counts of the old role end. -/
def State.setRole (s : State) (r : Role) : State :=
  if s.pair.role = r then s
  else
    let s1 := s.setPair fun p => { p with
      role := r, settled := p.settled || decide (r = .follow ∨ r = .lead), syncRun := 0, followClean := 0, partnerRun := 0, swap := none, swapFrom := s.now, relinquishSent := false
      relinquished := false, withhold := false, outputValid := false, hbWaited := false, lastDiverged := s.now }
    let s2 := (s1.setReg Od.pairRoleState (roleCode r)).count 32 Od.pairRoleChanges
    (s2.setReg Od.pairLastRoleChange s.now).pairFlag 0

/-- A mismatch of PAIR_ID or of sides (R328): counted and an event. -/
def State.configMismatch (s : State) : State :=
  (s.setPair fun p => { p with mismatches := p.mismatches + 1 }).pairFlag 5

/-- The tie rule of R330: whether this module wins against a partner's heartbeat; the sides count by SERIAL while both
modules were given the same one (R328). -/
def State.winsTie (s : State) (hb : Heartbeat) : Bool :=
  let mine := s.on Od.pairPreferredLead
  let theirs := bit hb.flags 0
  if mine != theirs then mine
  else if s.pair.sideClash then Config.serial.toNat < hb.serial else s.reg Od.pairSide = 0

/-- Slices this module has retired, as bits (R357). -/
def State.slicesRetired (s : State) : Nat := maskOf ((List.range 4).filter fun i => s.health.out.contains (3 * 4096 + i))

/-! ### Sections of STATE frames (R338, R346, R357) -/

/-- CONFIG_TAG: bytes 60 to 63 of the configuration measurement (R335, R390). -/
def State.configTag (s : State) : Nat := s.reg Od.attConfigTag

/-- The fragments of a section, up to 4,080 octets each. -/
def fragments (kind id tag : Nat) (data : List Byte) : List StateFrag :=
  let n := max 1 (ceilDiv data.length 4080)
  (List.range n).map fun i =>
    { kind := kind, last := i + 1 = n, id := id, offset := 4080 * i, sectionLength := data.length, configTag := tag
      data := (data.drop (4080 * i)).take 4080 }

/-- Send a section over the pair link for a tick, if the link works. -/
def State.sendSection (s : State) (kind id tick : Nat) (data : List Byte) : State :=
  if s.paired && s.linkUp then
    s.each (fragments kind id s.configTag data) fun f t =>
      (t.setPair fun p => { p with kept := p.kept ++ [⟨p.seq, tick, f⟩] }).nextSeq.emit (.state tick f)
  else s

/-- The partner's latest heartbeat shows FOLLOW or SYNCING, and it has not failed (R346). -/
def State.partnerFollows (s : State) : Bool :=
  !s.pair.partnerFailed && match s.pair.partner with
    | some hb => hb.state = 1 || hb.state = 2
    | none => false

/-- The octets of a CHANGE section (R346). -/
def changeData (c : Change) : List Byte :=
  beBytes 8 c.applyTick ++ beBytes 2 c.index ++ beBytes 1 c.sub ++ beBytes 1 0 ++ beBytes 4 c.value.length ++ c.value

/-- Send a CHANGE section of this work tick. -/
def State.sendChange (s : State) (c : Change) : State := s.sendSection 5 c.id s.workTick (changeData c)

/-- A LIVE write of R346: refused on a follower; on a lead with a follower, carried as a CHANGE section and applied at a
boundary 4 work ticks ahead; at once in every other case. `check` is the status the value is refused with, if any. -/
def State.livePair (s : State) (index sub : Nat) (value : List Byte) (check : Option Nat) (apply : State → State) : Answer :=
  if s.paired && (s.pair.role = .follow || s.pair.role = .syncing) then s.refuse stBusy
  else
    match check with
    | some c => s.refuse c
    | none =>
      if s.paired && s.pair.role = .lead && s.partnerFollows && s.linkUp then
        let c : Change := ⟨s.pair.changeId, s.workTick + 4, index, sub, value, false⟩
        ((s.setPair fun p => { p with changeId := (p.changeId + 1) % 2 ^ 16, changes := p.changes ++ [c] }).sendChange c).ok
      else (apply s).ok

end Sys2Proof.Machine
end

