-- ==== Sys2Proof/Machine/Retire.lean ====
section
/-!
DEFINITION. Shared operations on faults (12_faults_self_test_and_start_up.md): error windows, retirement records, the
last-gasp record, withdrawal (R30).
-/

namespace Sys2Proof.Machine

open Sys2Proof

def State.setHealth (s : State) (f : Health → Health) : State := { s with health := f s.health }
def State.setPower (s : State) (f : Power → Power) : State := { s with power := f s.power }

/-! ### Units and their errors (R399, R400, R404) -/

/-- A unit identifier: KIND 1 core unit, 2 lane group, 3 slice, 4 port, 5 lane, 6 die link, 7 memory. -/
def unitId (kind n : Nat) : Nat := kind * 4096 + n

/-- A unit is retired in this start. -/
def State.isOut (s : State) (unit : Nat) : Bool := s.health.out.contains unit

/-- Count an error of a unit in its sliding window of `w` drips; answers the errors in the window, this one included. -/
def State.noteError (s : State) (unit w : Nat) : State × Nat :=
  let l := s.now :: ((Tab.look s.health.errors unit []).filter fun e => s.now ≤ e + w)
  (s.setHealth fun h => { h with errors := Tab.put h.errors unit l [] }, l.length)

/-- A flag of HEALTH, with INFO where R470 names one. -/
def State.healthFlag (s : State) (flag : Nat) (info : Option Nat := none) : State := s.setFlag 112 flag info

/-- Write a retirement record and take the instance out (R403, R404); a retired instance is not retired again. -/
def State.recordRetirement (s : State) (unit cause count : Nat) : State :=
  if s.isOut unit then s
  else
    (s.setHealth fun h => { h with
      out := h.out ++ [unit]
      retired := h.retired ++ [⟨unit, cause, count % 256, s.now, s.reg Od.healthStartCount % 2 ^ 16⟩] }).healthFlag 0 (some unit)

/-- Retire a port (R77, R399): it behaves as DISABLED. -/
def State.retirePort (s : State) (p cause count : Nat) : State :=
  (((s.recordRetirement (unitId 4 p) cause count).linkLoss p).modPort p fun x => { x with retired := true }).setFlag p 8

/-- A flag of PAIR_LINK; INFO is the lane. -/
def State.laneFlag (s : State) (flag lane : Nat) : State := s.setFlag 81 flag (some lane)

/-- Retire a pair-link lane (R399): the other carries every frame. -/
def State.retireLane (s : State) (l cause count : Nat) : State :=
  ((s.recordRetirement (unitId 5 l) cause count).setPair fun p => { p with lanesRetired := p.lanesRetired ++ [l] }).laneFlag 2 l

/-! ### Herds (R20 to R22, R26) -/

/-- The unit of a herd under test that may serve as its spare: one in its first test (R411, R412). -/
def State.testSpare (s : State) (h : Nat) : Option Nat :=
  (s.herd h).testing.filter fun q => !s.health.retest.contains (unitId 1 (5 * h + q))

/-- A herd is degraded when it has neither a spare nor a unit under test to serve as one. -/
def State.degraded (s : State) (h : Nat) : Bool := (s.herd h).spare.isNone && (s.testSpare h).isNone

/-- COVERAGE_DEGRADED stands while any herd is degraded (R22, R410). -/
def State.coverage (s : State) : State :=
  (s.setReg Od.stCoverageDegraded (maskOf ((List.range 12).filter s.degraded))).stand 112 1 ((List.range 12).any s.degraded)

/-! ### The last-gasp record (R419, R421) -/

/-- HERDS of a record: retired positions, degraded, slot in progress. -/
def State.herdByte (s : State) (h : Nat) : Nat :=
  maskOf ((List.range 5).filter fun i => s.isOut (unitId 1 (5 * h + i))) + 32 * b2n (s.degraded h) +
    64 * b2n (s.herd h).testing.isSome

/-- SLICES of a record: retired and under test. -/
def State.sliceByte (s : State) : Nat :=
  s.slicesRetired + 16 * maskOf (match s.health.sliceTest with
    | some i => [i]
    | none => [])

/-- LINKS of a record: the die links that work. -/
def State.linkByte (s : State) : Nat := maskOf ((List.range 6).filter fun i => !s.health.linksFailed.contains i)

/-- DIES of a record: compute, network, security, I/O, each reporting while it is powered and not cut off (log 52). -/
def State.dieByte (s : State) : Nat :=
  b2n (s.powered 10) + 2 * b2n (s.powered 3) + 4 * b2n (s.powered 2 && !s.sec.secLost) + 8 * b2n (s.powered 11)

/-- POWER_STATE of a record. -/
def powerCode : PowerState → Nat
  | .run => 0
  | .hold | .tamperHold => 1
  | .off | .battery => 2

/-- The code of a life-cycle state (R363). -/
def lcCode : LifeCycle → Nat
  | .manufacture => 0x01 | .shipped => 0x02 | .owned => 0x04 | .return_ => 0x08 | .decommissioned => 0x10

/-- Write a last-gasp record, unless one of the same cause was written within the last 1 s (R421). -/
def State.lastGasp (s : State) (cause : Nat) : State :=
  if s.health.gasps.any fun g => g.cause = cause && s.now ≤ g.time + second then s
  else
    let g : LastGasp :=
      { cause := cause, power := powerCode s.power.state, lc := lcCode s.sec.lc, time := s.now, tick := s.workTick
        role := roleCode s.pair.role, timeState := servoCode s.time.servo, startCount := s.reg Od.healthStartCount
        herds := (List.range 12).map s.herdByte, slices := s.sliceByte, dies := s.dieByte, links := s.linkByte
        portsRetired := maskOf ((List.range 32).filter fun p => (s.port p).retired)
        portsUp := maskOf ((List.range 32).filter fun p => (s.port p).linkUp)
        supplies := s.power.supplies, temps := s.power.temps, events := s.health.lastEvents }
    s.setHealth fun h => { h with gasps := (g :: h.gasps).take 4 }

/-! ### Withdrawal (R30, R419, R422) -/

/-- The module stops publishing for a reason of its own: it gives up its role over the pair link, stops its heartbeats and
drops OUT_ENABLE and MOD_OK; the last gasp is written. The role becomes WITHDRAWN at the next boundary (R330). -/
def State.withdraw (s : State) (cause : Nat) : State :=
  if s.power.withdrawn then s.lastGasp cause
  else
    let s1 := if s.pair.role = .follow || s.pair.role = .lead then s.newRole 1 1 0 0 else s
    ((s1.setPower fun p => { p with withdrawn := true, nextCause := cause }).lastGasp cause)

end Sys2Proof.Machine
end

