-- ==== Sys2Proof/Machine/HistoryOps.lean ====
section
/-!
DEFINITION. Shared operations of the curd store (06_filter_chain_phasors_and_history.md, R208 to R214): frames, windows,
triggers.
-/

namespace Sys2Proof.Machine

open Sys2Proof

def State.setHist (s : State) (f : History → History) : State := { s with hist := f s.hist }

/-- A flag of the HISTORY source; INFO is the window (R470). -/
def State.histFlag (s : State) (flag w : Nat) : State := s.setFlag 54 flag (some w)

/-- The channels stored: those with HIST_ENABLE = 1, ascending. -/
def State.storedChannels (s : State) : List Nat :=
  (s.regs.filter fun e => Od.filterRecord 0 ≤ e.1 && e.1 ≤ Od.filterRecord 8191 && (filterRecord e.2).hist).map fun e =>
    (e.1 / 256 - 0x4180) * 128 + (e.1 % 256 - 1)

/-- The frames the ring holds (R210). -/
def State.ringFrames (s : State) : Nat :=
  let n := s.storedChannels.length
  if n = 0 then 0 else 2 ^ 33 / (32 * n)

/-- A window is capturing, held or exporting. -/
def Window.open_ (w : Window) : Bool := w.state ≠ 0

/-- The ranges of ticks that are protected: the windows' and the export's (R213, R215). -/
def State.protectedRanges (s : State) : List (Nat × Nat) :=
  (s.hist.windows.filter fun e => e.2.open_).map (fun e => (e.2.first, e.2.last)) ++
    (match s.hist.exportRange with
      | some r => [r]
      | none => [])

/-- A frame of eight ticks from `g` is protected. -/
def protects (rs : List (Nat × Nat)) (g : Nat) : Bool := rs.any fun r => r.1 ≤ g + 7 && g ≤ r.2

/-- Frames that ranges of whole frames protect, each once. -/
def protectedCount (rs : List (Nat × Nat)) : Nat :=
  rs.zipIdx.foldl (fun n (r, i) =>
    n + ((List.range ((r.2 + 1 - r.1) / 8)).filter fun k => !protects (rs.take i) (r.1 + 8 * k)).length) 0

/-- The first tick in the ring: that of its oldest frame, or of the frame now filling. -/
def State.oldestTick (s : State) : Nat :=
  match s.hist.frames with
  | f :: _ => f.tick
  | [] => s.dp.lastReleased.getD 0 / 8 * 8

/-- The span of whole frames of a trigger at `g`, without frames that have left the ring; the flag is TRUNCATED. -/
def State.windowSpan (s : State) (g : Nat) : Nat × Nat × Bool :=
  let first := (g - s.reg Od.histPreTrigger) / 8 * 8
  let last := (g + s.reg Od.histPostTrigger) / 8 * 8 + 7
  let oldest := s.oldestTick
  if first < oldest then (oldest, last, true) else (first, last, false)

/-- Windows whose last frame has been written are held (R213). -/
def State.holdWindows (s : State) : State :=
  s.each (s.hist.windows.filter fun e => e.2.state = 1 && s.hist.frames.any fun f => f.tick + 7 = e.2.last) fun e t =>
    (t.setWindow e.1 { e.2 with state := 2 }).histFlag 1 e.1

/-- A span may be protected: fewer than 8 windows are open, and the protected frames stay within half the ring (R213). -/
def State.mayProtect (s : State) (first last : Nat) : Bool :=
  (s.hist.windows.filter fun e => e.2.open_).length < 8 &&
    2 * protectedCount (s.protectedRanges ++ [(first, last)]) ≤ s.ringFrames

/-- A refused trigger is counted and an event. -/
def State.freezeRefused (s : State) : State := (s.count 32 Od.histFreezeRefused).setFlag 54 2

/-- A trigger at an image instant (R212, R213). -/
def State.trigger (s : State) (g : Nat) : State :=
  match s.hist.windows.find? fun e => e.2.state = 1 with
  | some (w, x) => (s.setWindow w { x with triggers := min 16 (x.triggers + 1) }).histFlag 0 w
  | none =>
    let sp := s.windowSpan g
    if !s.mayProtect sp.1 sp.2.1 then s.freezeRefused
    else
      match (List.range 8).find? fun w => !(s.window w).open_ with
      | none => s.freezeRefused
      | some w =>
        let s1 := (s.setWindow w ⟨1, sp.1, sp.2.1, g, 1, sp.2.2⟩).histFlag 0 w
        (if sp.2.2 then s1.histFlag 3 w else s1).holdWindows

/-- The store is emptied (R211); a capturing window has lost its frames so far. -/
def State.emptyStore (s : State) : State :=
  (s.setHist fun h => { h with
    frames := []
    windows := h.windows.map fun (w, x) => (w, if x.state = 1 then { x with truncated := true } else x) }).setFlag 54 4

/-- A window is held or an export runs, so the store cannot be emptied (R211). -/
def State.storeHeld (s : State) : Bool :=
  s.hist.exportSlot.isSome || s.hist.windows.any fun e => 2 ≤ e.2.state

end Sys2Proof.Machine
end

