-- ==== Sys2Proof/Machine/KeyOps.lean ====
section
/-!
DEFINITION. Shared operations of the key store (11_keys_life_cycle_and_attestation.md): roots, derivation, admission and
the usability check (R368, R369, R372, R377), verification and generation of IEC 62351-6 tags.
-/

namespace Sys2Proof.Machine

open Sys2Proof

def State.setSec (s : State) (f : Security → Security) : State := { s with sec := f s.sec }

/-- A flag of KEYS; INFO is the slot (R470). -/
def State.keysFlag (s : State) (flag slot : Nat) : State := s.setFlag 96 flag (some slot)

/-! ### Roots and derivation (R368, R369) -/

/-- A root exists in the present life-cycle state (R368, R395). -/
def State.rootExists (s : State) : Bool :=
  match s.sec.lc with
  | .owned => s.sec.ownerSeed.isSome && !s.sec.reprovision
  | .decommissioned => false
  | .manufacture | .shipped | .return_ => true

/-- The generation of the root of the present state. -/
def State.rootGenNow (s : State) : Nat :=
  match s.sec.lc with
  | .owned => s.sec.rootGen
  | .manufacture | .shipped | .return_ | .decommissioned => 1

/-- The root of the present state. -/
def State.rootKey (s : State) : List Byte :=
  match s.sec.lc with
  | .owned => kmac256 Config.deviceRoot (s.sec.ownerSeed.getD []) (ascii "VX96 OWNER ROOT") 32
  | .shipped => Config.deviceRoot
  | .manufacture | .return_ => Config.vendorRoot
  | .decommissioned => []

/-- The byte string X of R369 for a slot that takes the record. -/
def kdfInput (label context : List Byte) (r : SlotRec) : List Byte :=
  beBytes 1 label.length ++ label ++ beBytes 1 context.length ++ context ++ beBytes 1 r.alg ++ beBytes 1 r.usage ++
    beBytes 1 r.lcMask ++ beBytes 4 (r.bindKind % 4 + 4 * (r.bindId % 128)) ++ beBytes 2 r.ownGen

/-- A derived key of R369: 16 octets for an AES-GMAC-128 key of 16 octets, 96 and the key pair for SLH-DSA-SHAKE-256s, else
32. -/
def deriveKey (parent label context : List Byte) (r : SlotRec) (short : Bool) : List Byte :=
  let x := kdfInput label context r
  if r.alg = 5 then
    let seed := kmac256 parent x (ascii "VX96 KDF") 96
    seed ++ (slhPublic seed).drop 32
  else kmac256 parent x (ascii "VX96 KDF") (if r.alg = 3 && short then 16 else 32)

/-- The module's serial number as the CONTEXT of R373. -/
def serialBytes : List Byte := beBytes 8 Config.serial.toNat

/-- The records of slots 0 and 1, which every start recomputes (R373); the root of slot 0 is the vendor's or the device's, of generation 1
(R368). -/
def State.fixedRecord (s : State) (n : Nat) : SlotRec :=
  { parent := 0, rooted := true, valid := s.sec.lc ≠ .decommissioned, persist := false, exportable := false
    alg := if n = 0 then 7 else 5, usage := if n = 0 then 0x01 else 0x08
    lcMask := if n = 0 then 0x0F else 0x1F, bindKind := 3, bindId := if n = 0 then 2 else 4
    ownGen := 1, parentGen := if n = 0 then 1 else s.rootGenNow }

/-- A slot's record. -/
def State.slotRecord (s : State) (n : Nat) : SlotRec := if n < 2 then s.fixedRecord n else s.slot n

/-- The key a slot holds. -/
def State.slotKey (s : State) (n : Nat) : List Byte :=
  match n with
  | 0 =>
    match s.sec.lc with
    | .manufacture | .return_ => deriveKey Config.vendorRoot (ascii "VX96 VSK") serialBytes (s.fixedRecord 0) false
    | .shipped | .owned => deriveKey Config.deviceRoot (ascii "VX96 DOK") serialBytes (s.fixedRecord 0) false
    | .decommissioned => []
  | 1 => if s.rootExists then deriveKey s.rootKey (ascii "VX96 ATTEST") serialBytes (s.fixedRecord 1) false else []
  | _ => (Tab.find s.sec.cells n).getD []

/-! ### Consumers and the check (R372, R377, R379) -/

/-- The consumers of R372 with their operation. -/
inductive Consumer where
  | svVerify | gooseVerify | gooseSign | edpRole | heartbeat | attest | firmware | wrap | derive
  | pailSeal (p : Nat) | pailOpen (p : Nat) | pailMac (p : Nat) | pailMacVerify (p : Nat)
  deriving DecidableEq, Repr

/-- The algorithms, the usage bits (all needed) and the internal consumer number of a consumer. -/
def Consumer.algs : Consumer → List Nat
  | .svVerify | .gooseVerify | .gooseSign => [3, 4]
  | .edpRole | .derive => [7]
  | .heartbeat => [4]
  | .attest => [5]
  | .firmware => [5, 6]
  | .wrap | .pailSeal _ | .pailOpen _ => [1]
  | .pailMac _ | .pailMacVerify _ => [2]

def Consumer.usage : Consumer → Nat
  | .svVerify | .gooseVerify | .pailMacVerify _ => 0x40
  | .gooseSign | .pailMac _ => 0x20
  | .edpRole | .derive => 0x01
  | .heartbeat => 0x60
  | .attest => 0x08
  | .firmware => 0x10
  | .wrap => 0x80
  | .pailSeal _ => 0x02
  | .pailOpen _ => 0x04

/-- The binding that admits a consumer: BIND_KIND 0 admits all but those of the role keys and attestation. -/
def State.bindAdmits (s : State) (c : Consumer) (r : SlotRec) : Bool :=
  let internal (n : Nat) : Bool := r.bindKind = 3 && r.bindId = n
  let pail (p : Nat) : Bool :=
    r.bindKind = 0 || (r.bindKind = 1 && r.bindId = p) ||
      (r.bindKind = 2 && s.reg (Od.pailBindKind p) = 1 && s.reg (Od.pailPartition p) = r.bindId)
  match c with
  | .svVerify => r.bindKind = 0 || internal 0
  | .gooseVerify | .gooseSign => r.bindKind = 0 || internal 1
  | .edpRole => internal 2
  | .heartbeat => r.bindKind = 0 || internal 3
  | .attest => internal 4
  | .firmware => r.bindKind = 0 || internal 5
  | .wrap => r.bindKind = 0 || internal 6
  | .derive => true
  | .pailSeal p | .pailOpen p | .pailMac p | .pailMacVerify p => pail p

/-- `admits` of R377. -/
def State.admits (s : State) (c : Consumer) (r : SlotRec) : Bool :=
  c.algs.contains r.alg && r.usage &&& c.usage = c.usage && s.bindAdmits c r

/-- The life-cycle mask of a slot allows the present state. -/
def State.lcAllowed (s : State) (r : SlotRec) : Bool := r.lcMask &&& lcCode s.sec.lc ≠ 0

/-- The walk of R377 from a slot to the root, at most `n` slots; a slot whose key cell an alarm has erased ends it (R393). -/
def State.chained (s : State) : Nat → Nat → Bool
  | 0, _ => false
  | n + 1, slot =>
    let r := s.slotRecord slot
    if !r.valid || !s.lcAllowed r || (2 ≤ slot && (Tab.find s.sec.cells slot).isNone) then false
    else if r.rooted then
      if slot = 0 then s.sec.lc ≠ .decommissioned else s.rootExists && r.parentGen = s.rootGenNow
    else (s.slotRecord r.parent).ownGen = r.parentGen && s.chained n r.parent

/-- The outcome of the check of R377. -/
inductive Usable where
  | ok | denied | orphaned
  deriving DecidableEq, Repr

def State.usable (s : State) (slot : Nat) (c : Consumer) : Usable :=
  if !s.admits c (s.slotRecord slot) then .denied
  else if s.chained 8 slot && !s.sec.brokenCells.contains slot then .ok else .orphaned

/-- A use that the check refuses as orphaned is counted and an event (R379). -/
def State.useSlot (s : State) (slot : Nat) (c : Consumer) : Bool × State :=
  match s.usable slot c with
  | .ok => (true, s)
  | .denied => (false, s)
  | .orphaned => (false, (s.count 32 Od.keysOrphanDenials).keysFlag 1 slot)

/-! ### IEC 62351-6 (R152, R332, R343, R466) -/

/-- Whether the key of one slot verifies an extension. -/
def State.verifiesWith (s : State) (slot : Nat) (c : Consumer) (a : AuthExt) : Bool × State :=
  let r := s.useSlot slot c
  (r.1 && mac62351 (s.slotRecord slot).alg (s.slotKey slot) a.covered = a.tag, r.2)

/-- Verification with slot A, then with slot B if that fails; a frame without the extension fails. -/
def State.verifyAuth (s : State) (a b : Nat) (c : Consumer) (auth : Option AuthExt) : Bool × State :=
  match auth with
  | none => (false, s)
  | some x =>
    let r := s.verifiesWith a c x
    if r.1 then r else r.2.verifiesWith b c x

end Sys2Proof.Machine
end

