-- ==== Sys2Proof/Machine/Ingest.lean ====
section
/-!
DEFINITION. Sampled-value ingest (05_sampled_value_ingest_and_the_tick_image.md): subscriptions and their mapping, the
commands SV_ASDU_RECEIVED and ALIGNMENT_WINDOW_CLOSE.
-/

namespace Sys2Proof.Machine

open Sys2Proof

def State.setDp (s : State) (f : DataPath → DataPath) : State := { s with dp := f s.dp }

/-- A flag of INGEST; INFO is the subscription entry (R470). -/
def State.ingestFlag (s : State) (flag n : Nat) : State := s.setFlag 35 flag (some n)

/-- Count one in a counter of entry `n` (R93, R145). -/
def State.svCount (s : State) (k n : Nat) : State := s.countEv k 35 (some n)

/-! ### Subscriptions, mapping, delays (R145 to R149, R155, R174, R205) -/

/-- The configuration of images of instant `t`: that before the first change of a later boundary (R148). -/
def State.asOf (s : State) (t : Nat) : State :=
  match (s.befores.filter fun b => t < b.1).getLast? with
  | some (_, r, b) => { s with regs := r, blobs := b }
  | none => s

/-- The enabled entries. -/
def State.svEntries (s : State) : List Nat := (List.range 512).filter fun n => s.on (Od.svEnable n)

/-- The image channels an entry maps: channel and place within the ASDU (R145, R147). -/
def State.svMapOf (s : State) (n : Nat) : List (Nat × Nat) :=
  (List.range (s.reg (Od.svChannels n))).filterMap fun i =>
    let c := s.reg (Od.svMap n i)
    if c < 8192 then some (c, i) else none

/-- Every image channel that the entries name, with its entry and its place in it. -/
def State.mapTable (s : State) : List (Nat × Nat × Nat) :=
  s.svEntries.flatMap fun n => (s.svMapOf n).map fun (c, i) => (c, n, i)

/-- The channel limit of a tick rate (R172). -/
def channelLimit (rate : Nat) : Nat := min 8192 (39321600 / max 1 rate)

/-- The mapped image channels: a slot above the limit is UNMAPPED whatever names it (R172). -/
def State.mapped (s : State) : List (Nat × Nat × Nat) := s.mapTable.filter fun m => m.1 < channelLimit s.rate

/-- The stream of an entry (R146, R149). -/
def State.streamKeys (s : State) (n : Nat) : StreamKeys :=
  { dst := s.reg (Od.svDstMac n), appid := s.reg (Od.svAppid n), vid := s.reg (Od.svVid n), rate := s.reg (Od.svStreamRate n)
    svid := s.blob (Od.svid n) }

/-- D_g of a channel's frequency group: the DELAY of the group's REF_CHANNEL, or 0 (R205). -/
def State.groupDelay (s : State) (c : Nat) : Int :=
  let r := s.reg (Od.fgroupRefChannel (s.frec c).group)
  if r < 8192 then s.channelDelay r else 0

/-- The fall-back engine builds channel `c` in the image of tick `i` (R207). -/
def State.fallbackAt (s : State) (c i : Nat) : Bool :=
  (Tab.look s.dp.fb (c % 4) []).any fun e => e.from_ ≤ i && e.until_.all fun u => i < u

/-- The delay in use of a channel in the image of tick `i`; `cfg` is the configuration of that image (R158, R205). -/
def State.delayInUse (s cfg : State) (c i : Nat) : Int :=
  if s.fallbackAt c i then cfg.groupDelay c else cfg.channelDelay c

/-- The number of the last sample at or before an instant with a delay (R156). -/
def sampleAt (rate t : Nat) (delay : Int) : Nat := tickOf rate (dripAdd t delay)

/-- The guard of the image of tick `i` over an entry's mapped channels, the largest of them (R156, R158). -/
def State.guardAt (s cfg : State) (n i : Nat) : Option Nat :=
  ((cfg.svMapOf n).map fun (c, _) =>
    sampleAt (cfg.reg (Od.svStreamRate n)) (s.tickAt i) (s.delayInUse cfg c i) + 3).max?

/-! ### SV_ASDU_RECEIVED (R146, R150 to R153, R157, R159, R160) -/

/-- The entry an ASDU matches (R146). -/
def State.svMatch (s : State) (a : Asdu) : Option Nat :=
  if 64 < a.svid.length then none
  else
    s.svEntries.find? fun n =>
      s.reg (Od.svDstMac n) = a.dst && s.reg (Od.svAppid n) = a.appid &&
        (s.reg (Od.svVid n) = 0xFFFF || s.reg (Od.svVid n) = s.readVid a.port a.tag) && s.blob (Od.svid n) = a.svid

/-- The arrival time of R153: the receive timestamp, corrected under R65, and the frame's wire duration at the port's rate. -/
def State.svArrival (s : State) (a : Asdu) : Nat :=
  dripAdd a.rxAt ((wireTime (s.port a.port).speed a.len : Nat) - s.regI 64 (Od.ptpPortIngressLatency a.port))

/-- The sample number of R153 and R154; none where the sample counter or its instant is out of range. -/
def sampleNumber (rate smpCnt arrival : Nat) : Option Nat :=
  let frac := tickFrac rate smpCnt
  if rate ≤ smpCnt ∨ arrival + 2 ^ 35 < frac then none
  else
    let sec := (arrival + 2 ^ 35 - frac) / 2 ^ 36
    if arrival + ofUs 100 < sec * 2 ^ 36 + frac then none else some (sec * rate + smpCnt)

/-- A sample position that a sample still needed by an image not yet built occupies (R157). -/
def State.positionTaken (s : State) (n j : Nat) (keys : StreamKeys) : Bool :=
  let low := match s.dp.lastReleased with
    | some i => ((s.svMapOf n).map fun (c, _) =>
        sampleAt (s.reg (Od.svStreamRate n)) (s.tickAt i) (s.delayInUse s c i) - 1).min?
    | none => none
  (s.stream n).ring.any fun (k, r) =>
    r.received && (k ≠ j || r.keys ≠ keys) && k % 64 = j % 64 && match low with
      | some l => l ≤ k
      | none => false

/-- Two sample numbers of one second or less apart: numbers further apart were formed at different stream rates (R148). -/
def sameRun (a b : Nat) : Bool := a < b + 14400 && b < a + 14400

/-- A sample that came after its deadline is counted LATE and not stored (R159). -/
def State.svLateOne (s : State) (n j : Nat) : State :=
  let x := s.stream n
  let s1 := s.setStream n { x with lateSeen := true, seen := if x.seen.contains j then x.seen else j :: x.seen }
  let s2 := s1.setDp fun d => { d with lateCount := d.lateCount + 1 }
  (s2.svCount (Od.svLate n) n).ingestFlag 1 n

/-- The samples of an accepted ASDU go to the ring (R157, R159, R160); `cfg` is the table it was matched under (R148). -/
def State.svStore (s cfg : State) (n j arrival : Nat) (a : Asdu) : State :=
  let x := s.stream n
  let keys := cfg.streamKeys n
  if x.keys = some keys && x.seen.contains j then s.svCount (Od.svDuplicate n) n
  else if x.judgedTo.any fun m => j ≤ m && sameRun j m then s.svLateOne n j
  else if s.positionTaken n j keys then s.svCount (Od.svBadSmpcnt n) n
  else
    let r : RawSample := ⟨keys, true, arrival, a.smpSynch = 0, cfg.on (Od.svTestAccept n), a.samples, .waiting, false⟩
    let seen := if x.keys = some keys then x.seen.filter fun k => j < k + keys.rate else []
    s.setStream n { x with seen := j :: seen, keys := some keys, ring := Tab.insert x.ring j r }

/-- An ASDU that passes every check of R150: counted, and its samples read (R151); none cross a failed link to the compute die (R28). -/
def State.svAccept (s cfg : State) (n j arrival : Nat) (a : Asdu) : State :=
  let s1 := ((s.svCount (Od.svFrames n) n).setReg (Od.svLastSmpcnt n) a.smpCnt).setReg (Od.svLastEnd n) arrival
  if s.cut 0 then s1 else
  let s2 := s1.setStream n { s1.stream n with arrivals := arrival :: (s1.stream n).arrivals }
  let s3 := s2.when_ (a.smpSynch = 0) fun t => (t.svCount (Od.svUnsynced n) n).ingestFlag 7 n
  let s4 := s3.each (if cfg.on (Od.svTestAccept n) then [] else a.samples.filter fun v => bit v.quality 11) fun _ t =>
    t.svCount (Od.svTestSimDiscard n) n
  s4.svStore cfg n j arrival a

/-- The checks of R150 in the table's order, under the table in force where the svID comparison ended (R148). -/
def State.svReceive (s : State) (a : Asdu) : State :=
  let cfg := s.asOf a.idAt
  match cfg.svMatch a with
  | none => s.countEv Od.ingestCntUnsubscribed 35 none
  | some n =>
    let confRev := cfg.reg (Od.svConfRev n)
    let arrival := s.svArrival a
    if !bit (cfg.reg (Od.svIngressMask n)) a.port then s.svCount (Od.svWrongPort n) n
    else if a.seqLen ≠ 8 * cfg.reg (Od.svChannels n) then s.countEv Od.ingestCntMalformed 35 (some n)
    else if confRev ≠ 0 && confRev ≠ a.confRev then (s.svCount (Od.svConfRevMismatch n) n).ingestFlag 4 n
    else if a.sim != cfg.on (Od.svSimAccept n) then s.svCount (Od.svTestSimDiscard n) n
    else
      match sampleNumber (cfg.reg (Od.svStreamRate n)) a.smpCnt arrival with
      | none => s.svCount (Od.svBadSmpcnt n) n
      | some j =>
        if a.smpSynch = 0 && cfg.reg (Od.svSyncPolicy n) = 0 then (s.svCount (Od.svUnsynced n) n).ingestFlag 7 n
        else
          let v := if cfg.reg (Od.svAuthMode n) = 1 then
              s.verifyAuth (cfg.reg (Od.svKeySlotA n)) (cfg.reg (Od.svKeySlotB n)) .svVerify a.auth
            else (true, s)
          if v.1 then v.2.svAccept cfg n j arrival a else (v.2.svCount (Od.svAuthFail n) n).ingestFlag 3 n

def execSvAsduReceived (at_ : Instant) (asdu : Asdu) (s : State) : Result :=
  act (asdu.port < 32) 3 (s.arrive at_) fun s => s.svReceive asdu

/-! ### ALIGNMENT_WINDOW_CLOSE (R158, R168, R181) -/

/-- A position judged missing that nothing came for. -/
def absentSample (keys : StreamKeys) : RawSample := ⟨keys, false, 0, false, false, [], .missing, false⟩

/-- Judge one sample at a deadline (R158): missing ones are counted. One that is in the ring already but ends after the deadline is missing
too, and LATE once it has ended. -/
def State.judgeSample (s : State) (n deadline j : Nat) : State :=
  let x := s.stream n
  match Tab.find x.ring j with
  | some r =>
    if r.received && r.arrival ≤ deadline then s.setStream n { x with ring := Tab.insert x.ring j { r with judged := .present } }
    else (s.setStream n { x with ring := Tab.insert x.ring j { r with samples := [], judged := .missing } }).svCount (Od.svMissing n) n
  | none =>
    (s.setStream n { x with ring := Tab.insert x.ring j (absentSample (s.streamKeys n)) }).svCount (Od.svMissing n) n

/-- The samples of a stream that were judged before they had arrived, and now have: LATE (R159). -/
def State.lateEnds (s : State) (n : Nat) : State :=
  let x := s.stream n
  let ended (e : Nat × RawSample) : Bool := e.2.received && e.2.judged = .missing && e.2.arrival ≤ s.now &&
    !x.judgedTo.any fun m => m < e.1 && sameRun e.1 m
  s.each (x.ring.filter ended) fun e t =>
    (t.setStream n { t.stream n with ring := Tab.insert (t.stream n).ring e.1 { e.2 with received := false } }).svLateOne n e.1

/-- What the image of the closing instant tells of the LATE samples since the close before (R159, R170). -/
def State.showLate (s : State) : State :=
  s.setDp fun d => { d with
    lateShown := d.lateCount, lateCount := 0
    streams := d.streams.map fun (k, x) => (k, { x with lateShown := x.lateSeen, lateSeen := false }) }

/-- Judge every sample of a stream whose deadline is that of image `i` (R158); the ring keeps what its depth reaches, and samples of
another stream rate until the first image of the new one (R148). -/
def State.judgeStream (s cfg : State) (i deadline n : Nat) : State :=
  match s.guardAt cfg n i with
  | none => s
  | some g =>
    let x := s.stream n
    let last := x.judgedTo.filter fun m => sameRun m g
    let from_ := last.getD ((s.guardAt cfg n (i - 1)).getD g)
    let s1 := s.each ((List.range (g - from_)).map fun k => from_ + 1 + k) fun j t => t.judgeSample n deadline j
    let y := s1.stream n
    let to_ := max g from_
    s1.setStream n { y with
      judgedTo := some to_, judgedBefore := from_
      ring := y.ring.filter fun e => if sameRun e.1 to_ then decide (to_ < e.1 + 96) else last.isSome }

/-- The last accepted ASDU that had arrived by a deadline. -/
def Stream.lastBy (x : Stream) (deadline : Nat) : Option Nat := x.arrivals.find? (· ≤ deadline)

/-- ALIVE of a stream at the deadline of an image (R168). -/
def State.judgeAlive (s : State) (deadline n : Nat) : State :=
  let x := s.stream n
  let alive := s.on (Od.svEnable n) && (x.lastBy deadline).any fun a => deadline ≤ a + ofMs (s.reg (Od.svAliveTimeout n))
  if alive = x.alive then s
  else
    ((s.setStream n { x with alive := alive }).setReg (Od.svAlive n) (b2n alive)).ingestFlag (if alive then 6 else 5) n

/-- Arrivals that no later deadline asks for are dropped. -/
def State.dropArrivals (s : State) (deadline : Nat) : State :=
  s.setDp fun d => { d with streams := d.streams.map fun (k, x) =>
    (k, { x with arrivals := (x.arrivals.filter fun a => deadline < a) ++ (x.lastBy deadline).toList }) }

/-- ALIVE_MAP of a list of entries: bit `n mod 8` of octet `n / 8` of 64 (R170). -/
def aliveMap (l : List Nat) : Nat := l.foldl (fun m n => setBit m (8 * (63 - n / 8) + n % 8) true) 0

/-- The entries that are ALIVE. -/
def State.aliveNow (s : State) : List Nat := (s.dp.streams.filter fun e => e.2.alive).map (·.1)

/-- The closing instant of an image (R158). -/
def State.deadlineOf (s cfg : State) (i : Nat) : Nat := s.tickAt i + ofUs (cfg.reg Od.ingestAlignWindow)

/-- ALIGNMENT_WINDOW_CLOSE of image `i`: it comes once, at or after its instant; no image of a tick before a step's new time is built
(R59). -/
def State.closeWindow (s : State) (i : Nat) : State :=
  let cfg := s.asOf (s.tickAt i)
  let deadline := s.deadlineOf cfg i
  if s.now < deadline || i < s.dp.imagesFrom || s.dp.lastClosed.any fun j => i ≤ j then s
  else
    let s0 := s.showLate.each cfg.svEntries fun n t => t.lateEnds n
    let s1 := s0.each cfg.svEntries fun n t => t.judgeStream cfg i deadline n
    let s2 := s1.each (List.range 512) fun n t => t.judgeAlive deadline n
    let s3 := (s2.setReg Od.ingestAliveMap (aliveMap s2.aliveNow)).dropArrivals deadline
    s3.setDp fun d => { d with lastClosed := some i, freezeImage := d.freezeNow }

def execAlignmentWindowClose (at_ : Instant) (image : Nat) (s : State) : Result :=
  act true 3 (s.arrive at_) fun s => s.closeWindow image

end Sys2Proof.Machine
end

