-- ==== Sys2Proof/Machine/Image.lean ====
section
/-!
DEFINITION. The filter slices up to the tick image (05_sampled_value_ingest_and_the_tick_image.md R156, R161 to R172;
06_filter_chain_phasors_and_history.md R176 to R187, R198, R203 to R207): the command IMAGE_RELEASE.
-/

namespace Sys2Proof.Machine

open Sys2Proof

/-! ### Frequency groups as the slices see them (R189) -/

/-- f_g: the estimate of the previous tick in Q16.16, limited to 40 to 70 Hz; the nominal frequency before the first. -/
def State.groupFreq (s cfg : State) (g : Nat) : Nat :=
  let f := ((Tab.look s.dp.groups g {}).freq).getD (cfg.reg (Od.fgroupNominal g) : Rat)
  (clampInt (40 * 65536) (70 * 65536) (roundRat (f * 65536))).toNat

/-- The oscillator's phase at the tick after the last whose phasors were released (R189). -/
def State.nextTheta (s cfg : State) (g : Nat) : Nat :=
  ((Tab.look s.dp.groups g {}).theta + (roundDiv ((s.groupFreq cfg g * 2 ^ 16 : Nat) : Int) s.rate).toNat) % 2 ^ 32

/-- L of R190. -/
def State.fineLength (s cfg : State) (c : Nat) : Rat :=
  (cfg.reg (Od.profileFineCycles (cfg.frec c).profile) * s.rate * 65536 : Nat) / (s.groupFreq cfg (cfg.frec c).group : Rat)

/-- The fine window is not filled with settled outputs (R198). -/
def settling (hist : List HistPoint) (l : Rat) : Bool :=
  let n := l.ceil.toNat
  hist.length < n || (hist.take n).any (·.unsettled)

/-! ### Input scaling (R179) -/

/-- `s` of R179 of a value in S48 units, and whether sat limited it. -/
def State.scaled (cfg : State) (c : Nat) (x : Int) : Int × Bool :=
  let f := cfg.frec c
  let v := roundDiv ((if f.invert then -x else x) * (f.gain : Int)) (2 ^ 30)
  (sat48 v, sat48 v ≠ v)

/-! ### Samples of a channel (R151, R161, R163) -/

/-- A sample of a channel that is present: of the stream the configuration names, judged present, of a validity that is used, not
refused for its test bit. -/
def State.sampleOf (s cfg : State) (n i j : Nat) : Option (RawSample × Sample) :=
  match Tab.find (s.stream n).ring j with
  | some r =>
    match r.samples[i]? with
    | some v =>
      let validity := v.quality % 4
      if r.keys = cfg.streamKeys n && r.judged = .present && (validity = 0 || validity = 3) && (!bit v.quality 11 || r.testOk) then
        some (r, v)
      else none
    | none => none
  | none => none

/-- What a used sample brings to the status: QUESTIONABLE, and the bits 2 to 6 of the slot (R151, R163). -/
structure Used where
  value : Int
  questionable : Bool
  bits : Nat

/-- A present sample as it is used: UNSYNCED makes it questionable, sat makes it overrange (R163, R164, R179). -/
def State.usedPresent (cfg : State) (c : Nat) (r : RawSample) (v : Sample) : Used :=
  let x := v.value * 2 ^ 16
  let ovr := bit v.quality 2 || bit v.quality 3 || (cfg.scaled c x).2
  { value := x, questionable := v.quality % 4 = 3 || r.unsynced
    bits := 8 * b2n (bit v.quality 11) + 16 * b2n r.unsynced + 32 * b2n ovr + 64 * b2n (bit v.quality 13) }

/-- A sample of a channel as an image uses it: itself, or the mean of its neighbours with their flags (R161). -/
def State.usedSample (s cfg : State) (c n i j : Nat) : Option Used :=
  match s.sampleOf cfg n i j with
  | some (r, v) => some (cfg.usedPresent c r v)
  | none =>
    match s.sampleOf cfg n i (j - 1), s.sampleOf cfg n i (j + 1) with
    | some (r, v), some (q, w) =>
      let a := cfg.usedPresent c r v
      let b := cfg.usedPresent c q w
      some { value := (v.value + w.value) * 2 ^ 15, questionable := a.questionable || b.questionable
             bits := 4 ||| a.bits ||| b.bits }
    | _, _ => none

/-! ### Missing runs and recovery (R161) -/

/-- A channel's state over one more sample, in sample-number order; a substitution counts once for its stream. -/
def State.scanSample (s cfg : State) (c n i j : Nat) : State :=
  let ch := s.chan c
  let here := (s.sampleOf cfg n i j).isSome
  if ch.invalid then
    if here then
      let from_ := if ch.runGood = 0 then j else ch.recoverFrom
      if 4 ≤ ch.runGood + 1 then
        s.setChan c { ch with scannedTo := j, invalid := false, runGood := 0, recoverFrom := from_, validFrom := from_ }
      else s.setChan c { ch with scannedTo := j, runGood := ch.runGood + 1, recoverFrom := from_ }
    else s.setChan c { ch with scannedTo := j, runGood := 0 }
  else if here then s.setChan c { ch with scannedTo := j }
  else if (s.sampleOf cfg n i (j - 1)).isSome && (s.sampleOf cfg n i (j + 1)).isSome then
    let s1 := s.setChan c { ch with scannedTo := j }
    let x := s1.stream n
    match Tab.find x.ring j with
    | some r =>
      if r.substituted then s1
      else (s1.setStream n { x with ring := Tab.insert x.ring j { r with substituted := true } }).svCount (Od.svSubstituted n) n
    | none => s1
  else (s.setChan c { ch with scannedTo := j, invalid := true, runGood := 0 }).ingestFlag 2 n

/-! ### Alignment instants (R156, R184) -/

/-- The alignment instants of an image, in order. -/
def State.alignInstants (s : State) (i m : Nat) : List Nat :=
  let a := s.tickAt (i - 1)
  let b := s.tickAt i
  (List.range m).map fun q => a + (roundDiv (((q + 1) * (b - a) : Nat) : Int) m).toNat

/-- The aligned instant of a sample (R155). -/
def alignedAt (rate : Nat) (delay : Int) (j : Nat) : Int := (tickInstant rate j : Int) - delay

/-- The 32-bit position of R156. -/
def position (rate : Nat) (delay : Int) (k : Nat) (t : Nat) : Nat :=
  let a := alignedAt rate delay k
  let d := alignedAt rate delay (k + 1) - a
  min (2 ^ 32 - 1) (roundDiv (((t : Int) - a) * 2 ^ 32) d.toNat).toNat

/-- The cubic Lagrange value of R183, exactly. -/
def lagrangeValue (u p0 p1 p2 p3 : Rat) : Rat :=
  -(u * (u - 1) * (u - 2)) / 6 * p0 + (u + 1) * (u - 1) * (u - 2) / 2 * p1 - (u + 1) * u * (u - 2) / 2 * p2 +
    (u + 1) * u * (u - 1) / 6 * p3

/-- Its derivative in the position. -/
def lagrangeSlope (u p0 p1 p2 p3 : Rat) : Rat :=
  -(3 * u * u - 6 * u + 2) / 6 * p0 + (3 * u * u - 4 * u - 1) / 2 * p1 - (3 * u * u - 2 * u - 2) / 2 * p2 +
    (3 * u * u - 1) / 6 * p3

/-- Value and slope at an alignment instant, each rounded once (R183); the slope in 2^-16 wire units per second. -/
def align (blocked : Tab Int) (rate : Nat) (delay : Int) (t : Nat) : Int × Int :=
  let k := sampleAt rate t delay
  let p (j : Nat) : Rat := (Tab.look blocked j 0 : Int)
  let u : Rat := (position rate delay k t : Rat) / 2 ^ 32
  let d : Rat := ((alignedAt rate delay (k + 1) - alignedAt rate delay k : Int) : Rat) / 2 ^ 36
  (s48 (roundRat (lagrangeValue u (p (k - 1)) (p k) (p (k + 1)) (p (k + 2)))),
    roundRat (lagrangeSlope u (p (k - 1)) (p k) (p (k + 1)) (p (k + 2)) / d))

/-! ### DC blocker and FIR (R180, R181, R185) -/

/-- One stream sample through scaling and the DC blocker. -/
def State.blockSample (cfg : State) (c rate : Nat) (frozen : Bool) (j : Nat) (x : Int) (ch : Channel) : Channel :=
  let v := (cfg.scaled c x).1
  let corner := cfg.reg (Od.profileDcCorner (cfg.frec c).profile)
  if corner = 0 then { ch with blockedTo := some j, blocked := Tab.insert ch.blocked j v }
  else
    let y := s48 (v - roundDiv ch.dc (2 ^ 48))
    let dc := if frozen then ch.dc else roundDiv (ch.dc * 2 ^ 31 + dcCoefficient corner rate * (v * 2 ^ 48 - ch.dc)) (2 ^ 31)
    { ch with dc := dc, blockedTo := some j, blocked := Tab.insert ch.blocked j y }

/-- The coefficients h_0 to h_(N-1) of a profile (R185, R217). -/
def coefficients (u : FilterUse) : List Int :=
  let stored := (List.range (u.coefficients.length / 4)).map fun i => toSigned 32 (beAt u.coefficients (4 * i) 4)
  if u.symmetric then (List.range u.taps).map fun j => stored.getD (min j (u.taps - 1 - j)) 0 else stored.take u.taps

/-- The FIR output over the inputs, newest first; a bypassed stage passes its input (R185). -/
def firOutput (u : FilterUse) (fir : List Int) : Int :=
  if u.taps = 0 then fir.headD 0
  else sat48 (roundDiv ((List.zipWith (· * ·) (coefficients u) fir).sum) (2 ^ 31))

/-! ### Channel state between images (R187) -/

/-- The filter a channel uses. -/
def State.filterUse (cfg : State) (c : Nat) : FilterUse :=
  let f := cfg.frec c
  { profile := f.profile, taps := cfg.reg (Od.profileTaps f.profile), decimation := cfg.reg (Od.profileDecimation f.profile)
    symmetric := cfg.on (Od.profileSymmetric f.profile), coefficients := cfg.blob (Od.profileCoefficients f.profile)
    group := f.group }

/-- The count of restarts of a channel goes up (R187, R220). -/
def State.countRestart (s : State) (c : Nat) : State :=
  let w := s.reg (Od.filterRecord c)
  s.setReg (Od.filterRecord c) (setField w 56 8 (field w 56 8 + 1))

/-- A restart that is due takes place; else a new filter clears the FIR history and the fine path, and a new group makes a
phasor restart (R187). -/
def State.prepareChannel (s cfg : State) (c i : Nat) : State :=
  let ch := s.chan c
  let u := cfg.filterUse c
  if ch.restartDue || ch.restartAt.any fun b => b ≤ i then
    (s.setChan c { ch with
      dc := 0, blockedTo := none, blocked := [], fir := [], hist := [], filter := some u, restartDue := false
      restartAt := if ch.restartAt.any fun b => b ≤ i then none else ch.restartAt }).countRestart c
  else
    match ch.filter with
    | none => s.setChan c { ch with filter := some u }
    | some v =>
      let ch1 := if v.group = u.group then ch else { ch with hist := [] }
      let ch2 := if { v with group := u.group } = u then ch1
        else { ch1 with fir := [], hist := ch1.hist.map fun p => { p with v := 0, unsettled := true } }
      s.setChan c { ch2 with filter := some u }

/-- A channel whose source changes (a new stream, another channel of it, another DELAY) starts in INVALID, and its recovery counts from
the first sample whose deadline is that of this image (R149). -/
def State.channelSource (s cfg : State) (c n i : Nat) : State :=
  let ch := s.chan c
  let src : Option Source := some ⟨n, i, cfg.channelDelay c, cfg.streamKeys n⟩
  if ch.source = src then s
  else s.setChan c { ch with
    source := src, invalid := true, runGood := 0, restartDue := true, scannedTo := (s.stream n).judgedBefore }

/-! ### Freeze, shedding, recomputation (R181, R203, R204, R206) -/

/-- The freeze state of a channel for the image now closed (R181, R252). -/
def State.frozenChannel (s cfg : State) (c : Nat) : Bool :=
  let f := s.dp.freezeImage
  let g := (cfg.frec c).group
  octetBit 1024 f.map c || bit f.groups g || f.pails.any fun (p, w) => bit w g && cfg.pailImage p c

/-- The channels shed from the image of tick `i` (R206). -/
def State.shedAt (s : State) (i : Nat) : List Nat :=
  match s.dp.sheds.find? fun e => e.1 ≤ i with
  | some e => e.2
  | none => []

/-- Who serves a channel: slice 0 to 3, or 4 for the fall-back engine. -/
def State.serverOf (s : State) (c i : Nat) : Nat := if s.fallbackAt c i then 4 else c % 4

/-- A channel's lane group reported a mismatch in this tick (R203). -/
def State.mismatchedAt (s : State) (c i : Nat) : Bool :=
  (Tab.look s.dp.mismatched (s.serverOf c i) []).contains (c / 4 % 4)

/-- The channels of failing lane groups whose recomputation misses the deadline: with a second lane group of one slice, how
many of them are complete is not stated, so a free count; all of them with no lane group left (R204). -/
def State.incomplete (s cfg : State) (i : Nat) : List Nat × State :=
  (List.range 4).foldl (fun acc slice =>
    let failing := Tab.look s.dp.mismatched slice []
    if failing.length < 2 then acc
    else
      let cs := ((cfg.mapped.map (·.1)).filter fun c => s.serverOf c i = slice && s.mismatchedAt c i).mergeSort
      let complete := if 4 ≤ failing.length then 0 else acc.2.freeBelow (cs.length + 1)
      (acc.1 ++ cs.drop complete, acc.2.drew)) ([], s)

/-! ### The image (R163, R169 to R171) -/

/-- SERVO_STATE at a tick instant (R164, R170). -/
def State.timeStateAt (s : State) (i : Nat) : Nat := Tab.look s.dp.timeAt i (servoCode s.time.servo)

/-- A slot that no image wrote, or of a channel that is not mapped (R169). -/
def unmappedSlot : Slot := ⟨0, 0x0101⟩

/-- The status bits that do not depend on the samples: TIME_DEGRADED, FALLBACK, DC_FROZEN, RECOMPUTED, LATE_SEEN. -/
def State.standingBits (s cfg : State) (c n i : Nat) : Nat :=
  128 * b2n (s.timeStateAt i ≠ 2) + 2048 * b2n (s.fallbackAt c i) + 4096 * b2n (s.frozenChannel cfg c) +
    8192 * b2n (s.mismatchedAt c i) + 16384 * b2n (s.stream n).lateShown

/-- What building one channel leaves: the state and the slot. -/
structure Built where
  state : State
  slot : Slot

/-- An INVALID channel: VALUE 0 and a cause, and a restart when it is served again (R162, R198). -/
def State.buildInvalid (s cfg : State) (c n i cause : Nat) : Built :=
  ⟨s.setChan c { s.chan c with restartDue := true }, ⟨0, 1 + 256 * cause + s.standingBits cfg c n i⟩⟩

/-- A valid channel: its samples pass the DC blocker, alignment and FIR, and the point of this tick joins the windows. -/
def State.buildValid (s cfg : State) (c n m i : Nat) : Built :=
  let rate := cfg.reg (Od.svStreamRate n)
  let delay := s.delayInUse cfg c i
  let u := cfg.filterUse c
  let ts := s.alignInstants i (max 1 u.decimation)
  let ks := ts.map fun t => sampleAt rate t delay
  let lo := ks.headD 0 - 1
  let hi := ks.getLastD 0 + 2
  let s1 := s.prepareChannel cfg c i
  let frozen := s1.frozenChannel cfg c
  let ch := s1.chan c
  let from_ := match ch.blockedTo with
    | some j => j + 1
    | none => lo
  let ch1 := ((List.range (hi + 1 - from_)).map fun k => from_ + k).foldl (fun x j =>
    cfg.blockSample c rate frozen j (((s1.usedSample cfg c n m j).map (·.value)).getD 0) x) ch
  let aligned := ts.map fun t => align ch1.blocked rate delay t
  let fir := aligned.foldl (fun l a => (a.1 :: l).take (max 1 u.taps)) ch1.fir
  let last := aligned.getLastD (0, 0)
  let used := (ks.flatMap fun k => (List.range 4).map fun d => k - 1 + d).filterMap fun j => s1.usedSample cfg c n m j
  let timeBad : Bool := s1.timeStateAt i ≠ 2 && s1.timeStateAt i ≠ 3
  let questionable := timeBad || used.any (·.questionable)
  let bits := used.foldl (fun b x => b ||| x.bits) 0
  let status := (if questionable then 3 else 0) + bits + s1.standingBits cfg c n i
  let point : HistPoint :=
    { tick := i, v := firOutput u fir, y := last.1, slope := last.2, theta := s1.nextTheta cfg u.group
      freq := s1.groupFreq cfg u.group, status := status, unsettled := fir.length < u.taps }
  let hist := (point :: ch1.hist).take 722
  let full := status + 1024 * b2n (settling hist (s1.fineLength cfg c))
  let ch2 := { ch1 with fir := fir, hist := hist, blocked := ch1.blocked.filter fun e => hi < e.1 + 96 }
  ⟨s1.setChan c ch2, ⟨point.v, full⟩⟩

/-- One mapped channel of the image of tick `i`. -/
def State.buildChannel (s cfg : State) (lost : List Nat) (i c n m : Nat) : Built :=
  let rate := cfg.reg (Od.svStreamRate n)
  let delay := s.delayInUse cfg c i
  let ts := s.alignInstants i (max 1 (cfg.filterUse c).decimation)
  let lo := sampleAt rate (ts.headD 0) delay - 1
  let hi := sampleAt rate (ts.getLastD 0) delay + 2
  let s1 := s.channelSource cfg c n m
  let from_ := (s1.chan c).scannedTo
  let s2 := s1.each ((List.range (hi - from_)).map fun k => from_ + 1 + k) fun j t => t.scanSample cfg c n m j
  let ch := s2.chan c
  if ch.invalid || lo < ch.validFrom then s2.buildInvalid cfg c n i 2
  else if s2.fallbackAt c i && (s2.shedAt i).contains c then s2.buildInvalid cfg c n i 3
  else if lost.contains c || s2.dp.damaged.contains (i, c) then s2.buildInvalid cfg c n i 2
  else s2.buildValid cfg c n m i

/-- IMAGE_RELEASE of image `i`, which has been closed and not yet released (R171). -/
def State.releaseImage (s : State) (i : Nat) : State :=
  if s.dp.lastClosed ≠ some i || s.dp.lastReleased = some i then s
  else
    let cfg := s.asOf (s.tickAt i)
    let lost := s.incomplete cfg i
    let built := (cfg.mapped.mergeSort fun a b => a.1 ≤ b.1).foldl (fun acc (c, n, m) =>
      let b := acc.1.buildChannel cfg lost.1 i c n m
      (b.state, acc.2 ++ [(c, b.slot)])) (lost.2, ([] : Tab Slot))
    let s1 := built.1
    let redone := (built.2.filter fun e => bit e.2.status 13).length
    let slot : ImageSlot :=
      { tick := i, instant := s.tickAt i, tickRate := s.rate, timeState := s.timeStateAt i
        flags := b2n ((List.range 4).any fun c => s.fallbackAt c i) + 2 * b2n (redone ≠ 0)
        subscriptionGen := cfg.reg Od.ingestSubscriptionGen
        invalidCount := (built.2.filter fun e => e.2.status % 4 = 1).length
        substitutedCount := (built.2.filter fun e => bit e.2.status 2).length
        lateCount := s.dp.lateShown % 2 ^ 16
        releaseNs := (roundDiv (((s.now - s.deadlineOf cfg i) * 1000000000 : Nat) : Int) (2 ^ 36)).toNat
        alive := s.aliveNow, slots := built.2 }
    let s2 := s1.setReg Od.fbRecomputedChannels ((s1.reg Od.fbRecomputedChannels + redone) % 2 ^ 32)
    let s3 := s2.each (List.range 4) fun n t =>
      t.when_ (lost.1.any fun c => c % 4 = n) fun t =>
        t.setFlag (48 + n) 1 (some ((Tab.look s.dp.mismatched n []).headD 0))
    let s4 := s3.when_ (i % 8 = 0) fun t =>
      t.setHist fun h => { h with seqs := t.storedChannels.map fun c => (c, (t.frec c).restarts) }
    s4.setDp fun d => { d with
      images := Tab.insert d.images (i % 64) slot, lastReleased := some i
      damaged := d.damaged.filter fun e => i < e.1
      channels := d.channels.map fun (c, x) =>
        (c, if built.2.any fun e => e.1 = c then x else { x with source := none }) }

def execImageRelease (at_ : Instant) (image : Nat) (s : State) : Result :=
  act true 10 (s.arrive at_) fun s => s.releaseImage image

end Sys2Proof.Machine
end

