-- ==== Sys2Proof/Machine/Phasor.lean ====
section
/-!
DEFINITION. Phasors and frequency (06_filter_chain_phasors_and_history.md, R188 to R202): the command PHASOR_RELEASE.
-/

namespace Sys2Proof.Machine

open Sys2Proof

/-! ### Angles and factors (R188, R190, R191) -/

/-- The reference phase of a tick for a nominal frequency (R42, R188). -/
def refPhase (f0 frac : Nat) : Nat := (roundDiv ((f0 * frac : Nat) : Int) 16 % 2 ^ 32).toNat

/-- The product of two complex numbers. -/
def cmul (a b : Rat × Rat) : Rat × Rat := (a.1 * b.1 - a.2 * b.2, a.1 * b.2 + a.2 * b.1)

/-- The Q1_31 factor of an angle modulo 2^32, as a pair of integers over 2^31. -/
def factor (a : Int) : Rat × Rat :=
  let f := turnFactor (a % 2 ^ 32).toNat
  ((f.1 : Rat), (f.2 : Rat))

/-- K(f_g) of a profile: magnitude with 30 fractional bits and angle in TURN32, each rounded once (R191). -/
def correction (taps : Nat) (table : List Byte) (fq : Nat) : Nat × Int :=
  if taps = 0 then (2 ^ 30, 0)
  else
    let mag (i : Nat) : Nat := beAt table (8 * i) 4
    let ang (i : Nat) : Int := toSigned 32 (beAt table (8 * i + 4) 4)
    if fq ≤ 45 * 65536 then (mag 0, ang 0)
    else if 65 * 65536 ≤ fq then (mag 20, ang 20)
    else
      let i := fq / 65536 - 45
      let x : Int := (fq % 65536 : Nat)
      let d := toSigned 32 ((ang (i + 1) - ang i) % 2 ^ 32).toNat
      ((roundDiv ((mag i : Int) * 65536 + ((mag (i + 1) : Int) - mag i) * x) 65536).toNat,
        roundDiv (ang i * 65536 + d * x) 65536)

/-! ### Fine and skim values (R190, R194) -/

/-- The fine value of a channel from its window, newest point first: the exact weighted sum turned to the current phase, the
correction and the reference, rounded once. -/
def fineValue (hist : List HistPoint) (l : Rat) (theta : Nat) (k : Nat × Int) (psi : Nat) : Int × Int :=
  let whole := l.floor.toNat
  let sum := ((hist.take l.ceil.toNat).zipIdx).foldl (fun (acc : Rat × Rat) (p, m) =>
    let w : Rat := (p.v : Rat) * (if m < whole then 1 else l - whole)
    let f := factor ((theta : Int) - p.theta)
    (acc.1 + w * f.1, acc.2 + w * f.2)) (0, 0)
  let r := cmul sum (factor (k.2 - psi))
  let scale : Rat := (k.1 : Rat) / (l * 2 ^ 92)
  (s48 (roundRoot2 (r.1 * scale)), s48 (roundRoot2 (r.2 * scale)))

/-- Two pi, to 2^-199. -/
def twoPi : Rat := (2 * piFix : Nat) / 2 ^ 200

/-- The skim value of a channel: the average of the instantaneous estimates of the last ticks, rounded once. -/
def skimValue (hist : List HistPoint) (q theta psi : Nat) : Int × Int :=
  let pts := hist.take q
  let sum := pts.foldl (fun (acc : Rat × Rat) p =>
    let z : Rat × Rat := ((p.y : Rat), -((p.slope : Rat) * 65536 / (p.freq : Rat)) / twoPi)
    let t := cmul z (factor ((theta : Int) - p.theta))
    (acc.1 + t.1, acc.2 + t.2)) (0, 0)
  let r := cmul sum (factor (-(psi : Int)))
  let scale : Rat := 1 / ((pts.length : Rat) * 2 ^ 63)
  (s48 (roundRoot2 (r.1 * scale)), s48 (roundRoot2 (r.2 * scale)))

/-- A value of one path of a channel at the tick: the complex value and the status word of R201 without the group's bits. -/
structure PathValue where
  real : Int
  imag : Int
  status : Nat

/-- The status word of R201 without the group's bits: bits 2 to 6 and 12 of any image in the window, the rest of the
current slot. -/
def pathStatus (slot : Slot) (window : List HistPoint) (isSettling redone : Bool) : Nat :=
  let sticky := (window.foldl (fun b p => b ||| p.status) slot.status) &&& 0x107C
  let quest : Bool := isSettling || slot.status % 4 = 3 || window.any fun p => p.status % 4 = 3
  let now := slot.status &&& 0x0B80
  (if slot.status % 4 = 1 then 1 else if quest then 3 else 0) + sticky + now + 1024 * b2n isSettling +
    8192 * b2n (bit slot.status 13 || redone)

/-- The slot of a channel in the image of tick `i`. -/
def State.slotAt (s : State) (i c : Nat) : Slot :=
  match Tab.find s.dp.images (i % 64) with
  | some x => if x.tick = i then Tab.look x.slots c unmappedSlot else unmappedSlot
  | none => unmappedSlot

/-- The fine value of a channel; an INVALID one holds no window and its parts are 0 (R198). -/
def State.fineOf (s cfg : State) (c i : Nat) : PathValue :=
  let slot := s.slotAt i c
  if slot.status % 4 = 1 then ⟨0, 0, pathStatus slot [] false (s.mismatchedAt c i)⟩
  else
    let f := cfg.frec c
    let l := s.fineLength cfg c
    let fq := s.groupFreq cfg f.group
    let hist := (s.chan c).hist
    let k := correction (cfg.reg (Od.profileTaps f.profile)) (cfg.blob (Od.profileCorrection f.profile)) fq
    let psi := refPhase (cfg.reg (Od.fgroupNominal f.group)) (s.tickAt i % 2 ^ 36)
    let v := fineValue hist l (s.nextTheta cfg f.group) k psi
    ⟨v.1, v.2, pathStatus slot (hist.take l.ceil.toNat) (settling hist l) (s.mismatchedAt c i)⟩

/-- The skim value of a channel. -/
def State.skimOf (s cfg : State) (c i : Nat) : PathValue :=
  let slot := s.slotAt i c
  if slot.status % 4 = 1 then ⟨0, 0, pathStatus slot [] false (s.mismatchedAt c i)⟩
  else
    let g := (cfg.frec c).group
    let f0 := cfg.reg (Od.fgroupNominal g)
    let q := (roundDiv (s.rate : Int) (4 * f0)).toNat
    let hist := (s.chan c).hist
    let v := skimValue hist q (s.nextTheta cfg g) (refPhase f0 (s.tickAt i % 2 ^ 36))
    ⟨v.1, v.2, pathStatus slot (hist.take q) false (s.mismatchedAt c i)⟩

/-! ### Frequency (R192, R193, R202) -/

/-- What the frequency estimate of a tick gives. -/
structure FreqStep where
  group : FreqGroup
  record : FreqRec

/-- The channel whose fine value a group uses: REF_CHANNEL, else BACKUP_CHANNEL, each only while GOOD and not SETTLING. -/
def State.freqSource (s cfg : State) (g i : Nat) : Option (Nat × Bool × Nat) :=
  [(cfg.reg (Od.fgroupRefChannel g), false), (cfg.reg (Od.fgroupBackupChannel g), true)].findSome? fun (c, backup) =>
    if 8192 ≤ c then none
    else
      let v := s.fineOf cfg c i
      if v.status % 4 = 0 then some (c, backup, cordicAngle v.real v.imag) else none

/-- The estimate of a group at a tick. -/
def State.freqStep (s cfg : State) (g i : Nat) : FreqStep :=
  let x := Tab.look s.dp.groups g {}
  let f0 := cfg.reg (Od.fgroupNominal g)
  let nf := (roundDiv (s.rate : Int) f0).toNat
  let theta := s.nextTheta cfg g
  let src := s.freqSource cfg g i
  let before : Rat := x.freq.getD f0
  -- the estimate, its rate of change, whether held, and the group's memory
  let r : Rat × Rat × Bool × Option Nat × Nat × List Nat := match src with
    | none => (before, 0, true, none, 0, [])
    | some (c, _, phi) =>
      if x.inUse ≠ some c then (before, 0, true, some c, nf - 1, [phi])
      else if 0 < x.holdLeft then (before, 0, true, some c, x.holdLeft - 1, phi :: x.angles)
      else
        let old := x.angles.getD (nf - 1) phi
        let d := toSigned 32 ((phi + 2 ^ 32 - old) % 2 ^ 32)
        let f : Rat := f0 + (d : Rat) * s.rate / (2 ^ 32 * nf)
        (f, (f - x.freqs.getD (nf - 1) f) * s.rate / nf, false, some c, 0, phi :: x.angles)
  let fq := roundRat (r.1 * 65536)
  let out : Bool := fq < 45 * 65536 || 65 * 65536 < fq
  let backup := match src with
    | some (_, b, _) => b
    | none => false
  let status := b2n r.2.2.1 + 2 * b2n backup + 4 * b2n out + 8 * b2n (s.timeStateAt i ≠ 2)
  ⟨{ theta := theta, freq := if x.freq.isNone && r.2.2.1 then none else some r.1, inUse := r.2.2.2.1
     holdLeft := r.2.2.2.2.1, angles := r.2.2.2.2.2.take 300, freqs := (r.1 :: x.freqs).take 300, status := status },
   { freq := fq, rocof := roundRat (r.2.1 * 65536), status := status, ref := r.2.2.2.1.getD 0xFFFF, tickLow := i % 2 ^ 32 }⟩

/-- Record a group's estimate: its ring entry, its entries, and the events of conditions that begin (R197, R219, R470). -/
def State.putFreq (s : State) (g i : Nat) (f : FreqStep) : State :=
  let old := (Tab.look s.dp.groups g {}).status
  let s1 := s.setDp fun d => { d with
    groups := Tab.put d.groups g f.group {}, freqRecs := Tab.insert d.freqRecs (i % 64 * 64 + g) f.record }
  let s2 := ((s1.setReg (Od.fgroupFrequency g) (ofSigned 32 f.record.freq)).setReg (Od.fgroupRocof g)
    (ofSigned 32 f.record.rocof)).setReg (Od.fgroupFreqStatus g) f.record.status
  let rise (b : Nat) : Bool := bit f.record.status b && !bit old b
  ((s2.when_ (rise 0) fun t => t.setFlag 53 0 (some g)).when_ (rise 2) fun t => t.setFlag 53 1 (some g)).when_ (rise 1)
    fun t => t.setFlag 53 2 (some g)

/-! ### Records (R196, R200, R201, R205) -/

/-- SKEW in ns of a channel the fall-back engine serves, rounded and limited (R205). -/
def State.skewNs (s cfg : State) (c i : Nat) : Int :=
  if s.fallbackAt c i then
    clampInt (-32768) 32767 (roundDiv ((cfg.channelDelay c - cfg.groupDelay c) * 1000000000) (2 ^ 36))
  else 0

/-- The record of an enabled output; the group's bits come from its record of the tick. -/
def State.phasorRecord (s cfg : State) (p i : Nat) (groupStatus : Nat) : PhasorRec :=
  let c := cfg.outChannel p
  let v := if cfg.outSkim p then s.skimOf cfg c i else s.fineOf cfg c i
  { real := v.real, imag := v.imag, mag := cordicMag v.real v.imag, angle := cordicAngle v.real v.imag
    status := v.status + 16384 * b2n (bit groupStatus 0) + 32768 * b2n (bit groupStatus 2)
    skew := s.skewNs cfg c i, source := c + 8192 * b2n (cfg.outSkim p), tickLow := i % 2 ^ 32 }

/-- The enabled outputs (R219). -/
def State.outputs (s : State) : List Nat :=
  (s.regs.filter fun e => Od.output 0 ≤ e.1 && e.1 ≤ Od.output 8191 && bit e.2 15).map fun e =>
    (e.1 / 256 - 0x4140) * 128 + (e.1 % 256 - 1)

/-- The record of an output that is disabled (R201). -/
def blankPhasor (i : Nat) : PhasorRec := ⟨0, 0, 0, 0, 0x0101, 0, 0, i % 2 ^ 32⟩

/-- PHASOR_RELEASE of image `i`, which has been released (R197). Every value is formed with the estimates of the previous
tick; those of this tick drive the next. -/
def State.releasePhasors (s : State) (i : Nat) : State :=
  if s.dp.lastReleased ≠ some i || s.dp.lastPhasor = some i then s
  else
    let cfg := s.asOf (s.tickAt i)
    let steps := (List.range 64).map fun g => (g, s.freqStep cfg g i)
    let records := cfg.outputs.map fun p =>
      (p, s.phasorRecord cfg p i (((steps.find? fun e => e.1 = (cfg.frec (cfg.outChannel p)).group).map
        fun e => e.2.record.status).getD 0))
    let s1 := s.each steps fun (g, f) t => t.putFreq g i f
    s1.setDp fun d => { d with
      lastPhasor := some i, mismatched := []
      phasors := records.foldl (fun t (p, r) => Tab.insert t (i % 64 * 8192 + p) r)
        (d.phasors.filter fun e => e.1 / 8192 ≠ i % 64) }

def execPhasorRelease (at_ : Instant) (image : Nat) (s : State) : Result :=
  act true 10 (s.arrive at_) fun s => s.releasePhasors image

end Sys2Proof.Machine
end

