-- ==== Sys2Proof/Machine/Fallback.lean ====
section
/-!
DEFINITION. Residue mismatches, retirement of a slice and the fall-back engine (R25, R203 to R207, R349, R400, R401, R409):
the commands RESIDUE_MISMATCH, FALLBACK_HANDOVER and FALLBACK_RETURN.
-/

namespace Sys2Proof.Machine

open Sys2Proof

/-! ### Units of a slice -/

def laneGroupId (slice group : Nat) : Nat := unitId 2 (4 * slice + group)
def sliceId (slice : Nat) : Nat := unitId 3 slice

/-- Every unit of a herd is retired. -/
def State.herdDead (s : State) (h : Nat) : Bool := (List.range 5).all fun i => s.isOut (unitId 1 (5 * h + i))

/-- A slice is retired in this start, or its region has failed in more than its herds (R24). -/
def State.sliceOut (s : State) (slice : Nat) : Bool :=
  s.isOut (sliceId slice) || (s.health.lostRegions.contains slice && !(List.range 3).all fun i => s.herdDead (3 * slice + i))

/-- The fall-back engine's service of a slice now in force. -/
def State.fbService (s : State) (slice : Nat) : Option FbServe :=
  (Tab.look s.dp.fb slice []).find? fun e => e.until_.isNone

/-- A service of a slice ends at the image of tick `b`; the ones before it stand, since images of their instants may still be built. -/
def State.endService (s : State) (slice b : Nat) : List FbServe :=
  (Tab.look s.dp.fb slice []).map fun e => if e.until_.isNone then { e with until_ := some b } else e

/-- FALLBACK_SLICES (R218). -/
def State.fbSlices (s : State) : Nat := maskOf ((List.range 4).filter fun n => (s.fbService n).isSome)

/-- A flag of FALLBACK; INFO is FALLBACK_SLICES (R470). -/
def State.fbFlag (s : State) (flag : Nat) : State := s.setFlag 52 flag (some s.fbSlices)

/-- A flag of a slice; INFO is the lane group. -/
def State.sliceFlag (s : State) (slice flag group : Nat) : State := s.setFlag (48 + slice) flag (some group)

/-! ### Capacity and shedding (R206) -/

/-- C_fb of R206. -/
def fbCapacity (rate : Nat) : Nat := 10000000 / rate

/-- Whether channel `a` is shed before channel `b`: the lower class, and within a class the higher number. -/
def State.shedBefore (s : State) (a b : Nat) : Bool :=
  s.channelPriority a < s.channelPriority b || (s.channelPriority a = s.channelPriority b && b ≤ a)

/-- Fix the channels served and shed from the image of tick `b`, and the entries and the standing event that tell of them. -/
def State.fixShed (s : State) (b : Nat) : State :=
  let want := (s.mapped.map (·.1)).filter fun c => (s.fbService (c % 4)).isSome
  let excess := want.length - fbCapacity s.rate
  let shed := (want.mergeSort s.shedBefore).take excess
  let kinds := (List.range 4).filterMap fun n => (s.fbService n).map (·.kind)
  let code := if kinds.isEmpty then 0 else if kinds.all fun k => k = .test then 1 else 2
  let s1 := s.setDp fun d => { d with sheds := ((b, shed) :: d.sheds).take 8 }
  let s2 := ((((s1.setReg Od.fbFallbackState code).setReg Od.fbFallbackSlices s.fbSlices).setReg Od.fbFallbackChannels
    (want.length - shed.length)).setReg Od.fbShedChannels shed.length).setReg Od.fbFallbackCapacity (fbCapacity s.rate)
  s2.stand 52 2 (!shed.isEmpty) (some s.fbSlices)

/-! ### RESIDUE_MISMATCH (R203, R399 to R401) -/

/-- Retire a slice whose lane group, or which itself, is retired (R401). -/
def State.retireSlice (s : State) (slice cause count group : Nat) : State :=
  (s.recordRetirement (sliceId slice) cause count).sliceFlag slice 2 group

/-- A mismatch of lane group `group` of slice 0 to 3, or of the fall-back engine as 4. -/
def State.residueMismatch (s : State) (slice group : Nat) : State :=
  let failing := Tab.look s.dp.mismatched slice []
  let s1 := (s.count 32 Od.fbResidueMismatch).setDp fun d => { d with
    mismatched := if failing.contains group then d.mismatched else Tab.insert d.mismatched slice (failing ++ [group]) }
  if slice = 4 then s1.fbFlag 3
  else
    let s2 := s1.sliceFlag slice 0 group
    if s2.isOut (laneGroupId slice group) then s2
    else
      let r := s2.noteError (laneGroupId slice group) (10 * second)
      if r.2 < 3 then r.1
      else (r.1.recordRetirement (laneGroupId slice group) 1 r.2).retireSlice slice 1 r.2 group

def execResidueMismatch (at_ : Instant) (slice group : Nat) (s : State) : Result :=
  act (slice < 5 && group < 4) 10 (s.arrive at_) fun s => s.residueMismatch slice group

/-! ### FALLBACK_HANDOVER and FALLBACK_RETURN (R25, R207, R349, R409) -/

/-- What a handover of a slice is for: a retired slice, once no slice under test is held; one planned for this instant. -/
def State.handoverKind (s : State) (slice : Nat) : Option FbKind :=
  let testing := (List.range 4).any fun n => n ≠ slice && (s.fbService n).any fun e => e.kind = .test
  let anyRetired := (List.range 4).any s.sliceOut
  let held := s.fbService slice
  if s.health.fallbackFailed then none
  else if s.sliceOut slice then if testing || held.any fun e => e.kind = .retired then none else some .retired
  else if held.isSome then none
  else
    match s.pair.plans.find? fun p => p.slice = slice && p.atTick ≤ s.tickNow with
    | some p => if p.mirror then some .mirror else if anyRetired || testing then none else some .test
    | none => none

/-- The fall-back engine takes over a slice's channels from the image of the tick at this instant; at retirement it
restarts every channel it takes (R207). -/
def State.handover (s : State) (slice : Nat) : State :=
  match s.handoverKind slice with
  | none => s
  | some k =>
    let b := s.tickNow
    let s1 := s.setDp fun d => { d with fb := Tab.insert d.fb slice ((⟨k, b, none⟩ :: s.endService slice b).take 4) }
    let s2 := s1.setPair fun p => { p with plans := p.plans.filter fun q => q.slice ≠ slice }
    let s3 := if k = .retired then
        s2.each ((s2.mapped.map (·.1)).filter fun c => c % 4 = slice) fun c t =>
          t.setChan c { t.chan c with restartAt := some b }
      else s2
    let s4 := s3.when_ (k = .test) fun t => t.sliceFlag slice 3 0
    (s4.fixShed b).fbFlag 0

def execFallbackHandover (at_ : Instant) (slice : Nat) (s : State) : Result :=
  act (slice < 4) 10 (s.arrive at_) fun s => s.handover slice

/-- A slice that is not retired takes its channels back: after its test, or once the partner no longer reports it
retired. -/
def State.mayReturn (s : State) (slice : Nat) : Bool :=
  match s.fbService slice with
  | none => false
  | some e =>
    match e.kind with
    | .test => !s.sliceOut slice && s.health.sliceTest ≠ some slice && !s.health.retest.contains (sliceId slice)
    | .mirror => !(s.pair.partner.any fun hb => bit hb.slices slice)
    | .retired => false

def State.fallbackReturn (s : State) (slice : Nat) : State :=
  if !s.mayReturn slice then s
  else
    match s.fbService slice with
    | none => s
    | some e =>
      let b := s.tickNow
      let s1 := s.setDp fun d => { d with fb := Tab.insert d.fb slice (s.endService slice b) }
      let s2 := s1.when_ (e.kind = .test) fun t => t.sliceFlag slice 4 0
      (s2.fixShed b).fbFlag 1

def execFallbackReturn (at_ : Instant) (slice : Nat) (s : State) : Result :=
  act (slice < 4) 10 (s.arrive at_) fun s => s.fallbackReturn slice

end Sys2Proof.Machine
end

