-- ==== Sys2Proof/Machine/History.lean ====
section
/-!
DEFINITION. The curd store's commands (06_filter_chain_phasors_and_history.md, R181, R208 to R214): CURD_FRAME_WRITE,
TRIGGER_NOW, RELEASE_WINDOW, DC_FREEZE_MAP_WRITE.
-/

namespace Sys2Proof.Machine

open Sys2Proof

/-! ### Curd blocks (R208, R209) -/

/-- A mantissa fits 24 bits. -/
def fits24 (m : Int) : Bool := decide (-(2 ^ 23) ≤ m) && decide (m ≤ 2 ^ 23 - 1)

/-- The smallest exponent from 0 to 24 with which every mantissa fits (R209). -/
def curdExp (vs : List Int) : Nat :=
  ((List.range 25).find? fun e => vs.all fun v => fits24 (roundDiv v (2 ^ e))).getD 24

/-- The block of a channel for the eight ticks from `g`. -/
def State.curdBlock (s : State) (g c : Nat) : Curd :=
  let slots := (List.range 8).map fun k => s.slotAt (g + k) c
  let vs := slots.map (·.value)
  let e := curdExp vs
  { channel := c, mant := vs.map fun v => roundDiv v (2 ^ e), exp := e
    flags := b2n (slots.any fun x => x.status % 4 = 1) + 2 * b2n (slots.any fun x => x.status % 4 = 3) +
      4 * b2n (slots.any fun x => x.status &&& 0x1CFC ≠ 0)
    seq := Tab.look s.hist.seqs c (s.frec c).restarts % 256 }

/-- The 32 octets of a block of the eight ticks from `g` (R208). -/
def curdBytes (g : Nat) (b : Curd) : List Byte :=
  ((List.range 8).map fun i => leBytes 3 (ofSigned 24 (b.mant.getD i 0))).flatten ++ leBytes 1 (b.exp + b.flags * 2 ^ 5) ++
    leBytes 1 b.seq ++ leBytes 6 g

/-- A frame as DRAM holds it (R210). -/
def CurdFrame.bytes (f : CurdFrame) : List Byte := (f.blocks.map (curdBytes f.tick)).flatten

/-- The frame for the eight ticks from `g` goes into the ring: over the oldest unprotected one once the ring is full
(R210, R213). -/
def State.writeFrame (s : State) (g : Nat) : State :=
  let locked := maskOf ((List.range 8).filter fun k => (Tab.find s.dp.images ((g + k) % 64)).any fun x => x.tick = g + k && x.timeState = servoCode .locked)
  let f : CurdFrame := ⟨g, s.storedChannels.map (s.curdBlock g), locked⟩
  let rs := s.protectedRanges
  let old := s.hist.frames
  let kept := if old.length < s.ringFrames then old
    else match old.find? fun x => !protects rs x.tick with
      | some x => old.erase x
      | none => old
  (s.setHist fun h => { h with frames := kept ++ [f] }).holdWindows

/-- CURD_FRAME_WRITE of the group of eight ticks from `g`, whose images are released and not yet stored; the store is in DRAM (R29). -/
def State.curdFrame (s : State) (g : Nat) : State :=
  let released := s.dp.lastReleased.any fun i => g + 7 ≤ i && i < g + 64
  if g % 8 ≠ 0 || !released || s.cut 1 || s.storedChannels.isEmpty || s.hist.frames.any fun f => f.tick = g then s else s.writeFrame g

def execCurdFrameWrite (at_ : Instant) (firstTick : Nat) (s : State) : Result :=
  act true 10 (s.arrive at_) fun s => s.curdFrame firstTick

/-! ### Entries (R181, R212, R214, R346) -/

/-- A trigger at the last image released (R212). -/
def State.applyTriggerNow (s : State) (value : Nat) : State :=
  match s.dp.lastReleased with
  | some g => if value = 0 then s else s.trigger g
  | none => s

def State.writeTriggerNow (s : State) (value : Nat) : Answer :=
  if 2 ≤ value then s.refuse stTypeMismatch
  else s.livePair 0x4200 0x06 (beBytes 1 value) none fun t => t.applyTriggerNow value

def execTriggerNow (at_ : Instant) (value : Nat) (s : State) : Result :=
  act true 10 (s.arrive at_) fun s => (s.writeTriggerNow value).told

/-- A write of RELEASE_WINDOW (R214). -/
def State.writeReleaseWindow (s : State) (w : Nat) : Answer :=
  if 8 ≤ w then s.refuse stInvalidValue
  else if (s.window w).state = 3 then s.refuse stBusy
  else (s.setWindow w {}).ok

def execReleaseWindow (at_ : Instant) (window : Nat) (s : State) : Result :=
  act true 10 (s.arrive at_) fun s => (s.writeReleaseWindow window).told

/-- A new DC_FREEZE_MAP; R181 samples it at the next boundary. -/
def State.applyFreezeMap (s : State) (map : Nat) : State := s.setReg Od.freezeDcFreezeMap map

def State.writeFreezeMap (s : State) (map : Nat) : Answer :=
  s.livePair 0x41C0 0x01 (beBytes 1024 map) none fun t => t.applyFreezeMap map

def execDcFreezeMapWrite (at_ : Instant) (map : Nat) (s : State) : Result :=
  act true 10 (s.arrive at_) fun s => (s.writeFreezeMap (map % 2 ^ 8192)).told

end Sys2Proof.Machine
end

