-- ==== Sys2Proof/Machine/F64.lean ====
section
/-!
DEFINITION. Binary64 of IEEE 754-2019 as 64-bit patterns (R305): round to nearest, ties to even, subnormals kept. An
operation answers none where its result is not finite, which ends a computation (R317). Binary32 members (R246, R284,
R287, R318).
-/

namespace Sys2Proof.Machine

open Sys2Proof

/-- A non-negative rational rounded to a binary format of `p` significant bits and least exponent `emin`, as the magnitude
bits; values too large give a pattern at or above the exponent field of all ones. -/
def roundMag (p : Nat) (emin : Int) (q : Rat) : Nat :=
  if q.num = 0 then 0
  else
    let n := q.num.natAbs
    let d := q.den
    let k : Int := (Nat.log2 n : Int) - Nat.log2 d
    let below : Bool := if 0 ≤ k then decide (n < d * 2 ^ k.toNat) else decide (n * 2 ^ (-k).toNat < d)
    let top := if below then k - 1 else k
    let e := max (top - (p - 1 : Nat)) emin
    let m := if 0 ≤ e then roundDiv (n : Int) ((d : Nat) * 2 ^ e.toNat) else roundDiv ((n : Int) * 2 ^ (-e).toNat) d
    m.toNat + (e - emin).toNat * 2 ^ (p - 1)

/-- The finite pattern of a rational; a zero takes the given sign. -/
def f64Round (q : Rat) (negZero : Bool) : Option Nat :=
  let m := roundMag 53 (-1074) (if q.num < 0 then -q else q)
  if 2047 * 2 ^ 52 ≤ m then none
  else
    let neg := if q.num = 0 then negZero else decide (q.num < 0)
    some (m + b2n neg * 2 ^ 63)

/-- The sign bit. -/
def f64Neg (x : Nat) : Bool := bit x 63

/-- A pattern that is finite. -/
def f64Finite (x : Nat) : Bool := field x 52 11 ≠ 2047

/-- The value of a finite pattern. -/
def f64Val (x : Nat) : Rat :=
  let e := field x 52 11
  let m : Nat := if e = 0 then field x 0 52 else field x 0 52 + 2 ^ 52
  let v : Rat := if e = 0 then (m : Rat) / 2 ^ 1074
    else if e < 1075 then (m : Rat) / 2 ^ (1075 - e) else (m : Rat) * 2 ^ (e - 1075)
  if f64Neg x then -v else v

/-- Exact conversions: every source of R304 fits. -/
def f64OfRat (q : Rat) : Nat := (f64Round q false).getD 0

def f64Zero : Nat := 0
def f64One : Nat := 0x3FF0000000000000
def f64MinusOne : Nat := 0xBFF0000000000000

def f64Minus (x : Nat) : Nat := setBit x 63 (!f64Neg x)
def f64Abs (x : Nat) : Nat := setBit x 63 false

/-- A sum that is exactly zero is +0 unless both are -0. -/
def f64Add (x y : Nat) : Option Nat := f64Round (f64Val x + f64Val y) (f64Neg x && f64Neg y)
def f64Sub (x y : Nat) : Option Nat := f64Add x (f64Minus y)
def f64Mul (x y : Nat) : Option Nat := f64Round (f64Val x * f64Val y) (f64Neg x != f64Neg y)
def f64Div (x y : Nat) : Option Nat :=
  if f64Val y = 0 then none else f64Round (f64Val x / f64Val y) (f64Neg x != f64Neg y)

/-- The square root of a pattern that is not negative: an integer root with a sticky half beyond it rounds right. -/
def f64Sqrt (x : Nat) : Option Nat :=
  let v := f64Val x
  if v = 0 then some x
  else if v < 0 then none
  else
    let big : Nat := (v * 2 ^ 1400).floor.toNat
    let r := isqrt big
    let sticky : Nat := if r * r = big then 0 else 1
    f64Round (((2 * r + sticky : Nat) : Rat) / 2 ^ 701) false

def f64Lt (x y : Nat) : Bool := f64Val x < f64Val y
def f64Le (x y : Nat) : Bool := f64Val x ≤ f64Val y
def f64Same (x y : Nat) : Bool := f64Val x = f64Val y

/-- min and max of R305 return the second operand when the two are equal. -/
def f64Min (x y : Nat) : Nat := if f64Lt x y then x else y
def f64Max (x y : Nat) : Nat := if f64Lt y x then x else y

/-! ### Binary32 -/

/-- The binary32 pattern nearest to a rational; too large gives infinity. -/
def f32Round (q : Rat) (negZero : Bool) : Nat :=
  let m := min (roundMag 24 (-149) (if q.num < 0 then -q else q)) 0x7F800000
  let neg := if q.num = 0 then negZero else decide (q.num < 0)
  m + b2n neg * 2 ^ 31

/-- A FLOAT32 member as Q16_16, rounded half to even and saturated; an infinity saturates and a NaN gives 0 (R284). -/
def f32ToQ16 (x : Nat) : Int :=
  let e := field x 23 8
  let m := field x 0 23
  let neg := bit x 31
  let q : Rat := if e = 0 then (m : Rat) / 2 ^ 149
    else if e < 150 then ((m + 2 ^ 23 : Nat) : Rat) / 2 ^ (150 - e) else ((m + 2 ^ 23 : Nat) : Rat) * 2 ^ (e - 150)
  if e = 255 then if m ≠ 0 then 0 else if neg then -(2 ^ 31) else 2 ^ 31 - 1
  else clampInt (-(2 ^ 31)) (2 ^ 31 - 1) (roundRat ((if neg then -q else q) * 65536))

end Sys2Proof.Machine
end

