-- ==== Sys2Proof/Machine/PartOps.lean ====
section
/-!
DEFINITION. Shared operations on partitions (07_partitions_and_pails.md): windows and loads (R225 to R228, R32, R33), calls
(R232), restarts (R231), state regions (R235, R236, R342), suppression (R21, R23, R24).
-/

namespace Sys2Proof.Machine

open Sys2Proof

/-! ### Windows (R225, R226) -/

structure WinRec where
  mask : Nat
  unit : Nat
  start : Nat
  length : Nat
  deriving DecidableEq, Repr

/-- The record of R225. -/
def winRec (w : Nat) : WinRec :=
  { mask := field w 0 64, unit := field w 64 6, start := field w 72 8, length := field w 80 9 }

/-- A record's writable bits. -/
def windowMask : Nat := 2 ^ 70 - 1 + (2 ^ 17 - 1) * 2 ^ 72

/-- The words of a WINDOWS entry: up to 64 records of 16 octets, big-endian, reserved bits 0 (R6, R225). -/
def windowWords (bs : List Byte) : List Nat := (List.range (bs.length / 16)).map fun i => beAt bs (16 * i) 16 &&& windowMask

/-- A WINDOWS value holds whole records, at most 64 of them. -/
def windowsOk (bs : List Byte) : Bool := bs.length % 16 = 0 && bs.length ≤ 64 * 16

/-- MAJOR_FRAME of the table in use, and of the committed one (R227). -/
def State.major (s : State) : Nat := max 1 s.majorFrame
def State.majorSet (s : State) : Nat := max 1 (s.reg Od.mgrMajorFrame)

/-- Offset `x` of work tick `k` (R226). -/
def State.tickOffset (s : State) (k x : Nat) : Nat := s.tickAt k + x * (s.tickAt (k + 1) - s.tickAt k) / 256

/-- A window exists in work tick `k`. -/
def State.windowIn (s : State) (r : WinRec) (k : Nat) : Bool := bit r.mask (k % s.major)

/-- Two windows fall together under a major frame: in a common work tick, in overlapping time. -/
def WinRec.clash (major : Nat) (a b : WinRec) : Bool :=
  (a.mask &&& b.mask) % 2 ^ major ≠ 0 && a.start < b.start + b.length && b.start < a.start + a.length

def State.setPartRun (s : State) (n : Nat) (r : RunState) : State := s.modPart n fun x => { x with run := r }

/-- The partition runs: in its windows or while it migrates. -/
def Partition.runs (x : Partition) : Bool := x.run = .running || x.run = .migrating

/-- Outputs of the partition are suppressed on this module in the present work tick: its work was lost (R21, R23, R24, R402), or its
memory with the I/O die (R28, R29). -/
def State.partSuppressed (s : State) (n : Nat) : Bool :=
  (s.part n).displaced || (s.part n).held || s.workTick < (s.part n).suppressedTo || s.cut 1

/-- RUN_STATE. -/
def State.runCode (s : State) (n : Nat) : Nat :=
  match (s.part n).run with
  | .stopped => 0
  | .running => if s.partSuppressed n then 2 else 1
  | .restarting => 3
  | .migrating => 4

/-- The units a partition has windows on. -/
def State.partUnits (s : State) (n : Nat) : List Nat := ((s.part n).windows.map fun w => (winRec w).unit).dedup

/-! ### Loads and placement (R32, R33, R227, R228) -/

/-- Ones in a word of 64 bits. -/
def popcount (w : Nat) : Nat := (bitsOf 64 w).length

/-- LENGTH times the work ticks of a window. -/
def WinRec.work (r : WinRec) : Nat := r.length * popcount r.mask

/-- A whole unit in the same measure. -/
def State.unitWork (s : State) : Nat := 256 * s.majorSet

/-- The load of a unit in that measure, given every window in the table; logical unit 0 counts as 1. -/
def State.unitLoad (s : State) (table : List WinRec) (u : Nat) : Nat :=
  if u = 0 then s.unitWork else ((table.filter fun r => r.unit = u).map (·.work)).sum

/-- The load of region `r`: logical units 12 r to 12 r + 11. -/
def State.regionLoad (s : State) (table : List WinRec) (r : Nat) : Nat :=
  ((List.range 12).map fun i => s.unitLoad table (12 * r + i)).sum

def State.totalLoad (s : State) (table : List WinRec) : Nat := ((List.range 4).map (s.regionLoad table)).sum

/-- R32 and R33: the reserve limit; with a reserve of 25 % or more, each region's load fits the others' free capacity. -/
def State.placementOk (s : State) (table : List WinRec) : Bool :=
  let reserve := s.reg Od.mgrCapacityReserve
  let u := s.unitWork
  s.totalLoad table * 100 ≤ 48 * u * (100 - reserve) &&
    (reserve < 25 || (List.range 4).all fun r =>
      s.regionLoad table r ≤ (((List.range 4).filter (· ≠ r)).map fun q => 12 * u - s.regionLoad table q).sum)

/-- The enabled partitions with the windows each would have. -/
def State.windowTable (s : State) (windows : Nat → List Nat) : List (Nat × List WinRec) :=
  ((List.range 96).filter fun n => s.on (Od.partEnable n)).map fun n => (n, (windows n).map winRec)

/-- The windows of the committed entries. -/
def State.committedWindows (s : State) (n : Nat) : List Nat := windowWords (s.blob (Od.partWindows n))

/-- No two of a list fall together. -/
def noClash (major : Nat) : List WinRec → Bool
  | [] => true
  | r :: rs => rs.all (fun q => !r.clash major q) && noClash major rs

/-- The window table passes R227. -/
def State.tableOk (s : State) (windows : Nat → List Nat) : Bool :=
  let t := s.windowTable windows
  let all := (t.map (·.2)).flatten
  t.all (fun e => !e.2.isEmpty && noClash s.majorSet e.2) &&
    all.all (fun r => r.start + r.length ≤ 256 && 1 ≤ r.length && 1 ≤ r.unit && r.unit ≤ 47) &&
    (List.range 48).all (fun u => noClash s.majorSet (all.filter fun r => r.unit = u)) && s.placementOk all

/-- Every window now in use by a partition that runs. -/
def State.tableNow (s : State) : List WinRec :=
  ((s.parts.filter fun e => e.2.run ≠ .stopped).map fun e => e.2.windows.map winRec).flatten

/-! ### Calls (R232) -/

/-- The statuses of R232. -/
def callInvalid : Int := -1
def callDenied : Int := -2
def callBusy : Int := -3
def callNotFound : Int := -4
def callAgain : Int := -5

/-- A call returns: its status in a0, results from a1 onward; the other registers keep their values. -/
def State.callReturn (s : State) (n : Nat) (status : Int) (results : List Int) : State :=
  s.modPart n fun x => { x with regs := ([status] ++ results ++ x.regs.drop (1 + results.length)).take 4 }

/-- A monitor call takes place in an open window of a partition that runs, once the manager's switch is over (R226). -/
def State.calling (s : State) (n : Nat) : Bool := (s.part n).window.isSome && (s.part n).runs && (s.part n).runsFrom ≤ s.now

/-- The pail of a partition (R231, R238). -/
def State.partPail (s : State) (n : Nat) : Option Nat :=
  let p := s.reg (Od.partPail n)
  if p < 64 && s.on (Od.pailEnable p) && s.reg (Od.pailBindKind p) = 1 && s.reg (Od.pailPartition p) = n then some p else none

/-! ### Restarts (R231, R234) -/

/-- A partition is stopped until its restart, which is due from a work tick on. -/
def State.askRestart (s : State) (n cause from_ : Nat) : State :=
  s.modPart n fun x => { x with run := .restarting, window := none, restartDue := some cause, restartFrom := from_ }

/-- One PT_LOAD segment of a little-endian ELF64 executable: its octets and physical address. -/
def elfSegment (prog : List Byte) (ph : Nat) : Option (Nat × List Byte) :=
  if leAt prog ph 4 = 1 then some (leAt prog (ph + 24) 8, slice prog (leAt prog (ph + 8) 8) (leAt prog (ph + 32) 8)) else none

/-- The segments of an executable. -/
def elfSegments (prog : List Byte) : List (Nat × List Byte) :=
  (List.range (leAt prog 56 2)).filterMap fun i => elfSegment prog (leAt prog 32 8 + i * leAt prog 54 2)

/-- e_entry. -/
def elfEntry (prog : List Byte) : Nat := leAt prog 24 8

/-- The partition's RAM is zeroed and its program loaded; segments outside the RAM are not. -/
def State.loadProgram (s : State) (n : Nat) : State :=
  let own := fun (a : Nat) => 2 ^ 64 * n ≤ a && a < 2 ^ 64 * (n + 1)
  let s1 := { s with mem := s.mem.filter fun c => !own c.1 }
  s1.each ((elfSegments (s.blob (Od.partProgram n))).filter fun g => s.inRam n g.1 g.2.length) fun g t => t.storeBytes n g.1 g.2

/-! ### State regions (R235, R236, R338, R342) -/

/-- The regions' contents as they stand in memory. -/
def State.captureRegions (s : State) (n : Nat) : Tab (List Byte) :=
  (s.part n).regions.map fun (r, g) => (r, s.loadBytes n g.addr g.len)

/-- Send the REGION sections captured for a partition. -/
def State.sendRegions (s : State) (n : Nat) : State :=
  s.each (s.part n).captured fun (r, bs) t => t.sendSection 4 (4 * n + r) t.workTick bs

/-- The work of a partition's present tick was lost: its outputs are suppressed before tick `to_`, and its regions are asked
of the partner while the link works (R342, R359). -/
def State.loseWork (s : State) (n to_ : Nat) : State :=
  let s1 := s.modPart n fun x => { x with suppressedTo := max x.suppressedTo to_ }
  if s1.paired && s1.linkUp then (s1.modPart n fun x => { x with awaitingRegions := true }).newRole 7 0 0 n else s1

/-- A declaration is good: region 0 to 3, 64-byte aligned, in partition RAM, a length that is a multiple of 64, at most
STATE_MAX together with the others; a length of 0 removes the region. -/
def State.regionOk (s : State) (n r a len : Nat) : Bool :=
  let x := s.part n
  let others := ((x.regionsNext.getD x.regions).filter fun e => e.1 ≠ r).map fun e => e.2.len
  r < 4 && (len = 0 || (a % 64 = 0 && len % 64 = 0 && s.inRam n a len && others.sum + len ≤ s.reg (Od.partStateMax n)))

/-- The manager writes the partner's regions between the partition's windows, reports each and posts a RESYNC event
(R236). -/
def State.writeResync (s : State) (n : Nat) : State :=
  if (s.part n).window.isSome then s
  else
    let todo := (s.part n).resync
    let back := (s.part n).held && !(s.part n).awaitingRegions
    let s1 := s.modPart n fun x => { x with
      resync := [], held := x.held && !back, suppressedTo := if back then max x.suppressedTo (s.workTick + 1) else x.suppressedTo }
    s1.each todo fun (r, bs) t =>
      match Tab.find (t.part n).regions r with
      | none => t
      | some g =>
        let t1 := t.storeBytes n g.addr (bs.take g.len)
        let t2 := t1.modPart n fun x => { x with resyncs := x.resyncs + 1, lastResync := t.workTick }
        match t2.partPail n with
        | some p => t2.post p 0x06 0 0 t2.now
        | none => t2

end Sys2Proof.Machine
end

