-- ==== Sys2Proof/Machine/Separator.lean ====
section
/-!
DEFINITION. The separator (04_switch_core_and_separator.md): redundancy groups, duplicate discard, ring forwarding, and
its commands SUPERVISION_FRAME_SEND, LAN_SILENT and ENTRY_FORGET.
-/

namespace Sys2Proof.Machine

open Sys2Proof

def State.setSw (s : State) (f : Switch → Switch) : State := { s with sw := f s.sw }

/-- A flag of the SEPARATOR source; INFO names the silent groups (R470). -/
def State.sepFlag (s : State) (flag : Nat) : State := s.setFlag 34 flag (some (maskOf s.sw.silent))

/-- Count one in a counter of a group, by the key of the counter (R144). -/
def State.sepCount (s : State) (k : Nat) : State := s.countEv k 34 (some (maskOf s.sw.silent))

/-- The group's own address: that of PORT_A (R132). -/
def State.groupMac (s : State) (g : Nat) : Nat := Config.baseMac.toNat + s.reg (Od.sepGroupPortA g)

/-! ### The source table (R137 to R140) -/

/-- ENTRY_FORGET_TIME has passed since an entry last accepted a frame (R139). -/
def State.entryForgotten (s : State) (e : SrcEntry) : Bool :=
  e.forgotten || e.lastAccept + ofMs (s.reg Od.sepEntryForgetTime) ≤ s.now

/-- The entry of a source, put first as the most recently used; a new one in a free place or in that of the least recently
used forgotten entry; none if the table is full (R139). -/
def State.sourceEntry (s : State) (g mac : Nat) : Option (SrcEntry × List SrcEntry) :=
  match s.sw.sources.find? fun e => e.group = g && e.mac = mac with
  | some e => some (e, s.sw.sources.erase e)
  | none =>
    let blank : SrcEntry := ⟨g, mac, 0, [0, 0, 0], s.now, true, false, true⟩
    if s.sw.sources.length < 4096 then some (blank, s.sw.sources)
    else
      match s.sw.sources.reverse.find? s.entryForgotten with
      | some old => some (blank, s.sw.sources.erase old)
      | none => none

/-- Shift the windows ahead by `d` places. -/
def shiftWindows (ws : List Nat) (d : Nat) : List Nat := ws.map fun w => if 64 ≤ d then 0 else w * 2 ^ d % 2 ^ 64

/-- How a frame is judged against the window of one purpose. -/
structure Verdict2 where
  state : State
  accept : Bool

/-- The copy of the same source and sequence number that PORT_A brings in the same cycle as one on PORT_B; that one is then the
duplicate (R138). `arrives` tells whether a command is the other copy's. -/
def State.twinOnA (s : State) (g : Nat) (a : Bool) (src : Nat) (arrives : Nat → Instr → Bool) : Bool :=
  !a && (s.sourceEntry g src).isSome && s.sameCycle.any (arrives (s.reg (Od.sepGroupPortA g)))

/-- An HSR frame's header arrives on a port. -/
def State.hsrArrives (s : State) (src seq p : Nat) (c : Instr) : Bool :=
  match c with
  | .rxClassified _ q f =>
    q = p && f.src = src && f.hsr.any (fun t => t.seq = seq) && (s.port p).rx.any fun r => !r.dropped && r.frame.isNone
  | _ => false

/-- A good PRP frame ends on a port. -/
def State.prpEnds (s : State) (src seq p : Nat) (c : Instr) : Bool :=
  match c with
  | .rxFrameEnd _ q e =>
    q = p && e.fcsOk && e.alignOk && 64 ≤ e.len && e.len ≤ s.reg (Od.portFrameLimit p) && (s.port p).rx.any fun r =>
      !r.dropped && r.frame.any fun f => f.src = src && (trailer { f with len := e.len }).any fun t => t.seq = seq
  | _ => false

/-- The judgement of R137 of a sequence number for a purpose: 0 delivery, 1 and 2 the two ring directions. -/
def State.judge (s : State) (g mac n purpose : Nat) : Verdict2 :=
  match s.sourceEntry g mac with
  | none => ⟨(s.sepCount (Od.sepCntTableFull g)).sepFlag 1, true⟩
  | some (e, rest) =>
    let put (t : State) (e' : SrcEntry) : State := t.setSw fun w => { w with sources := e' :: rest }
    if e.fresh || s.entryForgotten e then
      ⟨put s { e with top := n, windows := ([0, 0, 0] : List Nat).set purpose 1, lastAccept := s.now, forgotten := false
                      proxied := e.proxied && !s.entryForgotten e, fresh := false }, true⟩
    else
      let d := (n + 2 ^ 16 - e.top) % 2 ^ 16
      if 1 ≤ d && d ≤ 32767 then
        let ws := shiftWindows e.windows d
        ⟨put s { e with top := n, windows := ws.set purpose (setBit (ws.getD purpose 0) 0 true), lastAccept := s.now }, true⟩
      else
        let back := (e.top + 2 ^ 16 - n) % 2 ^ 16
        if back < 64 then
          let w := e.windows.getD purpose 0
          if bit w back then ⟨put s e, false⟩
          else ⟨put s { e with windows := e.windows.set purpose (setBit w back true), lastAccept := s.now }, true⟩
        else ⟨((put s { e with lastAccept := s.now }).sepCount (Od.sepCntOutOfWindow g)).sepFlag 4, true⟩

/-- A source is a node proxied onto a group's ring (R140). -/
def State.isProxied (s : State) (g mac : Nat) : Bool :=
  s.sw.sources.any fun e => e.group = g && e.mac = mac && e.proxied && !s.entryForgotten e

/-- A source seen entering a ring from the switch side is marked as proxied (R140). Its own entry is kept as it stands; where it has
none, or a forgotten one, it takes an entry that has judged nothing, whose time runs from here (log 118). -/
def State.markProxied (s : State) (g mac : Nat) : State :=
  match s.sourceEntry g mac with
  | none => (s.sepCount (Od.sepCntTableFull g)).sepFlag 1
  | some (e, rest) =>
    let e' : SrcEntry :=
      if e.fresh || s.entryForgotten e then ⟨g, mac, 0, [0, 0, 0], s.now, false, true, true⟩ else { e with proxied := true }
    s.setSw fun w => { w with sources := e' :: rest }

/-! ### A frame received on a group port (R133 to R140) -/

/-- What the separator does with a frame: whether one copy goes on to the switch and the local queues, whether it is
forwarded around the ring, and whether all of it is removed. -/
structure Separated where
  state : State
  deliver : Bool
  ring : Bool

/-- A tagged frame has been received on a port of a group (R141). -/
def State.heardTagged (s : State) (g : Nat) (a : Bool) : State :=
  s.setSw fun w => { w with lastTagged := Tab.insert w.lastTagged (2 * g + b2n (!a)) s.now }

/-- A good frame of a PRP group that is neither MAC Control nor PTP, as it ends (R134, R137): without a valid trailer it is passed as
from a singly attached node. -/
def State.judgePrp (s : State) (g : Nat) (a : Bool) (f : Frame) : Verdict2 :=
  match trailer f with
  | none => ⟨s, true⟩
  | some t =>
    let s1 := s.heardTagged g a
    let s2 := if t.lan = (if a then 0xA else 0xB) then s1 else (s1.sepCount (Od.sepCntWrongLan g)).sepFlag 3
    let v := if s2.twinOnA g a f.src (s2.prpEnds f.src t.seq) then ⟨s2, false⟩ else s2.judge g f.src t.seq 0
    if v.accept then v else { v with state := v.state.sepCount (Od.sepCntDuplicateDiscard g) }

/-- A frame of an HSR group that is neither MAC Control nor PTP, as its header has arrived (R135, R137, R140). A full table is counted
once for the frame. -/
def State.separate (s : State) (g : Nat) (a : Bool) (f : Frame) : Separated :=
  match f.hsr with
  | none => ⟨s.sepCount (Od.sepCntUntagged g), true, false⟩
  | some t =>
    let s2 := s.heardTagged g a
    let modeH : Bool := s.reg (Od.sepGroupHsrMode g) = 0
    if modeH && (f.src = s.groupMac g || s.isProxied g f.src) then ⟨s2.sepCount (Od.sepCntOwnRemoved g), false, false⟩
    else
      let full := (s2.sourceEntry g f.src).isNone
      let v := if s2.twinOnA g a f.src (s2.hsrArrives f.src t.seq) then ⟨s2, false⟩ else s2.judge g f.src t.seq 0
      let forward : Bool := modeH && f.dst ≠ s.groupMac g
      let r : Verdict2 := if forward && !full then v.state.judge g f.src t.seq (if a then 1 else 2) else ⟨v.state, true⟩
      ⟨if v.accept && r.accept then r.state else r.state.sepCount (Od.sepCntDuplicateDiscard g), v.accept, forward && r.accept⟩

/-! ### Commands -/

/-- SUPERVISION_FRAME_SEND (R136, R141): a supervision frame of the group on each of its ports, carrying its own address
(EtherType 0x88FB of IEC 62439-3). -/
def State.supervise (s : State) (g : Nat) : State :=
  if s.groupKind g = 0 then s
  else
    let f : Frame :=
      { dst := 0x01154E000100 + s.reg Od.sepSupervisionAddrLsb, src := s.groupMac g, tag := none, etherType := 0x88FB
        appid := 0, hsr := none, prp := none, len := 64, body := beBytes 6 (s.groupMac g) }
    (s.sendOwn f (some (s.groupPorts g)) none 0 none).state

def execSupervisionFrameSend (at_ : Instant) (group : Nat) (s : State) : Result :=
  act (group < 16) 3 (s.arrive at_) fun s => s.supervise group

/-- A group is watched from here on (R141). -/
def State.watchGroup (s : State) (g : Nat) : State :=
  if s.groupKind g = 0 then s else (s.heardTagged g true).heardTagged g false

/-- A group is silent on one of its ports: no tagged frame there for two LIFE_CHECK_INTERVALs while the other had one
(R141). -/
def State.isSilent (s : State) (g : Nat) : Bool :=
  let limit := 2 * ofMs (s.reg Od.sepLifeCheckInterval)
  let quiet (i : Nat) : Bool := match Tab.find s.sw.lastTagged (2 * g + i) with
    | some t => t + limit ≤ s.now
    | none => false
  s.groupKind g ≠ 0 && quiet 0 != quiet 1

/-- LAN_SILENT (R141, R470): the group's condition as it stands now; the flag is standing and names the groups. -/
def State.lanSilence (s : State) (g : Nat) : State :=
  let was := s.sw.silent
  let now := if s.isSilent g then (if was.contains g then was else was ++ [g]) else was.filter (· ≠ g)
  let s1 := s.setSw fun w => { w with silent := now }
  let s2 := if !was.contains g && now.contains g && !was.isEmpty then s1.sepFlag 2 else s1
  s2.stand 34 2 (!now.isEmpty) (some (maskOf now))

def execLanSilent (at_ : Instant) (group : Nat) (s : State) : Result :=
  act (group < 16) 3 (s.arrive at_) fun s => s.lanSilence group

/-- ENTRY_FORGET (R139): an entry whose time has passed is forgotten. -/
def State.forgetEntry (s : State) (g mac : Nat) : State :=
  s.setSw fun w => { w with sources := w.sources.map fun e =>
    if e.group = g && e.mac = mac && s.entryForgotten e then { e with forgotten := true, proxied := false } else e }

def execEntryForget (at_ : Instant) (group mac : Nat) (s : State) : Result :=
  act (group < 16) 3 (s.arrive at_) fun s => s.forgetEntry group mac

end Sys2Proof.Machine
end

