-- ==== Sys2Proof/Machine/PailOps.lean ====
section
/-!
DEFINITION. Shared operations on pails (07_partitions_and_pails.md): queues and completions (R240 to R245), publication
slots (R246 to R248), resets (R256), the freeze and the state record (R260), the data aperture (R241).
-/

namespace Sys2Proof.Machine

open Sys2Proof

/-! ### Suppression and publication slots (R246 to R248) -/

/-- The publications of a pail are withheld in the present work tick (R248). -/
def State.pailWithheld (s : State) (p : Nat) : Bool :=
  s.pair.withhold || (s.reg (Od.pailBindKind p) = 1 && s.partSuppressed (s.reg (Od.pailPartition p)))

/-- The types of the 32 members of a publication, 0 where unused. -/
def State.pubTypes (s : State) (j : Nat) : List Nat := (List.range 32).map (octetElem 32 1 (s.reg (Od.gpMemberTypes j)))

/-- The cells of a publication but its TIMESTAMP members. -/
def State.plainCells (s : State) (j : Nat) (cells : Tab Nat) : Tab Nat :=
  cells.filter fun e => (s.pubTypes j).getD e.1 0 ≠ 6

/-- The instant a changed dataset's TIMESTAMP members take, and whether time was good there: the image instant of tick `g`,
its TIME_STATE being LOCKED or HOLDOVER (R246). -/
def State.stampAt (s : State) (g : Nat) : Nat × Bool :=
  let st := Tab.look s.dp.timeAt g 0
  (s.tickAt g, st = 2 || st = 3)

/-- SecondSinceEpoch of an instant, modulo 2^32: its SEC less UTC_OFFSET. -/
def utcSecond (offset : Int) (i : Nat) : Nat := (((i / 2 ^ 36 : Nat) : Int) - offset).emod (2 ^ 32) |>.toNat

/-- The 8 octets of a TIMESTAMP member on the wire: the UtcTime of IEC 61850-8-1, SecondSinceEpoch, 24 bits of FRAC, TimeQuality. -/
def utcBytes (offset : Int) (stamp : Nat × Bool) : List Byte :=
  beBytes 4 (utcSecond offset stamp.1) ++ beBytes 3 (stamp.1 % 2 ^ 36 / 2 ^ 12) ++ beBytes 1 (if stamp.2 then 0x80 + 20 else 0xA0 + 31)

/-- The cell of a TIMESTAMP member. -/
def State.stampCell (s : State) (i : Nat) : Nat := cell 6 (utcSecond (s.regI 16 Od.timeUtcOffset) i) 0

/-- New committed values of a publication (R246, R288), computed from the image of tick `g`: its TIMESTAMP members take that
image's instant when the dataset differs from the last one sent, and keep that of the last frame sent otherwise. -/
def State.commitCells (s : State) (g j : Nat) (cells : Tab Nat) : State :=
  let x := s.pub j
  let stamp := if s.plainCells j cells ≠ s.plainCells j x.lastSent then s.stampAt g else x.stampSent
  let all := (s.pubTypes j).zipIdx.foldl (fun t (ty, m) => if ty = 6 then Tab.put t m (s.stampCell stamp.1) 0 else t) cells
  s.setPub j { x with cells := all, stamp := stamp }

/-- A commit of the slots in a mask copies the staged values to the committed ones (R246). -/
def State.commitSlots (s : State) (p mask : Nat) : State :=
  let x := s.pail p
  let s1 := s.setPail p { x with committed := x.committed ||| mask }
  s1.each (bitsOf 16 mask) fun slot t =>
    match t.pailPub p slot with
    | none => t
    | some j =>
      t.commitCells (t.workTick - t.lag) j ((t.pubTypes j).zipIdx.foldl (fun c (ty, m) =>
        if ty = 0 || ty = 6 then c else
          let w := Tab.look x.staged (slot * 32 + m) 0
          Tab.put c m (cell ty (cellValue w) (cellQuality w)) 0) [])

/-- A write of a member cell's VALUE (`high` false) or QUALITY word in a publication buffer; TIMESTAMP cells and cells with
TYPE 0 ignore it. -/
def State.stageCell (s : State) (p slot m : Nat) (high : Bool) (value : Nat) : State :=
  match s.pailPub p slot with
  | none => s
  | some j =>
    let ty := (s.pubTypes j).getD m 0
    if ty = 0 || ty = 6 then s
    else
      s.modPail p fun x =>
        let w := Tab.look x.staged (slot * 32 + m) 0
        let v := if high then cell 0 (cellValue w) (value % 2 ^ 13) else cell 0 value (cellQuality w)
        { x with staged := Tab.put x.staged (slot * 32 + m) v 0 }

/-! ### Queues (R240, R242, R245) -/

/-- QUEUE_PAIRS. -/
def State.queuePairs (s : State) (p : Nat) : Nat := s.reg (Od.pailQueuePairs p)

/-- Entries of the completion ring in use. -/
def Queue.cqUsed (q : Queue) : Nat := (q.cqTail + 2 ^ 16 - q.cqHead) % 2 ^ 16

def Queue.cqFull (q : Queue) : Bool := q.cqSize ≤ q.cqUsed

/-- A queue stops with an error. -/
def State.stopQueue (s : State) (p q error : Nat) : State :=
  s.modPail p fun x => x.setQueue q { x.queue q with ctrl := setBit (x.queue q).ctrl 0 false, error := error }

/-- The fields of a completion that its work decides. -/
structure Completion where
  opcode : Nat
  status : Nat
  tag : Nat
  length : Nat
  time : Nat
  port : Nat
  flags : Nat
  deriving DecidableEq, Repr

/-- The 32 octets of R244. -/
def completionBytes (c : Completion) (epoch queue phase tick : Nat) : List Byte :=
  leBytes 1 c.opcode ++ leBytes 1 c.status ++ leBytes 2 c.tag ++ leBytes 4 c.length ++ leBytes 10 c.time ++ leBytes 1 c.port ++
    leBytes 1 c.flags ++ leBytes 1 epoch ++ leBytes 1 queue ++ leBytes 1 0 ++ leBytes 1 phase ++ leBytes 8 tick

/-- Write a completion and, where the descriptor asks and CQ_EVENT is set, its COMPLETION event (R240, R244, R250). -/
def State.complete (s : State) (p q : Nat) (irq : Bool) (c : Completion) : State :=
  let x := s.pail p
  let y := x.queue q
  let s1 := s.pailWrite p (y.cqBase + y.cqTail % y.cqSize * 32)
    (completionBytes c x.epoch q (b2n y.cqPhase) s.workTick)
  let tail := (y.cqTail + 1) % 2 ^ 16
  let s2 := s1.modPail p fun x => x.setQueue q { x.queue q with
    cqTail := tail, cqPhase := if tail % y.cqSize = 0 then !y.cqPhase else y.cqPhase }
  s2.when_ (irq && y.cqEvent) fun t => t.post p 0x02 q tail t.now

/-- An earlier descriptor of a queue has not completed: a frame waits for its timestamp, a posted buffer for its frame. -/
def Pail.outstanding (x : Pail) (q : Nat) : Bool :=
  x.pendingTx.any (fun t => t.queue = q && t.epoch = x.epoch) || !(x.queue q).buffers.isEmpty

/-- A submission descriptor of R242, and the queue it stands in. -/
structure Desc where
  queue : Nat
  opcode : Nat
  flags : Nat
  tag : Nat
  length : Nat
  addr : Nat
  tick : Nat
  first : Nat
  context : Nat
  egress : Nat
  deriving DecidableEq, Repr

/-- A descriptor from its 32 octets. -/
def descOf (q : Nat) (bs : List Byte) : Desc :=
  { queue := q, opcode := leAt bs 0 1, flags := leAt bs 1 1, tag := leAt bs 2 2, length := leAt bs 4 4, addr := leAt bs 8 8
    tick := leAt bs 16 8, first := leAt bs 24 2, context := leAt bs 26 2 % 8, egress := leAt bs 28 4 }

/-- The kind of queue an opcode of R242 belongs to. -/
def opcodeKind (opcode : Nat) : Option Nat :=
  match opcode with
  | 0x01 | 0x02 | 0x03 | 0x20 => some 0
  | 0x10 => some 1
  | 0x11 => some 2
  | _ => none

/-- Where the next descriptor of a queue stands in its owner's memory. -/
def Queue.place (y : Queue) : Nat := y.sqBase + y.sqHead % y.sqSize * 32

/-- The next descriptor of a queue, as its owner's memory holds it. -/
def State.descAt (s : State) (p q : Nat) : Desc := descOf q (s.loadBytes (s.pailOwner p) ((s.pail p).queue q).place 32)

/-- A queue may fetch its next descriptor: the pail is active and not freezing, the queue runs and holds one, the completion ring
has room, and a FENCE waits for what is earlier. -/
def State.mayFetch (s : State) (p q : Nat) : Bool :=
  let x := s.pail p
  let y := x.queue q
  x.state = .active && !x.freeze && q < s.queuePairs p && y.enabled && y.sqHead ≠ y.sqTail && !y.cqFull &&
    !(bit (s.descAt p q).flags 4 && x.outstanding q)

/-- The next descriptor is fetched; what follows is `work`, the queue past it. A descriptor the engine cannot reach stops the queue
with FETCH_FAULT, an opcode that is unknown or of another kind of queue with BAD_OPCODE. -/
def State.fetched (s : State) (p q : Nat) (work : Desc → State → State) : State :=
  let y := (s.pail p).queue q
  let d := s.descAt p q
  if !s.mayFetch p q then s
  else if !s.pailReach p y.place 32 then s.stopQueue p q 3
  else if opcodeKind d.opcode ≠ some y.kind then s.stopQueue p q 2
  else work d (s.modPail p fun x => x.setQueue q { x.queue q with sqHead := (y.sqHead + 1) % 2 ^ 16 })

/-- Fetch a descriptor of one opcode and do its work; one of another opcode has a command of its own. -/
def State.fetch (s : State) (p q opcode : Nat) (work : Desc → State → State) : State :=
  let d := s.descAt p q
  if d.opcode ≠ opcode && opcodeKind d.opcode = some ((s.pail p).queue q).kind then s else s.fetched p q work

/-- The completion of a descriptor without a timestamp. -/
def State.finish (s : State) (p opcode : Nat) (d : Desc) (status length : Nat) : State :=
  s.complete p d.queue (bit d.flags 0) ⟨opcode, status, d.tag, length, 0, 0, 0⟩

/-- Write a copy's octets to the owner's buffer and complete it: FAULT where the buffer cannot be reached. -/
def State.copyOut (s : State) (p opcode : Nat) (d : Desc) (bs : List Byte) : State :=
  if !s.pailReach p d.addr bs.length then s.finish p opcode d 3 0
  else (s.pailWrite p d.addr bs).finish p opcode d 0 bs.length

/-! ### The data aperture (R169 to R171, R199 to R202, R241) -/

/-- The slices write an image slot for an image that has closed and is not released; its TICK is all ones (R171). -/
def State.slotBusy (s : State) (slot : Nat) : Bool :=
  s.dp.lastClosed.any fun i => i % 64 = slot && s.dp.lastReleased ≠ some i

/-- The image of a tick as a reader finds it: its slot holds that tick and is not being written (R171). -/
def State.imageOf (s : State) (g : Nat) : Option ImageSlot :=
  match Tab.find s.dp.images (g % 64) with
  | some x => if x.tick = g && !s.slotBusy (g % 64) then some x else none
  | none => none

/-- A copy finds the slot of tick `g` reused under it: the image that takes its place closes in the same cycle (R171). -/
def State.overtaken (s : State) (g : Nat) : Bool :=
  s.sameCycle.any fun c => match c with
    | .alignmentWindowClose _ i => i % 64 = g % 64 && i ≠ g && s.dp.lastClosed ≠ some i
    | _ => false

/-- The phasors of a later tick take the place of those of tick `g` in the same cycle (R199). -/
def State.phasorsOvertaken (s : State) (g : Nat) : Bool :=
  s.sameCycle.any fun c => match c with
    | .phasorRelease _ i => i % 64 = g % 64 && i ≠ g && s.dp.lastPhasor ≠ some i
    | _ => false

/-- A slot's word as a pail sees it (R169, R241). -/
def State.slotWord (s : State) (p : Nat) (x : ImageSlot) (c : Nat) : Nat :=
  match Tab.find x.slots c with
  | some y => if s.pailImage p c then ofSigned 48 y.value + y.status % 2 ^ 16 * 2 ^ 48 else 0x0101 * 2 ^ 48
  | none => 0x0101 * 2 ^ 48

/-- The 32 octets of an image descriptor (R170). -/
def descriptorBytes (x : ImageSlot) : List Byte :=
  leBytes 8 x.tick ++ leBytes 10 x.instant ++ leBytes 2 x.tickRate ++ leBytes 1 x.timeState ++ leBytes 1 x.flags ++
    leBytes 2 x.subscriptionGen ++ leBytes 2 x.invalidCount ++ leBytes 2 x.substitutedCount ++ leBytes 2 x.lateCount ++
    leBytes 2 x.releaseNs

/-- The 64 octets of ALIVE bits. -/
def aliveBytes (x : ImageSlot) : List Byte := leBytes 64 (maskOf x.alive)

/-- The 32 octets of a phasor record (R200). -/
def phasorBytes (r : PhasorRec) : List Byte :=
  leBytes 6 (ofSigned 48 r.real) ++ leBytes 6 (ofSigned 48 r.imag) ++ leBytes 6 r.mag ++ leBytes 4 r.angle ++
    leBytes 2 r.status ++ leBytes 2 (ofSigned 16 r.skew) ++ leBytes 2 r.source ++ leBytes 4 r.tickLow

/-- The 16 octets of a frequency record (R202). -/
def freqBytes (r : FreqRec) : List Byte :=
  leBytes 4 (ofSigned 32 r.freq) ++ leBytes 4 (ofSigned 32 r.rocof) ++ leBytes 2 r.status ++ leBytes 2 r.ref ++
    leBytes 4 r.tickLow

/-- The phasors of tick `g` have been released and not overwritten (R199). -/
def State.phasorsOf (s : State) (g : Nat) : Bool := s.dp.lastPhasor.any fun l => g ≤ l && l < g + 64 && (s.imageOf g).isSome

/-- A phasor record as a pail sees it: a disabled output's record is that of R201. -/
def State.phasorSeen (s : State) (p o g : Nat) : List Byte :=
  if !s.pailPhasor p o then phasorBytes ⟨0, 0, 0, 0, 0x0101, 0, 0, 0⟩
  else phasorBytes ((Tab.find s.dp.phasors (g % 64 * 8192 + o)).getD ⟨0, 0, 0, 0, 0x0101, 0, 0, g % 2 ^ 32⟩)

/-! ### Resets (R256, R257) -/

/-- The reset in progress of a pail completes in this cycle: by its own command, or at the boundary two work ticks on. -/
def State.completesNow (s : State) (p : Nat) : Bool :=
  s.sameCycle.any fun c => match c with
    | .pailResetComplete _ q => q = p
    | .workTickBoundary _ => (s.pail p).resetAt + 2 ≤ s.tickNow
    | _ => false

/-- A reset is asked for: the pail takes a new epoch and its queues stop; one in progress takes it up, unless it completes in this
cycle, when another one follows. -/
def State.resetPail (s : State) (p : Nat) : State :=
  let x := s.pail p
  if x.state = .disabled then s
  else if x.state = .resetting then if s.completesNow p then s.setPail p { x with again := true } else s
  else
    s.setPail p { x with
      state := .resetting, epoch := (x.epoch + 1) % 256, resetAt := s.workTick, again := false
      queues := x.queues.map fun (q, y) => (q, { y with ctrl := setBit y.ctrl 0 false }) }

/-- The reset completes: indices, errors, event ring, dirty logging, staged values and the DC freeze request are cleared, what an older
epoch still had to write is dropped and counted. Bases, ring sizes, kinds and CTRL.FREEZE stay. -/
def State.endReset (s : State) (p : Nat) : State :=
  let x := s.pail p
  let stale := x.pendingTx.length
  let s1 := s.setReg (Od.pailStaleDrops p) ((s.reg (Od.pailStaleDrops p) + stale) % 2 ^ 32)
  s1.setPail p { x with
    state := .active, resetCount := (x.resetCount + 1) % 256, pendingTx := [], freezeAt := s.workTick
    queues := x.queues.map fun (q, y) =>
      (q, { sqBase := y.sqBase, cqBase := y.cqBase, ctrl := setBit y.ctrl 0 false })
    ev := {}, dirty := {}, staged := [], dcFreeze := 0 }

/-- A reset in progress completes, and the one that was asked for meanwhile begins. -/
def State.finishReset (s : State) (p : Nat) : State :=
  let x := s.pail p
  if x.state ≠ .resetting then s
  else if x.again then (s.endReset p).resetPail p else s.endReset p

/-! ### The freeze and the state record (R260) -/

/-- No work is outstanding in a pail. -/
def Pail.idle (x : Pail) : Bool := x.pendingTx.isEmpty

/-- A pail that has been asked to freeze is FROZEN once no work is outstanding. -/
def State.freezeDone (s : State) (p : Nat) : State :=
  let x := s.pail p
  if x.state = .active && x.freeze && x.idle then s.setPail p { x with state := .frozen } else s

/-- It is FROZEN two work ticks after the request at the latest; a frame that still waits for its timestamp completes after the release
(log 108). -/
def State.freezeBound (s : State) (p : Nat) : State :=
  let x := s.pail p
  if x.state = .active && x.freeze && x.freezeAt + 2 ≤ s.workTick then s.setPail p { x with state := .frozen } else s

/-- The record of a queue, 32 octets. -/
def queueRecord (y : Queue) : List Byte :=
  beBytes 8 y.sqBase ++ beBytes 8 y.cqBase ++ beBytes 1 (field y.ctrl 4 4) ++ beBytes 1 (field y.ctrl 8 4) ++
    beBytes 1 y.kind ++ beBytes 1 0 ++ beBytes 2 y.sqHead ++ beBytes 2 y.sqTail ++ beBytes 2 y.cqTail ++ beBytes 2 y.cqHead ++
    beBytes 1 (b2n y.cqPhase) ++ beBytes 3 0

/-- The record of the queues: those a pail does not have are empty (log 108). -/
def State.queueRecords (s : State) (p : Nat) : List Byte :=
  ((List.range 4).map fun q => if q < s.queuePairs p then queueRecord ((s.pail p).queue q) else beBytes 32 0).flatten

/-- The pail state record, 256 octets. -/
def State.stateRecord (s : State) (p : Nat) : List Byte :=
  let x := s.pail p
  let body := beBytes 1 1 ++ beBytes 1 (b2n (s.reg (Od.pailBindKind p) = 2)) ++ beBytes 1 x.epoch ++
    beBytes 1 (maskOf ((List.range 4).filter fun q => (x.queue q).enabled)) ++ beBytes 4 0 ++ beBytes 8 x.dcFreeze ++
    s.queueRecords p ++
    beBytes 8 x.ev.base ++ beBytes 1 (field x.ev.ctrl 1 4) ++ beBytes 1 0 ++ beBytes 2 x.ev.head ++ beBytes 2 x.ev.tail ++
    beBytes 1 (b2n x.ev.phase) ++ beBytes 1 (field x.ev.ctrl 5 2) ++ beBytes 4 x.ev.lost ++ beBytes 4 0 ++
    beBytes 8 x.dirty.origin ++ beBytes 8 x.dirty.inUse ++ beBytes 4 x.dirty.span ++ beBytes 4 x.dirty.ctrl ++ beBytes 60 0
  body ++ beBytes 4 (crc32 body)

/-- A queue from its 32 octets; CQ_EVENT and the posted buffers are not in the record. -/
def recordQueue (bs : List Byte) (o : Nat) (enable : Bool) (old : Queue) : Queue :=
  { sqBase := beAt bs o 8, cqBase := beAt bs (o + 8) 8
    ctrl := b2n enable + beAt bs (o + 18) 1 % 8 * 2 + beAt bs (o + 16) 1 % 16 * 2 ^ 4 + beAt bs (o + 17) 1 % 16 * 2 ^ 8 +
      b2n old.cqEvent * 2 ^ 12
    sqHead := beAt bs (o + 20) 2, sqTail := beAt bs (o + 22) 2, cqTail := beAt bs (o + 24) 2, cqHead := beAt bs (o + 26) 2
    cqPhase := bit (beAt bs (o + 28) 1) 0, error := 0, buffers := old.buffers }

/-- A record holds a queue: its ring sizes are those of one (R240); one that holds none is empty. -/
def recordHolds (bs : List Byte) (q : Nat) : Bool := 4 ≤ beAt bs (16 + 32 * q + 16) 1 && 4 ≤ beAt bs (16 + 32 * q + 17) 1
def recordLacks (bs : List Byte) (q : Nat) : Bool := !bit (beAt bs 3 1) q && (slice bs (16 + 32 * q) 32).all (· = 0)

/-- The record holds the queues that a pail of `n` queue pairs has, and no other: the queue counts agree. -/
def sameCounts (bs : List Byte) (n : Nat) : Bool :=
  (List.range 4).all fun q => if q < n then recordHolds bs q else recordLacks bs q

/-- A write of STATE_RECORD. -/
def State.writeStateRecord (s : State) (p : Nat) (bs : List Byte) : Answer :=
  let x := s.pail p
  if x.state ≠ .frozen then s.refuse stBusy
  else if bs.length ≠ 256 || beAt bs 0 1 ≠ 1 || beAt bs 252 4 ≠ crc32 (bs.take 252) || !sameCounts bs (s.queuePairs p) then
    s.refuse stInvalidValue
  else
    let y := (List.range (s.queuePairs p)).foldl (fun (y : Pail) q =>
      y.setQueue q (recordQueue bs (16 + 32 * q) (bit (beAt bs 3 1) q) (x.queue q))) x
    (s.setPail p { y with
      dcFreeze := beAt bs 8 8
      ev := { y.ev with
        base := beAt bs 144 8, head := beAt bs 154 2, tail := beAt bs 156 2, phase := bit (beAt bs 158 1) 0
        ctrl := b2n (bit y.ev.ctrl 0) + beAt bs 152 1 % 16 * 2 + beAt bs 159 1 % 4 * 2 ^ 5, lost := beAt bs 160 4 }
      dirty := { y.dirty with
        origin := beAt bs 168 8, inUse := beAt bs 176 8, span := beAt bs 184 4, ctrl := beAt bs 188 4 % 16 } }).ok

end Sys2Proof.Machine
end

