-- ==== Sys2Proof/Machine/LoopOps.lean ====
section
/-!
DEFINITION. Shared operations of the closed-loop engine (09_closed_loop_engine.md): units, sources (R303, R304), the status
word (R319), the hold latch (R317), outputs (R318), restarts (R320), the LOOPS section (R338), and the churn variables that a
source reads (R294).
-/

namespace Sys2Proof.Machine

open Sys2Proof

def State.setChurn (s : State) (f : Churn → Churn) : State := { s with churn := f s.churn }
def State.setLoops (s : State) (f : Loops → Loops) : State := { s with loops := f s.loops }

/-! ### Committed churn variables with forces overlaid (R294) -/

def Vars.bit (v : Vars) (i : Nat) : Bool := Tab.look v.bits i false
def Vars.word (v : Vars) (i : Nat) : Nat := Tab.look v.words i 0

/-- A bit variable as every reader sees it. -/
def bitSeen (forces : Tab Nat) (v : Vars) (i : Nat) : Bool :=
  match Tab.find forces i with
  | some x => bit x 0
  | none => v.bit i

/-- A word variable as every reader sees it. -/
def wordSeen (forces : Tab Nat) (v : Vars) (i : Nat) : Nat :=
  match Tab.find forces (65536 + i) with
  | some x => x % 2 ^ 32
  | none => v.word i

def State.churnBit (s : State) (i : Nat) : Bool := bitSeen s.churn.forces s.churn.committed i
def State.churnWord (s : State) (i : Nat) : Nat := wordSeen s.churn.forces s.churn.committed i

/-! ### The churn output table (R287, R312) -/

structure OutRec where
  kind : Nat
  word : Bool
  hold : Bool
  variable_ : Nat
  target : Nat
  member : Nat
  safe : Nat
  deriving DecidableEq, Repr

/-- The records of an output table. -/
def outRecords (bs : List Byte) : List OutRec :=
  (List.range (bs.length / 12)).map fun i =>
    let r := slice bs (12 * i) 12
    { kind := beAt r 0 1, word := bit (beAt r 1 1) 0, hold := bit (beAt r 1 1) 1, variable_ := beAt r 2 2
      target := beAt r 4 2, member := beAt r 6 1, safe := beAt r 8 4 }

/-- The churn engine governs a loop's mode. -/
def State.churnGoverns (s : State) (l : Nat) : Bool :=
  (outRecords (s.blob Od.churnOutputTable)).any fun r => r.kind = 4 && r.target = l

/-! ### Units (R301) -/

def State.loopOn (s : State) (l : Nat) : Bool := s.on (Od.loopEnable l)
def State.loopsOn (s : State) : Bool := s.on Od.clEnable

/-- The enabled members of a competition group. -/
def State.groupLoops (s : State) (g : Nat) : List Nat :=
  (List.range 32).filter fun l => s.loopOn l && s.reg (Od.loopGroup l) = g

/-- The head of an enabled loop's unit. -/
def State.headOf (s : State) (l : Nat) : Nat :=
  if s.reg (Od.loopGroup l) = 0xFF then l else (s.groupLoops (s.reg (Od.loopGroup l))).headD l

/-- The members of the unit headed by a loop. -/
def State.membersOf (s : State) (h : Nat) : List Nat :=
  if s.reg (Od.loopGroup h) = 0xFF then [h] else s.groupLoops (s.reg (Od.loopGroup h))

/-- The heads of the units. -/
def State.heads (s : State) : List Nat := (List.range 32).filter fun l => s.loopOn l && s.headOf l = l

/-- Work tick `k` is one of `phase`, `phase + period`, ... -/
def dueAt (k period phase : Nat) : Bool := (k + period - phase % max 1 period) % max 1 period = 0

def State.unitDue (s : State) (h : Nat) : Bool := dueAt s.workTick (s.reg (Od.loopPeriod h)) (s.reg (Od.loopPhase h))
def State.genDue (s : State) (g : Nat) : Bool :=
  s.on (Od.genEnable g) && dueAt s.workTick (s.reg (Od.genPeriod g)) (s.reg (Od.genPhase g))

/-- Ts of a period: one binary64 division (R301). -/
def State.sampleTime (s : State) (period : Nat) : Nat :=
  (f64Div (f64OfRat (period : Rat)) (f64OfRat (s.rate : Rat))).getD 0

/-! ### Sources (R303, R304) -/

/-- What a source yields. -/
structure SourceValue where
  value : Nat
  valid : Bool := true
  questionable : Bool := false
  deriving DecidableEq, Repr

def srcKind (code : Nat) : Nat := field code 28 4
def srcIndex (code : Nat) : Nat := code % 2 ^ 16

/-- A phasor output's record of a tick as a source reads it. -/
def State.sourceRecord (s : State) (g o : Nat) (pick : PhasorRec → Rat) : SourceValue :=
  match s.phasorsOf g, Tab.find s.dp.phasors (g % 64 * 8192 + o) with
  | true, some r =>
    if r.tickLow ≠ g % 2 ^ 32 || r.status % 4 = 1 then ⟨0, false, false⟩
    else ⟨f64OfRat (pick r), true, r.status % 4 = 3⟩
  | _, _ => ⟨0, false, false⟩

/-- A group's frequency record of a tick as a source reads it. -/
def State.sourceFreq (s : State) (g n : Nat) (pick : FreqRec → Int) : SourceValue :=
  match s.phasorsOf g, Tab.find s.dp.freqRecs (g % 64 * 64 + n) with
  | true, some r =>
    if bit r.status 0 || r.ref = 0xFFFF then ⟨0, false, false⟩ else ⟨f64OfRat ((pick r : Rat) / 65536), true, false⟩
  | _, _ => ⟨0, false, false⟩

/-- The source a code names; `own` is the value entry of the role. Records are those of image k - D. -/
def State.source (s : State) (code own : Nat) : SourceValue :=
  let i := srcIndex code
  let g := s.workTick - s.lag
  match srcKind code with
  | 1 => ⟨own, true, false⟩
  | 2 => s.sourceRecord g i fun r => (r.mag : Rat) / 65536
  | 3 => s.sourceRecord g i fun r => (toSigned 32 r.angle : Rat) / 2 ^ 32
  | 4 => s.sourceRecord g i fun r => (r.real : Rat) / 65536
  | 5 => s.sourceRecord g i fun r => (r.imag : Rat) / 65536
  | 6 => s.sourceFreq g i (·.freq)
  | 7 => s.sourceFreq g i (·.rocof)
  | 8 => ⟨f64OfRat (toSigned 32 (s.churnWord i) : Rat), true, false⟩
  | 9 => ⟨f64OfRat ((toSigned 32 (s.churnWord i) : Rat) / 65536), true, false⟩
  | 10 => ⟨(s.genAt i).x, (s.genAt i).started, false⟩
  | 11 =>
    let u := s.unitAt i
    ⟨if u.computedAt = some s.workTick then u.outBefore else u.out, true, false⟩
  | _ => ⟨0, true, false⟩

/-! ### The status word (R319) -/

/-- The status word of a loop: the unit's bits are the same in every member. -/
def State.loopStatus (s : State) (l : Nat) : Nat :=
  if !s.loopOn l then 0x000F
  else if !s.loopsOn then 0x800F
  else
    let u := s.unitAt (s.headOf l)
    u.mode % 4 + u.requested % 4 * 4 + (s.loopAt l).status % 2 ^ 15 + 2 ^ 8 * b2n u.transferring + 2 ^ 11 * b2n u.overran +
      2 ^ 12 * b2n u.latch + 2 ^ 13 * b2n u.numeric + 2 ^ 15

/-! ### Modes and the hold latch (R312, R317) -/

/-- A flag of the engine; INFO is the head loop. -/
def State.loopFlag (s : State) (flag h : Nat) : State := s.setFlag 65 flag (some h)

/-- HOLD_LATCHED stands while any unit's latch is set. -/
def State.latchStand (s : State) (h : Nat) : State := s.stand 65 1 (s.heads.any fun x => (s.unitAt x).latch) (some h)

/-- The requested mode of a unit. -/
def State.requestedMode (s : State) (h : Nat) : Nat :=
  if s.churnGoverns h then Tab.look s.loops.modeWords h 3 % 4 else s.reg (Od.loopModeRequest h) % 4

/-- The latch of a unit is set. -/
def State.setLatch (s : State) (h : Nat) : State :=
  let u := s.unitAt h
  (s.setUnit h { u with latch := true, latchedAt := s.now }).latchStand h

/-- A release clears the latch, unless it was set at this instant, and restarts the count of overruns; the unit's next computation is a
hand-over (R317). -/
def State.releaseLatch (s : State) (h : Nat) : State :=
  let u := s.unitAt h
  if !u.latch || u.latchedAt = s.now || !s.heads.contains h then s
  else (s.setUnit h { u with latch := false, numeric := false, overrunRun := 0, tuned := true }).latchStand h

/-- The churn engine drives a LOOP_MODE word. -/
def State.driveMode (s : State) (l word : Nat) : State :=
  let rise := bit word 2 && !bit (Tab.look s.loops.modeWords l 3) 2
  (s.setLoops fun x => { x with modeWords := Tab.insert x.modeWords l word }).when_ rise fun t => t.releaseLatch l

/-! ### Outputs (R318) -/

/-- Write a member of a churn-owned publication, from the image of tick `g`. -/
def State.writeMember (s : State) (g j m : Nat) (value quality : Option Nat) : State :=
  let old := Tab.look (s.pub j).cells m 0
  let ty := (s.pubTypes j).getD m 0
  s.commitCells g j (Tab.put (s.pub j).cells m
    (cell ty (value.getD (cellValue old)) (quality.getD (cellQuality old))) 0)

/-- The output of a unit goes to its member. -/
def State.publishUnit (s : State) (h : Nat) : State :=
  let j := s.reg (Od.loopOutPub h)
  let m := s.reg (Od.loopOutMember h)
  let u := s.unitAt h
  if 256 ≤ j then s
  else
    let v := f64Val u.out
    let value := if (s.pubTypes j).getD m 0 = 4 then f32Round v (f64Neg u.out)
      else ofSigned 32 (clampInt (-(2 ^ 31)) (2 ^ 31 - 1) (roundRat v))
    s.writeMember (u.computedAt.getD s.workTick - s.lag) j m (some value) (some (if u.held then 0x0083 else 0))

/-- At a boundary: the units whose last computation lies one PERIOD back publish. -/
def State.publishLoops (s : State) : State :=
  if !s.loopsOn then s
  else
    s.each s.heads fun h t =>
      if (t.unitAt h).computedAt.any fun k => k + t.reg (Od.loopPeriod h) = t.workTick then t.publishUnit h else t

/-! ### Restart (R320) -/

/-- The STAGED entries of a loop. -/
def loopStagedSubs : List Nat := [1, 2, 3, 4, 5, 6, 7, 8, 9, 0x10, 0x15, 0x17, 0x18, 0x1D, 0x1E, 0x1F]

/-- Restart the unit of a head. -/
def State.restartUnit (s : State) (h : Nat) : State :=
  let s1 := s.each (s.membersOf h) fun l t => t.setLoop l {}
  (s1.setUnit h { out := s.reg (Od.loopInitOutput h), outBefore := s.reg (Od.loopInitOutput h) }).when_ s.loopsOn fun t =>
    t.loopFlag 4 h

/-- A commit has changed entries: `old` is the state before it. Units and generators whose STAGED entries it changes restart, a unit that a
changed loop has left among them, and all of them when it enables or disables the engine. -/
def State.restartLoops (s old : State) : State :=
  let all := s.on Od.clEnable != old.on Od.clEnable
  let changed (k : Nat) : Bool := s.reg k ≠ old.reg k
  let loops := (List.range 32).filter fun l => all || loopStagedSubs.any fun b => changed ((0x6000 + l) * 256 + b)
  let gone := loops.filter fun l => !s.heads.contains l
  let s1 := s.each gone fun l t => (t.setUnit l {}).setLoop l {}
  let hs := s.heads.filter fun h => loops.any fun l => (s.loopOn l && s.headOf l = h) ||
    (old.loopOn l && (s.membersOf h).any fun m => old.loopOn m && old.headOf m = old.headOf l)
  let s2 := s1.each hs fun h t => t.restartUnit h
  let gens := (List.range 32).filter fun g => all || [1, 2, 3, 4].any fun b => changed ((0x6100 + g) * 256 + b)
  (s2.each gens fun g t => t.setGen g {}).latchStand 0

/-! ### The LOOPS section (R338, R341) -/

/-- The engine's state that goes to the follower (R323). -/
def State.loopsSection (s : State) : List Byte :=
  ((List.range 32).map fun l =>
      let x := s.loopAt l
      beBytes 8 x.iState ++ beBytes 8 x.dState ++ beBytes 8 x.yPrev ++ beBytes 4 (s.loopStatus l) ++ beBytes 4 0).flatten ++
    ((List.range 32).map fun h =>
      let u := s.unitAt h
      beBytes 8 u.out ++ beBytes 1 u.mode ++ beBytes 1 (min u.overrunRun 255) ++ beBytes 1 (b2n u.latch) ++ beBytes 5 0).flatten ++
    ((List.range 32).map fun g =>
      let x := s.genAt g
      beBytes 8 x.x ++ beBytes 8 x.vel ++ beBytes 8 x.acc ++ beBytes 8 x.lastTarget).flatten

/-- The bits of R319 that a loop keeps of its own: WINNER, AT_HIGH, AT_LOW, RATE_LIMITED, SOURCE_INVALID,
MEAS_QUESTIONABLE, SP_MOVING. -/
def ownStatusBits : Nat := 0x46F0

/-- Replace the engine's state by a LOOPS section. -/
def State.adoptLoops (s : State) (bs : List Byte) : State :=
  let s0 := s.setLoops fun x => { x with poisoned := false }
  let s1 := s0.each (List.range 32) fun l t =>
    t.setLoop l { t.loopAt l with
      iState := beAt bs (32 * l) 8, dState := beAt bs (32 * l + 8) 8, yPrev := beAt bs (32 * l + 16) 8
      status := beAt bs (32 * l + 24) 4 &&& ownStatusBits }
  let s2 := s1.each s1.heads fun h t =>
    let o := 1024 + 16 * h
    let w := beAt bs (32 * h + 24) 4
    let u := t.unitAt h
    t.setUnit h { u with
      out := beAt bs o 8, mode := beAt bs (o + 8) 1 % 4, overrunRun := beAt bs (o + 9) 1, latch := beAt bs (o + 10) 1 ≠ 0
      requested := field w 2 2, transferring := bit w 8, overran := bit w 11, numeric := bit w 13
      invalid := (t.membersOf h).any fun l => bit (beAt bs (32 * l + 24) 4) 9
      held := beAt bs (o + 8) 1 % 4 = 3 && (beAt bs (o + 10) 1 ≠ 0 || (t.membersOf h).any fun l => bit (beAt bs (32 * l + 24) 4) 9)
      winner := (t.membersOf h).find? fun l => bit (beAt bs (32 * l + 24) 4) 4 }
  (s2.each (List.range 32) fun g t =>
    let o := 1536 + 32 * g
    let x := t.genAt g
    t.setGen g { x with
      x := beAt bs o 8, vel := beAt bs (o + 8) 8, acc := beAt bs (o + 16) 8, lastTarget := beAt bs (o + 24) 8
      started := x.started || (slice bs o 32).any (· ≠ 0) }).latchStand 0

/-- Everything due in the work tick has been computed or abandoned. -/
def State.loopsSettled (s : State) : Bool :=
  (s.heads.filter s.unitDue).all (fun h => (s.unitAt h).computedAt = some s.workTick) &&
    ((List.range 32).filter s.genDue).all fun g => (s.genAt g).computedAt = some s.workTick

/-- The lead sends the LOOPS section once it is final. -/
def State.sendLoops (s : State) : State :=
  if s.pair.role = .lead && s.loopsOn && s.loopsSettled then s.sendSection 1 0 s.workTick s.loopsSection else s

/-! ### Overrun (R316) -/

/-- A unit that is due and not yet computed in this work tick. -/
def State.unitWaits (s : State) (h : Nat) : Bool :=
  s.loopsOn && s.heads.contains h && s.unitDue h && (s.unitAt h).computedAt ≠ some s.workTick

/-- The instant at which what is not complete is abandoned: 5 µs before the next boundary. -/
def State.loopDeadline (s : State) : Nat := s.tickAt (s.workTick + 1) - ofUs 5

/-- A computation is abandoned. -/
def State.overrunUnit (s : State) (h : Nat) : State :=
  let u := s.unitAt h
  let s1 := s.setUnit h { u with
    computedAt := some s.workTick, outBefore := u.out, overran := true, overrunRun := u.overrunRun + 1 }
  let s2 := s1.each (s.membersOf h) fun l t => t.count 32 (Od.loopOverruns l)
  let s3 := (s2.count 32 Od.clOverruns).loopFlag 0 h
  (s3.when_ (3 ≤ u.overrunRun + 1) fun t => t.setLatch h).sendLoops

/-- The units that no computation or overrun came for in the work tick that ends were abandoned at its deadline. -/
def State.overrunRest (s : State) : State := s.each (s.heads.filter s.unitWaits) fun h t => t.overrunUnit h

/-! ### The schedule (R315) -/

/-- The cost in ns due at work tick `k`. -/
def State.scheduleCost (s : State) (k : Nat) : Nat :=
  let gens := (List.range 32).filter fun g => s.on (Od.genEnable g) && dueAt k (s.reg (Od.genPeriod g)) (s.reg (Od.genPhase g))
  let hs := s.heads.filter fun h => dueAt k (s.reg (Od.loopPeriod h)) (s.reg (Od.loopPhase h))
  if gens.isEmpty && hs.isEmpty then 0
  else
    3000 + 1200 * gens.length + 1600 * (hs.map fun h => (s.membersOf h).length).sum +
      400 * (hs.filter fun h => s.reg (Od.loopGroup h) ≠ 0xFF).length

/-- The periods in use. -/
def State.periods (s : State) : List Nat :=
  (s.heads.map fun h => max 1 (s.reg (Od.loopPeriod h))) ++
    ((List.range 32).filter fun g => s.on (Od.genEnable g)).map fun g => max 1 (s.reg (Od.genPeriod g))

/-- SCHEDULE_PEAK: the largest cost at any work tick. -/
def State.schedulePeak (s : State) : Nat :=
  ((List.range (s.periods.foldl Nat.lcm 1)).map s.scheduleCost).foldl max 0

/-- The budget of R315 in ns. -/
def scheduleBudget (rate : Nat) : Nat := 1000000000 / rate - 7000

end Sys2Proof.Machine
end

