-- ==== Sys2Proof/Machine/ChurnOps.lean ====
section
/-!
DEFINITION. Churn programs (08_churn_engine.md): the image (R272, R274), its checks (R270, R273, R275), the 48 block types and
their evaluation in list order (R276 to R282, R294), the tables and their checks (R284, R287), the CHURN section (R338).
-/

namespace Sys2Proof.Machine

open Sys2Proof

/-! ### The image (R272, R274) -/

structure Blk where
  type : Nat
  flags : Nat
  out : Nat
  a : Nat
  b : Nat
  c : Nat
  state : Nat
  k : Nat
  deriving DecidableEq, Repr

/-- A block record. -/
def blkOf (r : List Byte) : Blk :=
  { type := beAt r 0 1, flags := beAt r 1 1, out := beAt r 2 2, a := beAt r 4 2, b := beAt r 6 2, c := beAt r 8 2
    state := beAt r 10 2, k := beAt r 12 4 }

def blockCount (bs : List Byte) : Nat := beAt bs 8 4
def initCount (bs : List Byte) : Nat := beAt bs 12 4
def stateCount (bs : List Byte) : Nat := beAt bs 16 2
def programId (bs : List Byte) : Nat := beAt bs 20 4

/-- Pieces of `n` octets, `k` of them. -/
def pieces (n : Nat) : Nat → List Byte → List (List Byte)
  | 0, _ => []
  | k + 1, bs => bs.take n :: pieces n k (bs.drop n)

/-- The blocks of an image, in list order. -/
def programBlocks (bs : List Byte) : List Blk := (pieces 16 (blockCount bs) (bs.drop 32)).map blkOf

/-- The initial-value records: space, index, value. -/
def programInits (bs : List Byte) : List (Nat × Nat × Nat × Nat) :=
  (pieces 8 (initCount bs) (bs.drop (32 + 16 * blockCount bs))).map fun r => (beAt r 0 1, beAt r 1 1, beAt r 2 2, beAt r 4 4)

/-- The header, its reserved fields, the length and the CRC (R272). -/
def headerOk (bs : List Byte) : Bool :=
  32 ≤ bs.length && beAt bs 0 4 = 0x4348524E && beAt bs 4 1 = 1 && beAt bs 5 3 = 0 && beAt bs 18 2 = 0 && beAt bs 24 4 = 0 &&
    1 ≤ blockCount bs && blockCount bs ≤ 65536 && initCount bs ≤ 131072 && stateCount bs ≤ 16384 &&
    bs.length = 32 + 16 * blockCount bs + 8 * initCount bs &&
    beAt bs 28 4 = crc32 (bs.take 28 ++ List.replicate 4 0 ++ bs.drop 32)

/-! ### Signatures (R277) -/

/-- The space of an input or output: none, bit, word, DRIP64. -/
inductive Space where
  | none | bit | word | drip
  deriving DecidableEq, Repr

/-- The inputs A, B, C and the output of a type. -/
def signature (t : Nat) : Space × Space × Space × Space :=
  match t with
  | 0x01 | 0x02 | 0x03 | 0x05 | 0x06 => (.bit, .bit, .bit, .bit)
  | 0x04 | 0x09 | 0x0A => (.bit, .none, .none, .bit)
  | 0x07 | 0x08 | 0x0E | 0x0F => (.bit, .bit, .none, .bit)
  | 0x0B | 0x0C | 0x0D => (.bit, .drip, .none, .bit)
  | 0x10 => (.bit, .bit, .bit, .bit)
  | 0x11 | 0x12 | 0x13 | 0x14 | 0x15 | 0x16 | 0x17 => (.word, .word, .none, .bit)
  | 0x18 | 0x2A => (.word, .none, .none, .bit)
  | 0x19 | 0x1A | 0x1B | 0x1C | 0x1D | 0x1E | 0x20 | 0x21 | 0x27 | 0x28 => (.word, .word, .none, .word)
  | 0x1F | 0x24 | 0x25 | 0x26 | 0x2C => (.word, .none, .none, .word)
  | 0x22 => (.word, .word, .word, .word)
  | 0x23 => (.word, .word, .bit, .word)
  | 0x29 => (.bit, .none, .none, .word)
  | 0x2B => (.word, .bit, .none, .word)
  | 0x2D | 0x2E => (.drip, .drip, .none, .drip)
  | 0x2F => (.drip, .drip, .none, .bit)
  | _ => (.none, .none, .none, .none)

def stateful (t : Nat) : Bool := 9 ≤ t && t ≤ 16
def isTimer (t : Nat) : Bool := 11 ≤ t && t ≤ 13

/-- The types that use K as a parameter: MAJ, the counters, HYST, BITTEST, PACK, UNPACK. -/
def kParameter (t : Nat) : Bool := [5, 14, 15, 16, 23, 24, 41, 42].contains t

/-- Types that read back Q' (R276). -/
def holdsQ (t : Nat) : Bool := [7, 8, 23, 43].contains t

/-- A type's K is in its range (R273, R277). -/
def kOk (t k : Nat) : Bool :=
  if t = 5 then 1 ≤ k && k ≤ 3
  else if t = 41 || t = 42 then 1 ≤ k && k ≤ 32
  else if t = 23 then k < 2 ^ 31
  else true

/-- The variables a block writes, keyed `space * 65536 + index` (R270, R278). -/
def blockWrites (b : Blk) (k : Nat) : List Nat :=
  let out := match (signature b.type).2.2.2 with
    | .none => []
    | .bit => if b.type = 42 then (List.range k).map (b.out + ·) else [b.out]
    | .word => [65536 + b.out]
    | .drip => [65536 + b.out, 65536 + b.out + 1]
  let aux := if !bit b.flags 5 then [] else if isTimer b.type then [65536 + b.out, 65536 + b.out + 1] else [65536 + b.out]
  out ++ aux

/-- A variable that a block may write. -/
def programVar (v : Nat) : Bool := 0x1000 ≤ v % 65536 && v < 131072

/-- One input of a block is admitted: its reference and its INV flag (R273 to R275). -/
def inputOk (b : Blk) (sp : Space) (ref : Nat) (inv fromK : Bool) : Bool :=
  let isBit := decide (sp = Space.bit)
  let isDrip := decide (sp = Space.drip)
  let isNone := decide (sp = Space.none)
  let flagOk := !inv || !(decide (sp = Space.word) || isDrip || ref = 0xFFFF)
  let refOk := isNone || fromK || (if ref = 0xFFFF then isBit && 1 ≤ b.type && b.type ≤ 3 else !(isDrip && ref % 2 = 1))
  flagOk && refOk

/-- A block is admitted on its own. -/
def blockOk (states : Nat) (b : Blk) : Bool :=
  let (sa, sb, sc, so) := signature b.type
  let fromK := bit b.flags 4
  b.type ≤ 0x2F && b.flags < 64 && (!bit b.flags 5 || (11 ≤ b.type && b.type ≤ 16)) && (!fromK || !kParameter b.type) &&
    kOk b.type b.k && (!stateful b.type || b.state < states) &&
    (b.type = 0 ||
      (inputOk b sa b.a (bit b.flags 0) false && inputOk b sb b.b (bit b.flags 1) fromK && inputOk b sc b.c (bit b.flags 2) false &&
        !(b.type = 41 && (bit b.flags 0 || 65536 < b.a + b.k)) &&
        (!bit b.flags 3 || (decide (so = Space.bit) && b.type ≠ 42)) &&
        !((decide (so = Space.drip) || (bit b.flags 5 && isTimer b.type)) && b.out % 2 = 1) &&
        !(b.type = 42 && 65536 < b.out + b.k)))

/-- The checks of R273 but for the budget. -/
def imageOk (bs : List Byte) : Bool :=
  headerOk bs &&
    (let blocks := programBlocks bs
     let writes := (blocks.map fun b => blockWrites b b.k).flatten
     let states := (blocks.filter fun b => stateful b.type).map (·.state)
     blocks.all (blockOk (stateCount bs)) && writes.all programVar && decide writes.Nodup && decide states.Nodup &&
       (programInits bs).all fun (space, res, index, _) => space ≤ 1 && res = 0 && 0x1000 ≤ index)

/-- The evaluation budget of R273: `2 ns` a block within the cycle less 15 µs. -/
def evalFits (bs : List Byte) (ticks rate : Nat) : Bool := 2 * blockCount bs * rate + 15000 * rate ≤ ticks * 1000000000

/-- W of R338: the word variables that blocks write, rising. -/
def writtenWords (bs : List Byte) : List Nat :=
  (((programBlocks bs).map fun b => blockWrites b b.k).flatten.filter (65536 ≤ ·)).map (· - 65536) |>.mergeSort (· ≤ ·)

/-- The size of a CHURN section with `f` forces (R338). -/
def churnBytes (bs : List Byte) (f : Nat) : Nat :=
  if bs.isEmpty then 0 else 7704 + 4 * (writtenWords bs).length + 16 * stateCount bs + 8 * f

/-- The further check of R340. -/
def linkFits (bs : List Byte) (ticks rate : Nat) : Bool :=
  (31000000 + 6200 * blockCount bs + 1000 * churnBytes bs 1024) * rate ≤ (ticks * 1000000000 - 5000 * rate) * 3100

/-! ### Evaluation (R276 to R282) -/

/-- What an evaluation reads besides the working variables. -/
structure EvalCtx where
  forces : Tab Nat
  committed : Vars
  inputsDone : Tab Nat
  elapsed : Int

def sat32 (x : Int) : Int := clampInt (-(2 ^ 31)) (2 ^ 31 - 1) x
def sat64 (x : Int) : Int := clampInt (-(2 ^ 63)) (2 ^ 63 - 1) x

/-- Division by zero (R276). -/
def divZero (a : Int) : Int := if 0 < a then 2 ^ 31 - 1 else if a < 0 then -(2 ^ 31) else 0

/-- A reference of input A, B or C. -/
def Blk.ref (b : Blk) (pos : Nat) : Nat := if pos = 0 then b.a else if pos = 1 then b.b else b.c

/-- A bit input; `unused` is what R277 gives an unused one. -/
def bitIn (x : EvalCtx) (w : Vars) (b : Blk) (pos : Nat) (unused : Bool := false) : Bool :=
  if pos = 1 && bit b.flags 4 then bit b.k 0 != bit b.flags 1
  else if b.ref pos = 0xFFFF then unused
  else bitSeen x.forces w (b.ref pos) != bit b.flags pos

/-- A word input, signed. -/
def wordIn (x : EvalCtx) (w : Vars) (b : Blk) (pos : Nat) : Int :=
  if pos = 1 && bit b.flags 4 then toSigned 32 b.k else toSigned 32 (wordSeen x.forces w (b.ref pos))

/-- A DRIP64 input. -/
def dripIn (x : EvalCtx) (w : Vars) (b : Blk) (pos : Nat) : Int :=
  if pos = 1 && bit b.flags 4 then roundDiv ((b.k * 2 ^ 36 : Nat) : Int) 1000000
  else toSigned 64 (wordSeen x.forces w (b.ref pos) + wordSeen x.forces w (b.ref pos + 1) * 2 ^ 32)

def Vars.setBit (v : Vars) (i : Nat) (b : Bool) : Vars := { v with bits := Tab.put v.bits i b false }
def Vars.setWord (v : Vars) (i : Nat) (x : Int) : Vars := { v with words := Tab.put v.words i (ofSigned 32 x) 0 }
def Vars.setDrip (v : Vars) (i : Nat) (x : Int) : Vars :=
  (v.setWord i (toSigned 32 (ofSigned 64 (sat64 x)))).setWord (i + 1) (toSigned 32 (ofSigned 64 (sat64 x) / 2 ^ 32))
def Vars.state (v : Vars) (i : Nat) : BlockState := Tab.look v.states i {}
def Vars.setState (v : Vars) (i : Nat) (x : BlockState) : Vars := { v with states := Tab.put v.states i x {} }

/-- Q of block `n`: kept as Q' where it is read back, inverted into the variable (R276). -/
def putBit (w : Vars) (n : Nat) (b : Blk) (q : Bool) : Vars :=
  let w1 := w.setBit b.out (q != bit b.flags 3)
  if holdsQ b.type then { w1 with q := Tab.put w1.q n (if q then 1 else 0) 0 } else w1

def putWord (w : Vars) (n : Nat) (b : Blk) (v : Int) : Vars :=
  let w1 := w.setWord b.out (sat32 v)
  if holdsQ b.type then { w1 with q := Tab.put w1.q n (sat32 v) 0 } else w1

def qPrev (x : EvalCtx) (n : Nat) : Int := Tab.look x.committed.q n 0

/-- Two-operand word arithmetic: ADD to DIVQ, MIN, MAX, WAND, WOR. -/
def wordOp (t : Nat) (a b : Int) : Int :=
  match t with
  | 0x19 => a + b
  | 0x1A => a - b
  | 0x1B => a * b
  | 0x1C => roundDiv (a * b) (2 ^ 16)
  | 0x1D => if b = 0 then divZero a else a.tdiv b
  | 0x1E => if b = 0 then divZero a else if 0 < b then roundDiv (a * 2 ^ 16) b.toNat else roundDiv (-(a * 2 ^ 16)) (-b).toNat
  | 0x20 => min a b
  | 0x21 => max a b
  | 0x27 => toSigned 32 (ofSigned 32 a &&& ofSigned 32 b)
  | _ => toSigned 32 (ofSigned 32 a ||| ofSigned 32 b)

/-- The comparisons EQ to LE. -/
def wordTest (t : Nat) (a b : Int) : Bool :=
  match t with
  | 0x11 => a = b
  | 0x12 => a ≠ b
  | 0x13 => b < a
  | 0x14 => b ≤ a
  | 0x15 => a < b
  | _ => a ≤ b

/-- One-operand word types: ABS, WMOVE, ITOQ, QTOI. -/
def wordFn (t : Nat) (a : Int) : Int :=
  match t with
  | 0x1F => (a.natAbs : Int)
  | 0x25 => a * 2 ^ 16
  | 0x26 => roundDiv a (2 ^ 16)
  | _ => a

/-- The timers of R279: the new state and Q. -/
def timerStep (t : Nat) (s : BlockState) (in_ : Bool) (pt elapsed : Int) : BlockState × Bool :=
  let on := min (s.val + elapsed) pt
  if t = 0x0B then
    let s1 : BlockState := if in_ then (if s.run then { s with val := on } else { s with run := true, val := 0 })
      else { s with run := false, val := 0 }
    (s1, s1.run && pt ≤ s1.val)
  else if t = 0x0C then
    let s1 : BlockState := if in_ then { s with run := true, val := 0 } else if s.run then { s with val := on } else s
    let q := s1.run && (in_ || s1.val < pt)
    (if !in_ && pt ≤ s1.val then { s1 with run := false } else s1, q)
  else
    let s1 : BlockState := if s.run then { s with val := on } else if in_ && !s.prev then { s with run := true, val := 0 } else s
    let q := s1.run && s1.val < pt
    let s2 : BlockState := if s1.run && pt ≤ s1.val then { s1 with run := false } else s1
    let s3 : BlockState := if !in_ && !s2.run then { s2 with val := 0 } else s2
    ({ s3 with prev := in_ }, q)

/-- The counters of R277 and R280: the new state and Q. -/
def counterStep (t : Nat) (s : BlockState) (a b c : Bool) (k : Int) : BlockState × Bool :=
  let up := a && !s.prev
  if t = 0x0E then
    let v := if b then 0 else if up then sat32 (s.val + 1) else s.val
    ({ s with val := v, prev := a }, k ≤ v)
  else if t = 0x0F then
    let v := if b then k else if up then sat32 (s.val - 1) else s.val
    ({ s with val := v, prev := a }, v ≤ 0)
  else
    let down := b && !s.run
    let v := if c then 0 else if up && !down then sat32 (s.val + 1) else if down && !up then sat32 (s.val - 1) else s.val
    ({ s with val := v, prev := a, run := b }, k ≤ v)

/-- Evaluate block `n`. -/
def evalBlock (x : EvalCtx) (w : Vars) (n : Nat) (b : Blk) : Vars :=
  let bi (pos : Nat) : Bool := bitIn x w b pos
  let wi (pos : Nat) : Int := wordIn x w b pos
  let di (pos : Nat) : Int := dripIn x w b pos
  let qb := qPrev x n ≠ 0
  match b.type with
  | 0x00 => w
  | 0x01 => putBit w n b (bitIn x w b 0 true && bitIn x w b 1 true && bitIn x w b 2 true)
  | 0x02 => putBit w n b (bi 0 || bi 1 || bi 2)
  | 0x03 => putBit w n b ((bi 0 != bi 1) != bi 2)
  | 0x04 => putBit w n b (bi 0)
  | 0x05 => putBit w n b (b.k ≤ b2n (bi 0) + b2n (bi 1) + b2n (bi 2))
  | 0x06 => putBit w n b (if bi 2 then bi 1 else bi 0)
  | 0x07 => putBit w n b (bi 0 || (qb && !bi 1))
  | 0x08 => putBit w n b (!bi 1 && (bi 0 || qb))
  | 0x09 =>
    let s := w.state b.state
    putBit (w.setState b.state { s with prev := bi 0 }) n b (bi 0 && !s.prev)
  | 0x0A =>
    let s := w.state b.state
    putBit (w.setState b.state { s with prev := bi 0 }) n b (!bi 0 && s.prev)
  | 0x0B | 0x0C | 0x0D =>
    let r := timerStep b.type (w.state b.state) (bi 0) (max 0 (di 1)) x.elapsed
    let w1 := putBit (w.setState b.state r.1) n b r.2
    if bit b.flags 5 then w1.setDrip b.out r.1.val else w1
  | 0x0E | 0x0F | 0x10 =>
    let r := counterStep b.type (w.state b.state) (bi 0) (bi 1) (bi 2) (toSigned 32 b.k)
    let w1 := putBit (w.setState b.state r.1) n b r.2
    if bit b.flags 5 then w1.setWord b.out r.1.val else w1
  | 0x11 | 0x12 | 0x13 | 0x14 | 0x15 | 0x16 => putBit w n b (wordTest b.type (wi 0) (wi 1))
  | 0x17 => putBit w n b (if wi 1 ≤ wi 0 then true else if wi 0 < wi 1 - toSigned 32 b.k then false else qb)
  | 0x18 => putBit w n b (bit (ofSigned 32 (wi 0)) (b.k % 32))
  | 0x22 => putWord w n b (if wi 2 < wi 1 then wi 1 else clampInt (wi 1) (wi 2) (wi 0))
  | 0x23 => putWord w n b (if bi 2 then wi 1 else wi 0)
  | 0x1F | 0x24 | 0x25 | 0x26 => putWord w n b (wordFn b.type (wi 0))
  | 0x29 => putWord w n b (toSigned 32 (maskOf ((List.range b.k).filter fun i => bitSeen x.forces w (b.a + i))))
  | 0x2A => (List.range b.k).foldl (fun v i => v.setBit (b.out + i) (bit (ofSigned 32 (wi 0)) i)) w
  | 0x2B => putWord w n b (if bi 1 then wi 0 else qPrev x n)
  | 0x2C =>
    let v := match Tab.find x.forces (65536 + b.a) with
      | some f => f % 2 ^ 32
      | none => if b.a < 0x1000 then Tab.look x.inputsDone b.a 0 else x.committed.word b.a
    putWord w n b (toSigned 32 v)
  | 0x2D => w.setDrip b.out (di 0 + di 1)
  | 0x2E => w.setDrip b.out (di 0 - di 1)
  | 0x2F => putBit w n b (di 1 ≤ di 0)
  | _ => putWord w n b (wordOp b.type (wi 0) (wi 1))

/-- Evaluate the list in order. -/
def evalBlocks (x : EvalCtx) : Nat → List Blk → Vars → Vars
  | _, [], w => w
  | n, b :: bs, w => evalBlocks x (n + 1) bs (evalBlock x w n b)

/-! ### The program in use -/

/-- The blocks in use, with the constants that batches changed (R292, R298). -/
def Churn.blocks (c : Churn) : List Blk :=
  (programBlocks c.program).zipIdx.map fun (b, n) => match Tab.find c.constants n with
    | some k => { b with k := k }
    | none => b

/-- Evaluate the cycle in progress. -/
def Churn.evaluated (c : Churn) : Vars :=
  evalBlocks ⟨c.forces, c.committed, c.inputsDone, c.elapsed⟩ 0 c.blocks c.working

/-! ### The input and output tables (R284, R287) -/

structure InRec where
  kind : Nat
  word : Bool
  good : Bool
  bitNo : Nat
  variable_ : Nat
  source : Nat
  member : Nat
  deriving DecidableEq, Repr

def inRecords (bs : List Byte) : List InRec :=
  (pieces 8 (bs.length / 8) bs).map fun r =>
    let sel := beAt r 1 1
    { kind := beAt r 0 1, word := bit sel 0, good := bit sel 1, bitNo := field sel 4 4, variable_ := beAt r 2 2
      source := beAt r 4 2, member := beAt r 6 1 }

/-- The input table is admitted. -/
def inTableOk (bs : List Byte) : Bool :=
  let rs := inRecords bs
  bs.length % 8 = 0 && rs.length ≤ 4096 && rs.all (fun r =>
      1 ≤ r.kind && r.kind ≤ 5 && 0x800 ≤ r.variable_ && r.variable_ ≤ 0xFFF &&
        r.source < (if r.kind ≤ 2 then 1024 else if r.kind = 5 then 256 else 8192) &&
        (r.kind = 3 || r.kind = 4 || r.member < 32)) &&
    decide ((rs.map fun r => b2n r.word * 65536 + r.variable_).Nodup)

/-- How many targets a kind of output has. -/
def outTargets (kind : Nat) : Nat :=
  match kind with
  | 1 | 2 => 256
  | 3 => 64
  | 4 => 32
  | 5 => 64
  | 6 => 1
  | 7 => 16
  | _ => 0

/-- A publication is in some pail's GOOSE_PUBS, so pail-owned. -/
def State.pubOwned (s : State) (j : Nat) : Bool :=
  (List.range 64).any fun p => (List.range 16).any fun i => decide (s.pailPub p i = some j)

/-- The output table is admitted under the entries of a configuration. -/
def State.outTableOk (s : State) (bs : List Byte) : Bool :=
  let rs := outRecords bs
  bs.length % 12 = 0 && rs.length ≤ 4096 && rs.all (fun r =>
      r.target < outTargets r.kind && 0xF000 ≤ r.variable_ &&
        (if r.kind ≤ 2 then
          r.member < 32 && !s.pubOwned r.target &&
            (let ty := (s.pubTypes r.target).getD r.member 0
             ty ≠ 0 && ty ≠ 6)
        else if r.kind = 4 then r.word
        else if r.kind = 5 || r.kind = 6 then !r.word
        else if r.kind = 7 then bit (s.reg (Od.gpioConfig r.target)) 0
        else true)) &&
    decide ((rs.map fun r => (r.kind, r.target, if r.kind ≤ 2 then r.member else 0)).Nodup)

/-! ### The CHURN section (R338, R341) -/

/-- Word variables by index, bits as a bitmap, as every reader sees them, states, and the computed values under forces. -/
def churnSectionBody (program : List Byte) (forces : Tab Nat) (v : Vars) : List Byte :=
  ((List.range 7680).map fun i =>
      BitVec.ofNat 8 (maskOf ((List.range 8).filter fun j => bitSeen forces v (0x1000 + 8 * i + j)))) ++
    ((writtenWords program).map fun i => beBytes 4 (wordSeen forces v i)).flatten ++
    ((List.range (stateCount program)).map fun i =>
      let x := v.state i
      beBytes 8 (ofSigned 64 x.val) ++ beBytes 1 (b2n x.run + 2 * b2n x.prev) ++ beBytes 7 0).flatten ++
    (forces.map fun (k, _) =>
      beBytes 2 (k % 65536) ++ beBytes 1 (k / 65536) ++ beBytes 1 0 ++
        beBytes 4 (if k < 65536 then b2n (v.bit k) else v.word (k % 65536))).flatten

/-- The section of the cycle in progress; none unless the engine runs one. -/
def State.churnSection (s : State) : Option (List Byte) :=
  let c := s.churn
  if c.state ≠ .running || !c.evaluating then none
  else
    let run := if c.evalDone then 0 else c.overrunRun + 1
    let flags := b2n (!c.evalDone && c.firstCycle) + 2 * b2n (s.reg Od.churnOverrunLimit ≤ run) + 4 * b2n (!c.evalDone)
    let tick := if c.evalDone then c.snapTick else match c.doneAt with
      | some t => tickOf s.rate t
      | none => 0
    some (beBytes 4 (programId c.program) ++ beBytes 4 ((c.cycleCount + b2n c.evalDone) % 2 ^ 32) ++ beBytes 1 run ++
      beBytes 1 flags ++ beBytes 6 0 ++ beBytes 8 tick ++
      churnSectionBody c.program c.forces (if c.evalDone then c.working else c.committed))

/-- The work tick that ends the cycle in progress. -/
def State.cycleEnd (s : State) : Nat := s.churn.snapTick + s.churn.cycleTicks - 1

/-- The lead sends the section in the tick that ends the cycle (R338). -/
def State.sendChurn (s : State) : State :=
  if s.pair.role = .lead && s.workTick = s.cycleEnd then
    match s.churnSection with
    | some d => s.sendSection 2 0 s.workTick d
    | none => s
  else s

/-- The variables of a section over the inputs of `own` (R338); Q' follows from the computed values. -/
def adoptedVars (program : List Byte) (own : Vars) (bs : List Byte) : Vars :=
  let words := writtenWords program
  let w := words.length
  let bits := (List.range 61440).foldl (fun (v : Vars) i =>
    v.setBit (0x1000 + i) (bit (beAt bs (24 + i / 8) 1) (i % 8))) { own with bits := own.bits.filter (·.1 < 0x1000) }
  let v1 := words.zipIdx.foldl (fun (v : Vars) (i, n) => v.setWord i (toSigned 32 (beAt bs (7704 + 4 * n) 4))) bits
  let v2 := (List.range (stateCount program)).foldl (fun (v : Vars) i =>
    let o := 7704 + 4 * w + 16 * i
    v.setState i ⟨toSigned 64 (beAt bs o 8), bit (beAt bs (o + 8) 1) 0, bit (beAt bs (o + 8) 1) 1⟩) { v1 with states := [] }
  let o := 7704 + 4 * w + 16 * stateCount program
  let v3 := (List.range ((bs.length - o) / 8)).foldl (fun (v : Vars) i =>
    let p := o + 8 * i
    if beAt bs (p + 2) 1 = 0 then v.setBit (beAt bs p 2) (bit (beAt bs (p + 4) 4) 0)
    else v.setWord (beAt bs p 2) (toSigned 32 (beAt bs (p + 4) 4))) v2
  (programBlocks program).zipIdx.foldl (fun (v : Vars) (b, n) =>
    if b.type = 43 then { v with q := Tab.put v.q n (toSigned 32 (v.word b.out)) 0 }
    else if holdsQ b.type then { v with q := Tab.put v.q n (if v.bit b.out != bit b.flags 3 then 1 else 0) 0 }
    else v) { v3 with q := [] }

end Sys2Proof.Machine
end

