-- ==== Sys2Proof/Machine/Churn.lean ====
section
/-!
DEFINITION. The churn engine's commands (08_churn_engine.md): the cycle (R267, R281), its snapshot (R271, R283 to R286) and
outputs (R287 to R289), online batches (R290 to R292), forces (R293 to R295), overrun and safe stop (R296, R297), starts (R298).
-/

namespace Sys2Proof.Machine

open Sys2Proof

/-! ### Start and stop (R298) -/

def State.churnFlag (s : State) (flag : Nat) (info : Nat := 0) : State := s.setFlag 64 flag (some info)

def engineCode : EngineState → Nat
  | .stopped => 0 | .running => 1 | .safeStop => 2

/-- ENGINE_STATE and its SAFE_STOP flag. -/
def State.setEngine (s : State) (e : EngineState) : State :=
  ((s.setChurn fun c => { c with state := e }).setReg Od.churnEngineState (engineCode e)).stand 64 1 (decide (e = .safeStop))

/-- An accepted batch is discarded. -/
def State.refuseBatch (s : State) (cause : Nat) : State :=
  ((s.setChurn fun c => { c with batch := none }).count 32 Od.churnBatchRefused).churnFlag 4 cause

/-- A batch waits: accepted here, or on its way as a CHANGE section. -/
def State.batchPending (s : State) : Bool := s.churn.batch.isSome || s.pair.changes.any fun c => c.index = 0x5020

/-- The initial values of a program (R272). -/
def initialVars (bs : List Byte) : Vars :=
  (programInits bs).foldl (fun v (space, _, i, x) => if space = 0 then v.setBit i (bit x 0) else v.setWord i (toSigned 32 x)) {}

/-- Start afresh at a cycle boundary with the committed program and tables. -/
def State.churnStart (s : State) : State :=
  let c := s.churn
  let program := if c.loadConstants || c.program.isEmpty then s.blob Od.churnProgram else c.program
  let s1 := s.when_ s.batchPending fun t => (t.refuseBatch 7).setPair fun p => { p with changes := p.changes.filter (·.index ≠ 0x5020) }
  let s2 := s1.setChurn fun c => { c with
    committed := initialVars program, working := {}, evaluating := false, evalDone := false, firstCycle := true
    startDue := false, loadConstants := false, lastSkipped := false, overrunRun := 0, doneAt := none, elapsed := 0
    cycleCount := 0, program := program, inputs := s.blob Od.churnInputTable, outputs := s.blob Od.churnOutputTable
    cycleTicks := s.reg Od.churnCycleTicks, constants := if c.loadConstants then [] else c.constants, inputsDone := []
    adopt := none, poisoned := false }
  ((s2.setReg Od.churnProgramId (programId program)).setEngine .running).churnFlag 5

/-- A write of 1 to RESTART clears MAX_EVAL_NS and, where the engine is enabled, starts it afresh (R298, R300). -/
def State.applyRestart (s : State) (value : Nat) : State :=
  if value = 0 then s
  else (s.setReg Od.churnMaxEvalNs 0).setChurn fun c => { c with startDue := c.startDue || s.on Od.churnEnable }

def State.writeRestart (s : State) (value : Nat) : Answer :=
  if 2 ≤ value then s.refuse stTypeMismatch else (s.applyRestart value).ok

def execRestart (at_ : Instant) (value : Nat) (s : State) : Result :=
  act true 10 (s.arrive at_) fun s => (s.writeRestart value).told

/-! ### Forces (R293 to R295) -/

/-- The active forces as the entries give them. -/
def State.forceTable (s : State) : Tab Nat :=
  (List.range 1024).foldl (fun t f =>
    let w := s.reg (Od.force f)
    if bit w 63 then Tab.insert t (field w 32 17) (field w 0 32) else t) []

/-- The force changes of the entries take effect. -/
def State.applyForces (s : State) : State :=
  let t := s.forceTable
  ((s.setChurn fun c => { c with forces := t }).setReg Od.forcesActive t.length).stand 64 2 (!t.isEmpty) (some 0)

/-- A write of a force entry that would make two enabled entries name one variable is refused. -/
def State.forceCheck (s : State) (f value : Nat) : Option Nat :=
  let clash := bit value 63 && (List.range 1024).any fun g =>
    g ≠ f && bit (s.reg (Od.force g)) 63 && field (s.reg (Od.force g)) 32 17 = field value 32 17
  if clash then some stInvalidValue else none

/-- The entry's bits but the reserved ones. -/
def forceWord (value : Nat) : Nat := field value 0 49 + 2 ^ 63 * b2n (bit value 63)

def State.writeForce (s : State) (f value : Nat) : Answer :=
  s.livePair (0x5110 + f / 128) (1 + f % 128) (beBytes 8 value) (s.forceCheck f value) fun t =>
    t.setReg (Od.force f) (forceWord value)

def execForceWrite (at_ : Instant) (entry value : Nat) (s : State) : Result :=
  act (entry < 1024) 10 (s.arrive at_) fun s => (s.writeForce entry value).told

/-- RELEASE_ALL disables every entry; the releases take effect at one boundary. -/
def State.applyReleaseAll (s : State) (value : Nat) : State :=
  if value = 0 then s
  else s.each (List.range 1024) fun f t => t.setReg (Od.force f) (setBit (t.reg (Od.force f)) 63 false)

def State.writeReleaseAll (s : State) (value : Nat) : Answer :=
  if 2 ≤ value then s.refuse stTypeMismatch
  else s.livePair 0x5100 0x02 (beBytes 1 value) none fun t => t.applyReleaseAll value

def execReleaseAll (at_ : Instant) (value : Nat) (s : State) : Result :=
  act true 10 (s.arrive at_) fun s => (s.writeReleaseAll value).told

/-! ### Online batches (R290 to R292) -/

structure BatchEntry where
  kind : Nat
  target : Nat
  value : Nat
  deriving DecidableEq, Repr

def batchEntries (bs : List Byte) : List BatchEntry :=
  (pieces 8 (beAt bs 0 1) (bs.drop 8)).map fun r => ⟨beAt r 0 1, beAt r 2 2, beAt r 4 4⟩

/-- The constants of a batch over those in use, by block. -/
def batchConstants (es : List BatchEntry) (old : Tab Nat) : Tab Nat :=
  es.foldl (fun t e => if e.kind = 3 then Tab.insert t e.target e.value else t) old

/-- A new constant is admitted for its block; `writes` are the variables of every other block. -/
def constantOk (b : Blk) (k : Nat) (writes : List Nat) : Bool :=
  (kParameter b.type || bit b.flags 4) && kOk b.type k && !(b.type = 41 && 65536 < b.a + k) &&
    (b.type ≠ 42 || (blockWrites b k).all fun v => v < 65536 && 0x1000 ≤ v && !writes.contains v)

/-- The status of the first entry of a batch that fails, if any. -/
def State.batchFault (s : State) (blocks : List Blk) (new : Tab Nat) : List (Nat × Nat) → List BatchEntry → Option Nat
  | _, [] => none
  | seen, e :: es =>
    let key := (if e.kind = 3 then 2 else e.kind - 1, e.target)
    let bad :=
      if seen.contains key then some stInvalidValue
      else if e.kind = 1 || e.kind = 2 then
        if e.target < 0x1000 then some stInvalidValue
        else if (Tab.find s.churn.forces ((e.kind - 1) * 65536 + e.target)).isSome then some stForced
        else none
      else if e.kind = 3 then
        match blocks[e.target]? with
        | none => some stInvalidValue
        | some b =>
          let others := (blocks.zipIdx.map fun (c, n) =>
            if n = e.target then [] else blockWrites c ((Tab.find new n).getD c.k)).flatten
          if constantOk b e.value others then none else some stInvalidValue
      else some stInvalidValue
    match bad with
    | some code => some code
    | none => State.batchFault s blocks new (key :: seen) es

/-- The status a batch is refused with, BUSY aside. -/
def State.batchCheck (s : State) (bs : List Byte) : Option Nat :=
  let n := beAt bs 0 1
  if bs.length < 8 || n = 0 || 64 < n || bs.length ≠ 8 + 8 * n || beAt bs 4 4 ≠ programId s.churn.program then
    some stInvalidValue
  else
    let es := batchEntries bs
    s.batchFault s.churn.blocks (batchConstants es s.churn.constants) [] es

/-- Accept a batch. -/
def State.acceptBatch (s : State) (bs : List Byte) (acceptedAt : Nat) : State :=
  s.setChurn fun c => { c with batch := some ⟨(batchEntries bs).map fun e => (e.kind, e.target, e.value), acceptedAt⟩ }

def State.writeBatch (s : State) (bs : List Byte) : Answer :=
  if s.churn.state ≠ .running || s.batchPending then s.refuse stBusy
  else s.livePair 0x5020 0x01 bs (s.batchCheck bs) fun t => t.acceptBatch bs t.now

def execOnlineBatch (at_ : Instant) (batch : List Byte) (s : State) : Result :=
  act true 10 (s.arrive at_) fun s => (s.writeBatch batch).told

/-- A written value becomes Q' of the block that reads its output back (R292). -/
def Vars.setQ (v : Vars) (blocks : List Blk) (space target value : Nat) : Vars :=
  blocks.zipIdx.foldl (fun (v : Vars) (b, n) =>
    if !holdsQ b.type || b.out ≠ target || (b.type = 43) != (space = 1) then v
    else if space = 1 then { v with q := Tab.put v.q n (toSigned 32 value) 0 }
    else { v with q := Tab.put v.q n (if Sys2Proof.bit value 0 != Sys2Proof.bit b.flags 3 then 1 else 0) 0 }) v

/-- The entries of a batch apply to the committed state. -/
def Churn.applyEntries (c : Churn) (es : List (Nat × Nat × Nat)) : Churn :=
  let blocks := c.blocks
  es.foldl (fun (c : Churn) (kind, target, value) =>
    if kind = 3 then { c with constants := Tab.insert c.constants target value }
    else
      let v := if kind = 1 then c.committed.setBit target (bit value 0) else c.committed.setWord target (toSigned 32 value)
      { c with committed := v.setQ blocks (kind - 1) target value }) c

/-- The pending batch at a cycle boundary (R292). -/
def State.applyBatch (s : State) : State :=
  match s.churn.batch with
  | none => s
  | some b =>
    if s.now < b.acceptedAt + ofUs 10 then s
    else
      let forces := s.forceTable
      if b.entries.any fun (kind, target, _) => kind ≠ 3 && (Tab.find forces ((kind - 1) * 65536 + target)).isSome then s.refuseBatch 8
      else
        ((s.setChurn fun c => { c.applyEntries b.entries with batch := none }).count 32 Od.churnBatchesApplied).churnFlag 3

/-! ### Outputs (R287 to R289, R297) -/

/-- What drives the outputs: the committed values, the values before the first cycle, those of SAFE_STOP. -/
inductive Drive where
  | run | start | stop
  deriving DecidableEq, Repr

/-- The 32-bit value of a record. -/
def State.outValue (s : State) (mode : Drive) (r : OutRec) : Nat :=
  let current := if r.word then s.churnWord r.variable_ else b2n (s.churnBit r.variable_)
  let safe := if r.word then r.safe else r.safe % 2
  match mode with
  | .run => current
  | .start => if r.hold then 0 else safe
  | .stop => if r.hold then current else safe

/-- A value in a member's type. -/
def memberValue (ty : Nat) (word : Bool) (v : Nat) : Nat :=
  match ty with
  | 1 => b2n (decide (v ≠ 0))
  | 4 => if word then f32Round ((toSigned 32 v : Rat) / 65536) false else f32Round (v : Rat) false
  | 5 => v % 4
  | _ => v

/-- The tick whose image the outputs come from. -/
def State.churnImage (s : State) : Nat :=
  (match s.churn.doneAt with
    | some t => tickOf s.rate t
    | none => s.workTick) - s.lag

/-- Drive one output. -/
def State.driveOne (s : State) (mode : Drive) (rs : List OutRec) (r : OutRec) : State :=
  let v := s.outValue mode r
  match r.kind with
  | 1 =>
    let ty := (s.pubTypes r.target).getD r.member 0
    let quality := if rs.any fun q => q.kind = 2 && q.target = r.target && q.member = r.member then none else some 0
    s.writeMember s.churnImage r.target r.member (some (memberValue ty r.word v)) quality
  | 2 => s.writeMember s.churnImage r.target r.member none (some (v % 2 ^ 13))
  | 3 => s.setReg (Od.pwordPartitionWord r.target) v
  | 4 => s.driveMode r.target v
  | 5 => s.setChurn fun c => { c with freezeGroups := setBit c.freezeGroups r.target (v ≠ 0) }
  | 6 =>
    let rise := v ≠ 0 && !s.churn.prevTrigger
    (s.setChurn fun c => { c with prevTrigger := v ≠ 0 }).when_ rise fun t => t.trigger (t.workTick - t.lag)
  | 7 => s.setChurn fun c => { c with gpioOut := Tab.insert c.gpioOut r.target (v ≠ 0) }
  | _ => s

/-- Drive every output in table order. -/
def State.driveOutputs (s : State) (mode : Drive) : State :=
  let rs := outRecords s.churn.outputs
  s.each rs fun r t => t.driveOne mode rs r

/-! ### The snapshot (R271, R283 to R286) -/

/-- A path had the partner's heartbeat of the work tick just ended. -/
def State.partnerPresent (s : State) : Bool :=
  s.paired && (s.pair.link.ticks.contains (s.workTick - 1) || s.pair.station.ticks.contains (s.workTick - 1))

/-- A GPIO land as the fixed inputs read it. -/
def State.gpioRead (s : State) (g : Nat) : Bool :=
  if bit (s.reg (Od.gpioConfig g)) 0 then Tab.look s.churn.gpioOut g false else bit s.churn.gpio g

/-- The fixed inputs. -/
def State.fixedInputs (s : State) : Vars :=
  let img := s.imageOf (s.workTick - s.lag)
  let time := match img with
    | some x => x.timeState
    | none => 0
  let alive := (s.subs.filter fun e => e.2.alive && s.on (Od.gsEnable e.1)).map (·.1)
  let streams := match img with
    | some x => x.alive.map (0x400 + ·)
    | none => []
  let flags := [(0x610, s.churn.firstCycle), (0x611, true), (0x612, decide (s.pair.role = Role.lead)), (0x613, s.partnerPresent),
    (0x614, decide (time = 2)), (0x615, decide (time = 2 ∨ time = 3)), (0x616, s.churn.lastSkipped)]
  let gpio := (List.range 16).map fun g => (0x600 + g, s.gpioRead g)
  let bits := (alive ++ streams).map (fun i => (i, true)) ++ gpio ++ flags
  let e := ofSigned 64 s.churn.elapsed
  let words := (List.range 32).map (fun l => (l, s.loopStatus l)) ++
    [(0x20, e % 2 ^ 32), (0x21, e / 2 ^ 32), (0x22, s.workTick % 2 ^ 32), (0x23, s.workTick / 2 ^ 32 % 2 ^ 32),
      (0x24, s.churn.cycleCount), (0x25, s.churn.overrunRun)]
  { bits := bits.foldl (fun t e => Tab.put t e.1 e.2 false) [], words := words.foldl (fun t e => Tab.put t e.1 e.2 0) [] }

/-- The STATUS word of an image slot or phasor record of the cycle's image. -/
def State.statusInput (s : State) (phasor : Bool) (i : Nat) : Nat :=
  let g := s.workTick - s.lag
  let found := if phasor then
      if s.phasorsOf g then (Tab.find s.dp.phasors (g % 64 * 8192 + i)).map (·.status) else none
    else (s.imageOf g).bind fun x => (Tab.find x.slots i).map (·.status)
  found.getD 0x0101

/-- A member cell as a bit or as a word, FLOAT32 converted. -/
def memberInput (word : Bool) (ty c : Nat) : Nat :=
  if !word then cellValue c % 2 else if ty = 4 then ofSigned 32 (f32ToQ16 (cellValue c)) else cellValue c

/-- The value of a bound input. -/
def State.boundInput (s : State) (r : InRec) : Nat :=
  match r.kind with
  | 1 => memberInput r.word ((memberTypes (s.reg (Od.gsMemberTypes r.source))).getD r.member 0)
      (Tab.look (s.sub r.source).snapCells r.member 0)
  | 2 =>
    let q := cellQuality (Tab.look (s.sub r.source).snapCells r.member 0)
    b2n ((s.sub r.source).alive && q % 4 = 0 && !bit q 11)
  | 5 => memberInput r.word ((s.pubTypes r.source).getD r.member 0) (Tab.look (s.pub r.source).cells r.member 0)
  | k =>
    let w := s.statusInput (k = 4) r.source
    if r.word then w else if r.good then b2n (decide (w % 4 = 0)) else b2n (bit w r.bitNo)

/-- The committed variables with the snapshot in the input areas. -/
def State.withInputs (s : State) (v : Vars) : Vars :=
  let f := s.fixedInputs
  let bound := (inRecords s.churn.inputs).foldl (fun (v : Vars) r =>
    if r.word then v.setWord r.variable_ (toSigned 32 (s.boundInput r)) else v.setBit r.variable_ (bit (s.boundInput r) 0)) f
  { v with
    bits := bound.bits ++ v.bits.filter (0x1000 ≤ ·.1)
    words := bound.words ++ v.words.filter (0x1000 ≤ ·.1) }

/-- Take the snapshot and start the evaluation (R279, R281). -/
def State.churnSnapshot (s : State) : State :=
  let at_ := s.tickAt s.workTick
  let elapsed := match s.churn.doneAt with
    | some t => dripDiff at_ t
    | none => 0
  let s1 := s.setChurn fun c => { c with elapsed := elapsed }
  let v := s1.withInputs s1.churn.committed
  s1.setChurn fun c => { c with
    committed := v, working := v, evaluating := true, evalDone := false, snapAt := at_, snapTick := s.workTick }

/-! ### The cycle (R281, R296, R297, R341, R354) -/

/-- A completed evaluation is committed. -/
def State.churnCommit (s : State) : State :=
  (s.setChurn fun c => { c with
    committed := c.working, inputsDone := c.working.words.filter (·.1 < 0x1000), doneAt := some c.snapAt, overrunRun := 0
    lastSkipped := false, firstCycle := false, cycleCount := (c.cycleCount + 1) % 2 ^ 32, evaluating := false }).count 32
      Od.churnCycles

/-- A lead in SAFE_STOP gives the lead to a partner in FOLLOW whose engine runs (R354). -/
def State.safeStopYield (s : State) : State :=
  let able := match s.pair.partner with
    | some hb => s.partnerPresent && hb.state = 2 && bit hb.flags 2
    | none => false
  if s.churn.state = .safeStop && s.pair.role = .lead && !s.pair.relinquishSent && able && s.linkUp then
    (s.newRole 1 2 s.workTick 0).setPair fun p => { p with relinquishSent := true }
  else s

/-- The evaluation has not completed: the cycle is skipped, and enough of them in a row stop the engine. -/
def State.churnOverrun (s : State) : State :=
  let run := s.churn.overrunRun + 1
  let s1 := ((s.setChurn fun c => { c with overrunRun := run, lastSkipped := true, evaluating := false }).count 32
    Od.churnOverruns).churnFlag 0
  if s.reg Od.churnOverrunLimit ≤ run then (s1.setEngine .safeStop).safeStopYield else s1

/-- The lead's section in place of the commit step. -/
def State.churnAdopt (s : State) (bs : List Byte) : State :=
  let flags := beAt bs 9 1
  let c := s.churn
  let s1 := s.setChurn fun c => { c with
    cycleCount := beAt bs 4 4, overrunRun := beAt bs 8 1, lastSkipped := bit flags 2, evaluating := false, adopt := none, poisoned := false }
  if bit flags 2 then s1
  else
    let own := if c.evaluating && c.evalDone then c.working else c.committed
    let s2 := (s1.setChurn fun x => { x with
      committed := adoptedVars c.program own bs, inputsDone := own.words.filter (·.1 < 0x1000)
      doneAt := some (s.tickAt (beAt bs 16 8)), firstCycle := bit flags 0 }).count 32 Od.churnCycles
    s2.setEngine .running

/-- The commit step. -/
def State.churnCommitStep (s : State) : State :=
  match s.churn.adopt with
  | some bs => s.churnAdopt bs
  | none =>
    if s.churn.state = .safeStop || !s.churn.evaluating then s
    else if s.churn.evalDone then s.churnCommit
    else s.churnOverrun

/-- The groups' DC freeze requests that the engine commits at a boundary are those R181 samples there (R288). -/
def State.sampleGroups (s : State) : State :=
  { s with dp := { s.dp with freezeNow := { s.dp.freezeNow with groups := s.churn.freezeGroups } } }

/-- The steps of R281 at a cycle boundary; in SAFE_STOP nothing is evaluated, and what is due still applies (R297). -/
def State.churnCycle (s : State) : State :=
  let s1 := (s.setChurn fun c => { c with boundaryAt := some s.workTick }).churnCommitStep
  let s2 := s1.applyBatch.applyForces
  (s2.driveOutputs (if s2.churn.state = .safeStop then .stop else if s2.churn.firstCycle then .start else .run)).sampleGroups

/-- The engine acts at the boundary of the work tick: a start, or a cycle boundary of the engine as it runs (R267). -/
def State.churnDue (s : State) : Bool :=
  s.churn.boundaryAt ≠ some s.workTick &&
    ((s.churn.startDue && s.workTick % max 1 (s.reg Od.churnCycleTicks) = 0) ||
      (s.churn.state ≠ .stopped && s.workTick % max 1 s.churn.cycleTicks = 0))

/-- The boundary: a start that is due, then the cycle up to the outputs. -/
def State.churnBoundary (s : State) : State :=
  if !s.churnDue then s
  else
    let s1 := if s.churn.startDue && s.workTick % max 1 (s.reg Od.churnCycleTicks) = 0 then s.churnStart else s
    if s1.churn.state = .stopped || s1.workTick % max 1 s1.churn.cycleTicks ≠ 0 then
      s1.setChurn fun c => { c with boundaryAt := some s.workTick }
    else s1.churnCycle

/-- How long an evaluation that ends now has run, in ns: it began at its boundary or at most 10 µs later, and the spec does
not state when, so a free delay (R281, log 61). -/
def State.evalNs (s : State) : Nat :=
  let ns := (s.now - s.churn.snapAt) * 1000000000 / 2 ^ 36
  ns - s.freeBelow (min ns 10000 + 1)

/-- CHURN_EVAL_DONE: in time, the evaluation is complete; later it has overrun and the lead's section says so (R296, R338). -/
def State.churnEvalEnd (s : State) : State :=
  let c := s.churn
  if c.state ≠ .running || !c.evaluating || c.evalDone then s
  else if s.now ≤ s.tickAt (c.snapTick + c.cycleTicks) - ofUs 5 then
    let ns := s.evalNs
    ((s.drew.setChurn fun c => { c with working := c.evaluated, evalDone := true }).setReg Od.churnLastEvalNs ns).setReg
      Od.churnMaxEvalNs (max ns (s.reg Od.churnMaxEvalNs)) |>.sendChurn
  else s.sendChurn

def execChurnEvalDone (at_ : Instant) (s : State) : Result := act true 10 (s.arrive at_) fun s => s.churnEvalEnd

/-! ### GPIO (R286) -/

/-- One sample of an input land at its level. -/
def State.gpioSampleOne (s : State) (g : Nat) (land : Bool) : State :=
  let w := s.reg (Od.gpioConfig g)
  if bit w 0 then s
  else
    let level := b2n (land != bit w 1)
    let run := match Tab.find s.churn.gpioRun g with
      | some (l, n) => if l = level then n + 1 else 1
      | none => 1
    let take := max 1 (field w 8 14) ≤ run
    s.setChurn fun c => { c with
      gpioRun := Tab.insert c.gpioRun g (level, min run 10000)
      gpio := if take then setField c.gpio g 1 level else c.gpio }

def execGpioSample (at_ : Instant) (levels : Nat) (s : State) : Result :=
  act true 11 (s.arrive at_) fun s => s.each (List.range 16) fun g t => t.gpioSampleOne g (bit levels g)

end Sys2Proof.Machine
end

