-- ==== Sys2Proof/Machine/Goose.lean ====
section
/-!
DEFINITION. GOOSE: subscriptions (R249, R285, R464 to R468, 14_dictionary_map.md), publications and their frames (R336, R343, R344,
10_station_pair.md), the COUNTERS section (R338), and the churn engine's cycle boundary (R281), at which churn-owned publications
form their frames.
-/

namespace Sys2Proof.Machine

open Sys2Proof

/-! ### GOOSE_MESSAGE_RECEIVED (R465 to R467) -/

/-- Newer in 32-bit serial arithmetic. -/
def newer32 (a b : Nat) : Bool :=
  let d := (a + 2 ^ 32 - b % 2 ^ 32) % 2 ^ 32
  0 < d && d < 2 ^ 31

/-- A flag of GOOSE_SUB; INFO is the subscription (R470). -/
def State.gsFlag (s : State) (flag n : Nat) : State := s.setFlag 36 flag (some n)

/-- Count one in a counter of subscription `n`. -/
def State.gsCount (s : State) (k n : Nat) : State := s.countEv k 36 (some n)

/-- The subscription a message matches (R465). -/
def State.gsMatch (s : State) (m : GooseMsg) : Option Nat :=
  (List.range 1024).find? fun n =>
    s.on (Od.gsEnable n) && s.reg (Od.gsDstMac n) = m.dst && s.reg (Od.gsAppid n) = m.appid &&
      (s.reg (Od.gsVid n) = 0xFFFF || s.reg (Od.gsVid n) = s.readVid m.port m.tag) && s.blob (Od.gsGocbRef n) = m.gocbRef

/-- The last accepted message is no older at an instant than its timeAllowedToLive in ms (R285). -/
def Sub.aliveAt (x : Sub) (t : Nat) : Bool := x.lastRx.any fun a => t ≤ a + ofMs x.ttl

/-- The sequence check of R467. -/
def Sub.inSequence (x : Sub) (t : Nat) (m : GooseMsg) : Bool :=
  !x.aliveAt t || newer32 m.stNum x.stNum || (m.stNum = x.stNum && newer32 m.sqNum x.sqNum) || (m.stNum = 1 && m.sqNum = 0)

/-- The message follows the last accepted one. -/
def Sub.successor (x : Sub) (m : GooseMsg) : Bool :=
  (m.stNum = x.stNum && m.sqNum = (x.sqNum + 1) % 2 ^ 32) || (m.stNum = (x.stNum + 1) % 2 ^ 32 && m.sqNum = 0)

/-- Member types of a subscription. -/
def State.subTypes (s : State) (n : Nat) : List Nat := memberTypes (s.reg (Od.gsMemberTypes n))

/-- The cells a message's members fill (R246). -/
def memberCells (ms : List Member) : Tab Nat :=
  ms.zipIdx.foldl (fun t (m, i) => Tab.put t i (cell m.type m.value m.quality) 0) []

/-- SUB_STATUS flags of a message: TEST and NDS_COM (R249, R466). -/
def messageFlags (m : GooseMsg) : Nat := 2 * b2n m.test + 4 * b2n m.ndsCom

/-- An accepted message. -/
def State.gsAccept (s : State) (n : Nat) (m : GooseMsg) : State :=
  let x := s.sub n
  let gap := x.lastRx.isSome && !x.successor m
  let s1 := s.setSub n { x with
    cells := memberCells m.members, stNum := m.stNum, sqNum := m.sqNum, ttl := m.ttl, flags := messageFlags m
    lastRx := some s.now, lastTick := s.tickNow }
  let s2 := (((s1.gsCount (Od.gsFrames n) n).setReg (Od.gsStnum n) m.stNum).setReg (Od.gsSqnum n) m.sqNum).setReg (Od.gsLastRx n) s.now
  s2.when_ gap fun t => (t.gsCount (Od.gsSeqGap n) n).gsFlag 5 n

/-- A failing check's flag of R249 stands until the next accepted message. -/
def State.gsMark (s : State) (n flag : Nat) : State :=
  s.setSub n { s.sub n with flags := setBit (s.sub n).flags flag true }

/-- The checks of R466 in the table's order. -/
def State.gsReceive (s : State) (m : GooseMsg) : State :=
  match if s.cut 0 then none else s.gsMatch m with
  | none => s
  | some n =>
    let confRev := s.reg (Od.gsConfRev n)
    let datSet := s.blob (Od.gsDatset n)
    if !bit (s.reg (Od.gsIngressMask n)) m.port then s.gsCount (Od.gsWrongPort n) n
    else if (confRev ≠ 0 && confRev ≠ m.confRev) || (!datSet.isEmpty && datSet ≠ m.datSet) then
      ((s.gsMark n 3).gsCount (Od.gsConfRevMismatch n) n).gsFlag 4 n
    else if m.members.map (·.type) ≠ s.subTypes n then s.gsCount (Od.gsMalformed n) n
    else if m.sim != s.on (Od.gsSimAccept n) || (m.test && !s.on (Od.gsTestAccept n)) then s.gsCount (Od.gsTestSimDiscard n) n
    else
      let v := if s.on (Od.gsAuthMode n) then
          s.verifyAuth (s.reg (Od.gsKeySlotA n)) (s.reg (Od.gsKeySlotB n)) .gooseVerify m.auth
        else (true, s)
      let x := s.sub n
      if !v.1 then ((v.2.gsMark n 4).gsCount (Od.gsAuthFail n) n).gsFlag 3 n
      else if x.inSequence s.now m then v.2.gsAccept n m
      else if m.stNum = x.stNum && m.sqNum = x.sqNum then v.2.gsCount (Od.gsDuplicate n) n
      else v.2.gsCount (Od.gsStale n) n

def execGooseMessageReceived (at_ : Instant) (msg : GooseMsg) (s : State) : Result :=
  act (msg.port < 32) 3 (s.arrive at_) fun s => s.gsReceive msg

/-! ### The subscription snapshot (R249, R285, R468, R480) -/

/-- A new stNum posts a GOOSE_CHANGE entry in every pail to which the subscription is granted. -/
def State.postChange (s : State) (n stNum : Nat) : State :=
  s.each (List.range 64) fun p t =>
    t.each ((List.range 32).filter fun i => decide (t.pailSub p i = some n)) fun i u => u.post p 0x09 i stNum u.now

/-- The snapshot of one subscription at the boundary of the work tick. -/
def State.snapSub (s : State) (n : Nat) : State :=
  let x := s.sub n
  let alive := s.on (Od.gsEnable n) && x.aliveAt (s.tickAt s.workTick)
  let age := if x.lastRx.isSome then min (s.workTick - x.lastTick) (2 ^ 32 - 1) else 2 ^ 32 - 1
  let s1 := (s.setSub n { x with
    snapCells := x.cells, snapSt := x.stNum, snapSq := x.sqNum, snapFlags := setBit x.flags 0 alive, snapAge := age
    alive := alive }).setReg (Od.gsAlive n) (b2n alive)
  let s2 := if alive = x.alive then s1 else s1.gsFlag (if alive then 2 else 1) n
  s2.when_ (x.stNum ≠ x.snapSt) fun t => t.postChange n x.stNum

/-- The snapshot of every subscription that has accepted a message. -/
def State.snapSubs (s : State) : State := s.each (s.subs.map (·.1)) fun n t => t.snapSub n

/-! ### Publications (R343, R344) -/

/-- A member cell without TIMESTAMP members, as 8 octets; the dataset of a publication. -/
def State.datasetBytes (s : State) (j : Nat) (cells : Tab Nat) : List Byte :=
  ((List.range 32).map fun m => leBytes 8 (Tab.look (s.plainCells j cells) m 0)).flatten

/-- First 8 octets of SHAKE256 of a dataset (R338). -/
def State.datasetHash (s : State) (j : Nat) (cells : Tab Nat) : List Byte := shake256 (s.datasetBytes j cells) 8

/-- Work ticks of an interval in ms. -/
def State.intervalTicks (s : State) (ms : Nat) : Nat := ceilDiv (ms * s.rate) 1000

/-- timeAllowedToLive in ms of an interval of `n` work ticks. -/
def State.ttlOf (s : State) (n : Nat) : Nat := ceilDiv (2 * n * 1000) s.rate

/-- A sequence number one on: it wraps to 1. -/
def nextNum (n : Nat) : Nat := if n = 2 ^ 32 - 1 then 1 else n + 1

/-- The dataset differs from the last one sent, the lead's where a COUNTERS section was adopted. -/
def State.pubChanged (s : State) (j : Nat) : Bool :=
  let x := s.pub j
  match x.adopted with
  | some h => s.datasetHash j x.cells ≠ h
  | none => s.plainCells j x.cells ≠ s.plainCells j x.lastSent

/-- The publisher state after the boundary of the work tick, and whether a frame goes out there. -/
def State.pubStep (s : State) (j : Nat) : Pub × Bool :=
  let x := s.pub j
  let least := s.reg (Od.gpMinTime j)
  let sent : Pub := { x with lastSent := x.cells, stampSent := x.stamp, adopted := none, fresh := false }
  if x.fresh then
    ({ sent with stNum := 1, sqNum := 0, interval := least, ticksLeft := s.intervalTicks least, changedAt := s.tickAt s.workTick }, true)
  else if s.pubChanged j then
    ({ sent with
        stNum := nextNum x.stNum, sqNum := 0, interval := least, ticksLeft := s.intervalTicks least
        changedAt := s.tickAt s.workTick }, true)
  else if x.ticksLeft ≤ 1 then
    let ms := min (2 * x.interval) (s.reg (Od.gpMaxTime j))
    ({ sent with sqNum := nextNum x.sqNum, interval := ms, ticksLeft := s.intervalTicks ms }, true)
  else ({ sent with ticksLeft := x.ticksLeft - 1 }, false)

/-- The module publishes: its role does, and it has not withdrawn (R30, R329). -/
def State.publishes (s : State) : Bool :=
  decide (s.pair.role = Role.follow ∨ s.pair.role = Role.lead) && !s.power.withdrawn

/-- The closed-loop engine writes a publication (R318). -/
def State.pubOfLoops (s : State) (j : Nat) : Bool := s.heads.any fun l => s.reg (Od.loopOutPub l) = j

/-- The frame of a publication is withheld: by the pair, for a double-bit error in the engine that writes it, or with its pail
in the tick just ended (R248, R337, R402). -/
def State.pubWithheld (s : State) (j : Nat) : Bool :=
  s.pair.withhold || (s.churn.poisoned && !s.pubOwned j && (outRecords s.churn.outputs).any fun r => r.kind ≤ 2 && r.target = j) ||
    (s.loops.poisoned && s.pubOfLoops j) ||
    (List.range 64).any fun p =>
    (s.pail p).suppressed && (List.range 16).any fun i => decide (s.pailPub p i = some j)

/-- The octets an authentication extension covers: every field the frame carries. -/
def State.gooseOctets (s : State) (j : Nat) (x : Pub) : List Byte :=
  beBytes 6 (s.reg (Od.gpDstMac j)) ++ beBytes 2 (s.reg (Od.gpAppid j)) ++ s.blob (Od.gpGocbRef j) ++ s.blob (Od.gpDatset j) ++
    s.blob (Od.gpGoId j) ++ beBytes 4 (s.reg (Od.gpConfRev j)) ++ beBytes 4 x.stNum ++ beBytes 4 x.sqNum ++
    beBytes 4 (s.ttlOf x.ticksLeft) ++ beBytes 10 x.changedAt ++
    ((List.range 32).map fun m =>
      if (s.pubTypes j).getD m 0 = 6 then utcBytes (s.regI 16 Od.timeUtcOffset) x.stamp else beBytes 8 (Tab.look x.cells m 0)).flatten

/-- The Ethernet frame of a publication; its length is not stated (log 40). Source 0 stands for the egress port's own. -/
def State.gooseFrame (s : State) (j : Nat) (x : Pub) : Frame :=
  { dst := s.reg (Od.gpDstMac j), src := if s.reg (Od.gpSrcMode j) = 1 then s.reg Od.pairServiceMac else 0
    tag := some ⟨field (s.reg (Od.gpVidPcp j)) 0 12, field (s.reg (Od.gpVidPcp j)) 12 3⟩, etherType := 0x88B8
    appid := s.reg (Od.gpAppid j), hsr := none, prp := none
    len := 64 + Config.gooseLength j (s.pubTypes j) (x.cells.map (·.2)) % 1459, body := s.gooseOctets j x }

/-- A flag of GOOSE_PUB; INFO is the publication (R470). -/
def State.gpFlag (s : State) (flag j : Nat) : State := s.setFlag 37 flag (some j)

/-- Send a publication's frame, with its authentication extension where AUTH_MODE asks for one; a key that cannot be used lets
none go (R377, R378). -/
def State.sendGoose (s : State) (j : Nat) (x : Pub) : State :=
  let signs := s.reg (Od.gpAuthMode j) = 1
  let slot := s.reg (Od.gpKeySlot j)
  let state := if signs then s.usable slot .gooseSign else Usable.ok
  match state with
  | .denied => s
  | .orphaned => (s.useSlot slot .gooseSign).2.gpFlag 1 j
  | .ok =>
    let auth := if signs then mac62351 (s.slotRecord slot).alg (s.slotKey slot) (s.gooseOctets j x) else []
    (s.emit (.goose j x.stNum x.sqNum (s.ttlOf x.ticksLeft) x.changedAt x.cells x.stamp auth)).sendOwn (s.gooseFrame j x) none none 0 none
      |>.state

/-- One publication forms its frame (R343); a withheld one counts and is not sent. -/
def State.formPub (s : State) (j : Nat) : State :=
  let r := s.pubStep j
  let s1 := ((s.setPub j r.1).setReg (Od.gpStnum j) r.1.stNum).setReg (Od.gpSqnum j) r.1.sqNum
  if !r.2 || !s1.publishes then s1
  else if s1.pubWithheld j then (s1.count 32 (Od.gpWithheld j)).gpFlag 0 j
  else s1.sendGoose j r.1

/-- The enabled publications. -/
def State.pubsOn (s : State) : List Nat := (List.range 256).filter fun j => s.on (Od.gpEnable j)

/-- Form the frames of the pail-owned publications, or of the others. -/
def State.formPubs (s : State) (owned : Bool) : State :=
  s.each (s.pubsOn.filter fun j => s.pubOwned j = owned) fun j t => t.formPub j

/-! ### The COUNTERS section and the output hash (R336, R338, R341) -/

/-- The number of doublings from MIN_TIME to an interval, at most `n` of them. -/
def intervalStep (least ms : Nat) : Nat → Nat
  | 0 => 0
  | n + 1 => if ms ≤ least then 0 else 1 + intervalStep (2 * least) ms n

/-- The publisher state of publication `j` in 24 octets. -/
def State.counterRecord (s : State) (j : Nat) : List Byte :=
  let x := s.pub j
  beBytes 4 x.stNum ++ beBytes 4 x.sqNum ++ beBytes 4 x.ticksLeft ++ beBytes 1 (intervalStep (s.reg (Od.gpMinTime j)) x.interval 16) ++
    beBytes 1 (b2n x.fresh) ++ beBytes 2 0 ++ s.datasetHash j x.lastSent

def State.countersSection (s : State) : List Byte := ((List.range 256).map s.counterRecord).flatten

/-- The lead sends its publisher counters (R334). -/
def State.sendCounters (s : State) : State :=
  if s.paired && decide (s.pair.role = Role.lead) then s.sendSection 3 0 s.workTick s.countersSection else s

/-- Replace the publisher state by a COUNTERS section's. -/
def State.adoptCounters (s : State) (bs : List Byte) : State :=
  s.each s.pubsOn fun j t =>
    let r := slice bs (24 * j) 24
    let x := t.pub j
    let h := slice r 16 8
    t.setPub j { x with
      stNum := beAt r 0 4, sqNum := beAt r 4 4, ticksLeft := beAt r 8 4
      interval := min (t.reg (Od.gpMinTime j) * 2 ^ beAt r 12 1) (t.reg (Od.gpMaxTime j)), fresh := bit (beAt r 13 1) 0
      adopted := if h = t.datasetHash j x.lastSent then none else some h }

/-- The output hash of the work tick before the boundary at which the publications last formed their frames. -/
def State.outputHash (s : State) : List Byte :=
  shake256 (s.pubsOn.map fun j =>
    let x := s.pub j
    leBytes 2 j ++ ((List.range 32).map fun m => leBytes 8 (Tab.look x.lastSent m 0)).flatten ++ leBytes 4 x.stNum ++
      leBytes 4 x.sqNum).flatten 32

/-! ### CHURN_CYCLE_BOUNDARY (R267, R281, R343) -/

/-- The boundary of the engine at a work tick at which it is due: the cycle, the frames of the churn-owned publications, the
COUNTERS section, the snapshot. -/
def State.churnTick (s : State) : State :=
  if !s.churnDue then s
  else
    let s1 := (s.churnBoundary.formPubs false).sendCounters
    if decide (s1.churn.state = EngineState.running) && s1.workTick % max 1 s1.churn.cycleTicks = 0 then s1.churnSnapshot else s1

def execChurnCycleBoundary (at_ : Instant) (s : State) : Result := act true 10 (s.arrive at_) fun s => s.churnTick

end Sys2Proof.Machine
end

