-- ==== Sys2Proof/Machine/Loops.lean ====
section
/-!
DEFINITION. The closed-loop engine's commands (09_closed_loop_engine.md): unit and generator computations (R301 to R314),
overruns (R316, R317), releases, mode requests and LIVE entries (R311, R312, R321, R322).
-/

namespace Sys2Proof.Machine

open Sys2Proof

/-! ### One unit (R304, R306 to R311) -/

/-- What a member reads in a computation: y, none where it is not finite, r, ff, whether all are valid, whether the
measurement is QUESTIONABLE. -/
structure MemberIn where
  l : Nat
  y : Option Nat
  r : Nat
  ff : Nat
  valid : Bool
  questionable : Bool

/-- The sources of a member; the measurement is scaled (R304). -/
def State.memberIn (s : State) (l : Nat) : MemberIn :=
  let m := s.source (s.reg (Od.loopMeasSource l)) 0
  let r := s.source (s.reg (Od.loopSpSource l)) (s.reg (Od.loopSpValue l))
  let ff := s.source (s.reg (Od.loopFfSource l)) 0
  let y := (f64Mul (s.reg (Od.loopMeasScale l)) m.value).bind fun y0 => f64Add y0 (s.reg (Od.loopMeasOffset l))
  ⟨l, y, r.value, ff.value, m.valid && r.valid && ff.valid, m.questionable⟩

/-- A member's part of the law up to the terms that every mode needs: up, ud, f and e (R306, R310). -/
structure MemberLaw where
  i : MemberIn
  y : Nat
  e : Nat
  up : Nat
  ud : Nat
  f : Nat

def State.memberLaw (s : State) (handOver : Bool) (ts : Nat) (i : MemberIn) : Option MemberLaw := do
  let y ← i.y
  let x := s.loopAt i.l
  let dir := if s.on (Od.loopReverse i.l) then f64MinusOne else f64One
  let dState := if handOver then f64Zero else x.dState
  let yPrev := if handOver then y else x.yPrev
  let den ← f64Add (s.reg (Od.loopTf i.l)) ts
  let a ← f64Div (s.reg (Od.loopTf i.l)) den
  let b ← f64Div (s.reg (Od.loopKd i.l)) den
  let diff ← f64Sub i.r y
  let e ← f64Mul dir diff
  let up ← f64Mul (s.reg (Od.loopKp i.l)) e
  let ad ← f64Mul a dState
  let bd ← f64Mul b dir
  let dy ← f64Sub y yPrev
  let bdy ← f64Mul bd dy
  let ud ← f64Sub ad bdy
  let f ← f64Mul (s.reg (Od.loopKff i.l)) i.ff
  return ⟨i, y, e, up, ud, f⟩

/-- `x - up - ud - f`, left to right. -/
def MemberLaw.rest (m : MemberLaw) (x : Nat) : Option Nat := do
  let p ← f64Sub x m.up
  let q ← f64Sub p m.ud
  f64Sub q m.f

/-- A member's candidate: ui, v, w and c (R306, R310). -/
structure Candidate where
  m : MemberLaw
  ui : Nat
  v : Nat
  w : Nat
  c : Nat

def State.candidate (s : State) (handOver : Bool) (ts outPrev : Nat) (m : MemberLaw) : Option Candidate := do
  let l := m.i.l
  let ui ← if handOver then m.rest outPrev else do
    let kits ← f64Mul (s.reg (Od.loopKi l)) ts
    let term ← f64Mul kits m.e
    f64Add (s.loopAt l).iState term
  let v1 ← f64Add m.up ui
  let v2 ← f64Add v1 m.ud
  let v ← f64Add v2 m.f
  let w := f64Min (f64Max v (s.reg (Od.loopOutMin l))) (s.reg (Od.loopOutMax l))
  let step ← f64Mul (s.reg (Od.loopRateLimit l)) ts
  let lo ← f64Sub outPrev step
  let hi ← f64Add outPrev step
  return ⟨m, ui, v, w, f64Min (f64Max w lo) hi⟩

/-- The lowest candidate, the lowest-numbered of equals (R307). -/
def lowest : List Candidate → Option Candidate
  | [] => none
  | c :: cs => some (cs.foldl (fun best d => if f64Lt d.c best.c then d else best) c)

/-- What a completed computation leaves: the output, the winner, each member's new i_state and ud with its RATE_LIMITED
bit, whether the unit is slewing. -/
structure UnitOut where
  out : Nat
  winner : Option Nat
  members : List (MemberLaw × Nat × Bool)
  slewing : Bool

/-- AUTO (R306, R307). -/
def State.autoOut (s : State) (handOver : Bool) (ts outPrev : Nat) (ms : List MemberLaw) : Option UnitOut := do
  let cs ← ms.mapM (s.candidate handOver ts outPrev)
  let win ← lowest cs
  let out := win.c
  let members ← cs.mapM fun c => do
    let limited := !f64Same c.c c.w
    if c.m.i.l = win.m.i.l then
      let kt ← f64Mul (s.reg (Od.loopKb c.m.i.l)) ts
      let d ← f64Sub out c.v
      let p ← f64Mul kt d
      let i ← f64Add c.ui p
      return (c.m, i, limited)
    else
      let i ← c.m.rest out
      return (c.m, i, limited)
  return ⟨out, some win.m.i.l, members, false⟩

/-- MANUAL and FOLLOW: the target limited and slewed, every member tracking (R309). -/
def State.targetOut (s : State) (h ts outPrev target : Nat) (ms : List MemberLaw) : Option UnitOut := do
  let t := f64Min (f64Max target (s.reg (Od.loopOutMin h))) (s.reg (Od.loopOutMax h))
  let step ← f64Mul (s.reg (Od.loopTransferRate h)) ts
  let lo ← f64Sub outPrev step
  let hi ← f64Add outPrev step
  let out := f64Min (f64Max t lo) hi
  let members ← ms.mapM fun m => do
    let i ← m.rest out
    return (m, i, false)
  return ⟨out, none, members, !f64Same out t⟩

/-- The target of a unit in MANUAL or FOLLOW. -/
def State.unitTarget (s : State) (h mode : Nat) : SourceValue :=
  if mode = 1 then s.source (s.reg (Od.loopManualSource h)) (s.reg (Od.loopManualValue h))
  else s.source (s.reg (Od.loopFollowSource h)) (s.reg (Od.loopFollowValue h))

/-- A computation of a non-finite value is abandoned (R317). -/
def State.abandonNumeric (s : State) (h : Nat) : State :=
  let u := s.unitAt h
  let s1 := s.setUnit h { u with computedAt := some s.workTick, outBefore := u.out, numeric := true, overran := false }
  (s1.loopFlag 2 h).setLatch h

/-- The status bits of R319 that are a loop's own: WINNER, AT_HIGH, AT_LOW, RATE_LIMITED, SOURCE_INVALID,
MEAS_QUESTIONABLE, SP_MOVING. -/
def State.memberStatus (s : State) (l out : Nat) (winner limited invalid questionable : Bool) : Nat :=
  let sp := s.reg (Od.loopSpSource l)
  2 ^ 4 * b2n winner + 2 ^ 5 * b2n (f64Same out (s.reg (Od.loopOutMax l))) +
    2 ^ 6 * b2n (f64Same out (s.reg (Od.loopOutMin l))) + 2 ^ 7 * b2n limited + 2 ^ 9 * b2n invalid +
    2 ^ 10 * b2n questionable + 2 ^ 14 * b2n (srcKind sp = 10 && (s.genAt (srcIndex sp)).moving)

/-- Complete a computation: the unit's new state, SOURCE_INVALID, manual tracking. -/
def State.completeUnit (s : State) (h requested mode out : Nat) (invalid slewing : Bool) (winner : Option Nat) : State :=
  let u := s.unitAt h
  let s1 := s.setUnit h { u with
    out := out, outBefore := u.out, computedAt := some s.workTick, mode := mode, requested := requested, overrunRun := 0
    overran := false, transferring := slewing, held := mode = 3 && (u.latch || invalid), invalid := invalid, tuned := false
    winner := winner }
  let s2 := s1.when_ (invalid && !u.invalid) fun t => t.loopFlag 3 h
  s2.when_ (mode ≠ 1 && s.on (Od.loopManualTrack h) && srcKind (s.reg (Od.loopManualSource h)) = 1) fun t =>
    t.setReg (Od.loopManualValue h) out

/-- One output unit computes; in HOLD nothing is computed, so nothing is abandoned (R308, R309, R317). -/
def State.computeUnit (s : State) (h : Nat) : State :=
  let u := s.unitAt h
  let ts := s.sampleTime (s.reg (Od.loopPeriod h))
  let requested := s.requestedMode h
  let members := s.membersOf h
  let ins : List MemberIn := if requested = 3 then [] else members.map s.memberIn
  let target := if requested = 1 || requested = 2 then s.unitTarget h requested else ⟨0, true, false⟩
  let invalid := ins.any (fun i => !i.valid) || !target.valid
  let mode := if u.latch || invalid then 3 else requested
  let bad (l : Nat) : Bool := ins.any (fun i => i.l = l && !i.valid) || (l = h && !target.valid)
  let questionable (l : Nat) : Bool := ins.any fun i => i.l = l && i.questionable
  if mode = 3 then
    let s1 := s.completeUnit h requested mode u.out invalid false none
    s1.each members fun l t =>
      let x := t.loopAt l
      t.setLoop l { x with status := t.memberStatus l u.out false false (bad l) (questionable l) }
  else
    let handOver := u.mode ≠ mode || u.tuned
    let law : Option UnitOut := do
      let ms ← ins.mapM (s.memberLaw handOver ts)
      if mode = 0 then s.autoOut handOver ts u.out ms else s.targetOut h ts u.out target.value ms
    match law with
    | none => s.abandonNumeric h
    | some o =>
      let s1 := s.completeUnit h requested mode o.out invalid o.slewing o.winner
      s1.each o.members fun (m, i, limited) t =>
        let l := m.i.l
        t.setLoop l { iState := i, dState := m.ud, yPrev := m.y, measurement := m.y, setpoint := m.i.r
                      status := t.memberStatus l o.out (o.winner = some l) limited false (questionable l) }

/-- The generators due in the work tick have been computed: they come before the units (R302). -/
def State.gensDone (s : State) : Bool :=
  ((List.range 32).filter s.genDue).all fun g => (s.genAt g).computedAt = some s.workTick

/-- It is the turn of a unit: the generators and the units before it are done, and the deadline of R316 has not passed. -/
def State.unitTurn (s : State) (h : Nat) : Bool :=
  s.unitWaits h && s.gensDone && !(List.range h).any s.unitWaits && s.now ≤ s.loopDeadline

def execUnitComputation (at_ : Instant) (head : Nat) (s : State) : Result :=
  act (head < 32) 10 (s.arrive at_) fun s => if s.unitTurn head then (s.computeUnit head).sendLoops else s

/-! ### Profile generators (R313, R314) -/

/-- The step of R313 from x, vel, acc toward a target; the flag is MOVING. -/
def State.genStep (s : State) (g : Nat) (x : Gen) (tgt : Nat) : Option Gen := do
  let ts := s.sampleTime (s.reg (Od.genPeriod g))
  let vmax := s.reg (Od.genVmax g)
  let amax := s.reg (Od.genAmax g)
  let jmax := s.reg (Od.genJmax g)
  let d ← f64Sub tgt x.x
  if f64Same d f64Zero && f64Same x.vel f64Zero then
    return { x with acc := f64Zero, moving := false }
  else
    let sgn := if f64Le f64Zero d then f64One else f64MinusOne
    let m := f64Abs d
    let aa ← f64Mul amax amax
    let jj ← f64Mul (f64OfRat 2) jmax
    let h ← f64Div aa jj
    let hh ← f64Mul h h
    let a2 ← f64Mul (f64OfRat 2) amax
    let a2m ← f64Mul a2 m
    let under ← f64Add hh a2m
    let root ← f64Sqrt under
    let vs ← f64Sub root h
    let vc ← f64Mul sgn (f64Min vmax vs)
    let dv ← f64Sub vc x.vel
    let rate ← f64Div dv ts
    let ac := f64Min (f64Max rate (f64Minus amax)) amax
    let js ← f64Mul jmax ts
    let lo ← f64Sub x.acc js
    let hi ← f64Add x.acc js
    let acc := f64Min (f64Max ac lo) hi
    let da ← f64Mul acc ts
    let v0 ← f64Add x.vel da
    let vel := f64Min (f64Max v0 (f64Minus vmax)) vmax
    let dx ← f64Mul vel ts
    let xn ← f64Add x.x dx
    let left ← f64Sub tgt xn
    let ahead ← f64Mul left sgn
    if f64Le ahead f64Zero then return { x with x := tgt, vel := f64Zero, acc := f64Zero, moving := true }
    else return { x with x := xn, vel := vel, acc := acc, moving := true }

/-- One generator computes: its target, its start, its step. -/
def State.computeGen (s : State) (g : Nat) : State :=
  let x := { s.genAt g with computedAt := some s.workTick }
  let t := s.source (s.reg (Od.genTargetSource g)) (s.reg (Od.genTarget g))
  if !x.started && !t.valid then s.setGen g { x with held := true, moving := false }
  else
    let y := if x.started then { x with lastTarget := if t.valid then t.value else x.lastTarget, held := !t.valid }
      else { x with started := true, x := t.value, vel := f64Zero, acc := f64Zero, lastTarget := t.value, held := false }
    s.setGen g ((s.genStep g y y.lastTarget).getD y)

/-- A generator that is due and not yet computed in this work tick. -/
def State.genWaits (s : State) (g : Nat) : Bool := s.loopsOn && s.genDue g && (s.genAt g).computedAt ≠ some s.workTick

/-- GENERATOR_COMPUTATION, in ascending order (R302). -/
def execGeneratorComputation (at_ : Instant) (gen : Nat) (s : State) : Result :=
  act (gen < 32) 10 (s.arrive at_) fun s =>
    if s.genWaits gen && !(List.range gen).any s.genWaits then (s.computeGen gen).sendLoops else s

/-! ### Overrun and release (R316, R317) -/

def execLoopOverrun (at_ : Instant) (head : Nat) (s : State) : Result :=
  act (head < 32) 10 (s.arrive at_) fun s => if s.unitWaits head && s.loopDeadline ≤ s.now then s.overrunUnit head else s

/-- A write of RELEASE of a loop: value 1 acts if the loop is a head. -/
def State.applyLoopRelease (s : State) (l value : Nat) : State := if value = 0 then s else s.releaseLatch l

def State.writeLoopRelease (s : State) (l value : Nat) : Answer :=
  if 2 ≤ value then s.refuse stTypeMismatch
  else s.livePair (0x6000 + l) 0x1C (beBytes 1 value) none fun t => t.applyLoopRelease l value

def execLoopRelease (at_ : Instant) (loop value : Nat) (s : State) : Result :=
  act (loop < 32) 10 (s.arrive at_) fun s => (s.writeLoopRelease loop value).told

/-- A write of RELEASE of a group. -/
def State.applyGroupRelease (s : State) (g value : Nat) : State :=
  if value = 0 then s else s.each ((s.groupLoops g).take 1) fun h t => t.releaseLatch h

def State.writeGroupRelease (s : State) (g value : Nat) : Answer :=
  if 2 ≤ value then s.refuse stTypeMismatch
  else s.livePair (0x6200 + g) 0x03 (beBytes 1 value) none fun t => t.applyGroupRelease g value

def execGroupRelease (at_ : Instant) (group value : Nat) (s : State) : Result :=
  act (group < 8) 10 (s.arrive at_) fun s => (s.writeGroupRelease group value).told

/-! ### LIVE entries -/

/-- A write of MODE_REQUEST. -/
def State.writeModeRequest (s : State) (l value : Nat) : Answer :=
  if s.churnGoverns l then s.refuse stBusy
  else
    s.livePair (0x6000 + l) 0x1B (beBytes 1 value) (if 4 ≤ value then some stInvalidValue else none) fun t =>
      t.setReg (Od.loopModeRequest l) value

def execModeRequest (at_ : Instant) (loop value : Nat) (s : State) : Result :=
  act (loop < 32) 10 (s.arrive at_) fun s => (s.writeModeRequest loop value).told

/-- Manual tracking runs on a loop: a write of MANUAL_VALUE is refused. -/
def State.manualTracks (s : State) (l : Nat) : Bool :=
  s.loopsOn && s.heads.contains l && s.on (Od.loopManualTrack l) && srcKind (s.reg (Od.loopManualSource l)) = 1 &&
    (s.unitAt l).mode ≠ 1

/-- The status a binary64 value is refused with where it must be finite. -/
def finiteCheck (value : Nat) : Option Nat := if f64Finite value && value < 2 ^ 64 then none else some stInvalidValue

def State.writeManualValue (s : State) (l value : Nat) : Answer :=
  if s.manualTracks l then s.refuse stBusy
  else
    s.livePair (0x6000 + l) 0x16 (beBytes 8 value) (finiteCheck value) fun t => t.setReg (Od.loopManualValue l) value

def execManualValue (at_ : Instant) (loop value : Nat) (s : State) : Result :=
  act (loop < 32) 10 (s.arrive at_) fun s => (s.writeManualValue loop value).told

/-- The value entries: FOLLOW_VALUE, SP_VALUE, TARGET, and the limits of a generator. -/
def valueEntry (index sub : Nat) : Bool :=
  (0x6000 ≤ index && index < 0x6020 && (sub = 0x19 || sub = 0x1A)) ||
    (0x6100 ≤ index && index < 0x6120 && 5 ≤ sub && sub ≤ 8)

/-- A write of a value entry; VMAX, AMAX and JMAX must be greater than 0 and are none of the writes of R346. -/
def State.writeValueEntry (s : State) (index sub value : Nat) : Answer :=
  let key := index * 256 + sub
  if 0x6100 ≤ index && 6 ≤ sub then
    if (finiteCheck value).isNone && f64Lt f64Zero value then (s.setReg key value).ok else s.refuse stInvalidValue
  else s.livePair index sub (beBytes 8 value) (finiteCheck value) fun t => t.setReg key value

def execValueEntryWrite (at_ : Instant) (index sub value : Nat) (s : State) : Result :=
  act (valueEntry index sub) 10 (s.arrive at_) fun s => (s.writeValueEntry index sub value).told

/-- The tuning entries of R321. -/
def tuningSub (sub : Nat) : Bool := 0x0A ≤ sub && sub ≤ 0x14 && sub ≠ 0x10

/-- The value rules of R322 for a tuning entry, the other entries at their values in force. -/
def State.tuningCheck (s : State) (l sub value : Nat) : Option Nat :=
  let bad :=
    if sub = 0x0D || sub = 0x0E || sub = 0x13 || sub = 0x14 then f64Lt value f64Zero
    else if sub = 0x11 then f64Le (s.reg (Od.loopOutMax l)) value
    else if sub = 0x12 then f64Le value (s.reg (Od.loopOutMin l))
    else false
  if (finiteCheck value).isSome || bad then some stInvalidValue else none

/-- A new tuning value: the unit's next computation is a hand-over. -/
def State.applyTuning (s : State) (l sub value : Nat) : State :=
  let s1 := s.setReg ((0x6000 + l) * 256 + sub) value
  if s.loopOn l then
    let u := s1.unitAt (s1.headOf l)
    s1.setUnit (s1.headOf l) { u with tuned := true }
  else s1

def State.writeTuning (s : State) (l sub value : Nat) : Answer :=
  s.livePair (0x6000 + l) sub (beBytes 8 value) (s.tuningCheck l sub value) fun t => t.applyTuning l sub value

def execTuningWrite (at_ : Instant) (loop sub value : Nat) (s : State) : Result :=
  act (loop < 32 && tuningSub sub) 10 (s.arrive at_) fun s => (s.writeTuning loop sub value).told

end Sys2Proof.Machine
end

