-- ==== Sys2Proof/Machine/PairLink.lean ====
section
/-!
DEFINITION. The pair's commands but for the boundary (10_station_pair.md): heartbeats (R328, R332, R333), digests (R335 to R337),
state sections and changes (R338, R341, R346), ROLE frames, swaps (R349 to R352, R358), pail moves (R358, R360), lanes (R359).
-/

namespace Sys2Proof.Machine

open Sys2Proof

/-! ### Frames (R328, R355 to R358) -/

/-- The module was given side B. -/
def State.sideB (s : State) : Bool := s.reg Od.pairSide = 1

/-- A frame from a partner given the same side (R328). -/
def State.sideCheck (s : State) (hdr : PairHdr) : State :=
  let clash := hdr.sideB == s.sideB
  (s.setPair fun p => { p with sideClash := clash }).when_ clash fun t => t.pairFlag 5

/-- A STATE frame named in a NAK goes out once more if it can still arrive in time. -/
def State.nakResend (s : State) (hdr : PairHdr) : State :=
  match s.pair.kept.find? fun k => hdr.nak = some k.seq with
  | none => s
  | some k =>
    if k.frag.kind = 5 || s.tickAt (k.tick + 1) < s.now + ofUs 2 then s
    else (s.setPair fun p => { p with kept := p.kept.erase k }).nextSeq.emit (.state k.tick k.frag)

/-- A frame of the pair link: the second copy is discarded by its SEQ, and one whose sender's PAIR_ID is not this module's is
counted. -/
def State.linkFrame (s : State) (hdr : PairHdr) (f : State → State) : State :=
  if !s.paired || !s.linkUp || hdr.station || s.pair.seenSeqs.contains hdr.seq then s
  else
    let s1 := (s.setPair fun p => { p with seenSeqs := (hdr.seq :: p.seenSeqs).take 64 }).nakResend hdr
    if s.pair.linkPairId ≠ some (s.reg Od.pairId) then s1.configMismatch else f (s1.sideCheck hdr)

/-! ### Heartbeats (R332, R333, R349, R357) -/

/-- The header and the payload of a heartbeat as octets. -/
def heartbeatOctets (hdr : PairHdr) (hb : Heartbeat) : List Byte :=
  beBytes 1 1 ++ beBytes 1 (b2n hdr.sideB + 2 * b2n hdr.lead + 4 * b2n hdr.nak.isSome) ++ beBytes 2 32 ++ beBytes 4 hdr.seq ++
    beBytes 8 hdr.tick ++ beBytes 4 (hdr.nak.getD 0) ++ beBytes 8 hb.serial ++ beBytes 1 hb.state ++ beBytes 1 hb.flags ++
    beBytes 2 hb.slices ++ beBytes 4 hb.configTag ++ beBytes 10 hb.sentAt ++ beBytes 2 hb.pairId ++ beBytes 4 0

/-- The heartbeat payload of the module. -/
def State.ownHeartbeat (s : State) : Heartbeat :=
  let synced : Bool := decide (s.pair.role = Role.follow ∨ s.pair.role = Role.lead)
  let slices := s.slicesRetired + 16 * (match s.health.sliceTest with
    | some i => 2 ^ i
    | none => 0)
  { serial := Config.serial.toNat, state := roleCode s.pair.role
    flags := b2n (s.on Od.pairPreferredLead) + 2 * b2n synced + 4 * b2n (decide (s.churn.state = EngineState.running)) +
      8 * b2n s.outEnabled + 16 * b2n (decide (s.time.servo = Servo.locked)) + 32 * b2n (s.laneUp 0) + 64 * b2n (s.laneUp 1)
    slices := slices, configTag := s.configTag, sentAt := s.now, pairId := s.reg Od.pairId, auth := none }

/-- The ports that carry heartbeats: those of HB_PORTS with role STATION or PAIR_HB. -/
def State.hbPorts (s : State) : List Nat :=
  (bitsOf 32 (s.reg Od.pairHbPorts)).filter fun p => s.reg (Od.portRole p) = 2 || s.reg (Od.portRole p) = 4

/-- The module has a station path (R333). -/
def State.hasStationPath (s : State) : Bool := !s.hbPorts.isEmpty && !s.cut 0

/-- HEARTBEAT_SEND: on both lanes and from every heartbeat port; a module that withdraws sends none (R30). With a key slot that
cannot be used none leaves a port. -/
def State.heartbeatOut (s : State) : State :=
  if !s.paired || s.power.withdrawn || decide (s.pair.role = Role.withdrawn) then s
  else
    let hb := s.ownHeartbeat
    let hdr : PairHdr := ⟨true, s.sideB, decide (s.pair.role = Role.lead), none, s.pair.seq, s.workTick⟩
    let s1 := s.nextSeq
    let s2 := if s1.linkUp then s1.emit (.heartbeat none s.workTick hb) else s1
    let slot := s.reg Od.pairHbKeySlot
    let keyed := slot ≠ 0xFF
    let r := if keyed then s2.useSlot slot .heartbeat else (true, s2)
    let bs := heartbeatOctets hdr hb
    let tag := if keyed then mac62351 4 (s.slotKey slot) bs else []
    if !r.1 then r.2
    else
      r.2.each (if s.cut 0 then [] else s.hbPorts) fun p t =>
        let f : Frame :=
          { dst := s.reg Od.pairHbDstMac, src := s.portMac p, tag := some ⟨s.reg Od.pairHbVid % 4096, 7⟩
            etherType := s.reg Od.pairHbEthertype, appid := 0, hsr := none, prp := none, len := 74 + tag.length, body := bs ++ tag }
        (t.emit (.heartbeat (some p) s.workTick { hb with auth := if keyed then some ⟨bs, tag⟩ else none })).sendOwn f (some [p]) none 0
          none |>.state

def execHeartbeatSend (at_ : Instant) (s : State) : Result := act true 11 (s.arrive at_) fun s => s.heartbeatOut

/-- Slices the partner reports retired that this module is to serve as well, from 16 ticks on (R349). -/
def State.planMirrors (s : State) (hb : Heartbeat) : State :=
  let new := (bitsOf 4 hb.slices).filter fun i =>
    !s.health.out.contains (3 * 4096 + i) && (Tab.look s.dp.fb i []).all (fun e => e.until_.isSome) &&
      s.pair.plans.all fun p => p.slice ≠ i
  s.setPair fun p => { p with plans := p.plans ++ new.map fun i => ⟨i, s.workTick + 16, true⟩ }

/-- A path has a tick. -/
def Path.note (x : Path) (k : Nat) : Path := if x.ticks.contains k then x else { x with ticks := (k :: x.ticks).take 8 }

/-- A valid heartbeat of the partner. -/
def State.heartbeatNote (s : State) (hdr : PairHdr) (hb : Heartbeat) : State :=
  let timely : Bool := s.now < s.tickAt (hdr.tick + 1)
  let s1 := (s.sideCheck hdr).setPair fun p =>
    let link := if timely && !hdr.station then p.link.note hdr.tick else p.link
    let station := if timely && hdr.station then p.station.note hdr.tick else p.station
    { p with
      link := link, station := station, partner := some hb, partnerAt := s.now, hbWaited := false
      partnerFailed := p.partnerFailed && !timely, seenOps := if hb.state = 0 then [] else p.seenOps }
  (s1.setReg Od.pairPartnerSerial (hb.serial % 2 ^ 64)).planMirrors hb

/-- HEARTBEAT: over the station network a set HB_KEY_SLOT asks for a valid tag; on the link the second copy is discarded by its SEQ. -/
def State.heartbeatIn (s : State) (hdr : PairHdr) (hb : Heartbeat) : State :=
  if !s.paired || (hdr.station && s.cut 0) || (!hdr.station && (!s.linkUp || s.pair.seenSeqs.contains hdr.seq)) then s
  else
    let slot := s.reg Od.pairHbKeySlot
    let keyed : Bool := hdr.station && slot ≠ 0xFF
    let r := if keyed then s.useSlot slot .heartbeat else (true, s)
    let bs := heartbeatOctets hdr hb
    let good := r.1 && (!keyed || hb.auth.any fun a => mac62351 4 (s.slotKey slot) bs = a.tag)
    if !good then r.2
    else
      let s1 := if hdr.station then r.2 else (r.2.setPair fun p => { p with
        linkPairId := some hb.pairId, seenSeqs := (hdr.seq :: p.seenSeqs).take 64 }).nakResend hdr
      if hb.pairId ≠ s.reg Od.pairId then s1.configMismatch else s1.heartbeatNote hdr hb

def execHeartbeat (at_ : Instant) (hdr : PairHdr) (hb : Heartbeat) (s : State) : Result :=
  act true 11 (s.arrive at_) fun s => s.heartbeatIn hdr hb

/-- HB_WAIT_EXPIRY: no partner heartbeat for HB_WAIT in INIT; the role changes at the next boundary (R330). -/
def State.hbWait (s : State) : State :=
  let since := if s.pair.partner.isSome then max s.pair.bootAt s.pair.partnerAt else s.pair.bootAt
  if s.paired && decide (s.pair.role = Role.init) && since + ofMs (s.reg Od.pairHbWait) ≤ s.now then
    s.setPair fun p => { p with hbWaited := true }
  else s

def execHbWaitExpiry (at_ : Instant) (s : State) : Result := act true 11 (s.arrive at_) fun s => s.hbWait

/-! ### Digests (R335, R336) -/

/-- The image a work tick works from, as the digest takes it: nothing where there is none. -/
def State.imageOctets (s : State) (g : Nat) : List Byte :=
  match s.imageOf g with
  | none => List.replicate (30 + 64 + 8 * 8192) 0
  | some x =>
    (descriptorBytes x).take 30 ++ aliveBytes x ++
      ((List.range 8192).map fun c =>
        let y := Tab.look x.slots c ⟨0, 0x0101⟩
        leBytes 6 (ofSigned 48 y.value) ++ leBytes 2 y.status).flatten

/-- Cells of a subscription snapshot. -/
def State.subOctets (s : State) (n : Nat) : List Byte :=
  let x := s.sub n
  leBytes 4 x.snapSt ++ leBytes 4 x.snapSq ++ leBytes 4 x.snapFlags ++
    ((List.range 32).map fun m => leBytes 8 (Tab.look x.snapCells m 0)).flatten

/-- The input digest of the work tick. -/
def State.inputDigest (s : State) : List Byte :=
  shake256 (beBytes 64 (s.reg Od.attConfigMeasurement) ++ s.imageOctets (s.workTick - s.lag) ++
    ((List.range 1024).map s.subOctets).flatten ++ leBytes 2 s.pair.gpioSnap) 32

/-- INPUT_VALID: the work tick has its image. -/
def State.inputValid (s : State) : Bool := (s.imageOf (s.workTick - s.lag)).isSome

def State.ownDigest (s : State) : Digest := ⟨s.inputDigest, s.outputHash, s.inputValid, s.pair.outputValid⟩

def State.digestOut (s : State) : State :=
  if s.paired && s.linkUp && !s.power.withdrawn then s.nextSeq.emit (.digest s.workTick s.ownDigest) else s

def execDigestSend (at_ : Instant) (s : State) : Result := act true 11 (s.arrive at_) fun s => s.digestOut

/-- The end of the work tick for the partner's digest and sections (R334). -/
def State.lastArrival (s : State) (k : Nat) : Nat := s.tickAt (k + 1) - ofUs 2

/-- A digest differs from this module's own (R337). -/
def State.digestDiffers (s : State) (d : Digest) : Bool :=
  (d.inputValid && d.inputDigest ≠ s.inputDigest) || (d.outputValid && d.outputHash ≠ s.outputHash)

/-- The partner's digest of work tick `t`. -/
def State.digestOf (s : State) (t : Nat) : Option Digest := s.pair.partnerDigest.filter fun _ => s.pair.partnerDigestTick = t

/-- The pair suppresses the publications of the present work tick, as far as is known: the partner's digest of it differs from a
follower's own (R248, R337). -/
def State.pairSuppresses (s : State) : Bool :=
  decide (s.pair.role = Role.follow) && (s.digestOf s.workTick).any s.digestDiffers

/-- DIGEST: one in time for the work tick counts at its end; the lead notes a difference of its follower (R350). -/
def State.digestIn (s : State) (hdr : PairHdr) (d : Digest) : State :=
  s.linkFrame hdr fun t =>
    if hdr.tick ≠ t.workTick || t.lastArrival t.workTick < t.now then t
    else
      let t1 := t.setPair fun p => { p with partnerDigest := some d, partnerDigestTick := hdr.tick }
      if decide (t.pair.role = Role.lead) && t.digestDiffers d then t1.setPair fun p => { p with lastDiverged := t.now } else t1

def execDigest (at_ : Instant) (hdr : PairHdr) (dig : Digest) (s : State) : Result :=
  act true 11 (s.arrive at_) fun s => s.digestIn hdr dig

/-! ### Sections (R338, R341, R342, R346) -/

/-- A section has come whole. -/
def Section.complete (x : Section) : Bool := (x.pieces.map fun e => e.2.length).sum = x.total

/-- The octets of a section. -/
def Section.data (x : Section) : List Byte := (x.pieces.map (·.2)).flatten

/-- A CHANGE section that has come whole: acknowledged each time, held once. -/
def State.changeIn (s : State) (id : Nat) (bs : List Byte) : State :=
  let c : Change := ⟨id, beAt bs 0 8, beAt bs 8 2, beAt bs 10 1, slice bs 16 (beAt bs 12 4), true⟩
  let s1 := s.roleFrame 8 ⟨0, id, c.applyTick, 0⟩
  if c.applyTick ≤ s.workTick || s.pair.changesIn.any fun e => e.id = id && e.applyTick = c.applyTick then s1
  else s1.setPair fun p => { p with changesIn := p.changesIn ++ [c] }

/-- The module takes sections of a kind: all while it follows, a requested partition's regions in every role. -/
def State.takesSection (s : State) (kind id : Nat) : Bool :=
  decide (s.pair.role = Role.follow ∨ s.pair.role = Role.syncing) ||
    (kind = 4 && (s.part (id / 4)).awaitingRegions)

/-- STATE: one fragment. -/
def State.stateIn (s : State) (hdr : PairHdr) (f : StateFrag) : State :=
  s.linkFrame hdr fun t =>
    if !t.takesSection f.kind f.id then t
    else
      let same (x : Section) : Bool := x.kind = f.kind && x.id = f.id && x.tick = hdr.tick
      let old := (t.pair.sections.find? same).getD ⟨f.kind, f.id, hdr.tick, f.sectionLength, f.configTag, [], t.now⟩
      if old.complete && !old.pieces.isEmpty then if f.kind = 5 then t.changeIn f.id old.data else t
      else
        let new : Section := { old with pieces := Tab.insert old.pieces f.offset f.data, arrivedAt := t.now }
        let t1 := t.setPair fun p => { p with sections := (p.sections.filter fun x => !same x) ++ [new] }
        if f.kind = 5 && new.complete then t1.changeIn f.id new.data else t1

def execState (at_ : Instant) (hdr : PairHdr) (frag : StateFrag) (s : State) : Result :=
  act true 11 (s.arrive at_) fun s => s.stateIn hdr frag

/-! ### ROLE frames (R342, R349, R352, R357, R358) -/

/-- Answer a ROLE frame with ACK. -/
def State.ackRole (s : State) (m : RoleMsg) : State := s.roleFrame 5 ⟨0, m.opId, m.atTick, m.arg⟩

/-- A request of the partner, acted on once for an OP_ID. -/
def State.roleOnce (s : State) (m : RoleMsg) (f : State → State) : State :=
  if s.pair.seenOps.contains m.opId then s
  else f (s.setPair fun p => { p with seenOps := (m.opId :: p.seenOps).take 64 })

/-- RELINQUISH: the partner gives up its role; this module takes the lead at the next boundary (R330). -/
def State.relinquishIn (s : State) (m : RoleMsg) : State :=
  (s.roleOnce m fun t => t.setPair fun p => { p with relinquished := decide (p.role = Role.syncing ∨ p.role = Role.follow) }).ackRole m

def execRelinquish (at_ : Instant) (hdr : PairHdr) (msg : RoleMsg) (s : State) : Result :=
  act true 11 (s.arrive at_) fun s => s.linkFrame hdr fun t => t.relinquishIn msg

/-- SWAP_REQUEST: accepted after 16 ticks of FOLLOW without DIVERGENCE. -/
def State.swapRequestIn (s : State) (m : RoleMsg) : State :=
  s.roleOnce m fun t =>
    if decide (t.pair.role = Role.follow) && 16 ≤ t.pair.followClean then
      (t.sendRole 3 ⟨0, m.opId, m.atTick, 0⟩).setPair fun p => { p with swap := some ⟨m.atTick, m.opId, false, none, none, false⟩ }
    else t.sendRole 4 ⟨0, m.opId, m.atTick, 0⟩

def execSwapRequest (at_ : Instant) (hdr : PairHdr) (msg : RoleMsg) (s : State) : Result :=
  act true 11 (s.arrive at_) fun s => s.linkFrame hdr fun t => t.swapRequestIn msg

/-- The lead's swap with an OP_ID. -/
def State.leadSwap (s : State) (id : Nat) : Option Swap := s.pair.swap.filter fun w => w.lead && w.opId = id

/-- SWAP_ACCEPT: answered with ACK; its first arrival counts. -/
def State.swapAcceptIn (s : State) (m : RoleMsg) : State :=
  let s1 := (s.answered m.opId [2]).ackRole m
  match s.leadSwap m.opId with
  | some w => s1.setPair fun p => { p with swap := some { w with accepted := some (w.accepted.getD s.now) } }
  | none => s1

def execSwapAccept (at_ : Instant) (hdr : PairHdr) (msg : RoleMsg) (s : State) : Result :=
  act true 11 (s.arrive at_) fun s => s.linkFrame hdr fun t => t.swapAcceptIn msg

/-- SWAP_REFUSE: the swap is off, and its boundary is where the intervals count from. -/
def State.swapRefuseIn (s : State) (m : RoleMsg) : State :=
  let s1 := (s.answered m.opId [2]).ackRole m
  match s.leadSwap m.opId with
  | some w => (s1.setPair fun p => { p with swap := none, swapFrom := s.tickAt w.atTick }).pairFlag 8
  | none => s1

def execSwapRefuse (at_ : Instant) (hdr : PairHdr) (msg : RoleMsg) (s : State) : Result :=
  act true 11 (s.arrive at_) fun s => s.linkFrame hdr fun t => t.swapRefuseIn msg

/-- ACK: the frame it answers is not repeated; the follower's swap has its acknowledgement. -/
def State.ackIn (s : State) (m : RoleMsg) : State :=
  let s1 := s.answered m.opId [1, 3, 4, 6, 7]
  match s.pair.swap with
  | some w =>
    if !w.lead && w.opId = m.opId then
      s1.setPair fun p => { p with swap := some { w with acked := some (w.acked.getD s.now) } } else s1
  | none => s1

def execAck (at_ : Instant) (hdr : PairHdr) (msg : RoleMsg) (s : State) : Result :=
  act true 11 (s.arrive at_) fun s => s.linkFrame hdr fun t => t.ackIn msg

/-- SELFTEST: a slice's test is planned for an image instant. -/
def State.selftestIn (s : State) (m : RoleMsg) : State :=
  (s.roleOnce m fun t => t.setPair fun p => { p with
    plans := (p.plans.filter fun q => q.slice ≠ m.arg) ++ [⟨m.arg, m.atTick, false⟩] }).ackRole m

def execSelftest (at_ : Instant) (hdr : PairHdr) (msg : RoleMsg) (s : State) : Result :=
  act true 11 (s.arrive at_) fun s => s.linkFrame hdr fun t => if msg.arg < 4 then t.selftestIn msg else t

/-- REGIONS: the partition's regions go out after its TICK_DONE of this work tick, at once where it has been made. -/
def State.regionsIn (s : State) (m : RoleMsg) : State :=
  let s1 := s.roleOnce m fun t =>
    let t1 := t.setPair fun p => { p with regionsWanted := if p.regionsWanted.contains m.arg then p.regionsWanted
      else p.regionsWanted ++ [m.arg] }
    t1.when_ ((t.part m.arg).done && decide (t.pair.role ≠ Role.lead)) fun u => u.sendRegions m.arg
  s1.ackRole m

def execRegions (at_ : Instant) (hdr : PairHdr) (msg : RoleMsg) (s : State) : Result :=
  act true 11 (s.arrive at_) fun s => s.linkFrame hdr fun t => if msg.arg < 96 then t.regionsIn msg else t

/-- CHANGE_ACK. -/
def State.changeAckIn (s : State) (m : RoleMsg) : State :=
  s.setPair fun p => { p with changes := p.changes.map fun c =>
    if c.id = m.opId && c.applyTick = m.atTick then { c with acked := true } else c }

def execChangeAck (at_ : Instant) (hdr : PairHdr) (msg : RoleMsg) (s : State) : Result :=
  act true 11 (s.arrive at_) fun s => s.linkFrame hdr fun t => t.changeAckIn msg

/-- ROLE_REPEAT: every frame without its answer goes out again, up to 8 times. -/
def State.roleRepeat (s : State) : State :=
  let due := s.pair.roleOut.filter fun r => r.repeats < 8
  let s1 := s.setPair fun p => { p with roleOut := due.map fun r => { r with repeats := r.repeats + 1 } }
  s1.each due fun r t => t.roleFrame r.op r.msg

def execRoleRepeat (at_ : Instant) (s : State) : Result := act true 11 (s.arrive at_) fun s => if s.paired then s.roleRepeat else s

/-! ### Starting a swap (R350 to R352) -/

/-- The lead asks for a swap 16 work ticks ahead. -/
def State.startSwap (s : State) (reason : Nat) : State :=
  if !s.paired || decide (s.pair.role ≠ Role.lead) || s.pair.swap.isSome || s.pair.partnerFailed || !s.linkUp || s.pair.partner.isNone then s
  else
    let r := s.takeOpId
    let t := s.workTick + 16
    (r.1.sendRole 2 ⟨reason, r.2, t, 0⟩).setPair fun p => { p with swap := some ⟨t, r.2, true, none, none, false⟩ }

/-- REVERT_DELAY_EXPIRY: the preferred lead has followed without fault for REVERT_DELAY. -/
def State.revertDue (s : State) : Bool :=
  let delay := s.reg Od.pairRevertDelay * second
  !s.on Od.pairPreferredLead && (s.pair.partner.any fun hb => bit hb.flags 0 && hb.state = 2) &&
    s.pair.lastDiverged + delay ≤ s.now && s.pair.swapFrom + delay ≤ s.now

def execRevertDelayExpiry (at_ : Instant) (s : State) : Result :=
  act true 11 (s.arrive at_) fun s => if s.revertDue then s.startSwap 0 else s

/-- SWAP_INTERVAL_EXPIRY. -/
def State.intervalDue (s : State) : Bool :=
  s.reg Od.pairSwapInterval ≠ 0 && s.pair.swapFrom + s.reg Od.pairSwapInterval * second ≤ s.now

def execSwapIntervalExpiry (at_ : Instant) (s : State) : Result :=
  act true 11 (s.arrive at_) fun s => if s.intervalDue then s.startSwap 0 else s

/-- A write of SWAP_NOW. -/
def State.writeSwapNow (s : State) (value : Nat) : Answer :=
  if 2 ≤ value then s.refuse stTypeMismatch else if value = 0 then s.ok else (s.startSwap 3).ok

def execSwapNow (at_ : Instant) (value : Nat) (s : State) : Result :=
  act true 11 (s.arrive at_) fun s => (s.whileRunning (s.writeSwapNow value)).told

/-! ### MIGRATE (R358, R360) -/

/-- The DATA frames of a transfer that are not acknowledged, 16 at most, of up to 4,084 octets each. -/
def Transfer.frames (x : Transfer) : List MigrateMsg :=
  let n := min 16 (ceilDiv (x.total - x.acked) 4084)
  (List.range n).map fun i =>
    let o := x.acked + 4084 * i
    ⟨1, x.id, o, x.total, (x.data.drop o).take 4084⟩

def State.sendTransfer (s : State) (x : Transfer) : State :=
  s.each x.frames fun m t => t.nextSeq.emit (.migrate 1 m)

/-- PAIL_MOVE: the source pail is FROZEN, and no transfer runs; the target is named in TRANSFER_ID (log 42). -/
def State.writePailMove (s : State) (value : Nat) : Answer :=
  let source := field value 0 6
  if !s.paired || !s.linkUp || s.pair.transferOut.isSome || decide ((s.pail source).state ≠ PailState.frozen) then s.refuse stBusy
  else
    let bs := s.stateRecord source
    let x : Transfer := ⟨value % 2 ^ 16, bs.length, bs, 0, s.now, 0⟩
    ((s.setPair fun p => { p with transferOut := some x }).sendTransfer x).ok

def execPailMove (at_ : Instant) (value : Nat) (s : State) : Result :=
  act true 11 (s.arrive at_) fun s => (s.writePailMove value).told

/-- MIGRATE DATA: taken in order, acknowledged, and written into the target pail once whole; a refusal returns ABORT. -/
def State.migrateIn (s : State) (m : MigrateMsg) : State :=
  let old := (s.pair.transferIn.filter fun x => x.id = m.transferId).getD ⟨m.transferId, m.total, [], 0, s.now, 0⟩
  let data := if m.offset = old.data.length then old.data ++ m.data else old.data
  let ack (t : State) : State := t.nextSeq.emit (.migrate 2 ⟨m.kind, m.transferId, data.length, m.total, []⟩)
  if m.total ≤ data.length then
    let a := s.writeStateRecord (field m.transferId 8 6) data
    let t := a.state.setPair fun p => { p with transferIn := none }
    if a.code = 0 then ack t else t.nextSeq.emit (.migrate 3 ⟨m.kind, m.transferId, 0, m.total, []⟩)
  else ack (s.setPair fun p => { p with transferIn := some { old with data := data } })

def execMigrateData (at_ : Instant) (hdr : PairHdr) (msg : MigrateMsg) (s : State) : Result :=
  act true 11 (s.arrive at_) fun s => s.linkFrame hdr fun t => t.migrateIn msg

/-- MIGRATE ACK: the octets the partner has in order. -/
def State.migrateAckIn (s : State) (m : MigrateMsg) : State :=
  match s.pair.transferOut with
  | none => s
  | some x =>
    if x.id ≠ m.transferId || m.offset ≤ x.acked then s
    else if x.total ≤ m.offset then s.setPair fun p => { p with transferOut := none }
    else
      let y := { x with acked := m.offset, sentAt := s.now, resends := 0 }
      s.setPair fun p => { p with transferOut := some y }

def execMigrateAck (at_ : Instant) (hdr : PairHdr) (msg : MigrateMsg) (s : State) : Result :=
  act true 11 (s.arrive at_) fun s => s.linkFrame hdr fun t => t.migrateAckIn msg

/-- A transfer of this identifier ends without success. -/
def State.abortTransfer (s : State) (id : Nat) : State :=
  if s.pair.transferOut.any (fun x => x.id = id) || s.pair.transferIn.any fun x => x.id = id then
    (s.setPair fun p => { p with
      transferOut := p.transferOut.filter fun x => x.id ≠ id, transferIn := p.transferIn.filter fun x => x.id ≠ id }).setFlag 81 4
  else s

def execMigrateAbort (at_ : Instant) (hdr : PairHdr) (msg : MigrateMsg) (s : State) : Result :=
  act true 11 (s.arrive at_) fun s => s.linkFrame hdr fun t => t.abortTransfer msg.transferId

/-- MIGRATE_RESEND: unacknowledged data goes out again from the oldest; after 16 times the transfer is aborted. -/
def State.migrateResend (s : State) : State :=
  match s.pair.transferOut with
  | none => s
  | some x =>
    if s.now < x.sentAt + ofUs 200 then s
    else if 16 ≤ x.resends then (s.nextSeq.emit (.migrate 3 ⟨1, x.id, 0, x.total, []⟩)).abortTransfer x.id
    else
      let y := { x with sentAt := s.now, resends := x.resends + 1 }
      (s.setPair fun p => { p with transferOut := some y }).sendTransfer y

def execMigrateResend (at_ : Instant) (s : State) : Result := act true 11 (s.arrive at_) fun s => s.migrateResend

/-! ### Lanes (R359, R399) -/

/-- PAIR_LINK_LOST stands while both lanes are lost. -/
def State.linkStand (s : State) (lane : Nat) : State := s.stand 81 1 (!s.linkUp) (some lane)

/-- LANE_LOST: three losses in 600 s retire the lane. -/
def State.laneLost (s : State) (l : Nat) : State :=
  if !s.laneUp l then s
  else
    let s1 := (s.setPair fun p => { p with lanesUp := p.lanesUp.set l false }).laneFlag 0 l
    let r := s1.noteError (unitId 5 l) (600 * second)
    (if r.2 < 3 then r.1 else r.1.retireLane l 1 r.2).linkStand l

def execLaneLost (at_ : Instant) (lane : Nat) (s : State) : Result :=
  act (lane < 2) 11 (s.arrive at_) fun s => s.laneLost lane

/-- LANE_RESTORED. The first lane that works again after both were lost carries first copies only. -/
def State.laneBack (s : State) (l : Nat) : State :=
  if s.laneUp l || s.pair.lanesRetired.contains l then s
  else
    ((s.setPair fun p => { p with
      lanesUp := p.lanesUp.set l true, seenSeqs := if s.linkUp then p.seenSeqs else [] }).laneFlag 5 l).linkStand l

def execLaneRestored (at_ : Instant) (lane : Nat) (s : State) : Result :=
  act (lane < 2) 11 (s.arrive at_) fun s => s.laneBack lane

end Sys2Proof.Machine
end

