-- ==== Sys2Proof/Machine/Pails.lean ====
section
/-!
DEFINITION. The pails' commands (07_partitions_and_pails.md): resets, the freeze, doorbells and queue control, descriptors,
receive and timestamp completions, publication commits, triggers, the event ring's head, dirty swaps.
-/

namespace Sys2Proof.Machine

open Sys2Proof

/-! ### Resets, freeze, state record (R256, R260) -/

def execPailReset (at_ : Instant) (pail : Nat) (s : State) : Result :=
  act (pail < 64) 10 (s.arrive at_) fun s => s.resetPail pail

def execPailResetComplete (at_ : Instant) (pail : Nat) (s : State) : Result :=
  act (pail < 64) 10 (s.arrive at_) fun s => s.finishReset pail

/-- CTRL.FREEZE is set (R260). -/
def State.askFreeze (s : State) (p : Nat) : State :=
  let x := s.pail p
  if (x.state = .active || x.state = .resetting) && !x.freeze then
    s.setPail p { x with freeze := true, freezeAt := s.workTick } else s

def execFreeze (at_ : Instant) (pail : Nat) (s : State) : Result :=
  act (pail < 64) 10 (s.arrive at_) fun s => s.askFreeze pail

def execPailFrozen (at_ : Instant) (pail : Nat) (s : State) : Result :=
  act (pail < 64) 10 (s.arrive at_) fun s => s.freezeDone pail

/-- CTRL.FREEZE is cleared: the pail resumes (R260). -/
def State.releaseFreeze (s : State) (p : Nat) : State :=
  s.modPail p fun x => { x with freeze := false, state := if x.state = .frozen then .active else x.state }

def execFreezeRelease (at_ : Instant) (pail : Nat) (s : State) : Result :=
  act (pail < 64) 10 (s.arrive at_) fun s => s.releaseFreeze pail

def execStateRecordWrite (at_ : Instant) (pail : Nat) (record : List Byte) (s : State) : Result :=
  act (pail < 64) 10 (s.arrive at_) fun s => (s.writeStateRecord pail record).told

/-! ### Doorbells and queue control (R240) -/

/-- A doorbell reaches a queue: the pail is active, the queue is one it has and runs. -/
def State.doorbell (s : State) (p q : Nat) : Bool :=
  (s.pail p).state = .active && q < s.queuePairs p && ((s.pail p).queue q).enabled

/-- TX_DB: a tail more than a ring ahead of the head stops the queue with OVERFILL. -/
def State.txDoorbell (s : State) (p q value : Nat) : State :=
  if !s.doorbell p q then s
  else
    let y := (s.pail p).queue q
    let tail := value % 2 ^ 16
    if y.sqSize < (tail + 2 ^ 16 - y.sqHead) % 2 ^ 16 then s.stopQueue p q 1
    else s.modPail p fun x => x.setQueue q { y with sqTail := tail }

def execTxDbWrite (at_ : Instant) (pail queue value : Nat) (s : State) : Result :=
  act (pail < 64 && queue < 4) 10 (s.arrive at_) fun s => s.txDoorbell pail queue value

def State.rxDoorbell (s : State) (p q value : Nat) : State :=
  if !s.doorbell p q then s
  else s.modPail p fun x => x.setQueue q { x.queue q with cqHead := value % 2 ^ 16 }

def execRxDbWrite (at_ : Instant) (pail queue value : Nat) (s : State) : Result :=
  act (pail < 64 && queue < 4) 10 (s.arrive at_) fun s => s.rxDoorbell pail queue value

/-- ENABLE may be set for a KIND: a local queue is granted for RX and TX, and no other queue of the pail is of it. -/
def State.mayEnable (s : State) (p q kind : Nat) : Bool :=
  let x := s.pail p
  let alone := (List.range 4).all fun r => r = q || !(x.queue r).enabled || (x.queue r).kind ≠ kind
  match kind with
  | 0 => true
  | 1 => s.reg (Od.pailRxQueue p) ≠ 0xFF && alone
  | 2 => s.reg (Od.pailTxQueue p) ≠ 0xFF && alone
  | _ => false

/-- A write of Q_CTRL: ignored where it changes KIND or a ring size of a queue that runs, or names one that does not exist
(assumption log 24); the phase is 1 after enable (R245). -/
def State.queueControl (s : State) (p q value : Nat) : State :=
  let x := s.pail p
  let y := x.queue q
  let v := value % 2 ^ 13
  let n : Queue := { y with ctrl := v }
  let sized (k : Nat) : Bool := 4 ≤ k && k ≤ 12
  if x.state = .disabled || s.queuePairs p ≤ q then s
  else if y.enabled && (n.kind ≠ y.kind || field v 4 8 ≠ field y.ctrl 4 8) then s
  else if 2 < n.kind || !sized (field v 4 4) || !sized (field v 8 4) then s
  else
    let on := bit v 0 && (y.enabled || s.mayEnable p q n.kind)
    s.setPail p (x.setQueue q { y with
      ctrl := setBit v 0 on, cqPhase := if on && !y.enabled then true else y.cqPhase })

def execQCtrlWrite (at_ : Instant) (pail queue value : Nat) (s : State) : Result :=
  act (pail < 64 && queue < 4) 10 (s.arrive at_) fun s => s.queueControl pail queue value

/-! ### Copies (R242) -/

/-- A copy's buffer is 8-byte aligned and its range lies within the 8,192. -/
def descRangeOk (d : Desc) : Bool := d.addr % 8 = 0 && d.first + d.length ≤ 8192

/-- IMAGE_COPY. -/
def State.imageCopy (s : State) (p q : Nat) : State :=
  s.fetch p q 0x01 fun d t =>
    if !descRangeOk d then t.finish p 0x01 d 4 0
    else
      match t.imageOf d.tick with
      | none => t.finish p 0x01 d 1 0
      | some x =>
        let head := if bit d.flags 3 then descriptorBytes x ++ aliveBytes x else []
        if t.overtaken d.tick then t.finish p 0x01 d 2 0
        else t.copyOut p 0x01 d (head ++ ((List.range d.length).map fun i => leBytes 8 (t.slotWord p x (d.first + i))).flatten)

def execImageCopy (at_ : Instant) (pail queue : Nat) (s : State) : Result :=
  act (pail < 64 && queue < 4) 10 (s.arrive at_) fun s => s.imageCopy pail queue

/-- A frequency record as a reader finds it. -/
def State.freqSeen (s : State) (group tick : Nat) : List Byte :=
  freqBytes ((Tab.find s.dp.freqRecs (tick % 64 * 64 + group)).getD ⟨0, 0, 1, 0xFFFF, tick % 2 ^ 32⟩)

/-- PHASOR_COPY. -/
def State.phasorCopy (s : State) (p q : Nat) : State :=
  s.fetch p q 0x02 fun d t =>
    if !descRangeOk d then t.finish p 0x02 d 4 0
    else if !t.phasorsOf d.tick then t.finish p 0x02 d 1 0
    else if t.phasorsOvertaken d.tick then t.finish p 0x02 d 2 0
    else t.copyOut p 0x02 d (((List.range d.length).map fun i => t.phasorSeen p (d.first + i) d.tick).flatten)

def execPhasorCopy (at_ : Instant) (pail queue : Nat) (s : State) : Result :=
  act (pail < 64 && queue < 4) 10 (s.arrive at_) fun s => s.phasorCopy pail queue

/-- FREQ_COPY. -/
def State.freqCopy (s : State) (p q : Nat) : State :=
  s.fetch p q 0x03 fun d t =>
    if d.addr % 8 ≠ 0 then t.finish p 0x03 d 4 0
    else if !t.phasorsOf d.tick then t.finish p 0x03 d 1 0
    else if t.phasorsOvertaken d.tick then t.finish p 0x03 d 2 0
    else t.copyOut p 0x03 d (((List.range 64).map fun g => t.freqSeen g d.tick).flatten)

def execFreqCopy (at_ : Instant) (pail queue : Nat) (s : State) : Result :=
  act (pail < 64 && queue < 4) 10 (s.arrive at_) fun s => s.freqCopy pail queue

/-- BAD_OPCODE: a descriptor whose opcode R242 does not list, or lists for another kind of queue. -/
def State.badOpcode (s : State) (p q : Nat) : State :=
  if opcodeKind (s.descAt p q).opcode = some ((s.pail p).queue q).kind then s else s.fetched p q fun _ t => t

def execBadOpcode (at_ : Instant) (pail queue : Nat) (s : State) : Result :=
  act (pail < 64 && queue < 4) 10 (s.arrive at_) fun s => s.badOpcode pail queue

/-! ### Frames (R242, R244, R245) -/

/-- RX_BUFFER posts a receive buffer. -/
def State.rxBuffer (s : State) (p q : Nat) : State :=
  s.fetch p q 0x10 fun d t =>
    if d.length < 2048 then t.finish p 0x10 d 4 0
    else t.modPail p fun x => x.setQueue q { x.queue q with buffers := (x.queue q).buffers ++ [(d.addr, d.length, d.flags)] }

def execRxBuffer (at_ : Instant) (pail queue : Nat) (s : State) : Result :=
  act (pail < 64 && queue < 4) 10 (s.arrive at_) fun s => s.rxBuffer pail queue

/-- A frame from its octets without the FCS, which the module appends. -/
def frameOf (bs : List Byte) : Frame :=
  let tagged := decide (beAt bs 12 2 = 0x8100)
  let etype := beAt bs (if tagged then 16 else 12) 2
  let body := bs.drop (if tagged then 18 else 14)
  { dst := beAt bs 0 6, src := beAt bs 6 6, tag := if tagged then some ⟨beAt bs 14 2 % 2 ^ 12, beAt bs 14 2 / 2 ^ 13⟩ else none
    etherType := etype, appid := if etype = 0x88BA || etype = 0x88B8 then beAt body 0 2 else 0
    hsr := none, prp := none, len := bs.length + 4, body := body }

/-- TX_FRAME: without TS_REQ it completes at switch admission, with TS_REQ once its timestamp is collected. -/
def State.txFrame (s : State) (p q : Nat) (answered : Bool) : State :=
  s.fetch p q 0x11 fun d t =>
    if d.length < 60 then t.finish p 0x11 d 4 0
    else if !t.pailReads p d.addr d.length answered then t.finish p 0x11 d 3 0
    else
      let f := frameOf (t.loadBytes (t.pailOwner p) d.addr d.length)
      let wants := bit d.flags 1
      let direct := if bit d.flags 2 then some (bitsOf 32 d.egress) else none
      let sent : Sent := if t.cut 0 then ⟨t, [], 0⟩
        else t.sendOwn f direct (if wants then some (t.reg (Od.pailTxQueue p) + 1) else none) d.tag none
      if sent.ports.isEmpty then sent.state.finish p 0x11 d 8 0
      else if !wants then sent.state.finish p 0x11 d 0 d.length
      else
        sent.state.modPail p fun x => { x with
          pendingTx := x.pendingTx ++ [⟨q, d.tag, d.flags, d.length, sent.id, x.epoch, false⟩] }

def execTxFrame (at_ : Instant) (pail queue : Nat) (answered : Bool) (s : State) : Result :=
  act (pail < 64 && queue < 4) 10 (s.arrive at_) fun s => s.txFrame pail queue answered

/-- The timestamp queue entries of a frame, with their ports. -/
def State.stampsOf (s : State) (id : Nat) : List (Nat × TsEntry) :=
  ((List.range 32).map fun p => ((s.port p).tsQueue.filter fun e => e.frameId = id && e.ptp.isNone).map fun e => (p, e)).flatten

/-- How a frame that waits for its timestamp completes, if it can: the status, the timestamp and the port. One sent to several ports
completes with the timestamp of the lowest of them that has captured one (log 109). -/
def State.txOutcome (s : State) (x : PendingTx) : Option (Nat × Nat × Nat × Nat) :=
  match s.stampsOf x.frameId with
  | (p, e) :: _ => some (0, e.ts, p, 2)
  | [] =>
    if x.lost then some (7, 0, 0, 0)
    else if (Tab.find s.sw.frames x.frameId).isNone then some (8, 0, 0, 0) else none

/-- TX_TIMESTAMP_COMPLETION: writing the completion collects the queue entry (R68, R245), and with it those of the other ports (log 109);
a frozen pail writes none. -/
def State.txCompletion (s : State) (p : Nat) : State :=
  let x := s.pail p
  if x.state ≠ .active then s else
  match x.pendingTx.find? fun e => e.epoch = x.epoch && (s.txOutcome e).isSome && !(x.queue e.queue).cqFull with
  | none => s
  | some e =>
    match s.txOutcome e with
    | none => s
    | some (status, ts, port, flags) =>
      let s1 := s.modPail p fun y => { y with pendingTx := y.pendingTx.erase e }
      let s2 := s1.each (List.range 32) fun q t =>
        t.modPort q fun y => { y with tsQueue := y.tsQueue.filter fun z => !(z.frameId = e.frameId && z.ptp.isNone) }
      s2.complete p e.queue (bit e.flags 0) ⟨0x11, status, e.tag, if status = 8 then 0 else e.len, ts, port, flags⟩

def execTxTimestampCompletion (at_ : Instant) (pail : Nat) (s : State) : Result :=
  act (pail < 64) 10 (s.arrive at_) fun s => s.txCompletion pail

/-- The octets of a received frame without its FCS, redundancy tags removed; DEI is 0. -/
def frameBytes (f : Frame) (len : Nat) : List Byte :=
  let tag := match f.tag with
    | some t => beBytes 2 0x8100 ++ beBytes 2 (t.pcp % 8 * 2 ^ 13 + t.vid % 2 ^ 12)
    | none => []
  slice (beBytes 6 f.dst ++ beBytes 6 f.src ++ tag ++ beBytes 2 f.etherType ++ f.body) 0 (len - 4)

/-- RX_FRAME_COMPLETION: the head of the pail's local receive queue goes into the oldest posted buffer. -/
def State.rxCompletion (s : State) (p : Nat) : State :=
  let x := s.pail p
  let lq := s.reg (Od.pailRxQueue p)
  let q? := (List.range (s.queuePairs p)).find? fun q => (x.queue q).enabled && (x.queue q).kind = 1
  match q?, Tab.look s.sw.localQs lq [] with
  | some q, f :: rest =>
    let y := x.queue q
    match y.buffers with
    | (a, len, flags) :: more =>
      if s.cut 0 || x.state ≠ .active || x.freeze || lq = 0xFF || y.cqFull || !f.complete then s
      else
        let all := frameBytes f.frame f.len
        let bs := all.take len
        let short := decide (bs.length < all.length) || f.truncated
        let s1 := (s.setSw fun w => { w with localQs := Tab.put w.localQs lq rest [] }).modPail p fun z =>
          z.setQueue q { z.queue q with buffers := more }
        let ok := s1.pailReach p a bs.length
        let s2 := if ok then s1.pailWrite p a bs else s1
        s2.complete p q (bit flags 0)
          ⟨0x80, if ok then 0 else 3, 0, if ok then bs.length else 0, f.rxTime, f.port, b2n short + 2⟩
    | [] => s
  | _, _ => s

def execRxFrameCompletion (at_ : Instant) (pail : Nat) (s : State) : Result :=
  act (pail < 64) 10 (s.arrive at_) fun s => s.rxCompletion pail

/-! ### Cryptography (R242, R243, R372, R377) -/

/-- The CRYPTO parameter block of R243. -/
structure CryptoParams where
  op : Nat
  dataLen : Nat
  inAddr : Nat
  outAddr : Nat
  aadAddr : Nat
  aadLen : Nat
  iv : List Byte
  tag : List Byte
  deriving DecidableEq, Repr

/-- A parameter block from its 64 octets. -/
def paramsOf (bs : List Byte) : CryptoParams :=
  { op := leAt bs 0 1, dataLen := leAt bs 4 4, inAddr := leAt bs 8 8, outAddr := leAt bs 16 8, aadAddr := leAt bs 24 8
    aadLen := leAt bs 32 4, iv := slice bs 36 12, tag := slice bs 48 16 }

/-- The parameter block of a CRYPTO descriptor, as its owner's memory holds it. -/
def State.paramsAt (s : State) (p : Nat) (d : Desc) : CryptoParams := paramsOf (s.loadBytes (s.pailOwner p) d.addr 64)

/-- The memory a CRYPTO operation reads and writes can be reached: IN, OUT for so many octets, AAD. -/
def State.cryptoReach (s : State) (p : Nat) (c : CryptoParams) (out : Nat) : Bool :=
  s.pailReach p c.inAddr c.dataLen && s.pailReach p c.outAddr out && (c.aadLen = 0 || s.pailReach p c.aadAddr c.aadLen)

/-- A CRYPTO operation on the block of a descriptor: its limits, its context's grant and key, then the work with the key, the data and
the AAD. -/
def State.cryptoRun (s : State) (p : Nat) (d : Desc) (c : CryptoParams) (use : Consumer) (out : Nat)
    (work : List Byte → List Byte → List Byte → State → State) : State :=
  if 65536 < c.dataLen || 4096 < c.aadLen then s.finish p 0x20 d 4 0
  else
    match s.pailCrypto p d.context with
    | none => s.finish p 0x20 d 5 0
    | some slot =>
      let r := s.useSlot slot use
      if !r.1 then r.2.finish p 0x20 d 5 0
      else if !s.cryptoReach p c out then r.2.finish p 0x20 d 3 0
      else
        let o := s.pailOwner p
        work (s.slotKey slot) (s.loadBytes o c.inAddr c.dataLen) (s.loadBytes o c.aadAddr c.aadLen) r.2

/-- A CRYPTO descriptor with operation `op`; one of another operation has a command of its own, a block that cannot be reached is a
FAULT, an OP that R243 does not list INVALID (log 110). -/
def State.crypto (s : State) (p q op : Nat) (answered : Bool) (use : Consumer) (outLen : CryptoParams → Nat)
    (work : Desc → CryptoParams → List Byte → List Byte → List Byte → State → State) : State :=
  let e := s.descAt p q
  let named := (s.paramsAt p e).op
  if s.pailReads p e.addr 64 answered && 1 ≤ named && named ≤ 4 && named ≠ op then s
  else
    s.fetch p q 0x20 fun d t =>
      let c := t.paramsAt p d
      if !t.pailReads p d.addr 64 answered then t.finish p 0x20 d 3 0
      else if c.op ≠ op then t.finish p 0x20 d 4 0
      else t.cryptoRun p d c use (outLen c) (work d c)

/-- AES-256-GCM seal: ciphertext to OUT, the tag into the parameter block. -/
def State.cryptoSeal (s : State) (p q : Nat) (answered : Bool) : State :=
  s.crypto p q 1 answered (.pailSeal p) (·.dataLen) fun d c key data aad t =>
    let ct := gcmCrypt key c.iv data
    ((t.pailWrite p c.outAddr ct).pailWrite p (d.addr + 48) (gcmTag key c.iv aad ct)).finish p 0x20 d 0 c.dataLen

def execCryptoSeal (at_ : Instant) (pail queue : Nat) (answered : Bool) (s : State) : Result :=
  act (pail < 64 && queue < 4) 10 (s.arrive at_) fun s => s.cryptoSeal pail queue answered

/-- AES-256-GCM open: plaintext to OUT, or VERIFY_FAIL and none. -/
def State.cryptoOpen (s : State) (p q : Nat) (answered : Bool) : State :=
  s.crypto p q 2 answered (.pailOpen p) (·.dataLen) fun d c key data aad t =>
    if gcmTag key c.iv aad data ≠ c.tag then t.finish p 0x20 d 6 0
    else (t.pailWrite p c.outAddr (gcmCrypt key c.iv data)).finish p 0x20 d 0 c.dataLen

def execCryptoOpen (at_ : Instant) (pail queue : Nat) (answered : Bool) (s : State) : Result :=
  act (pail < 64 && queue < 4) 10 (s.arrive at_) fun s => s.cryptoOpen pail queue answered

/-- HMAC-SHA-256 generate: the 32-byte tag to OUT. -/
def State.hmacGenerate (s : State) (p q : Nat) (answered : Bool) : State :=
  s.crypto p q 3 answered (.pailMac p) (fun _ => 32) fun d c key data _ t =>
    (t.pailWrite p c.outAddr (hmacSha256 key data)).finish p 0x20 d 0 32

def execHmacGenerate (at_ : Instant) (pail queue : Nat) (answered : Bool) (s : State) : Result :=
  act (pail < 64 && queue < 4) 10 (s.arrive at_) fun s => s.hmacGenerate pail queue answered

/-- HMAC-SHA-256 verify: compared with the 32 bytes at OUT. -/
def State.hmacVerify (s : State) (p q : Nat) (answered : Bool) : State :=
  s.crypto p q 4 answered (.pailMacVerify p) (fun _ => 32) fun d c key data _ t =>
    t.finish p 0x20 d (if t.loadBytes (t.pailOwner p) c.outAddr 32 = hmacSha256 key data then 0 else 6) 0

def execHmacVerify (at_ : Instant) (pail queue : Nat) (answered : Bool) (s : State) : Result :=
  act (pail < 64 && queue < 4) 10 (s.arrive at_) fun s => s.hmacVerify pail queue answered

/-! ### Publication commits, triggers, freezes of the DC blockers (R246, R247, R252) -/

/-- A write of PUB_COMMIT takes effect only in the work tick it names. -/
def State.takeCommit (s : State) (p value : Nat) : State :=
  if (s.pail p).state ≠ .active then s
  else if value % 2 ^ 16 = s.workTick % 2 ^ 16 then s.commitSlots p (field value 16 16)
  else
    ((s.count 32 (Od.pailPubLate p)).modPail p fun x => { x with late := true }).post p 0x04 0 (value % 2 ^ 16) s.now

/-- A write of PUB_COMMIT; one that reaches the pail in the cycle of a boundary, before the boundary's own work, waits for it and belongs to
the new work tick. -/
def State.pubCommit (s : State) (p value : Nat) : State :=
  if s.tickNow = s.workTick then s.takeCommit p value
  else if (s.pail p).state = .disabled then s
  else s.modPail p fun x => { x with commits := x.commits ++ [value] }

def execPubCommit (at_ : Instant) (pail value : Nat) (s : State) : Result :=
  act (pail < 64) 10 (s.arrive at_) fun s => s.pubCommit pail value

/-- A write of HIST_TRIGGER: the trigger instant is the image instant of the work tick (R212). -/
def State.pailTrigger (s : State) (p value : Nat) : State :=
  if bit value 0 && s.on (Od.pailHistTriggerEnable p) && (s.pail p).state ≠ .disabled then s.trigger (s.workTick - s.lag) else s

def execHistTrigger (at_ : Instant) (pail value : Nat) (s : State) : Result :=
  act (pail < 64) 10 (s.arrive at_) fun s => s.pailTrigger pail value

/-- A write of DC_FREEZE: the pail's request from the next boundary on (R181, R252). -/
def State.pailFreeze (s : State) (p value : Nat) : State :=
  if s.on (Od.pailDcFreezeEnable p) && (s.pail p).state ≠ .disabled then
    s.modPail p fun x => { x with dcFreeze := value % 2 ^ 64 } else s

def execDcFreezeWrite (at_ : Instant) (pail value : Nat) (s : State) : Result :=
  act (pail < 64) 10 (s.arrive at_) fun s => s.pailFreeze pail value

/-! ### The event ring's head and dirty swaps (R239, R251, R259) -/

def State.writeEvHead (s : State) (p value : Nat) : State :=
  if (s.pail p).state = .disabled then s
  else (s.modPail p fun x => { x with ev := { x.ev with head := value % 2 ^ 16 } }).ringOverflow p

def execEvqHeadWrite (at_ : Instant) (pail value : Nat) (s : State) : Result :=
  act (pail < 64) 10 (s.arrive at_) fun s => s.writeEvHead pail value

/-- A SWAP makes DIRTY_NEXT the bitmap in use; ignored while one is pending. -/
def State.dirtySwap (s : State) (p : Nat) : State :=
  let x := s.pail p
  if x.state = .disabled || bit x.dirty.ctrl 2 then s
  else
    s.setPail p { x with dirty := { x.dirty with
      prev := x.dirty.inUse, inUse := x.dirty.next, ctrl := setBit x.dirty.ctrl 2 true } }

def execDirtySwap (at_ : Instant) (pail : Nat) (s : State) : Result :=
  act (pail < 64) 10 (s.arrive at_) fun s => s.dirtySwap pail

def execDirtySwapComplete (at_ : Instant) (pail : Nat) (s : State) : Result :=
  act (pail < 64) 10 (s.arrive at_) fun s =>
    s.modPail pail fun x => { x with dirty := { x.dirty with ctrl := setBit x.dirty.ctrl 2 false } }

end Sys2Proof.Machine
end

