-- ==== Sys2Proof/Machine/Partitions.lean ====
section
/-!
DEFINITION. The partitions' commands (07_partitions_and_pails.md): monitor calls (R232), windows (R226, R229), the VS timer,
exceptions, restarts, the watchdog (R231, R234). Addresses of a call are guest-physical addresses of partition RAM
(assumption log 25). CONFIG_READ is in Machine/ConfigRead.lean.
-/

namespace Sys2Proof.Machine

open Sys2Proof

/-- A monitor call by a partition in an open window. -/
def callAct (at_ : Instant) (n : Nat) (s : State) (f : State → State) : Result :=
  act (n < 96) 10 (s.arrive at_) fun s => if s.calling n then f s else s

/-! ### Calls about the module and the tick -/

/-- The window record in use under which a partition runs now. -/
def State.openWindow (s : State) (n : Nat) : WinRec :=
  winRec ((s.part n).windows.getD ((s.part n).window.getD 0) 0)

/-- The pail number of a partition, 0xFF if none. -/
def State.pailNumber (s : State) (n : Nat) : Nat := (s.partPail n).getD 0xFF

/-- INFO. -/
def State.callInfo (s : State) (n : Nat) : State :=
  let u := (s.openWindow n).unit
  s.callReturn n 0 [((n + s.pailNumber n * 2 ^ 8 + u * 2 ^ 16 + u / 4 * 2 ^ 24 : Nat) : Int), (s.rate : Int), (s.lag : Int)]

def execInfo (at_ : Instant) (partition : Nat) (s : State) : Result :=
  callAct at_ partition s fun s => s.callInfo partition

/-- TICK: the time left is in the units of 2^-26 s of the time counter. -/
def State.callTick (s : State) (n : Nat) : State :=
  let x := s.part n
  s.callReturn n 0 [(s.workTick : Int), ((x.window.getD 0 : Nat) : Int), (((x.windowEndsAt - s.now) / 1024 : Nat) : Int)]

def execTick (at_ : Instant) (partition : Nat) (s : State) : Result :=
  callAct at_ partition s fun s => s.callTick partition

/-- TICK_DONE (R229, R236, R247): commits, captures, sends the regions as lead or where asked, sleeps. -/
def State.tickDone (s : State) (n : Nat) : State :=
  let s1 := match s.partPail n with
    | some p => if decide ((s.pail p).state = PailState.active) then s.commitSlots p 0xFFFF else s
    | none => s
  let regions := s1.captureRegions n
  let s2 := s1.modPart n fun x => { x with captured := regions, done := true, window := none }
  let s3 := s2.when_ (decide (s2.pair.role = Role.lead) || s2.pair.regionsWanted.contains n) fun t => t.sendRegions n
  s3.callReturn n 0 []

def execTickDone (at_ : Instant) (partition : Nat) (s : State) : Result :=
  callAct at_ partition s fun s => s.tickDone partition

def execYield (at_ : Instant) (partition : Nat) (s : State) : Result :=
  callAct at_ partition s fun s => (s.modPart partition fun x => { x with window := none }).callReturn partition 0 []

/-! ### The timer -/

def execTimerSet (at_ : Instant) (partition time : Nat) (s : State) : Result :=
  callAct at_ partition s fun s =>
    (s.modPart partition fun x => { x with timer := some (time % 2 ^ 64), timerPending := false }).callReturn partition 0 []

def execTimerCancel (at_ : Instant) (partition : Nat) (s : State) : Result :=
  callAct at_ partition s fun s =>
    (s.modPart partition fun x => { x with timer := none, timerPending := false }).callReturn partition 0 []

/-- The VS timer interrupt is raised in the first window at or after the timer's time; time counts drip bits [73:10]
(R222). -/
def State.vsTimer (s : State) (n : Nat) : State :=
  match (s.part n).timer with
  | some t =>
    if s.calling n && t ≤ s.now / 1024 % 2 ^ 64 then s.modPart n fun x => { x with timer := none, timerPending := true } else s
  | none => s

def execVsTimerInterrupt (at_ : Instant) (partition : Nat) (s : State) : Result :=
  act (partition < 96) 10 (s.arrive at_) fun s => s.vsTimer partition

/-! ### State regions and messages -/

def State.stateDeclare (s : State) (n r a len : Nat) : State :=
  if !s.regionOk n r a len then s.callReturn n callInvalid []
  else
    (s.modPart n fun x =>
      let old := x.regionsNext.getD x.regions
      { x with regionsNext := some (if len = 0 then Tab.del old r else Tab.insert old r ⟨a, len⟩) }).callReturn n 0 []

def execStateDeclare (at_ : Instant) (partition region address length : Nat) (s : State) : Result :=
  callAct at_ partition s fun s => s.stateDeclare partition region address length

def execStateStatus (at_ : Instant) (partition : Nat) (s : State) : Result :=
  callAct at_ partition s fun s =>
    s.callReturn partition 0 [((s.part partition).resyncs : Int), ((s.part partition).lastResync : Int)]

/-- The destinations of a partition's PORTS entry. -/
def State.portsOf (s : State) (n : Nat) : List Nat :=
  ((List.range 8).map (octetElem 8 1 (s.reg (Od.partPorts n)))).filter (· ≠ 0xFF)

/-- PORT_SEND (R233): a destination holds what it has and what is on its way to it. -/
def State.portSend (s : State) (n dest a len : Nat) : State :=
  if !(s.portsOf n).contains dest then s.callReturn n callDenied []
  else if len = 0 || 256 < len || !s.inRam n a len then s.callReturn n callInvalid []
  else if 8 ≤ (s.part dest).inbox.length + (s.part dest).sent.length then s.callReturn n callAgain []
  else
    (s.modPart dest fun x => { x with sent := x.sent ++ [⟨n, s.loadBytes n a len⟩] }).callReturn n 0 []

def execPortSend (at_ : Instant) (partition dest address length : Nat) (s : State) : Result :=
  callAct at_ partition s fun s => s.portSend partition dest address length

/-- PORT_RECV: a buffer too short for the oldest message, or outside RAM, is INVALID and takes none. -/
def State.portRecv (s : State) (n a len : Nat) : State :=
  match (s.part n).inbox with
  | [] => s.callReturn n callAgain []
  | m :: rest =>
    if len < m.data.length || !s.inRam n a m.data.length then s.callReturn n callInvalid []
    else
      ((s.modPart n fun x => { x with inbox := rest }).storeBytes n a m.data).callReturn n 0
        [((m.data.length : Nat) : Int), (m.sender : Int)]

def execPortRecv (at_ : Instant) (partition address length : Nat) (s : State) : Result :=
  callAct at_ partition s fun s => s.portRecv partition address length

/-- LOG: 64 bytes into the 256-entry ring. -/
def State.callLog (s : State) (n a : Nat) : State :=
  if !s.inRam n a 64 then s.callReturn n callInvalid []
  else
    let e := s.loadBytes n a 64
    (s.modPart n fun x => { x with logRing := (x.logRing ++ [e]).drop (x.logRing.length + 1 - 256) }).callReturn n 0 []

def execLog (at_ : Instant) (partition address : Nat) (s : State) : Result :=
  callAct at_ partition s fun s => s.callLog partition address

/-! ### Health, watchdog, restart, migration, invalid numbers -/

/-- A channel granted to the partition's pail is served by the fall-back engine. -/
def State.grantedFallback (s : State) (n : Nat) : Bool :=
  match s.partPail n with
  | some p => s.mapped.any fun e => s.pailImage p e.1 && (s.fbService (e.1 % 4)).isSome
  | none => false

/-- The partner is there and well. -/
def State.partnerHealthy (s : State) : Bool :=
  s.paired && !s.pair.partnerFailed && s.pair.partner.any fun hb => hb.state ≠ 4

/-- The HEALTH word. -/
def State.healthWord (s : State) (n : Nat) : Nat :=
  maskOf ((if s.degraded ((s.openWindow n).unit / 4) then [0] else []) ++ (if s.grantedFallback n then [1] else []) ++
    (if s.pair.role = Role.lead then [2] else []) ++ (if s.partnerHealthy then [3] else []) ++
    (if s.partSuppressed n || s.pairSuppresses then [4] else []))

def execHealth (at_ : Instant) (partition : Nat) (s : State) : Result :=
  callAct at_ partition s fun s => s.callReturn partition 0 [(s.healthWord partition : Int)]

def execWatchdogKick (at_ : Instant) (partition : Nat) (s : State) : Result :=
  callAct at_ partition s fun s => (s.modPart partition fun x => { x with watchdog := 0 }).callReturn partition 0 []

/-- RESTART_SELF: a restart with cause 2 at the next boundary. -/
def execRestartSelf (at_ : Instant) (partition : Nat) (s : State) : Result :=
  callAct at_ partition s fun s => (s.callReturn partition 0 []).askRestart partition 2 (s.workTick + 1)

/-- MIGRATE_READY: the safe point of a migration that waits (R262). -/
def State.migrateReady (s : State) (n : Nat) : State :=
  (s.modPart n fun x =>
    match x.migrateTo with
    | some l => { x with migrateTo := none, windowsNext := some l }
    | none => x).callReturn n 0 []

def execMigrateReady (at_ : Instant) (partition : Nat) (s : State) : Result :=
  callAct at_ partition s fun s => s.migrateReady partition

/-- A call number above 15 returns INVALID and does not stop the partition (R231, R232). -/
def execInvalidMonitorCall (at_ : Instant) (partition number : Nat) (s : State) : Result :=
  callAct at_ partition s fun s => if 15 < number then s.callReturn partition callInvalid [] else s

/-! ### Windows (R226, R229) -/

/-- A logical unit is retiring, so nothing runs on it until the boundary (R20, R21). -/
def State.unitStopped (s : State) (u : Nat) : Bool := decide ((s.herd (u / 4)).pending = some (u % 4))

/-- A window opens: the partition runs and has not done its tick, its memory can be reached, its unit works, and the instant lies in the
window, whose first 2 µs belong to the manager (R226). -/
def State.windowOpen (s : State) (n w : Nat) : State :=
  let x := s.part n
  match x.windows[w]? with
  | none => s
  | some word =>
    let r := winRec word
    let from_ := s.tickOffset s.workTick r.start
    let to_ := s.tickOffset s.workTick (r.start + r.length)
    if x.runs && !x.done && !x.displaced && !s.unitStopped r.unit && !s.cut 1 && x.window.isNone && s.windowIn r s.workTick &&
        from_ ≤ s.now && s.now < to_ then
      (s.writeResync n).modPart n fun y => { y with
        window := some w, runsFrom := from_ + ofUs 2, windowEndsAt := to_, extPending := false, checkpoint := y.regs }
    else s

def execWindowStart (at_ : Instant) (partition window : Nat) (s : State) : Result :=
  act (partition < 96 && window < 64) 10 (s.arrive at_) fun s => s.windowOpen partition window

/-- A window ends; the end of the last one of a work tick without TICK_DONE counts in OVERRUNS (R229), once. -/
def State.windowClose (s : State) (n w : Nat) : State :=
  let x := s.part n
  match x.windows[w]? with
  | none => s
  | some word =>
    let r := winRec word
    if !x.runs || !s.windowIn r s.workTick || s.now < s.tickOffset s.workTick (r.start + r.length) then s
    else
      let s1 := s.modPart n fun y => { y with window := if y.window = some w then none else y.window }
      let last := x.windows.all fun v => !s.windowIn (winRec v) s.workTick || (winRec v).start ≤ r.start
      let s2 := if last && !x.done && !x.overran then
          (s1.count 32 (Od.partOverruns n)).modPart n fun y => { y with overran := true }
        else s1
      s2.writeResync n

def execWindowEnd (at_ : Instant) (partition window : Nat) (s : State) : Result :=
  act (partition < 96 && window < 64) 10 (s.arrive at_) fun s => s.windowClose partition window

/-! ### Faults and restarts (R231, R234, R342) -/

/-- The exception codes of the hypervisor extension that trap to the manager beside an ECALL from VS-mode: the guest-page faults of an
instruction fetch, a load and a store (R223, R235; log 111). Every other exception is delegated to VS-mode. -/
def trapsToManager (cause : Nat) : Bool := cause = 20 || cause = 21 || cause = 23

/-- An exception that traps to the manager stops the partition; it restarts at the next boundary with cause 3. One delegated to VS-mode is
the partition's own. -/
def State.partFault (s : State) (n cause : Nat) : State :=
  if s.calling n && trapsToManager cause then
    ((s.count 32 (Od.partFaults n)).healthFlag 9 (some n)).askRestart n 3 (s.workTick + 1) else s

def execPartitionException (at_ : Instant) (exception : PartException) (s : State) : Result :=
  act (exception.partition < 96) 10 (s.arrive at_) fun s => s.partFault exception.partition exception.cause

/-! ### What a partition sees (R222, R223, R235) -/

/-- misa of a core unit: RV64 with A, C, D, F, H, I, M, S and U. -/
def misa : Nat := 2 * 2 ^ 62 + maskOf [0, 2, 3, 5, 7, 8, 12, 18, 20]

/-- mvendorid, marchid, mimpid. -/
def coreIdentity : List Nat := [0, 0, 0x0001]

/-- What a read of a counter by a partition gives: cycle, time or instret, by its CSR number; the others it may not read. -/
def State.guestCounter (s : State) (n csr : Nat) : Option Nat :=
  if csr < 0xC00 || 0xC1F < csr || !bit (s.part n).hcounteren (csr - 0xC00) then none
  else if csr = 0xC01 then some (s.now / 1024 % 2 ^ 64) else some (Config.coreCounter n csr s.now).toNat

/-- What lies at a guest-physical address. -/
inductive GuestPlace where
  | window (offset : Nat)
  | aperture (offset : Nat)
  | ram
  deriving DecidableEq, Repr

/-- The guest-physical map: the window of the partition's own pail, its aperture, its RAM. -/
def State.guestPlace (s : State) (n a : Nat) : Option GuestPlace :=
  if s.inRam n a 1 then some .ram
  else
    match s.partPail n with
    | none => none
    | some p =>
      let w := 0x40000000 + p * 0x4000
      if w ≤ a && a < w + 0x4000 then some (.window (a - w))
      else if 0x60000000 ≤ a && a ≤ 0x61FFFFFF then some (.aperture (a - 0x60000000))
      else none

/-- A kind of access. -/
inductive GuestAccess where
  | fetch | load | store
  deriving DecidableEq, Repr

/-- The guest-page fault of an access outside the map or of a kind that its place does not allow; none where it is allowed. -/
def State.guestFault (s : State) (n a : Nat) (access : GuestAccess) : Option Nat :=
  match s.guestPlace n a, access with
  | some .ram, _ | some (.window _), .load | some (.window _), .store | some (.aperture _), .load => none
  | _, .fetch => some 20
  | _, .load => some 21
  | _, .store => some 23

/-- The watchdog of a running partition has run out: a restart with cause 1. -/
def State.watchdogExpiry (s : State) (n : Nat) : State :=
  let limit := s.reg (Od.partWatchdogTicks n)
  if limit ≠ 0 && limit ≤ (s.part n).watchdog && (s.part n).runs then s.askRestart n 1 s.workTick else s

def execPartitionWatchdogExpiry (at_ : Instant) (partition : Nat) (s : State) : Result :=
  act (partition < 96) 10 (s.arrive at_) fun s => s.watchdogExpiry partition

/-- A due restart (R231): memory zeroed, the program loaded, the pail reset, entry in VS-mode at e_entry with vsatp 0 and
a0 to a2 set; a restart other than the first start counts, and its regions are asked of the partner (R342). -/
def State.restartPart (s : State) (n : Nat) : State :=
  let x := s.part n
  match x.restartDue with
  | none => s
  | some cause =>
    if s.workTick < x.restartFrom || !s.on (Od.partEnable n) || x.unplaced || s.cut 1 then s
    else
      let s1 := s.loadProgram n
      let s2 := match s1.partPail n with
        | some p => s1.resetPail p
        | none => s1
      let s3 := s2.modPart n fun y => { y with
        run := .running, restartDue := none, window := none, done := false, overran := false, watchdog := 0
        timer := none, timerPending := false, extPending := false, inbox := [], sent := [], captured := [], resync := []
        pc := elfEntry (s.blob (Od.partProgram n)), vsatp := 0, priv := .vs, hcounteren := 7
        regs := [(n : Int), (s.pailNumber n : Int), (cause : Int)] ++ y.regs.drop 3 }
      if cause = 0 then s3
      else
        let s4 := (s3.count 32 (Od.partRestarts n)).loseWork n 0
        s4.modPart n fun y => { y with held := y.held && y.awaitingRegions }

def execPartitionRestart (at_ : Instant) (partition : Nat) (s : State) : Result :=
  act (partition < 96) 10 (s.arrive at_) fun s => s.restartPart partition

end Sys2Proof.Machine
end

