-- ==== Sys2Proof/Machine/Boundary.lean ====
section
/-!
DEFINITION. WORK_TICK_BOUNDARY (R12): the end of the work tick for the pair (R330, R331, R333, R337, R341, R346), messages, regions
and windows of partitions (R227, R233, R235), the freeze sample (R181), loop outputs (R318), the snapshots (R249, R283), the frames
(R343) and the sections the lead sends (R334).
-/

namespace Sys2Proof.Machine

open Sys2Proof

/-! ### The partner's heartbeats (R330, R333) -/

/-- A path at the end of work tick `t`. -/
def Path.judge (x : Path) (t : Nat) : Path :=
  if x.ticks.contains t then { x with had := x.had + 1, lacked := 0 } else { x with had := 0, lacked := x.lacked + 1 }

/-- PATH_FAULT of a path beside the other one. -/
def Path.faulty (x y : Path) : Bool := if 3 ≤ x.lacked && 3 ≤ y.had then true else if 3 ≤ x.had then false else x.fault

/-- Judge both paths and the partner. -/
def State.judgePaths (s : State) (t : Nat) : State :=
  let link := s.pair.link.judge t
  let station := s.pair.station.judge t
  let two := s.hasStationPath
  let fault := two && link.faulty station
  let stationFault := two && station.faulty link
  let fails := 3 ≤ link.lacked && (!two || 3 ≤ station.lacked) && s.pair.partner.isSome && !s.pair.partnerFailed
  let s1 := s.setPair fun p => { p with
    link := { link with fault := fault }, station := { station with fault := stationFault }
    partnerFailed := p.partnerFailed || fails
    swap := if fails then p.swap.map fun w => { w with void := true } else p.swap }
  (s1.pairStand 2 (fault || stationFault)).when_ fails fun u => u.pairFlag 1

/-- A heartbeat came in work tick `t`. -/
def State.heard (s : State) (t : Nat) : Bool := s.pair.partner.isSome && s.tickAt t ≤ s.pair.partnerAt

/-- The state the partner's heartbeats show, for how many ticks in a row; the standing conflict of preferences and the switched-off
swaps (R330, R351). -/
def State.judgePartner (s : State) (t : Nat) : State :=
  let shown := (s.pair.partner.map (·.state)).getD 0
  let run := if !s.heard t then 0 else if shown = s.pair.partnerShown && s.pair.partnerRun ≠ 0 then s.pair.partnerRun + 1 else 1
  let conflict := !s.pair.partnerFailed && s.pair.partner.any fun hb => bit hb.flags 0 == s.on Od.pairPreferredLead
  ((s.setPair fun p => { p with partnerShown := shown, partnerRun := run }).pairStand 6 conflict).pairStand 7
    (s.reg Od.pairSwapInterval = 0)

/-! ### Digests (R337, R358) -/

/-- The follower withholds the frames of work tick `t` on a difference; one that did not come is counted. -/
def State.judgeDigest (s : State) (t : Nat) : State :=
  let s0 := s.setPair fun p => { p with withhold := false }
  match s.digestOf t with
  | none =>
    s0.when_ (s.linkUp && (s.pair.link.ticks.contains t || s.pair.station.ticks.contains t)) fun u =>
      (u.count 32 Od.pairDigestMissing).setFlag 81 3
  | some d =>
    s0.when_ (decide (s.pair.role = Role.follow) && s.digestDiffers d) fun u =>
      ((u.count 32 Od.pairDivergences).setPair fun p => { p with withhold := true, lastDiverged := u.now }).pairFlag 3

/-- The partner's input digest of work tick `t` equals this module's (R330). -/
def State.inputMatches (s : State) (t : Nat) : Bool := (s.digestOf t).any fun d => d.inputValid && d.inputDigest = s.inputDigest

/-! ### Adoption (R341, R342) -/

/-- A section of work tick `t` that counts: whole, in time, with this module's CONFIG_TAG. -/
def State.sectionOf (s : State) (t kind id : Nat) : Option Section :=
  s.pair.sections.find? fun x =>
    x.kind = kind && x.id = id && x.tick = t && x.complete && !x.pieces.isEmpty && x.arrivedAt ≤ s.lastArrival t && x.tag = s.configTag

/-- A section that was not adopted. -/
def State.sectionLate (s : State) : State := (s.count 32 Od.pairStateLate).pairFlag 4

def State.sectionDiffers (s : State) (differs : Bool) : State := s.when_ differs fun u => u.count 32 Od.pairStateMismatch

/-- What adopting one section comes to: the state, and whether it was adopted. -/
abbrev Adoption := State × Bool

/-- Adopt a section, or count its absence. -/
def State.adoptOr (s : State) (t kind id : Nat) (f : List Byte → Adoption) : Adoption :=
  match s.sectionOf t kind id with
  | some x => f x.data
  | none => (s.sectionLate, false)

/-- LOOPS, where the engine is in use. -/
def State.takeLoops (s : State) (t : Nat) : Adoption :=
  if !s.loopsOn then (s, true)
  else s.adoptOr t 1 0 fun bs => ((s.sectionDiffers (decide (bs ≠ s.loopsSection))).adoptLoops bs, true)

/-- CHURN, where work tick `t` ends a cycle of the engine; a section in SAFE_STOP counts in neither counter. -/
def State.takeChurn (s : State) (t : Nat) : Adoption :=
  if decide (s.churn.state = EngineState.stopped) || (t + 1) % max 1 s.churn.cycleTicks ≠ 0 then (s, true)
  else
    s.adoptOr t 2 0 fun bs =>
      if bit (beAt bs 9 1) 1 then (s, false)
      else ((s.sectionDiffers (decide (s.churnSection ≠ some bs))).setChurn fun c => { c with adopt := some bs }, true)

def State.takeCounters (s : State) (t : Nat) : Adoption :=
  s.adoptOr t 3 0 fun bs => ((s.sectionDiffers (decide (bs ≠ s.countersSection))).adoptCounters bs, true)

/-- One region of a partition: where it differs the manager writes the partner's copy between windows. -/
def State.takeRegion (s : State) (n r : Nat) (bs : List Byte) : State :=
  let x := s.part n
  if Tab.find x.captured r = some bs then s
  else
    ((s.sectionDiffers true).modPart n fun y => { y with resync := Tab.insert y.resync r bs }).when_ x.awaitingRegions fun u => u.pairFlag 9

/-- The REGION sections of work tick `t` that came for a partition. -/
def State.regionsCame (s : State) (t n : Nat) : List (Nat × List Byte) :=
  (List.range 4).filterMap fun r => (s.sectionOf t 4 (4 * n + r)).map fun x => (r, x.data)

/-- REGION sections of a partition; a partition that did its work expects every region it has declared. -/
def State.takeRegions (s : State) (t n : Nat) (expects : Bool) : Adoption :=
  let came := s.regionsCame t n
  let want := if expects && (s.part n).done then (s.part n).regions.map (·.1) else []
  let missing := want.filter fun r => !(came.map (·.1)).contains r
  let s1 := s.each came fun e u => u.takeRegion n e.1 e.2
  let s2 := s1.when_ (!came.isEmpty) fun u => u.modPart n fun y => { y with awaitingRegions := false }
  (s2.each missing fun _ u => u.sectionLate, missing.isEmpty)

/-- Every section of work tick `t`: all of them for a follower or a syncing module, requested regions for a lead. -/
def State.adopt (s : State) (t : Nat) : Adoption :=
  let parts := s.parts.map (·.1)
  if decide (s.pair.role = Role.follow ∨ s.pair.role = Role.syncing) then
    let a := s.takeLoops t
    let b := a.1.takeChurn t
    let c := b.1.takeCounters t
    parts.foldl (fun acc n =>
      let r := acc.1.takeRegions t n true
      (r.1, acc.2 && r.2)) (c.1, a.2 && b.2 && c.2)
  else
    ((parts.filter fun n => (s.part n).awaitingRegions).foldl (fun u n => (u.takeRegions t n false).1) s, true)

/-! ### Roles (R330, R331, R352) -/

/-- The swap whose boundary has come gives this module another role. -/
def State.swapRole (s : State) : Option Role :=
  match s.pair.swap with
  | none => none
  | some w =>
    if s.workTick < w.atTick || w.void then none
    else if w.lead then
      if decide (s.pair.role = Role.lead) && w.accepted.any fun t => t ≤ s.tickAt (w.atTick - 4) then some .follow else none
    else if decide (s.pair.role = Role.follow) && w.acked.any fun t => t ≤ s.tickAt (w.atTick - 2) then some .lead else none

/-- The rules that follow the partner's heartbeats, the tie rule among them. -/
def State.heartbeatRole (s : State) (heard : Bool) : Role :=
  let shown := s.pair.partnerShown
  let run := s.pair.partnerRun
  let wins := s.pair.partner.any s.winsTie
  match s.pair.role with
  | .init =>
    if heard && shown ≤ 1 then (if wins then .lead else .syncing)
    else if heard && shown ≤ 3 then .syncing
    else if s.pair.hbWaited then .lead
    else .init
  | .syncing => if 16 ≤ s.pair.syncRun then .follow else .syncing
  | .follow =>
    if heard && 1 ≤ run && ((shown = 2 && wins) || shown ≤ 1) then .lead else .follow
  | .lead => if heard && shown = 3 && 3 ≤ run && !wins then .syncing else .lead
  | .withdrawn => .withdrawn

/-- The role at this boundary: the first of R331 that applies. -/
def State.roleAt (s : State) (heard : Bool) : Role :=
  let r := s.pair.role
  if r = .withdrawn || s.power.withdrawn then .withdrawn
  else if !s.paired then r
  else if (s.pair.partnerFailed || s.pair.relinquished) && decide (r = .syncing ∨ r = .follow) then .lead
  else if s.pair.relinquishSent && decide (r = .lead) then .syncing
  else (s.swapRole).getD (s.heartbeatRole heard)

/-- The follower may have taken the lead at the boundary: the accept reached this module in time for its ACK (R352). -/
def State.swapOpen (s : State) (w : Swap) : Bool :=
  w.lead && !w.void && w.accepted.any fun t => s.tickAt (w.atTick - 4) < t && t ≤ s.tickAt (w.atTick - 2)

/-- A swap whose boundary has come is over; one in which neither module changes counts from here (R352). Where only the partner may
have changed, its heartbeat of that work tick tells. -/
def State.endSwap (s : State) : State :=
  match s.pair.swap with
  | none => s
  | some w =>
    if s.workTick < w.atTick || (s.workTick = w.atTick && s.swapOpen w) then s
    else
      let failed := w.lead && !(s.swapOpen w && s.pair.partnerShown = 3)
      let s1 := s.setPair fun p => { p with swap := none, swapFrom := if failed then s.tickAt w.atTick else p.swapFrom }
      s1.when_ failed fun u => u.pairFlag 8

/-- The counts of R330 and R352 at the end of a work tick. -/
def State.countRuns (s : State) (good : Bool) : State :=
  s.setPair fun p => { p with
    syncRun := if p.role = .syncing && good then p.syncRun + 1 else 0
    followClean := if p.role = .follow && !p.withhold then p.followClean + 1 else 0
    outputValid := true }

/-! ### Changes (R346) -/

/-- Apply a write carried as a CHANGE section to the entry it names. -/
def State.applyChange (s : State) (c : Change) : State :=
  let v := ofBe c.value
  if c.index = 0x5020 then s.acceptBatch c.value (s.now - ofUs 10)
  else if c.index = 0x5100 then s.applyReleaseAll v
  else if 0x5110 ≤ c.index && c.index < 0x5118 then s.setReg (Od.force ((c.index - 0x5110) * 128 + c.sub - 1)) (forceWord v)
  else if c.index = 0x4200 then s.applyTriggerNow v
  else if c.index = 0x41C0 then s.applyFreezeMap v
  else if 0x6200 ≤ c.index && c.index < 0x6208 then s.applyGroupRelease (c.index - 0x6200) v
  else if 0x6000 ≤ c.index && c.index < 0x6020 then
    let l := c.index - 0x6000
    if c.sub = 0x1C then s.applyLoopRelease l v
    else if tuningSub c.sub then s.applyTuning l c.sub v
    else s.setReg (c.index * 256 + c.sub) v
  else s.setReg (c.index * 256 + c.sub) v

/-- Changes whose boundary has come apply, on both modules; the lead sends those without acknowledgement again, up to two
ticks before their boundary. -/
def State.runChanges (s : State) : State :=
  let due (c : Change) : Bool := c.applyTick ≤ s.workTick
  let todo := (s.pair.changes ++ s.pair.changesIn).filter due
  let s1 := s.setPair fun p => { p with
    changes := p.changes.filter fun c => !due c, changesIn := p.changesIn.filter fun c => !due c }
  let s2 := s1.each todo fun c t => t.applyChange c
  let open_ := s2.pair.changes.filter fun c => !c.acked && decide (s2.pair.role = Role.lead)
  let s3 := s2.each (open_.filter fun c => s.workTick + 2 < c.applyTick) fun c t => t.sendChange c
  (s3.each (open_.filter fun c => s.workTick + 2 = c.applyTick) fun _ t => t.pairFlag 4).setPair fun p => { p with
    lastDiverged := if (open_.filter fun c => s.workTick + 2 = c.applyTick).isEmpty then p.lastDiverged else s.now }

/-! ### The pair at a boundary -/

/-- What the end of work tick `t` does to the pair. -/
def State.pairEnd (s : State) (t : Nat) : State :=
  if !s.paired || decide (s.pair.role = Role.withdrawn) then s
  else
    let s1 := ((s.judgePaths t).judgePartner t).judgeDigest t
    let matched := s1.inputMatches t && s1.pair.partner.any fun hb => hb.configTag = s1.configTag
    let a := s1.adopt t
    (a.1.countRuns (matched && a.2)).setPair fun p => { p with
      sections := p.sections.filter fun x => t < x.tick, kept := p.kept.filter fun k => t < k.tick, regionsWanted := [] }

/-- Pails whose publications of work tick `t` are withheld say so (R248). -/
def State.noteSuppressed (s : State) : State :=
  s.each (s.pails.map (·.1)) fun p t =>
    let held := t.pailWithheld p
    (t.modPail p fun x => { x with suppressed := held }).when_ held fun u => u.post p 0x05 0 0 u.now

/-! ### Partitions and pails (R227, R233, R235, R256, R260, R262) -/

/-- A partition enters the work tick; `frame` says that a major frame begins. -/
def Partition.enter (x : Partition) (k : Nat) (frame : Bool) : Partition :=
  let waited := x.migrateTo.filter fun _ => x.migrateSince + 64 ≤ k
  let next := waited.orElse fun _ => x.windowsNext
  let swaps := frame && next.isSome
  { x with
    inbox := x.inbox ++ x.sent.mergeSort fun a b => a.sender ≤ b.sender
    sent := [], regions := x.regionsNext.getD x.regions, regionsNext := none
    migrateTo := if waited.isSome then none else x.migrateTo
    windows := if swaps then next.getD [] else x.windows, windowsNext := if swaps then none else next
    run := if swaps && x.run = .migrating then .running else x.run
    displaced := x.displaced && !swaps
    done := false, overran := false, window := none, checkpoint := x.regs
    watchdog := if x.runs then x.watchdog + 1 else x.watchdog }

/-- Every partition enters the work tick; the committed MAJOR_FRAME is in use once a major frame of its own begins (R227). -/
def State.enterParts (s : State) : State :=
  let frame := decide (s.workTick % s.majorSet = 0)
  { s with
    parts := s.parts.map fun (n, x) => (n, x.enter s.workTick frame)
    majorFrame := if frame then s.majorSet else s.majorFrame }

/-- A pail enters the work tick: a reset and a freeze take at most two of them. -/
def State.enterPail (s : State) (p : Nat) : State :=
  let s1 := s.modPail p fun x => { x with committed := 0 }
  let s2 := s1.when_ ((s.pail p).resetAt + 2 ≤ s.workTick) fun t => t.finishReset p
  let s3 := s2.freezeBound p
  s3.when_ (bit (s3.pail p).ev.ctrl 6) fun t => t.post p 0x01 0 0 t.now

def State.enterPails (s : State) : State := s.each (s.pails.map (·.1)) fun p t => t.enterPail p

/-- The writes of PUB_COMMIT that came in the cycle of the boundary (R247). -/
def State.lateCommits (s : State) : State :=
  s.each (s.pails.filter fun e => !e.2.commits.isEmpty) fun e t =>
    (t.modPail e.1 fun x => { x with commits := [] }).each e.2.commits fun v u => u.takeCommit e.1 v

/-! ### The data path at a boundary (R164, R181) -/

/-- The freeze requests as they stand, and the time state of the tick. -/
def State.samplePath (s : State) : State :=
  let pails := (s.pails.filter fun e => s.on (Od.pailDcFreezeEnable e.1) && e.2.dcFreeze ≠ 0).map fun e => (e.1, e.2.dcFreeze)
  let k := s.workTick
  s.setDp fun d => { d with
    freezeNow := ⟨s.reg Od.freezeDcFreezeMap, s.churn.freezeGroups, pails⟩
    timeAt := (Tab.insert d.timeAt k (servoCode s.time.servo)).filter fun e => k < e.1 + 160 }

/-! ### WORK_TICK_BOUNDARY -/

/-- What the lead sends at a boundary: the counters, unless the churn engine acts there, and sections that are final. -/
def State.leadSections (s : State) (churn : Bool) : State :=
  let s1 := s.when_ (!churn) fun t => t.sendCounters
  let s2 := s1.sendLoops
  s2.when_ (!churn && s2.churn.evalDone) fun t => t.sendChurn

/-- The boundary of work tick `k`. -/
def State.boundary (s : State) (k : Nat) : State :=
  let t := s.workTick
  let ended := (s.overrunRest.pairEnd t).noteSuppressed
  let heard := s.heard t
  let s1 : State := { ended with workTick := k }
  let s2 := ((s1.setRole (s1.roleAt heard)).endSwap.runChanges).when_ s.paired fun u => u.safeStopYield
  let s3 := s2.enterParts.enterPails.samplePath.publishLoops.snapSubs
  let s4 := s3.setPair fun p => { p with gpioSnap := maskOf ((List.range 16).filter s3.gpioRead) }
  let churn := s4.churnDue
  let s5 := (s4.formPubs true).when_ (!churn) fun u => u.formPubs false
  (s5.leadSections churn).lateCommits

/-- A work tick begins once its instant has come. -/
def State.workTickBoundary (s : State) : State := if s.tickNow = s.workTick then s else s.boundary s.tickNow

def execWorkTickBoundary (at_ : Instant) (s : State) : Result := act true 10 (s.arrive at_) fun s => s.workTickBoundary

end Sys2Proof.Machine
end

