-- ==== Sys2Proof/Machine/FaultOps.lean ====
section
/-!
DEFINITION. Shared operations on faults (12_faults_self_test_and_start_up.md): core units and their spares (R20 to R23, R399),
partitions in the reserve (R23, R24, R230), memory rows (R414 to R416), test results (R407, R413).
-/

namespace Sys2Proof.Machine

open Sys2Proof

/-! ### Core units -/

/-- The identifier of a position of a herd. -/
def coreId (h pos : Nat) : Nat := unitId 1 (5 * h + pos)

/-- The logical unit of its herd that a position runs, if any. -/
def Herd.runs (x : Herd) (pos : Nat) : Option Nat := (List.range 4).find? fun l => x.units.getD l 5 = pos

/-- The partitions whose windows in use lie on a logical unit. -/
def State.partsOn (s : State) (u : Nat) : List Nat :=
  ((s.parts.map (·.1)).filter fun n => (s.part n).run ≠ .stopped && (s.partUnits n).contains u)

/-- A flag of SELF_TEST; INFO is the unit (R470). -/
def State.testFlag (s : State) (flag unit : Nat) : State := s.setFlag 113 flag (some unit)

/-- A result record of R413, newest first, of which 256 are kept. -/
def State.writeResult (s : State) (unit result flags patterns misr : Nat) : State :=
  s.setHealth fun h => { h with results := (⟨unit, result, flags, patterns % 2 ^ 32, misr % 2 ^ 64, s.tickNow⟩ :: h.results).take 256 }

/-- Flags of a result: RETEST and MANUAL. -/
def State.testFlags (s : State) (unit : Nat) : Nat :=
  b2n (s.health.retest.contains unit) + 4 * b2n (decide (s.health.manual = some unit))

/-- One run of a unit's own test outside the schedule, with its outcome (R407, R413, R423): 0 passed; a failure's pattern counter
and MISR are not stated. -/
def State.recordTest (s : State) (unit flags result : Nat) : State :=
  let count := (Config.patternCount (unit / 4096)).toNat
  if result = 0 then
    ((s.writeResult unit 0 flags count (Config.expectedMisr (unit / 4096)).toNat).count 32 Od.stPasses).setHealth fun h => { h with
      lastPass := Tab.insert h.lastPass unit s.now }
  else
    let patterns := if result = 1 then count else s.freeBelow (2 ^ 32)
    (((s.writeResult unit result flags patterns (Config.free (s.freeUsed + 1))).drew.drew).count 32 Od.stFails).testFlag 0 unit

/-- The position that takes a logical unit in need: the spare, else the unit under test, whose test is abandoned (R411); where the
abandoned test stood is not stated. -/
def State.takeSpare (s : State) (h : Nat) : Option (Nat × State) :=
  let x := s.herd h
  match x.spare with
  | some q => some (q, s.setHerd h { x with spare := none })
  | none =>
    match s.testSpare h with
    | none => none
    | some q =>
      let s1 := s.writeResult (coreId h q) 3 (s.testFlags (coreId h q)) (s.freeBelow (2 ^ 32)) (Config.free (s.freeUsed + 1))
      some (q, (s1.drew.drew.setHerd h { x with testing := none }).setHealth fun y => { y with
        manual := y.manual.filter fun u => u ≠ coreId h q })

/-! ### The reserve (R23, R24, R230) -/

/-- A logical unit can run windows: it is not the manager's, its region works, and the position that runs it does. -/
def State.unitUsable (s : State) (u : Nat) : Bool :=
  let h := u / 4
  1 ≤ u && u < 48 && !s.health.lostRegions.contains (u / 12) && !(s.health.managerHerd = 3 && !s.health.managerLent && u = 12) &&
    !s.unitStopped u && !s.isOut (coreId h ((s.herd h).units.getD (u % 4) 5))

/-- The windows in use by the other partitions. -/
def State.otherWindows (s : State) (n : Nat) : List WinRec :=
  ((s.parts.filter fun e => e.1 ≠ n && e.2.run ≠ .stopped).map fun e => e.2.windows.map winRec).flatten

/-- A list of windows that a partition can run on beside the others. -/
def State.windowsFit (s : State) (n : Nat) (l : List Nat) : Bool :=
  let rs := l.map winRec
  !rs.isEmpty && rs.length ≤ 64 && noClash s.majorSet rs &&
    rs.all fun r => r.start + r.length ≤ 256 && 1 ≤ r.length && s.unitUsable r.unit &&
      (s.otherWindows n).all fun q => q.unit ≠ r.unit || !q.clash s.majorSet r

/-- The window list with every window on an unusable unit moved, at the same time, to a usable one where nothing clashes. -/
def State.movedWindows (s : State) (n : Nat) (l : List Nat) : List Nat :=
  l.map fun w =>
    if s.unitUsable (winRec w).unit then w
    else
      match (List.range 48).find? fun u => s.unitUsable u && (s.otherWindows n).all fun q => q.unit ≠ u || !q.clash s.majorSet (winRec w) with
      | some u => setField w 64 6 u
      | none => w

/-- Place a displaced partition in the reserve: windows of the manager's own choice (log 50), where any fit. -/
def State.placeReserve (s : State) (n : Nat) : State :=
  let x := s.part n
  let own := Config.reserveWindows s.freeUsed n
  let moved := s.movedWindows n x.windows
  let s1 := s.drew
  if s.windowsFit n own then s1.setPart n { x with windows := own, displaced := false }
  else if s.windowsFit n moved then s1.setPart n { x with windows := moved, displaced := false }
  else s1

/-- The partitions of a unit are out of their place: suppressed until they run in the reserve. -/
def State.displace (s : State) (u : Nat) : State :=
  s.each (s.partsOn u) fun n t => t.modPart n fun x => { x with displaced := true, window := none }

/-- Partitions that wait for the reserve run in their place again once every unit they have windows on is usable. -/
def State.replace (s : State) : State :=
  s.each ((s.parts.map (·.1)).filter fun n => (s.part n).displaced && (s.partUnits n).all s.unitUsable) fun n t =>
    t.modPart n fun x => { x with displaced := false }

/-- A partition has a window on a logical unit in the present work tick. -/
def State.worksOn (s : State) (n u : Nat) : Bool :=
  (s.part n).windows.any fun w => (winRec w).unit = u && s.windowIn (winRec w) s.workTick

/-- The unit at work on logical unit `u` retires at the next boundary (R20): what partitions did on it in this work tick is lost, and they
are back at the last checkpoint (R21); those of a degraded herd leave it for the reserve (R23). -/
def State.loseUnit (s : State) (u cause count : Nat) : State :=
  let x : Herd := { s.herd (u / 4) with pending := some (u % 4), pendingAt := s.tickNow, pendingCause := cause, pendingCount := count }
  let s1 := s.setHerd (u / 4) x
  let s2 := s1.each ((s1.partsOn u).filter fun n => s1.worksOn n u) fun n t =>
    (t.modPart n fun y => { y with regs := y.checkpoint, window := none }).loseWork n (t.workTick + 1)
  if s2.degraded (u / 4) then s2.displace u else s2

/-- A core unit retires: at the next boundary where it has work, at once where it is the spare, under test or awaits a second
test. -/
def State.retireCore (s : State) (unit cause count : Nat) : State :=
  let h := unit / 5
  let x := s.herd h
  match x.runs (unit % 5) with
  | some l => if x.pending.isSome then s else s.loseUnit (4 * h + l) cause count
  | none =>
    let y : Herd := { x with
      spare := x.spare.filter fun q => q ≠ unit % 5, testing := x.testing.filter fun q => q ≠ unit % 5 }
    ((s.recordRetirement (unitId 1 unit) cause count).setHerd h y).coverage

/-! ### Memory rows (R399, R414 to R416) -/

def memClass (m : Nat) : Nat := m / 256
def memIndex (m : Nat) : Nat := m % 256

/-- The instances of each class. -/
def memCount (c : Nat) : Nat := [60, 60, 12, 16, 8, 32, 4, 2].getD c 0

/-- A memory instance the module has. -/
def memOk (m : Nat) : Bool := memIndex m < memCount (memClass m)

/-- Spare rows, for each bank of an L2 or DRAM instance. -/
def memSpares (c : Nat) : Nat := [4, 4, 8, 8, 8, 2, 4, 2].getD c 0

/-- The power domain a memory lies in. -/
def memDomain (m : Nat) : Nat :=
  match memClass m with
  | 0 | 1 => 6 + memIndex m / 15
  | 2 => 6 + memIndex m / 3
  | 3 => 10
  | 4 | 5 => 3
  | 6 => 6 + memIndex m
  | _ => 10

/-- The key of a row's spare bank, and of the row. -/
def rowBankKey (m row : Nat) : Nat := m * 2 ^ 32 + (if memClass m = 2 || memClass m = 7 then Config.rowBank m row else 0)
def rowKey (m row : Nat) : Nat := m * 2 ^ 32 + row % 2 ^ 32

/-- The spare rows in use at a start: those of the soft and hard repairs that the log holds (R416). -/
def sparesOf (repairs : List Repair) : Tab Nat :=
  (repairs.filter fun r => r.repair = 1 || r.repair = 2).foldl (fun t r =>
    Tab.put t (rowBankKey r.inst r.row) (max (Tab.look t (rowBankKey r.inst r.row) 0) (r.spare + 1)) 0) []

/-- The octets of DRAM withheld from allocation from a start on: those of the rows of DRAM without a spare (R265, R416). -/
def withheldOf (rows : List Nat) : Nat :=
  ((rows.filter fun k => memClass (k / 2 ^ 32) = 7).map fun k => Config.rowBytes (k / 2 ^ 32) (k % 2 ^ 32)).sum

/-- A repair record (R415); a full log refuses it. -/
def State.writeRepair (s : State) (r : Repair) : State :=
  if 512 ≤ s.health.repairs.length then s.healthFlag 8 else s.setHealth fun h => { h with repairs := h.repairs ++ [r] }

/-- What an instance without a spare row for a faulty row comes to (R416). -/
def State.noSpareRow (s : State) (m row count : Nat) : State :=
  match memClass m with
  | 0 | 1 => s.retireCore (memIndex m) 6 count
  | 5 => s.retirePort (memIndex m) 6 count
  | 6 => s.retireSlice (memIndex m) 6 count 0
  | _ =>
    (s.setHealth fun h => { h with
      lockedRows := if h.lockedRows.contains (rowKey m row) then h.lockedRows else h.lockedRows ++ [rowKey m row]
      }).recordRetirement (unitId 7 m) 6 count

/-- A faulty row is redirected to a spare row, the spares taken in rising order, or what R416 says where none is left. -/
def State.repairRow (s : State) (m row bitPos failType count : Nat) : State :=
  let k := rowBankKey m row
  let used := Tab.look s.health.spareRows k 0
  if used < memSpares (memClass m) then
    (s.setHealth fun h => { h with
        spareRows := Tab.put h.spareRows k (used + 1) 0, rowErrors := Tab.put h.rowErrors (rowKey m row) [] [] }).writeRepair
      ⟨m, row, bitPos, failType, 1, used, s.tickNow % 2 ^ 32⟩
  else (s.writeRepair ⟨m, row, bitPos, failType, 3, 0xFFFF, s.tickNow % 2 ^ 32⟩).noSpareRow m row count

/-- The unit that holds a memory is retired and counts nothing more (R400). -/
def State.holderOut (s : State) (m : Nat) : Bool :=
  match memClass m with
  | 0 | 1 => s.isOut (unitId 1 (memIndex m))
  | 5 => (s.port (memIndex m)).retired
  | 6 => s.isOut (sliceId (memIndex m))
  | _ => false

/-- A single-bit error, corrected in the data and in the row: the fourth at one row in 24 h repairs it. -/
def State.correctError (s : State) (m row bitPos : Nat) : State :=
  let s1 := (s.count 32 Od.healthCorrectedErrors).healthFlag 6
  if s.holderOut m || s.health.lockedRows.contains (rowKey m row) then s1
  else
    let l := s1.now :: ((Tab.look s1.health.rowErrors (rowKey m row) []).filter fun e => s1.now ≤ e + 86400 * second)
    let s2 := s1.setHealth fun h => { h with rowErrors := Tab.put h.rowErrors (rowKey m row) l [] }
    if l.length < 4 then s2 else s2.repairRow m row bitPos 7 l.length

/-! ### Tests (R407, R410, R418) -/

/-- Test access is open: MANUFACTURE or RETURN (R418). -/
def State.testAccess (s : State) : Bool := decide (s.sec.lc = LifeCycle.manufacture ∨ s.sec.lc = LifeCycle.return_)

/-- The online schedule runs: only test access lets it be turned off. -/
def State.testsOn (s : State) : Bool := s.on Od.stEnable || !s.testAccess

/-- A test that has to wait (R410). -/
def State.deferTest (s : State) (unit : Nat) : State := (s.count 32 Od.stDeferred).testFlag 1 unit

/-- The units and slices that are tested online. -/
def State.testedUnits (s : State) : List Nat :=
  ((List.range 60).map (unitId 1) ++ (List.range 4).map (unitId 3)).filter fun u => !s.isOut u

/-- The instant at which any unit or slice last passed that lies longest back (R410). -/
def State.oldestPass (s : State) : Nat :=
  s.testedUnits.foldl (fun m u => min m (Tab.look s.health.lastPass u 0)) s.now

/-- OLDEST_TEST_AGE in seconds. -/
def State.oldestAge (s : State) : Nat := (s.now - s.oldestPass) / second

end Sys2Proof.Machine
end

