-- ==== Sys2Proof/Machine/Faults.lean ====
section
/-!
DEFINITION. Faults, retirement and self-test (12_faults_self_test_and_start_up.md, R20 to R30): LOCKSTEP_MISMATCH to MANUAL_RUN.
-/

namespace Sys2Proof.Machine

open Sys2Proof

/-! ### LOCKSTEP_MISMATCH (R21, R224, R399, R400) -/

/-- The partitions with a window open on a logical unit. -/
def State.runningOn (s : State) (u : Nat) : List Nat :=
  (s.parts.map (·.1)).filter fun n => (s.part n).window.isSome && (s.openWindow n).unit = u

/-- A unit at work disagrees with itself: the window is done again from its checkpoint; the third time in 10 s the unit retires and
the work of the present work tick is lost. -/
def State.lockstep (s : State) (unit : Nat) : State :=
  let h := unit / 5
  let x := s.herd h
  match x.runs (unit % 5) with
  | none => s
  | some l =>
    if x.pending.isSome || s.isOut (unitId 1 unit) then s
    else
      let r := s.noteError (unitId 1 unit) (10 * second)
      let s1 := r.1.each (s.runningOn (4 * h + l)) fun n t => t.modPart n fun y => { y with regs := y.checkpoint }
      if r.2 < 3 then s1 else s1.retireCore unit 1 r.2

def execLockstepMismatch (at_ : Instant) (unit : Nat) (s : State) : Result :=
  act (unit < 60) (6 + unit / 15) (s.arrive at_) fun s => s.lockstep unit

/-! ### SPARE_TAKEOVER, PARTITION_RELOCATE (R20 to R23, R230) -/

/-- The boundary has come at which a unit retires. -/
def State.retires (s : State) (h : Nat) : Option Nat := (s.herd h).pending.filter fun _ => (s.herd h).pendingAt < s.tickNow

/-- The spare takes the logical unit, from the last checkpoint, at which its partitions stand since the retirement. -/
def State.takeover (s : State) (h : Nat) : State :=
  match s.retires h with
  | none => s
  | some l =>
    match s.takeSpare h with
    | none => s
    | some (q, t) =>
      let x := t.herd h
      let old := x.units.getD l 0
      let y : Herd := { x with units := x.units.set l q, pending := none }
      (((t.recordRetirement (coreId h old) x.pendingCause x.pendingCount).setHerd h y).coverage).replace

def execSpareTakeover (at_ : Instant) (herd : Nat) (s : State) : Result :=
  act (herd < 12) (6 + herd / 3) (s.arrive at_) fun s => s.takeover herd

/-- A unit of a herd without a spare retires, and the herd's displaced partitions run in the reserve from this boundary on. -/
def State.relocate (s : State) (h : Nat) : State :=
  let s1 := match s.retires h with
    | none => s
    | some l =>
      let x := s.herd h
      if !s.degraded h then s
      else
        let pos := x.units.getD l 0
        let y : Herd := { x with pending := none }
        (((s.recordRetirement (coreId h pos) x.pendingCause x.pendingCount).setHerd h y).coverage).displace (4 * h + l)
  let todo := (s1.parts.map (·.1)).filter fun n =>
    (s1.part n).displaced && (s1.partUnits n).any fun u => u / 4 = h && !s1.unitUsable u
  s1.each todo fun n t => t.placeReserve n

def execPartitionRelocate (at_ : Instant) (herd : Nat) (s : State) : Result :=
  act (herd < 12) 10 (s.arrive at_) fun s => s.relocate herd

/-! ### REGION_LOST, MANAGER_MOVED (R24, R26) -/

/-- A region fails as a whole: its partitions' outputs are suppressed until they run elsewhere. -/
def State.regionFails (s : State) (r : Nat) : State :=
  if s.health.lostRegions.contains r then s
  else
    let s1 := (s.setHealth fun h => { h with lostRegions := h.lostRegions ++ [r] }).healthFlag 4 (some (unitId 3 r))
    let us := (List.range 12).map fun i => 12 * r + i
    let ns := (us.flatMap s1.partsOn).dedup
    us.foldl (fun t u => t.displace u) (s1.each ns fun n t => t.loseWork n (t.workTick + 1))

def execRegionLost (at_ : Instant) (region : Nat) (s : State) : Result :=
  act (region < 4) 10 (s.arrive at_) fun s => s.regionFails region

/-- The herd that lends its spare to the manager: HERD_3, else the lowest one of CMP_1 to CMP_3 that has a spare. -/
def State.managerLender (s : State) : Option Nat :=
  ((List.range 9).map (· + 3)).find? fun h => !s.health.lostRegions.contains (h / 3) && (s.takeSpare h).isSome

/-- The manager moves once CMP_0 has failed: to a spare, else to logical unit 12. -/
def State.moveManager (s : State) : State :=
  if !s.health.lostRegions.contains 0 || s.health.managerHerd ≠ 0 then s
  else
    let moved (t : State) (h : Nat) (lent : Bool) : State :=
      (((t.setHealth fun x => { x with managerHerd := h, managerLent := lent }).setReg Od.mgrManagerHerd h).coverage).healthFlag 10
    match s.managerLender with
    | some h =>
      match s.takeSpare h with
      | some (_, t) => moved t h true
      | none => s
    | none => (moved s 3 false).displace 12

def execManagerMoved (at_ : Instant) (s : State) : Result := act true 10 (s.arrive at_) fun s => s.moveManager

/-! ### ECC_CORRECTED, PATROL_SCRUB, DOUBLE_BIT_ERROR (R399, R402, R414) -/

def execEccCorrected (at_ : Instant) (memory row bitPos : Nat) (s : State) : Result :=
  act (memOk memory) (memDomain memory) (s.arrive at_) fun s => s.correctError memory row bitPos

/-- A patrol pass over one row of the system cache or of DRAM; the bits it corrects are not told. -/
def State.scrubRow (s : State) (m row errors : Nat) : State :=
  if memClass m = 3 || memClass m = 7 then
    s.each (List.range errors) fun _ t => t.drew.correctError m row (t.freeBelow (2 ^ 16))
  else s

def execPatrolScrub (at_ : Instant) (memory row errors : Nat) (s : State) : Result :=
  act (memOk memory) (memDomain memory) (s.arrive at_) fun s => s.scrubRow memory row errors

/-- The module has a partner to take an engine's section from. -/
def State.hasPartner (s : State) : Bool := s.paired && s.pair.partner.isSome && !s.pair.partnerFailed

/-- An engine's state is lost: withheld until the partner's section is adopted, the lead giving up its role; restarted without a
partner. -/
def State.engineLost (s : State) (mark restart : State → State) : State :=
  if !s.hasPartner then restart s
  else
    let s1 := mark s
    if decide (s1.pair.role = Role.lead) then (s1.newRole 1 1 0 0).setPair fun p => { p with relinquishSent := true } else s1

/-- STATUS of a slot or record made INVALID with cause MISSING: what concerns the tick and the service stays. -/
def missingStatus (old : Nat) : Nat := 0x0201 + (old &&& 0x7880)

/-- A slot of a tick's image that a double-bit error covers. -/
def State.loseSlot (s : State) (tick channel : Nat) : State :=
  let s1 := match Tab.find s.dp.images (tick % 64) with
    | none => s
    | some im =>
      if im.tick ≠ tick then s
      else
        let old := Tab.look im.slots channel unmappedSlot
        let new : ImageSlot := { im with slots := Tab.insert im.slots channel ⟨0, missingStatus old.status⟩ }
        s.setDp fun d => { d with images := Tab.insert d.images (tick % 64) new }
  s1.setChan channel { s1.chan channel with restartDue := true }

/-- A phasor record that a double-bit error covers. -/
def State.loseRecord (s : State) (tick output : Nat) : State :=
  let k := tick % 64 * 8192 + output
  let s1 := match Tab.find s.dp.phasors k with
    | none => s
    | some r =>
      if r.tickLow ≠ tick % 2 ^ 32 then s
      else
        let new : PhasorRec := { r with real := 0, imag := 0, mag := 0, angle := 0, status := missingStatus r.status }
        s.setDp fun d => { d with phasors := Tab.insert d.phasors k new }
  let c := s1.outChannel output
  s1.setChan c { s1.chan c with restartDue := true }

/-- A double-bit error, by the place where it lies. -/
def State.doubleBit (s : State) (place : MemPlace) : State :=
  let s1 := (s.count 32 Od.healthUncorrectedErrors).healthFlag 7
  match place with
  | .partition n =>
    if (s1.part n).run = .stopped then s1
    else
      (s1.modPart n fun x => { x with suppressedTo := max x.suppressedTo (s1.workTick + 1), held := true }).askRestart n 3 (s1.workTick + 1)
  | .manager => s1
  | .rawRing tick channel =>
    if s1.dp.lastReleased.any fun i => tick ≤ i then s1.loseSlot tick channel
    else s1.setDp fun d => { d with damaged := d.damaged ++ [(tick, channel)] }
  | .imageSlot tick channel => s1.loseSlot tick channel
  | .phasorRecord tick output => s1.loseRecord tick output
  | .churn =>
    s1.engineLost (fun t => t.setChurn fun c => { c with poisoned := true }) fun t =>
      if decide (t.churn.state = EngineState.stopped) then t else t.applyRestart 1
  | .loops => s1.engineLost (fun t => t.setLoops fun l => { l with poisoned := true }) fun t => (t.each t.heads fun h u => u.restartUnit h).latchStand 0
  | .switchFrame id =>
    match Tab.find s1.sw.frames id with
    | none => s1
    | some f => (s1.badFrame id f.bytesIn).count 32 Od.healthMemDiscard
  | .keyCell slot =>
    s1.setSec fun x => { x with brokenCells := if x.brokenCells.contains slot then x.brokenCells else x.brokenCells ++ [slot] }

/-- The place names what the module has. -/
def memPlaceOk : MemPlace → Bool
  | .partition n => n < 96
  | .rawRing _ c | .imageSlot _ c | .phasorRecord _ c => c < 8192
  | .keyCell n => n < 256
  | .manager | .churn | .loops | .switchFrame _ => true

def execDoubleBitError (at_ : Instant) (memory row : Nat) (place : MemPlace) (s : State) : Result :=
  act (memOk memory && row < 2 ^ 32 && memPlaceOk place) (memDomain memory) (s.arrive at_) fun s => s.doubleBit place

/-! ### DIE_LINK_FAILED (R27 to R30, R399) -/

/-- A die link fails: both dies report it, and what it carried is absent (R28). Between compute, network and I/O the module withdraws;
without its link to the I/O die the compute die has no DRAM, no pair link and no PCIe (R29), so that no partition runs and the curd store
is lost; a link of the security die cuts off its functions (log 51). -/
def State.linkFails (s : State) (l : Nat) : State :=
  if s.health.linksFailed.contains l then s
  else
    let s1 := ((s.setHealth fun h => { h with linksFailed := h.linksFailed ++ [l] }).recordRetirement (unitId 6 l) 5 1).healthFlag 5
      (some (unitId 6 l))
    if l = 1 then
      let s2 := (s1.withdraw 8).each (s1.parts.map (·.1)) fun n t => t.modPart n fun x => { x with window := none }
      (s2.setHist fun h => { h with frames := [] }).linkStand 0
    else if l = 0 || l = 3 then s1.withdraw 8
    else (s1.setSec fun x => { x with secLost := true }).stand 96 0 true

def execDieLinkFailed (at_ : Instant) (link : Nat) (s : State) : Result :=
  act (link < 6) 1 (s.arrive at_) fun s => s.linkFails link

/-! ### Online self-test (R406 to R413) -/

/-- A unit awaits its second test. -/
def State.retests (s : State) (unit : Nat) : Bool := s.health.retest.contains unit

/-- A slot begins: the spare takes the unit's work and the unit is under test; a unit that awaits its second test has no work. -/
def State.startSlot (s : State) (unit : Nat) (manual : Bool) : State :=
  let h := unit / 5
  let x := s.herd h
  let id := unitId 1 unit
  let mark (t : State) : State := t.setHealth fun y => { y with manual := if manual then some id else y.manual }
  match x.runs (unit % 5) with
  | some l =>
    match x.spare with
    | none => s
    | some q => mark (s.setHerd h { x with units := x.units.set l q, spare := none, testing := some (unit % 5) })
  | none => mark ((s.setHerd h { x with testing := some (unit % 5) }).coverage)

/-- A slot can begin: the herd runs no other, retires no unit, and the spare can take the unit's work, or it has none. -/
def State.slotFree (s : State) (unit : Nat) : Bool :=
  let x := s.herd (unit / 5)
  !s.isOut (unitId 1 unit) && x.testing.isNone && x.pending.isNone &&
    match x.runs (unit % 5) with
    | some _ => x.spare.isSome
    | none => s.retests (unitId 1 unit)

/-- SELF_TEST_SLOT_START: begun, or deferred for want of a spare. -/
def State.slotStart (s : State) (unit : Nat) : State :=
  let x := s.herd (unit / 5)
  if !s.testsOn || s.isOut (unitId 1 unit) || x.testing.isSome || x.pending.isSome then s
  else if s.slotFree unit then s.startSlot unit false
  else if (x.runs (unit % 5)).isSome && x.spare.isNone then (s.deferTest (unitId 1 unit)).coverage
  else s

def execSelfTestSlotStart (at_ : Instant) (unit : Nat) (s : State) : Result :=
  act (unit < 60) (6 + unit / 15) (s.arrive at_) fun s => s.slotStart unit

/-- RESULT of a test (R407, R413): against the manual entries in a manual run. -/
def State.testResult (s : State) (unit : Nat) (e : TestEnd) : Nat :=
  let manual := decide (s.health.manual = some unit)
  let want := if manual then s.reg Od.manualCount else (Config.patternCount (unit / 4096)).toNat
  let misr := if manual then s.reg Od.manualExpect else (Config.expectedMisr (unit / 4096)).toNat
  if e.abandoned then 3 else if e.patterns ≠ want then 2 else if e.misr ≠ misr then 1 else 0

/-- The unit leaves its test: a core that passed, or whose test was abandoned, is the herd's spare. -/
def State.leaveTest (s : State) (unit : Nat) (good : Bool) : State :=
  if unit / 4096 = 1 then
    let h := unit % 4096 / 5
    let x := s.herd h
    let y : Herd := { x with testing := none, spare := if good then some (unit % 4096 % 5) else x.spare }
    (s.setHerd h y).coverage
  else s.setHealth fun y => { y with sliceTest := none }

/-- The unit is under test. -/
def State.underTest (s : State) (unit : Nat) : Bool :=
  if unit / 4096 = 1 then decide ((s.herd (unit % 4096 / 5)).testing = some (unit % 4096 % 5))
  else decide (s.health.sliceTest = some (unit % 4096))

/-- SELF_TEST_END (R408, R412): a first failure is tested again, a second one retires. -/
def State.testEnd (s : State) (unit : Nat) (e : TestEnd) : State :=
  if !s.underTest unit then s
  else
    let result := s.testResult unit e
    let again := s.retests unit
    let s1 := s.writeResult unit result (s.testFlags unit) e.patterns e.misr
    let s2 := (if s.health.manual = some unit then s1.setReg Od.manualMisr (e.misr % 2 ^ 64) else s1).setHealth fun h => { h with
      manual := h.manual.filter fun u => u ≠ unit
      retest := if result = 3 then h.retest else h.retest.filter fun u => u ≠ unit }
    let s3 := s2.leaveTest unit (result = 0 || (result = 3 && !again))
    if result = 3 then s3
    else if result = 0 then
      ((s3.count 32 Od.stPasses).setHealth fun h => { h with lastPass := Tab.insert h.lastPass unit s3.now }).when_ again fun t =>
        t.testFlag 2 unit
    else
      let s4 := (s3.count 32 Od.stFails).testFlag 0 unit
      if !again then s4.setHealth fun h => { h with retest := h.retest ++ [unit] }
      else if unit / 4096 = 1 then s4.retireCore (unit % 4096) 2 0
      else s4.retireSlice (unit % 4096) 2 0 0

def execSelfTestEnd (at_ : Instant) (unit : Nat) (ending : TestEnd) (s : State) : Result :=
  act ((unit / 4096 = 1 && unit % 4096 < 60) || (unit / 4096 = 3 && unit % 4096 < 4)) 10 (s.arrive at_) fun s => s.testEnd unit ending

/-- A slice's test is planned 16 work ticks ahead (R409): by the lead for both modules, by a module alone for itself. -/
def State.planSlice (s : State) (slice : Nat) : State :=
  let paired := s.paired && (s.pair.role = .follow || s.pair.role = .lead) && s.linkUp && !s.pair.partnerFailed
  let t := s.workTick + 16
  if paired && !decide (s.pair.role = Role.lead) then s
  else
    let s1 := s.setPair fun p => { p with plans := (p.plans.filter fun q => q.slice ≠ slice) ++ [⟨slice, t, false⟩] }
    if paired then s1.newRole 6 0 t slice else s1

/-- SLICE_SELF_TEST_START: the test of a slice whose channels the fall-back engine holds for it begins; else it is planned, or deferred
while a slice is retired. -/
def State.sliceTestStart (s : State) (slice : Nat) : State :=
  if !s.testsOn || s.sliceOut slice || s.health.sliceTest.isSome then s
  else if (s.fbService slice).any fun e => e.kind = .test && e.from_ ≤ s.tickNow then s.setHealth fun h => { h with sliceTest := some slice }
  else if (List.range 4).any s.sliceOut then s.deferTest (sliceId slice)
  else if (List.range 4).any (fun n => (s.fbService n).isSome) || !s.pair.plans.isEmpty then s
  else s.planSlice slice

def execSliceSelfTestStart (at_ : Instant) (slice : Nat) (s : State) : Result :=
  act (slice < 4) (6 + slice) (s.arrive at_) fun s => s.sliceTestStart slice

/-- TEST_OVERDUE: the oldest pass lies further back than ST_PERIOD. -/
def State.testAge (s : State) : State :=
  let s1 := s.setReg Od.stOldestTestAge (s.oldestAge % 2 ^ 32)
  s1.stand 113 3 (s.reg Od.stPeriod * 60 < s.oldestAge)
    (some ((s.testedUnits.find? fun u => decide (Tab.look s.health.lastPass u 0 = s.oldestPass)).getD 0))

def execTestOverdue (at_ : Instant) (s : State) : Result := act true 10 (s.arrive at_) fun s => s.testAge

/-! ### CLEAR_RETIREMENT, HARD_REPAIR, MANUAL_RUN (R405, R417, R418, R427) -/

/-- The record goes; the unit stays retired until the next start. -/
def State.writeClearRetirement (s : State) (unit : Nat) : Answer :=
  if s.health.retired.any fun r => r.unit_ = unit then
    (s.setHealth fun h => { h with retired := h.retired.filter fun r => r.unit_ ≠ unit }).ok
  else s.refuse stInvalidValue

def execClearRetirement (at_ : Instant) (unit : Nat) (s : State) : Result :=
  act true 1 (s.arrive at_) fun s => (s.whileRunning (s.writeClearRetirement unit)).told

/-- The fuses of one soft repair are blown. -/
def State.writeHardRepair (s : State) (record : Nat) : Answer :=
  if !s.testAccess then s.refuse stNoEntry
  else
    match s.health.repairs[record]? with
    | none => s.refuse stInvalidValue
    | some r =>
      if r.repair ≠ 1 then s.refuse stInvalidValue
      else (s.setHealth fun h => { h with repairs := h.repairs.set record { r with repair := 2 } }).ok

def execHardRepair (at_ : Instant) (record : Nat) (s : State) : Result :=
  act true 2 (s.arrive at_) fun s => (s.whileRunning (s.writeHardRepair record)).told

/-- A manual run takes its unit out as a slot or a slice test would, or is refused with BUSY. -/
def State.writeManualRun (s : State) (value : Nat) : Answer :=
  let unit := s.reg Od.manualUnit
  let i := unit % 4096
  if !s.testAccess then s.refuse stNoEntry
  else if 2 ≤ value then s.refuse stTypeMismatch
  else if value = 0 then s.ok
  else if s.health.manual.isSome then s.refuse stBusy
  else if unit / 4096 = 1 && i < 60 then
    if s.slotFree i then (s.startSlot i true).ok else s.refuse stBusy
  else if unit / 4096 = 3 && i < 4 then
    if (List.range 4).any s.sliceOut || (List.range 4).any (fun n => (s.fbService n).isSome) || !s.pair.plans.isEmpty then s.refuse stBusy
    else ((s.planSlice i).setHealth fun h => { h with manual := some unit }).ok
  else s.refuse stBusy

def execManualRun (at_ : Instant) (value : Nat) (s : State) : Result :=
  act true 10 (s.arrive at_) fun s => (s.writeManualRun value).told

end Sys2Proof.Machine
end

