-- ==== Sys2Proof/Machine/OpOps.lean ====
section
/-!
DEFINITION. Shared operations on long-operation slots (R450 to R452), random octets, and the restart of the module (R366, R420).
-/

namespace Sys2Proof.Machine

open Sys2Proof

/-! ### Random octets and restarts -/

/-- Octets from the true random number generator. -/
def State.randomBytes (s : State) (n : Nat) : List Byte × State :=
  ((List.range n).map fun i => BitVec.ofNat 8 (Config.free (s.freeUsed + i)), { s with freeUsed := s.freeUsed + n })

/-- The module is in reset until its next start: withdrawn first if it was publishing (R30, R366, R420). -/
def State.restartNow (s : State) (cause : Nat) : State :=
  let s1 := if s.outEnabled then s.withdraw cause else s
  s1.setPower fun p => { p with heldReset := true, secHeld := true, withdrawn := true, step := 0, nextCause := cause }

/-! ### Long operations -/

/-- The operation types of R450. -/
def opFirmware : Nat := 1
def opAttest : Nat := 2
def opKeygen : Nat := 3
def opSelfTest : Nat := 4
def opExport : Nat := 5
def opMigrate : Nat := 6
def opConfig : Nat := 7
def opScrub : Nat := 8

/-- The role of an operation type. -/
def opRole (type : Nat) : Nat := [0, 3, 1, 3, 4, 2, 2, 2, 2].getD type 5

/-- A slot's state as OP record and entry code it (R451). -/
def opCode : OpState → Nat
  | .idle => 0 | .running => 1 | .suspending => 2 | .suspended => 3 | .resuming => 4 | .cancelling => 5 | .done => 6 | .failed => 7
  | .cancelled => 8

/-- The operation has begun and not ended. -/
def Op.active (x : Op) : Bool :=
  match x.state with
  | .running | .suspending | .suspended | .resuming | .cancelling => true
  | .idle | .done | .failed | .cancelled => false

def State.setEdp (s : State) (f : Edp → Edp) : State := { s with edp := f s.edp }

/-- The slot in which an operation of a type runs. -/
def State.opOf (s : State) (type : Nat) : Option Nat := (List.range 16).find? fun n => (s.op n).active && (s.op n).type = type

/-- A flag of LONG_OP; INFO is the slot (R470). -/
def State.opFlag (s : State) (flag n : Nat) : State := s.setFlag 116 flag (some n)

/-- An operation of a type cannot start now: one of the same type runs, or no slot is IDLE. -/
def State.opBusy (s : State) (type : Nat) : Bool :=
  (s.opOf type).isSome || (List.range 16).all fun n => decide ((s.op n).state ≠ OpState.idle)

/-- The lowest IDLE slot takes an operation; none while one of the same type runs or no slot is IDLE. -/
def State.openOp (s : State) (type role session : Nat) (params : List Byte) : Option (Nat × State) :=
  if (s.opOf type).isSome then none
  else
    match (List.range 16).find? fun n => decide ((s.op n).state = OpState.idle) with
    | none => none
    | some n =>
      let serial := s.edp.opSerial % (2 ^ 28 - 1) + 1
      let x : Op :=
        { state := .running, type := type, handle := n + 16 * serial, role := role, session := session, started := s.now
          commitPhase := type = opAttest || type = opKeygen, params := params }
      some (n, (s.setOp n x).setEdp fun e => { e with opSerial := serial })

/-- An operation ends. -/
def State.endOp (s : State) (n : Nat) (state : OpState) (result : Nat) : State :=
  let x := s.op n
  let y : Op := { x with
    state := state, result := result, ended := s.now, commitPhase := false, cancelDeferred := false, suspendDeferred := false
    progress := if state = .done then 1000 else x.progress }
  (s.setOp n y).opFlag (if state = .done then 0 else if state = .failed then 1 else 2) n

/-- The OP record of a reply (R451). -/
def Op.record (x : Op) : List Byte := beBytes 1 (opCode x.state) ++ beBytes 1 x.result ++ beBytes 2 x.progress ++ beBytes 4 x.detail

/-! ### Sessions that close (R378, R442) -/

/-- A flag of EDP; INFO is the transport (R470). -/
def State.edpFlag (s : State) (flag : Nat) (t : Transport) : State :=
  s.setFlag 117 flag (some (match t with
    | .udp => 0
    | .mailbox => 1
    | .uart => 2))

/-- The stage is given up. -/
def State.dropStage (s : State) : State := s.setEdp fun e => { e with stage := [], owner := none }

/-- A session closes: its stage and its unfinished transfers go with it; a commit that is accepted goes on, and so does an
operation that stages a configuration (R453). -/
def State.closeSession (s : State) (sid : Nat) : State :=
  match s.session? sid with
  | none => s
  | some x =>
    let s1 := s.setEdp fun e => { e with sessions := Tab.del e.sessions sid }
    let s2 := if s.edp.owner = some sid && s.edp.commit.isNone && (s.opOf opConfig).isNone then s1.dropStage else s1
    if x.opened then s2.edpFlag 3 x.transport else s2

/-- Sessions whose role key no longer passes the check of R377 close; the loss of the SEC domain alone leaves them (R29). -/
def State.dropOrphans (s : State) : State :=
  if s.sec.secLost then s
  else
    s.each ((s.edp.sessions.filter fun e => decide (s.usable e.2.slot .edpRole ≠ Usable.ok)).map (·.1)) fun sid t => t.closeSession sid

end Sys2Proof.Machine
end

