-- ==== Sys2Proof/Machine/Keys.lean ====
section
/-!
DEFINITION. The key commands DERIVE to KEY_IMPORT and the update journal (R369 to R383 of
11_keys_life_cycle_and_attestation.md).
-/

namespace Sys2Proof.Machine

open Sys2Proof

/-- OP of R375. -/
inductive KeyOp where
  | derive | load | generate | destroy | bump | export_ | import_
  deriving DecidableEq, Repr

/-! ### What R371 allows -/

/-- The key lengths of an algorithm. -/
def keyLenOk (alg len : Nat) : Bool :=
  match alg with
  | 1 | 2 | 4 | 7 => len = 32
  | 3 => len = 16 || len = 32
  | 5 => len = 128 || len = 64
  | 6 => len = 64
  | _ => false

/-- The usage bits of an algorithm, SIGN with a full key only. -/
def usageOk (alg usage len : Nat) : Bool :=
  let allowed := match alg with
    | 1 => 0x86
    | 2 | 3 | 4 => 0x60
    | 5 => if len = 64 then 0x10 else 0x18
    | 6 => 0x10
    | 7 => 0x01
    | _ => 0
  usage &&& (0xFF - allowed) = 0

/-- The length of a key that the module makes itself: KEY_LEN decides between the two forms of ALG 3. -/
def madeLen (alg keyLen : Nat) : Nat :=
  match alg with
  | 3 => if keyLen = 16 then 16 else 32
  | 5 => 128
  | 6 => 64
  | _ => 32

/-- KEY_LEN of a command that makes its key: 0 or a length of the algorithm. -/
def madeLenOk (alg keyLen : Nat) : Bool := keyLenOk alg (madeLen alg keyLen) && (keyLen = 0 || keyLenOk alg keyLen)

/-! ### Records and chains -/

/-- Own generation of the next record of a slot number: one higher, from 0xFFFF to 1. -/
def State.nextGen (s : State) (slot : Nat) : Nat := if (s.slot slot).ownGen = 0xFFFF then 1 else (s.slot slot).ownGen + 1

/-- The generation of a record's parent now. -/
def State.parentGenOf (s : State) (r : SlotRec) : Nat := if r.rooted then s.rootGenNow else (s.slotRecord r.parent).ownGen

/-- A record as a command writes it: its generations advance. -/
def State.renewed (s : State) (slot : Nat) (r : SlotRec) : SlotRec := { r with ownGen := s.nextGen slot, parentGen := s.parentGenOf r }

/-- The record a command asks for, from ATTR and BIND, under a parent. -/
def wantedRecord (attr bind parent : Nat) (rooted : Bool) : SlotRec :=
  { slotRec (attr % 2 ^ 32 + bind % 2 ^ 32 * 2 ^ 32) with parent := if rooted then 0 else parent, rooted := rooted, valid := true }

/-- The slots from one up to the root, `n` at most. -/
def State.chainSlots (s : State) : Nat → Nat → List Nat
  | 0, _ => []
  | n + 1, slot => if (s.slotRecord slot).rooted then [slot] else slot :: s.chainSlots n (s.slotRecord slot).parent

/-- The chain of a slot under a parent is at most 8 slots long and does not meet the slot itself. -/
def State.chainFits (s : State) (slot parent : Nat) (rooted : Bool) : Bool :=
  rooted || (let l := s.chainSlots 9 parent
             l.length ≤ 7 && !l.contains slot)

/-- A slot's key can be used: its chain holds and its cell is whole. -/
def State.keyHolds (s : State) (slot : Nat) : Bool := s.chained 8 slot && !s.sec.brokenCells.contains slot

/-- The parent of a command is usable: the root exists, or the slot's key holds and the operation admits it. -/
def State.parentOk (s : State) (op : KeyOp) (parent : Nat) (rooted : Bool) : Bool :=
  match op with
  | .derive => if rooted then s.rootExists else decide (s.usable parent .derive = Usable.ok)
  | .export_ | .import_ => decide (s.usable parent .wrap = Usable.ok)
  | .load | .generate => if rooted then s.rootExists else s.keyHolds parent
  | .destroy | .bump => true

/-- Valid PERSIST slots (R375). -/
def State.persistCount (s : State) : Nat :=
  ((List.range 254).filter fun i => (s.slot (i + 2)).valid && (s.slot (i + 2)).persist).length

/-- The journal holds a wrapped item (R381, R509). -/
def State.hasWrapped (s : State) : Bool := s.sec.ownerSeed.isSome || s.persistCount ≠ 0

/-! ### Updates (R382, R383) -/

/-- An update of the journal cannot start now; PWR_FAIL_N holding it back is an event. -/
def State.updateBusy (s : State) : Bool := s.sec.phase ≠ 0 || s.power.pwrFail

/-- Phase 1 begins. -/
def State.startUpdate (s : State) (u : Update) : State :=
  (s.setSec fun x => { x with update := some u, phase := 1 }).setReg Od.keysUpdateState 1

/-- Refused for an update in progress, or held back by PWR_FAIL_N. -/
def State.refuseUpdate (s : State) : Answer :=
  if s.sec.phase = 0 && s.power.pwrFail then (s.setFlag 96 4).refuse stBusy else s.refuse stBusy

/-- A slot takes a record and a key; without the VALID bit its cell is empty. -/
def State.putSlot (s : State) (slot : Nat) (r : SlotRec) (key : List Byte) : State :=
  (s.setSlot slot r).setSec fun x => { x with
    cells := if r.valid then Tab.insert x.cells slot key else Tab.del x.cells slot
    brokenCells := if r.valid then x.brokenCells else x.brokenCells.filter (· ≠ slot) }

/-- A command writes a slot: at once, or as a journal update for a PERSIST slot. -/
def State.writeSlot (s : State) (slot : Nat) (r : SlotRec) (key : List Byte) (journal : Bool) : State :=
  if journal then s.startUpdate (.slot slot r.word key) else ((s.putSlot slot r key).keysFlag 2 slot).dropOrphans

/-! ### Blobs (R376) -/

/-- The 24-byte header of an export blob. -/
def blobHeader (word : Nat) (iv : List Byte) (len : Nat) : List Byte :=
  beBytes 4 (field word 0 32) ++ beBytes 4 (field word 32 32) ++ iv ++ beBytes 2 len ++ beBytes 2 0

/-- The blob of a slot under a WRAP slot. -/
def State.exportBlob (s : State) (slot wrap : Nat) (iv : List Byte) : List Byte :=
  let key := s.slotKey slot
  let h := blobHeader (s.slotRecord slot).word iv key.length
  let ct := gcmCrypt (s.slotKey wrap) iv key
  h ++ ct ++ gcmTag (s.slotKey wrap) iv h ct

/-- The record and key of a blob whose tag verifies under a WRAP slot. -/
def State.importBlob (s : State) (wrap : Nat) (blob : List Byte) : Option (SlotRec × List Byte) :=
  let h := blob.take 24
  let iv := slice blob 8 12
  let n := beAt blob 20 2
  let ct := slice blob 24 n
  if blob.length = 40 + n && gcmTag (s.slotKey wrap) iv h ct = blob.drop (24 + n) then
    some (wantedRecord (beAt blob 0 4) (beAt blob 4 4) wrap false, gcmCrypt (s.slotKey wrap) iv ct)
  else none

/-! ### The commands -/

/-- The LC_MASK that decides the role a command needs: the wanted one, or the slot's own. -/
def State.commandMask (s : State) (op : KeyOp) (c : KeyCmd) : Nat :=
  match op with
  | .derive | .load | .generate => field c.attr 24 8
  | .import_ => field (beAt c.key 0 4) 24 8
  | .destroy | .bump | .export_ => (s.slotRecord c.slot).lcMask

/-- The role a command needs: VENDOR_SERVICE where LC_MASK allows only MANUFACTURE or RETURN. -/
def State.commandRole (s : State) (op : KeyOp) (c : KeyCmd) : Nat :=
  let m := s.commandMask op c
  if m &&& 0x09 ≠ 0 && m &&& 0x06 = 0 then 4 else 3

/-- The command works on a PERSIST slot. -/
def State.commandPersists (s : State) (op : KeyOp) (c : KeyCmd) : Bool :=
  match op with
  | .derive | .load | .generate => bit c.attr 10
  | .import_ => bit (beAt c.key 0 4) 10
  | .destroy | .bump => (s.slot c.slot).persist
  | .export_ => false

/-- What a LOAD into slot 2 must carry (R375). -/
def officerRecordOk (r : SlotRec) : Bool :=
  r.alg = 7 && r.usage = 0x01 && r.bindKind = 3 && r.bindId = 2 && r.lcMask = 0x04 && r.persist && r.rooted

/-- The refusals common to the commands that fill a slot. -/
def State.fillRefused (s : State) (op : KeyOp) (slot : Nat) (r : SlotRec) (len : Nat) (lenOk : Bool) : Bool :=
  (s.slot slot).valid || !usageOk r.alg r.usage len || !lenOk || !s.parentOk op r.parent r.rooted ||
    !s.chainFits slot r.parent r.rooted || (r.persist && 254 ≤ s.persistCount)

/-- A slot this command may not touch. -/
def slotRefused (op : KeyOp) (slot : Nat) : Bool :=
  slot < 2 || 256 ≤ slot || (slot = 2 && !decide (op = KeyOp.destroy ∨ op = KeyOp.load))

/-- The record a command that fills a slot gives it. -/
def State.filledRecord (s : State) (c : KeyCmd) : SlotRec := s.renewed c.slot (wantedRecord c.attr c.bind c.parent c.rooted)

/-- A key the module makes: drawn, an SLH-DSA key completed from its seed. -/
def State.madeKey (s : State) (alg keyLen : Nat) : List Byte × State :=
  if alg = 5 then
    let r := s.randomBytes 96
    (r.1 ++ (slhPublic r.1).drop 32, r.2)
  else s.randomBytes (madeLen alg keyLen)

/-- The bytes of a key command (R375), which a key-generation operation keeps as its parameters. -/
def keyCmdBytes (op : Nat) (c : KeyCmd) : List Byte :=
  beBytes 1 op ++ beBytes 1 c.slot ++ beBytes 1 c.parent ++ beBytes 1 (b2n c.rooted) ++ beBytes 4 c.attr ++ beBytes 4 c.bind ++
    beBytes 1 c.label.length ++ beBytes 1 c.context.length ++ beBytes 2 c.key.length ++ c.label ++ c.context ++ c.key

/-- The key command that bytes spell; none where the lengths do not fit. -/
def keyCmdOf (bs : List Byte) : Option (Nat × KeyCmd) :=
  let l := beAt bs 12 1
  let x := beAt bs 13 1
  let k := beAt bs 14 2
  if bs.length = 16 + l + x + k && 16 ≤ bs.length && l ≤ 32 && x ≤ 64 then
    some (beAt bs 0 1, ⟨beAt bs 1 1, beAt bs 2 1, bit (beAt bs 3 1) 0, beAt bs 4 4, beAt bs 8 4, slice bs 16 l, slice bs (16 + l) x,
      slice bs (16 + l + x) k⟩)
  else none

/-- A GENERATE that runs as a long operation. -/
def State.madeLong (s : State) (c : KeyCmd) : Bool := (s.filledRecord c).alg = 5

/-- The effect of a key command that nothing holds back. -/
def State.keyEffect (s : State) (op : KeyOp) (role session : Nat) (c : KeyCmd) : Answer :=
  let r := s.filledRecord c
  let journal := s.commandPersists op c
  if slotRefused op c.slot then s.refuse stInvalidValue
  else
    match op with
    | .derive =>
      if 32 < c.label.length || 64 < c.context.length || s.fillRefused op c.slot r (madeLen r.alg c.key.length) (madeLenOk r.alg c.key.length) || r.alg = 6 then
        s.refuse stInvalidValue
      else
        let parent := if c.rooted then s.rootKey else s.slotKey c.parent
        (s.writeSlot c.slot r (deriveKey parent c.label c.context r (c.key.length = 16)) journal).ok
    | .load =>
      if s.fillRefused op c.slot r c.key.length (keyLenOk r.alg c.key.length) || (c.slot = 2 && !officerRecordOk r) then
        s.refuse stInvalidValue
      else (s.writeSlot c.slot r c.key journal).ok
    | .generate =>
      if s.fillRefused op c.slot r (madeLen r.alg c.key.length) (madeLenOk r.alg c.key.length) then s.refuse stInvalidValue
      else if r.alg = 5 then
        match s.openOp opKeygen role session (keyCmdBytes 3 c) with
        | none => s.refuse stBusy
        | some (n, t) => t.ok (beBytes 4 (t.op n).handle)
      else
        let k := s.madeKey r.alg c.key.length
        (k.2.writeSlot c.slot r k.1 journal).ok
    | .destroy => (s.writeSlot c.slot { s.renewed c.slot (s.slot c.slot) with valid := false } [] journal).ok
    | .bump =>
      if (s.slot c.slot).valid && !s.keyHolds c.slot then s.refuse stInvalidValue
      else (s.writeSlot c.slot (s.renewed c.slot (s.slot c.slot)) (s.slotKey c.slot) journal).ok
    | .export_ =>
      if !s.parentOk op c.parent false || !(s.slot c.slot).exportable || !s.keyHolds c.slot then s.refuse stInvalidValue
      else
        let iv := s.randomBytes 12
        ((iv.2.setBlob Od.keyCmdKeyResult (s.exportBlob c.slot c.parent iv.1)).keysFlag 2 c.slot).ok
    | .import_ =>
      if !s.parentOk op c.parent false then s.refuse stInvalidValue
      else
        match s.importBlob c.parent c.key with
        | none => s.refuse stInvalidValue
        | some (w, key) =>
          let r := s.renewed c.slot w
          if s.fillRefused op c.slot r key.length (keyLenOk r.alg key.length) then s.refuse stInvalidValue
          else (s.writeSlot c.slot r key journal).ok

/-- A key command by a role: the SEC domain lost, or an update in progress, refuses it (R29, R375, R383). -/
def State.keyCommand (s : State) (op : KeyOp) (role session : Nat) (c : KeyCmd) : Answer :=
  if role < s.commandRole op c then s.refuse stDenied
  else if s.sec.secLost then s.refuse stBusy
  else if s.sec.phase ≠ 0 || (s.commandPersists op c && s.updateBusy) then s.refuseUpdate
  else if decide (op = KeyOp.generate) && s.madeLong c && s.opBusy opKeygen then s.refuse stBusy
  else s.keyEffect op role session c

/-- A key command over a session. -/
def State.keyFrom (s : State) (op : KeyOp) (session : Nat) (c : KeyCmd) : Answer :=
  match s.session? session with
  | none => s.refuse stNoSession
  | some x => if !x.opened then s.refuse stNoSession else s.keyCommand op x.role session c

def execDerive (at_ : Instant) (session : Nat) (cmd : KeyCmd) (s : State) : Result :=
  act true 2 (s.arrive at_) fun s => (s.whileRunning (s.keyFrom .derive session cmd)).told

def execLoad (at_ : Instant) (session : Nat) (cmd : KeyCmd) (s : State) : Result :=
  act true 2 (s.arrive at_) fun s => (s.whileRunning (s.keyFrom .load session cmd)).told

def execGenerate (at_ : Instant) (session : Nat) (cmd : KeyCmd) (s : State) : Result :=
  act true 2 (s.arrive at_) fun s => (s.whileRunning (s.keyFrom .generate session cmd)).told

def execDestroy (at_ : Instant) (session : Nat) (cmd : KeyCmd) (s : State) : Result :=
  act true 2 (s.arrive at_) fun s => (s.whileRunning (s.keyFrom .destroy session cmd)).told

def execBump (at_ : Instant) (session : Nat) (cmd : KeyCmd) (s : State) : Result :=
  act true 2 (s.arrive at_) fun s => (s.whileRunning (s.keyFrom .bump session cmd)).told

def execKeyExport (at_ : Instant) (session : Nat) (cmd : KeyCmd) (s : State) : Result :=
  act true 2 (s.arrive at_) fun s => (s.whileRunning (s.keyFrom .export_ session cmd)).told

def execKeyImport (at_ : Instant) (session : Nat) (cmd : KeyCmd) (s : State) : Result :=
  act true 2 (s.arrive at_) fun s => (s.whileRunning (s.keyFrom .import_ session cmd)).told

/-- A key generation that completes (R375): its key goes to the slot and its public key to KEY_RESULT; a command that its slot or
parent no longer admits fails. -/
def State.keygenDone (s : State) (n : Nat) : State :=
  match keyCmdOf (s.op n).params with
  | none => s.endOp n .failed stFailed
  | some (_, c) =>
    let r := s.filledRecord c
    if s.sec.secLost || s.fillRefused .generate c.slot r 128 true then s.endOp n .failed stFailed
    else if r.persist && s.updateBusy then (s.refuseUpdate.state).endOp n .failed stBusy
    else
      let k := s.madeKey 5 0
      ((k.2.setBlob Od.keyCmdKeyResult (k.1.drop 64)).writeSlot c.slot r k.1 r.persist).endOp n .done 0

end Sys2Proof.Machine
end

