-- ==== Sys2Proof/Machine/LifeCycle.lean ====
section
/-!
DEFINITION. Life-cycle transitions, JOURNAL_COMMIT, the tamper monitor and attestation (R363 to R368, R382, R389 to R395, R495 of
11_keys_life_cycle_and_attestation.md).
-/

namespace Sys2Proof.Machine

open Sys2Proof

/-- A flag of LIFE_CYCLE; INFO is the state code (R470). -/
def State.lcFlag (s : State) (flag : Nat) : State := s.setFlag 98 flag (some (lcCode s.sec.lc))

/-! ### Tokens (R367) -/

/-- The 56-byte body of a token. -/
def tokenBody (k : Token) : List Byte :=
  beBytes 4 0x56584C43 ++ beBytes 8 k.serial ++ beBytes 1 k.fromState ++ beBytes 1 k.toState ++ beBytes 1 k.flags ++ beBytes 9 0 ++ k.nonce

/-- VENDOR_KEY_INDEX. -/
def State.vendorKeyIndex (s : State) : Nat := b2n s.sec.vendorRevoked

/-- A token admits a request to a state. -/
def State.tokenOk (s : State) (k : Token) (to_ : Nat) (revoke : Bool) : Bool :=
  k.serial = Config.serial.toNat && k.fromState = lcCode s.sec.lc && k.toState = to_ && k.flags = b2n revoke &&
    k.nonce = beBytes 32 (s.reg Od.lcNonce) && (!revoke || s.vendorKeyIndex = 0) &&
    Config.slhVerify 5 (Config.vendorKey s.vendorKeyIndex) (tokenBody k) k.signature

/-- LC_NONCE is drawn afresh. -/
def State.drawNonce (s : State) : State :=
  let r := s.randomBytes 32
  r.2.setReg Od.lcNonce (ofBe r.1)

/-- A token refused: an event, and a new nonce. -/
def State.refuseToken (s : State) : Answer := ((s.lcFlag 1).drawNonce).refuse stInvalidValue

/-! ### Requests (R365, R366) -/

/-- What a transition of R365 needs beside its request: the role, a session on slot 0, a token. -/
structure LcNeed where
  role : Nat
  slot0 : Bool
  token : Bool

/-- The rows of R365, from the present state: none for every other change. -/
def State.lcNeed (s : State) (to_ : LifeCycle) (revoke : Bool) : Option LcNeed :=
  let vendor : Bool := decide (s.sec.lc = LifeCycle.manufacture ∨ s.sec.lc = LifeCycle.return_)
  match s.sec.lc, to_ with
  | .decommissioned, _ => none
  | .manufacture, .shipped => some ⟨4, false, true⟩
  | .shipped, .owned => if revoke then none else some ⟨3, true, false⟩
  | .owned, .owned =>
    if revoke then some ⟨3, false, true⟩ else if s.sec.reprovision then some ⟨3, true, false⟩ else none
  | .owned, .shipped | .owned, .return_ => if revoke then none else some ⟨3, false, false⟩
  | .shipped, .decommissioned | .owned, .decommissioned => if revoke then none else some ⟨3, false, false⟩
  | .manufacture, .decommissioned | .return_, .decommissioned => some ⟨4, false, true⟩
  | .manufacture, .manufacture | .shipped, .shipped | .return_, .return_ =>
    if revoke then some ⟨if vendor then 4 else 3, false, true⟩ else none
  | .manufacture, .owned | .manufacture, .return_ | .shipped, .manufacture | .shipped, .return_ | .owned, .manufacture
  | .return_, .manufacture | .return_, .shipped | .return_, .owned => none

/-- OWNER_KEY_ALG of a request to OWNED. -/
def ownerAlgOk (r : LcReq) : Bool := r.ownerKeyAlg = 0 || r.ownerKeyAlg = 5 || r.ownerKeyAlg = 6

/-- A request to a state by a session of a role on a slot. -/
def State.lcRequest (s : State) (role slot : Nat) (to_ : LifeCycle) (r : LcReq) : Answer :=
  let need := s.lcNeed to_ r.revoke
  if role < 3 || (need.any fun n => role < n.role || (n.slot0 && slot ≠ 0)) then s.refuse stDenied
  else if s.outEnabled || s.sec.secLost then s.refuse stBusy
  else if s.updateBusy then s.refuseUpdate
  else
    match need with
    | none => s.refuse stInvalidValue
    | some n =>
      let accepted : Answer := ((s.startUpdate (.transition to_ r r.revoke)).lcFlag 0).ok
      if n.token then
        match r.token with
        | none => s.refuseToken
        | some k => if s.tokenOk k (lcCode to_) r.revoke then accepted else s.refuseToken
      else if decide (to_ = LifeCycle.owned) && !ownerAlgOk r then s.refuse stInvalidValue
      else accepted

/-- A request over a session. -/
def State.lcFrom (s : State) (session : Nat) (to_ : LifeCycle) (r : LcReq) : Answer :=
  match s.session? session with
  | none => s.refuse stNoSession
  | some x => if !x.opened then s.refuse stNoSession else s.lcRequest x.role x.slot to_ r

def execLcToShipped (at_ : Instant) (session : Nat) (req : LcReq) (s : State) : Result :=
  act true 2 (s.arrive at_) fun s => (s.whileRunning (s.lcFrom session .shipped req)).told

/-- LC_TO_OWNED is the request from SHIPPED. -/
def State.toOwned (s : State) (session : Nat) (r : LcReq) (from_ : LifeCycle) : Answer :=
  if s.sec.lc = from_ then s.lcFrom session .owned r else s.refuse stInvalidValue

def execLcToOwned (at_ : Instant) (session : Nat) (req : LcReq) (s : State) : Result :=
  act true 2 (s.arrive at_) fun s => (s.whileRunning (s.toOwned session req .shipped)).told

def execLcReown (at_ : Instant) (session : Nat) (req : LcReq) (s : State) : Result :=
  act true 2 (s.arrive at_) fun s => (s.whileRunning (s.toOwned session req .owned)).told

def execLcToReturn (at_ : Instant) (session : Nat) (req : LcReq) (s : State) : Result :=
  act true 2 (s.arrive at_) fun s => (s.whileRunning (s.lcFrom session .return_ req)).told

def execLcDecommission (at_ : Instant) (session : Nat) (req : LcReq) (s : State) : Result :=
  act true 2 (s.arrive at_) fun s => (s.whileRunning (s.lcFrom session .decommissioned req)).told

/-- A stand-alone revocation. -/
def execLcRevoke (at_ : Instant) (session : Nat) (req : LcReq) (s : State) : Result :=
  act true 2 (s.arrive at_) fun s => (s.whileRunning (s.lcFrom session s.sec.lc { req with revoke := true })).told

/-! ### JOURNAL_COMMIT (R366, R378, R382) -/

/-- Slot 2 as the transition to OWNED loads it. -/
def State.officerSlot (s : State) (gen : Nat) : SlotRec :=
  { parent := 0, rooted := true, valid := true, persist := true, exportable := false, alg := 7, usage := 0x01, lcMask := 0x04
    bindKind := 3, bindId := 2, ownGen := s.nextGen 2, parentGen := gen }

/-- A slot is erased: as a DESTROY leaves it. -/
def State.eraseSlot (s : State) (slot : Nat) : State :=
  s.putSlot slot { s.renewed slot (s.slot slot) with valid := false } []

/-- The owner seed is created with a new ROOT_GEN, OFFICER_KEY loaded into slot 2 and slot 2 named as the SECURITY_OFFICER's. -/
def State.createOwner (s : State) (r : LcReq) : State :=
  let seed := s.randomBytes 32
  let gen := (s.sec.rootGen + 1) % 2 ^ 16
  let s1 := seed.2.setSec fun x => { x with ownerSeed := some (shake256 (seed.1 ++ r.contribution) 32), rootGen := gen, lc := .owned }
  let s2 := s1.putSlot 2 (s1.officerSlot gen) r.officerKey
  let s3 := (s2.setReg (0x900200 + 4) 2).setReg Od.lcOwnerKeyAlg r.ownerKeyAlg
  s3.setReg Od.lcOwnerPubkey (if r.ownerKeyAlg = 0 then 0 else ofBe r.ownerPubkey)

/-- Both journal banks are erased (R365): what R381 and R397 put there stands at its reset value, the keys of PERSIST slots are
gone, and of the state only the fuse DECOM tells (log 82). -/
def State.eraseBanks (s : State) : State :=
  let s1 := s.each (((List.range 254).map (· + 2)).filter fun n => (s.slot n).persist) fun n t => t.putSlot n (slotRec 0) []
  let s2 := s1.each (List.range 5) fun i t => t.setReg (Od.roleKey i) 0xFF
  let s3 := s2.each [Od.lcOwnerPubkey, Od.lcOwnerKeyAlg, Od.lcOwnerCosignRequired, Od.fwActiveBank, Od.fwSvn, Od.tamperEnable] fun k t =>
    t.setReg k 0
  s3.setSec fun x => { x with rootGen := 0, ownerSeed := none }

/-- The effect of a transition, its fuses included. -/
def State.transition (s : State) (to_ : LifeCycle) (r : LcReq) (revoke : Bool) : State :=
  let s1 := s.setSec fun x => { x with vendorRevoked := x.vendorRevoked || revoke }
  if revoke && decide (to_ = s.sec.lc) then s1
  else
    let s2 := s1.setSec fun x => { x with reprovision := false }
    match to_ with
    | .owned => s2.createOwner r
    | .shipped =>
      if decide (s.sec.lc = LifeCycle.manufacture) then s2.setSec fun x => { x with lc := .shipped, mfgDone := true }
      else (s2.setSec fun x => { x with lc := .shipped, ownerSeed := none }).eraseSlot 2
    | .return_ => (s2.setSec fun x => { x with lc := .return_, ownerSeed := none }).eraseSlot 2
    | .decommissioned =>
      s2.eraseBanks.setSec fun x => { x with lc := .decommissioned, decom := true, tamperKey := false }
    | .manufacture => s2

/-- The commit record of the update in progress is written. -/
def State.journalCommit (s : State) : State :=
  match s.sec.update with
  | none => s
  | some u =>
    let s1 := s.setSec fun x => { x with update := none, phase := 0, seq := (x.seq + 1) % 2 ^ 64 }
    let s2 := (s1.setReg Od.keysUpdateState 0).setReg Od.keysUpdateSeq s1.sec.seq
    let s3 := match u with
      | .slot n w key => (s2.putSlot n (slotRec w) key).keysFlag 2 n
      | .transition to_ r revoke => s2.transition to_ r revoke
      | .firmware bank svns =>
        let t := s2.setReg Od.fwActiveBank bank
        let t1 := svns.foldl (fun (t : State) (e : Nat × Nat) => t.setReg Od.fwSvn (setField (t.reg Od.fwSvn) (32 * (6 - e.1)) 32 e.2)) t
        match t1.opOf opFirmware with
        | some n => t1.endOp n .done 0
        | none => t1
    let s4 := (s3.setFlag 96 3).dropOrphans
    let s5 := match u with
      | .transition _ _ _ => s4.restartNow 4
      | .slot _ _ _ | .firmware _ _ => s4
    s5.setPower fun p => { p with secHeld := p.secHeld || p.heldReset }

def execJournalCommit (at_ : Instant) (s : State) : Result := act true 2 (s.arrive at_) fun s => s.journalCommit

/-! ### Tamper (R392 to R395, R495) -/

/-- The sources that are enabled: the lid, the glitch detectors, the light sensor outside MANUFACTURE; the loops as set. -/
def State.tamperEnabled (s : State) : Nat :=
  (if s.sec.lc = .manufacture then 0 else 0x79) + (s.reg Od.tamperEnable &&& 0x06)

/-- An entry of the battery log: 16 are kept, the oldest overwritten. -/
def State.logTamper (s : State) (fired : Nat) : State :=
  let battery := decide (s.power.state = PowerState.battery)
  let e : TamperEntry :=
    { time := s.now / 2 ^ 21 * 2 ^ 21, sources := fired, power := if battery then s.freeBelow 256 else powerCode s.power.state
      lc := lcCode s.sec.lc }
  let full := s.sec.tamperLog.length = 16
  let s1 := (if battery then s.drew else s).setSec fun x => { x with tamperLog := (e :: x.tamperLog).take 16 }
  let s2 := s1.setReg Od.tamperLogTotal (min (s.reg Od.tamperLogTotal + 1) 0xFFFF)
  if full then s2.setFlag 97 3 (some fired) else s2

/-- The response to an alarm: the key cells zeroised, TAMPER_N asserted, the tamper key destroyed, the log written; key operations
fail, an update in progress is abandoned. -/
def State.tamperResponse (s : State) (fired : Nat) : State :=
  let s1 := s.setSec fun x => { x with
    cells := [], tamperKey := false, ownerSeed := none, tamperHold := true, update := none, phase := 0
    unreported := x.unreported || decide (s.power.state = PowerState.battery) }
  let s2 := s1.setReg Od.keysUpdateState 0
  let s3 := [opKeygen, opAttest].foldl (fun t k =>
    match t.opOf k with
    | some n => t.endOp n .failed stFailed
    | none => t) s2
  (((s3.logTamper fired).setFlag 97 0 (some fired)).stand 97 1 true (some fired)).dropOrphans

/-- Sources fire (R393, R394). -/
def State.tamper (s : State) (sources : Nat) : State :=
  let fired := sources &&& s.tamperEnabled
  let s1 := (s.setSec fun x => { x with firing := fired }).setReg Od.tamperStatus fired
  if fired = 0 then s1
  else
    let s2 := s1.tamperResponse fired
    match s.power.state with
    | .run => if s.outEnabled then s2.restartNow 3 else (s2.lastGasp 3).restartNow 3
    | .hold => (s2.lastGasp 3).restartNow 3
    | .off | .tamperHold => s2.lastGasp 3
    | .battery => s2

def execTamperAlarm (at_ : Instant) (sources : Nat) (s : State) : Result := act true 0 (s.arrive at_) fun s => s.tamper sources

/-- A check of the loops: one found open or shorted fires at this check or at the next, a free choice at the first. -/
def State.loopCheck (s : State) (faults : Nat) : State :=
  let seen (i : Nat) : Bool := bit faults i && bit (s.reg Od.tamperEnable) (i + 1)
  let runs := (List.range 2).map fun i => if seen i then s.sec.loopFaults.getD i 0 + 1 else 0
  let fires (i : Nat) : Bool := seen i && (2 ≤ runs.getD i 0 || Config.free (s.freeUsed + i) % 2 = 1)
  let fired := 2 * b2n (fires 0) + 4 * b2n (fires 1)
  let s1 := s.drew.drew.setSec fun x => { x with loopFaults := runs }
  if fired = 0 then
    let rest := s1.sec.firing &&& (0xFFFF - 0x06)
    (s1.setSec fun x => { x with firing := rest }).setReg Od.tamperStatus rest
  else s1.tamper (s1.sec.firing ||| fired)

def execTamperLoopCheck (at_ : Instant) (faults : Nat) (s : State) : Result := act true 0 (s.arrive at_) fun s => s.loopCheck faults

/-- TAMPER_CLEAR (R395): a new tamper key, every PERSIST slot destroyed, the owner seed erased, and a restart, whose cause is not
stated. -/
def State.clearTamper (s : State) : State :=
  let s1 := s.each (((List.range 254).map (· + 2)).filter fun n => (s.slot n).valid && (s.slot n).persist) fun n t => t.eraseSlot n
  let s2 := s1.setSec fun x => { x with
    tamperKey := true, ownerSeed := none, tamperHold := false, reprovision := decide (x.lc = LifeCycle.owned), seq := (x.seq + 1) % 2 ^ 64 }
  let s3 := ((s2.setReg Od.keysUpdateSeq s2.sec.seq).stand 97 1 false).setFlag 97 2
  s3.drew.restartNow (s3.freeBelow 256)

/-- A write of TAMPER_CLEAR by a session. -/
def State.writeTamperClear (s : State) (role slot value : Nat) : Answer :=
  if role < 3 || slot ≠ 0 then s.refuse stDenied
  else if 2 ≤ value then s.refuse stTypeMismatch
  else if s.sec.firing ≠ 0 then s.refuse stBusy
  else if s.power.state ≠ .tamperHold then s.refuse stInvalidValue
  else if value = 0 then s.ok
  else s.clearTamper.ok

def execTamperClear (at_ : Instant) (session value : Nat) (s : State) : Result :=
  act true 2 (s.arrive at_) fun s =>
    (s.whileRunning (match s.session? session with
      | none => s.refuse stNoSession
      | some x => if !x.opened then s.refuse stNoSession else s.writeTamperClear x.role x.slot value)).told

/-! ### Measurements and attestation (R389 to R391) -/

/-- The digest of the header of the running image of a type. -/
def State.imageDigest (s : State) (type : Nat) : List Byte :=
  shake256 (((s.sec.running.find? fun i => i.imageType = type).map (·.header)).getD []) 64

/-- MEASUREMENTS: seven entries of ID and digest. -/
def State.measurements (s : State) : List Byte :=
  beBytes 2 1 ++ shake256 Config.bootRom 64 ++
    ((List.range 5).map fun i => beBytes 2 (i + 2) ++ s.imageDigest (i + 2)).flatten ++
    beBytes 2 7 ++ beBytes 64 (s.reg Od.attConfigMeasurement)

/-- PK.seed and PK.root of slot 1. -/
def State.attestPublic (s : State) : List Byte := (s.slotKey 1).drop 64

/-- ROOT of a statement. -/
def rootCode : LifeCycle → Nat
  | .manufacture | .return_ => 1
  | .shipped => 2
  | .owned => 3
  | .decommissioned => 0

/-- Bytes 0 to 587 of a statement. -/
def State.statementBody (s : State) (started : Nat) (nonce : List Byte) : List Byte :=
  beBytes 4 0x56584154 ++ beBytes 1 1 ++ beBytes 1 (lcCode s.sec.lc) ++
    beBytes 1 (if s.pair.enabled then roleCode s.pair.role else 0xFF) ++ beBytes 1 (rootCode s.sec.lc) ++ serialBytes ++
    beBytes 10 started ++ beBytes 2 s.rootGenNow ++ nonce ++ beBytes 2 7 ++ s.measurements ++ s.attestPublic

/-- A signing that completes: the statement, or a failure where slot 1 cannot sign. -/
def State.attestDone (s : State) (n : Nat) : State :=
  if s.sec.secLost || decide (s.usable 1 .attest ≠ Usable.ok) then s.endOp n .failed stFailed
  else
    let body := s.statementBody (s.op n).started (s.op n).params
    ((s.setBlob Od.attStatement (body ++ slhSign (s.slotKey 1) body)).lcFlag 4).endOp n .done 0

/-- A write of NONCE starts a signing (R391, R450). -/
def State.writeNonce (s : State) (role session value : Nat) : Answer :=
  if s.sec.secLost then s.refuse stBusy
  else
    match s.openOp opAttest role session (beBytes 32 value) with
    | none => s.refuse stBusy
    | some (n, t) => (t.setReg Od.attNonce value).ok (beBytes 4 (t.op n).handle)

end Sys2Proof.Machine
end

