-- ==== Sys2Proof/Machine/Entries.lean ====
section
/-!
DEFINITION. Every entry of the dictionary as it reads (14_dictionary_map.md and the entry tables of every chapter): entries
that the state of a block gives are formed from it, every other one is a stored value in the EDP form of R428.
-/

namespace Sys2Proof.Machine

open Sys2Proof

/-! ### Which entries exist (R428, R430, R456, R469) -/

/-- The row of an entry in the present life-cycle state: subindex 0x00 carries the highest subindex; the entries at 0xA010 need
test access (R427). -/
def State.entry? (s : State) (index sub : Nat) : Option OdRow :=
  if index = 0xA010 && !s.testAccess then none
  else if sub = 0 then (odGroup? index).map fun _ => ⟨0, 0, .u8, 0, 5, .none, 0, [], 0⟩
  else odRow? index sub

/-- The indices reserved to Enesk, of which this manual says nothing more (R469). -/
def vendorRange (index : Nat) : Bool := 0xF000 ≤ index

/-! ### Names (R470) -/

/-- The names of sources from 32 on. -/
def sourceNames : List (Nat × String) := [
  (32, "TIME"), (33, "SWITCH"), (34, "SEPARATOR"), (35, "INGEST"), (36, "GOOSE_SUB"), (37, "GOOSE_PUB"), (48, "SLICE_0"),
  (49, "SLICE_1"), (50, "SLICE_2"), (51, "SLICE_3"), (52, "FALLBACK"), (53, "PHASOR"), (54, "HISTORY"), (64, "CHURN"),
  (65, "CLOSED_LOOP"), (80, "PAIR"), (81, "PAIR_LINK"), (96, "KEYS"), (97, "TAMPER"), (98, "LIFE_CYCLE"), (112, "HEALTH"),
  (113, "SELF_TEST"), (114, "POWER"), (115, "TEMPERATURE"), (116, "LONG_OP"), (117, "EDP")]

/-- The name of a source; a reserved one has none. -/
def sourceName (n : Nat) : List Byte :=
  if n < 32 then ascii ("PORT_" ++ toString n) else ascii ((Tab.find sourceNames n).getD "")

/-! ### Records -/

/-- A retirement record (R404). -/
def Retirement.bytes (r : Retirement) : List Byte :=
  beBytes 2 r.unit_ ++ beBytes 1 r.cause ++ beBytes 1 r.count ++ beBytes 10 r.time ++ beBytes 2 r.start

/-- A repair record (R415). -/
def Repair.bytes (r : Repair) : List Byte :=
  beBytes 2 r.inst ++ beBytes 4 r.row ++ beBytes 2 r.bit_ ++ beBytes 1 r.failType ++ beBytes 1 r.repair ++ beBytes 2 r.spare ++
    beBytes 4 r.tickLow

/-- A result record (R413). -/
def TestResult.bytes (r : TestResult) : List Byte :=
  beBytes 2 r.unit_ ++ beBytes 1 r.result ++ beBytes 1 r.flags ++ beBytes 4 r.patterns ++ beBytes 8 r.misr ++ beBytes 8 r.tick

/-- An entry of the battery log (R393). -/
def TamperEntry.bytes (e : TamperEntry) : List Byte :=
  beBytes 10 e.time ++ beBytes 2 e.sources ++ beBytes 1 e.power ++ beBytes 1 e.lc ++ beBytes 2 0

/-- Elements of a list at fixed places, missing ones zero. -/
def places (n : Nat) (l : List Nat) : List Nat := (List.range n).map fun i => l.getD i 0

/-- A last-gasp record (R421). -/
def LastGasp.bytes (g : LastGasp) : List Byte :=
  let body := beBytes 4 0x56584C47 ++ beBytes 1 1 ++ beBytes 1 g.cause ++ beBytes 1 g.power ++ beBytes 1 g.lc ++
    beBytes 10 g.time ++ beBytes 8 g.tick ++ beBytes 1 g.role ++ beBytes 1 g.timeState ++ beBytes 4 g.startCount ++
    ((places 12 g.herds).map (beBytes 1)).flatten ++ beBytes 1 g.slices ++ beBytes 1 g.dies ++ beBytes 1 g.links ++ beBytes 1 0 ++
    beBytes 4 g.portsRetired ++ beBytes 4 g.portsUp ++ ((places 8 g.supplies).map (beBytes 2)).flatten ++
    ((List.range 4).map fun i => beBytes 2 (ofSigned 16 (g.temps.getD i 0))).flatten ++
    ((places 16 g.events).map (beBytes 1)).flatten ++ beBytes 16 0 ++
    ((List.range 128).map fun i => Config.deposit g.time i) ++ beBytes 12 0
  body ++ beBytes 4 (crc32 body)

/-! ### Sizes and loads -/

/-- The frames per second of the streams whose frames are authenticated (R152). -/
def State.authLoad (s : State) : Nat :=
  ((s.svEntries.filter fun n => s.reg (Od.svAuthMode n) = 1).map fun n => s.reg (Od.svStreamRate n)).sum

/-- A load in per mille, to the nearest (log 53). -/
def perMille (part whole : Nat) : Nat := if whole = 0 then 0 else (2000 * part + whole) / (2 * whole)

/-- PARTITION_POOL: 20,480 MiB less the pages withheld, an even number of MiB (R265). -/
def State.partitionPool (s : State) : Nat := (20480 - ceilDiv s.health.withheldPages (2 ^ 20)) / 2 * 2

/-- The size of a state image with every section at its largest, over all partitions (R236), and its limit (R339). -/
def State.imageSize (s : State) : Nat :=
  8704 + churnBytes (s.blob Od.churnProgram) 1024 +
    ((List.range 96).map fun n => s.reg (Od.partStateMax n)).sum
def imageLimit (rate : Nat) : Nat := if rate ≤ 4800 then 262144 else if rate = 12800 then 98304 else 81920

/-- Whole variable spaces as R300 gives them, with forces overlaid. -/
def State.bitImage (s : State) : List Byte :=
  (List.range 8192).map fun i => BitVec.ofNat 8 (maskOf ((List.range 8).filter fun j => s.churnBit (8 * i + j)))
def State.wordImage (s : State) : List Byte := ((List.range 65536).map fun i => beBytes 4 (s.churnWord i)).flatten

/-! ### Entries formed from a block's state, range by range -/

def identityEntry (sub : Nat) : Option (List Byte) :=
  match sub with
  | 0x01 => some serialBytes
  | 0x02 => some (ascii "VX96-S")
  | 0x03 => some (beBytes 2 Config.hwRevision.toNat)
  | 0x04 => some (beBytes 6 Config.baseMac.toNat)
  | 0x05 => some (beBytes 10 Config.manufactured.toNat)
  | 0x07 => some (ascii "ENK-0961/1")
  | 0x0B => some (beBytes 2 Config.pciVendorId.toNat)
  | _ => none

def State.managementEntry (s : State) (sub : Nat) : Option (List Byte) :=
  match sub with
  | 0x08 => some (beBytes 1 (s.edp.sessions.filter fun e => e.2.opened).length)
  | 0x0B => some (beBytes 4 (s.edp.owner.getD 0))
  | _ => none

def State.timeEntry (s : State) (sub : Nat) : Option (List Byte) :=
  match sub with
  | 0x01 => some (beBytes 10 s.now)
  | 0x02 => some (beBytes 1 (servoCode s.time.servo))
  | 0x03 => some (beBytes 8 (ofSigned 64 s.time.offset))
  | 0x04 => some (beBytes 8 (ofSigned 64 s.time.freq))
  | 0x05 => some (beBytes 8 (min s.holdError (2 ^ 63 - 1)))
  | _ => none

def State.healthEntry (s : State) (sub : Nat) : Option (List Byte) :=
  match sub with
  | 0x01 => some ((List.range 12).map fun h => BitVec.ofNat 8 (s.herdByte h))
  | 0x02 => some (beBytes 1 s.sliceByte)
  | 0x03 => some (beBytes 4 (maskOf ((List.range 32).filter fun p => (s.port p).retired)))
  | 0x04 => some (beBytes 1 (maskOf s.pair.lanesRetired))
  | 0x05 => some (beBytes 1 s.linkByte)
  | 0x06 => some ((s.health.retired.map Retirement.bytes).flatten)
  | 0x0A => some ((s.health.gasps.map LastGasp.bytes).flatten)
  | 0x10 => some ((s.health.repairs.map Repair.bytes).flatten)
  | _ => none

/-- LINK_STATE of a port (R105). -/
def State.linkState (s : State) (p : Nat) : Nat :=
  if (s.port p).retired then 3 else if s.reg (Od.portRole p) = 0 then 2 else b2n (s.port p).linkUp

def State.portEntry (s : State) (p sub : Nat) : Option (List Byte) :=
  match sub with
  | 0x08 => some (beBytes 1 (b2n (s.rxPause p)))
  | 0x12 => some (beBytes 1 (s.linkState p))
  | 0x13 => some (beBytes 1 (s.port p).mode)
  | 0x14 => some (beBytes 2 (s.port p).speed)
  | 0x15 => some (beBytes 6 (Config.baseMac.toNat + p))
  | _ => none

def State.switchEntry (s : State) (sub : Nat) : Option (List Byte) :=
  match sub with
  | 0x04 => some (beBytes 2 s.staticEntries.length)
  | 0x05 => some (beBytes 2 (s.regs.filter fun e => Od.mcGroup 0 ≤ e.1 && e.1 ≤ Od.mcGroup 1023 && bit e.2 63).length)
  | 0x07 => some (beBytes 2 s.sw.free)
  | _ => none

def State.ingestEntry (s : State) (sub : Nat) : Option (List Byte) :=
  match sub with
  | 0x02 => some (beBytes 1 s.lag)
  | 0x03 => some (beBytes 2 s.mapped.length)
  | 0x04 => some (beBytes 2 (channelLimit s.rate))
  | _ => none

/-- A channel record of word `v` with the entry that maps the channel (R174). -/
def State.channelBytes (s : State) (c v : Nat) : List Byte :=
  let w := v % 2 ^ 66
  beBytes 16 (match s.mapped.find? fun m => m.1 = c with
    | some (_, n, i) => w + n * 2 ^ 66 + i * 2 ^ 75
    | none => w + 0x1FF * 2 ^ 66)

def State.channelEntry (s : State) (c : Nat) : List Byte := s.channelBytes c (s.reg (Od.channelRecord c))

def State.historyEntry (s : State) (sub : Nat) : Option (List Byte) :=
  match sub with
  | 0x01 => some (beBytes 2 s.storedChannels.length)
  | 0x02 => some (beBytes 4 s.ringFrames)
  | 0x03 => some (beBytes 8 s.oldestTick)
  | _ => none

def State.windowEntry (s : State) (w sub : Nat) : Option (List Byte) :=
  let x := s.window w
  match sub with
  | 0x01 => some (beBytes 1 x.state)
  | 0x02 => some (beBytes 8 x.first)
  | 0x03 => some (beBytes 8 x.last)
  | 0x04 => some (beBytes 8 x.trigger)
  | 0x05 => some (beBytes 1 x.triggers)
  | 0x06 => some (beBytes 1 (b2n x.truncated))
  | _ => none

def State.loopEntry (s : State) (l sub : Nat) : Option (List Byte) :=
  match sub with
  | 0x20 => some (beBytes 4 (s.loopStatus l))
  | 0x21 => some (beBytes 8 (s.unitAt (s.headOf l)).out)
  | 0x22 => some (beBytes 8 (s.loopAt l).measurement)
  | 0x23 => some (beBytes 8 (s.loopAt l).setpoint)
  | 0x24 => some (beBytes 8 (s.loopAt l).iState)
  | _ => none

def State.generatorEntry (s : State) (g sub : Nat) : Option (List Byte) :=
  let x := s.genAt g
  match sub with
  | 0x09 => some (beBytes 8 x.x)
  | 0x0A => some (beBytes 8 x.vel)
  | 0x0B => some (beBytes 8 x.acc)
  | 0x0C => some (beBytes 1 (b2n x.moving + 2 * b2n (x.held || (s.on (Od.genEnable g) && !x.started))))
  | _ => none

def State.groupEntry (s : State) (g sub : Nat) : Option (List Byte) :=
  let h := (s.groupLoops g).head?
  let u := match h with
    | some l => s.unitAt l
    | none => {}
  match sub with
  | 0x01 => some (beBytes 4 (maskOf (s.groupLoops g)))
  | 0x02 => some (beBytes 1 (h.getD 0xFF))
  | 0x04 => some (beBytes 1 (b2n u.latch))
  | 0x05 => some (beBytes 8 u.out)
  | 0x06 => some (beBytes 1 (u.winner.getD 0xFF))
  | 0x07 => some (beBytes 1 (min u.overrunRun 255))
  | _ => none

def State.partitionEntry (s : State) (n sub : Nat) : Option (List Byte) :=
  match sub with
  | 0x10 => some (beBytes 1 (s.runCode n))
  | 0x11 => some (beBytes 8 (maskOf (s.partUnits n)))
  | 0x12 => some (beBytes 2 (perMille (((s.part n).windows.map fun w => (winRec w).work).sum) s.unitWork))
  | 0x16 => some ((s.part n).logRing.flatten)
  | 0x17 => some (shake256 (s.blob (Od.partProgram n)) 64)
  | _ => none

def State.managerEntry (s : State) (sub : Nat) : Option (List Byte) :=
  match sub with
  | 0x03 => some (beBytes 2 (perMille (s.totalLoad s.tableNow) (48 * s.unitWork)))
  | 0x04 => some (((List.range 4).map fun r => beBytes 2 (perMille (s.regionLoad s.tableNow r) (12 * s.unitWork))).flatten)
  | 0x06 => some (beBytes 2 s.partitionPool)
  | _ => none

/-- STATE.STATE of R239. -/
def pailCode : PailState → Nat
  | .disabled => 0 | .active => 1 | .resetting => 2 | .frozen => 3

def State.pailEntry (s : State) (p sub : Nat) : Option (List Byte) :=
  match sub with
  | 0x10 => some (beBytes 1 (pailCode (s.pail p).state))
  | 0x11 => some (beBytes 1 (s.pail p).epoch)
  | 0x13 => some (s.stateRecord p)
  | _ => none

def State.pairEntry (s : State) (sub : Nat) : Option (List Byte) :=
  match sub with
  | 0x12 => some (beBytes 1 (b2n (s.laneUp 0) + 2 * b2n (s.laneUp 1) + 4 * b2n (s.hasStationPath && 0 < s.pair.station.had)))
  | 0x19 => some (beBytes 4 s.imageSize)
  | 0x1A => some (beBytes 4 (imageLimit s.rate))
  | _ => none

def State.lifeCycleEntry (s : State) (sub : Nat) : Option (List Byte) :=
  match sub with
  | 0x01 => some (beBytes 1 (lcCode s.sec.lc))
  | 0x04 => some (beBytes 2 s.sec.rootGen)
  | 0x08 => some (beBytes 1 s.vendorKeyIndex)
  | 0x09 => some (beBytes 1 (b2n s.testAccess))
  | _ => none

/-- VERSION of the running images, IMAGE_TYPE 2 to 6. -/
def State.versionsEntry (s : State) : List Byte :=
  ((List.range 5).map fun i => beBytes 4 (((s.sec.running.find? fun x => x.imageType = i + 2).map (·.version)).getD 0)).flatten

def State.attestEntry (s : State) (sub : Nat) : Option (List Byte) :=
  match sub with
  | 0x03 => some (slice s.attestPublic 0 64)
  | 0x04 => some s.measurements
  | _ => none

def State.testEntry (s : State) (sub : Nat) : Option (List Byte) :=
  match sub with
  | 0x04 => some (beBytes 4 (s.oldestAge % 2 ^ 32))
  | 0x05 => some ((s.health.results.map TestResult.bytes).flatten)
  | _ => none

def State.opEntry (s : State) (n sub : Nat) : Option (List Byte) :=
  let x := s.op n
  match sub with
  | 0x01 => some (beBytes 1 (opCode x.state))
  | 0x02 => some (beBytes 1 x.type)
  | 0x03 => some (beBytes 4 x.handle)
  | 0x04 => some (beBytes 2 x.progress)
  | 0x05 => some (beBytes 1 x.result)
  | 0x06 => some (beBytes 4 x.detail)
  | 0x07 => some (beBytes 1 x.role)
  | 0x08 => some (beBytes 10 x.started)
  | 0x09 => some (beBytes 10 x.ended)
  | _ => none

def State.powerEntry (s : State) (index sub : Nat) : Option (List Byte) :=
  match index, sub with
  | 0xD000, 0x01 => some (beBytes 1 (powerCode s.power.state))
  | 0xD000, 0x03 => some (beBytes 2 s.power.domains)
  | 0xD010, _ => some (beBytes 2 (s.power.supplies.getD (sub - 1) 0))
  | 0xD020, 0x01 | 0xD020, 0x02 | 0xD020, 0x03 | 0xD020, 0x04 => some (beBytes 2 (ofSigned 16 (s.power.temps.getD (sub - 1) 0)))
  | 0xD020, 0x06 => some (beBytes 2 (ofSigned 16 (s.power.tempMax.getD 0)))
  | _, _ => none

/-! ### The EDP form of any entry -/

/-- An entry in the upper half of the index space that a block's state gives. -/
def State.upperEntry (s : State) (index sub : Nat) : Option (List Byte) :=
  if index = 0x8000 then s.pairEntry sub
  else if index = 0x9000 && sub = 1 then some (beBytes 2 ((List.range 256).filter fun n => (s.slotRecord n).valid).length)
  else if index = 0x9010 && sub ≤ 2 then some (beBytes 16 (s.slotRecord (sub - 1)).word)
  else if index = 0x9100 then s.lifeCycleEntry sub
  else if index = 0x9110 && sub = 3 then some s.versionsEntry
  else if index = 0x9140 && sub = 4 then some ((s.sec.tamperLog.map TamperEntry.bytes).flatten)
  else if index = 0x9200 then s.attestEntry sub
  else if index = 0xA000 then s.testEntry sub
  else if 0xB000 ≤ index && index ≤ 0xB07F && sub = 7 then some (sourceName (index - 0xB000))
  else if 0xC000 ≤ index && index ≤ 0xC00F then s.opEntry (index - 0xC000) sub
  else if 0xD000 ≤ index && index ≤ 0xD0FF then s.powerEntry index sub
  else none

/-- An entry in the lower half that a block's state gives. -/
def State.lowerEntry (s : State) (index sub : Nat) : Option (List Byte) :=
  if index = 0x1000 then identityEntry sub
  else if index = 0x1080 then s.managementEntry sub
  else if index = 0x1100 then s.timeEntry sub
  else if index = 0x1200 then s.healthEntry sub
  else if 0x2000 ≤ index && index ≤ 0x201F then s.portEntry (index - 0x2000) sub
  else if index = 0x2200 then s.switchEntry sub
  else if 0x2280 ≤ index && index ≤ 0x229F && sub = 0x11 then some (beBytes 1 (b2n (s.unknownMc (index - 0x2280))))
  else if 0x22C0 ≤ index && index ≤ 0x22DF && 3 ≤ sub then some (beBytes 2 (s.sw.account (index - 0x22C0) (sub - 3)))
  else if index = 0x2300 && sub = 4 then some (beBytes 2 (s.sw.sources.filter fun e => !e.forgotten).length)
  else if index = 0x3400 then s.ingestEntry sub
  else if index = 0x3401 && sub = 3 then some (beBytes 4 s.authLoad)
  else if 0x3480 ≤ index && index ≤ 0x34FF then some (s.channelEntry ((index - 0x3480) * 64 + (sub - 1)))
  else if index = 0x4040 && sub = 4 then some (beBytes 2 (fbCapacity s.rate))
  else if index = 0x4200 then s.historyEntry sub
  else if 0x4210 ≤ index && index ≤ 0x4217 then s.windowEntry (index - 0x4210) sub
  else if index = 0x5000 && sub = 0x0E then some (shake256 (s.blob Od.churnProgram) 64)
  else if index = 0x5040 && sub = 1 then some s.bitImage
  else if index = 0x5040 && sub = 2 then some s.wordImage
  else if 0x6000 ≤ index && index ≤ 0x601F then s.loopEntry (index - 0x6000) sub
  else if index = 0x6080 && sub = 2 then some (beBytes 4 s.schedulePeak)
  else if index = 0x6080 && sub = 3 then some (beBytes 4 (scheduleBudget s.rate))
  else if 0x6100 ≤ index && index ≤ 0x611F then s.generatorEntry (index - 0x6100) sub
  else if 0x6200 ≤ index && index ≤ 0x6207 then s.groupEntry (index - 0x6200) sub
  else if 0x7000 ≤ index && index ≤ 0x705F then s.partitionEntry (index - 0x7000) sub
  else if index = 0x7060 then s.managerEntry sub
  else if 0x7100 ≤ index && index ≤ 0x713F then s.pailEntry (index - 0x7100) sub
  else none

/-- The value of an entry in force, in EDP form (R428, R431). -/
def State.entryBytes (s : State) (index sub : Nat) (r : OdRow) : List Byte :=
  if sub = 0 then beBytes 1 (((odGroup? index).map fun g => g.highest index).getD 0)
  else
    let k := index * 256 + sub
    match if index < 0x8000 then s.lowerEntry index sub else s.upperEntry index sub with
    | some v => v
    | none => if r.ty.isBlob then s.blob k else beBytes r.ty.size (s.reg k)

end Sys2Proof.Machine
end

