-- ==== Sys2Proof/Machine/ConfigRead.lean ====
section
/-!
DEFINITION. The monitor call CONFIG_READ (R232): one dictionary entry with VIEWER rights, in its EDP form.
-/

namespace Sys2Proof.Machine

open Sys2Proof

/-- The call: NOT_FOUND where there is no such entry, DENIED where VIEWER may not read it, INVALID where the buffer lies outside
the partition's RAM or is too short (log 54); else the value is written and a1 is its length. -/
def State.configRead (s : State) (n index sub a len : Nat) : State :=
  match s.entry? index sub with
  | none => s.callReturn n callNotFound []
  | some r =>
    if r.rd ≠ 0 then s.callReturn n callDenied []
    else
      let v := s.entryBytes index sub r
      if len < v.length || !s.inRam n a v.length then s.callReturn n callInvalid []
      else (s.storeBytes n a v).callReturn n 0 [(v.length : Int)]

def execConfigRead (at_ : Instant) (partition index sub address length : Nat) (s : State) : Result :=
  callAct at_ partition s fun s => s.configRead partition index sub address length

end Sys2Proof.Machine
end

