-- ==== Sys2Proof/Machine/Ports.lean ====
section
/-!
DEFINITION. The ports' commands (03_ports_and_mac.md): reception, timestamps, PAUSE, speed, link.
-/

namespace Sys2Proof.Machine

open Sys2Proof

/-- RX_FRAME_START (R64 to R66, R88, R97): the start-of-frame delimiter. -/
def State.rxStart (s : State) (p : Nat) : State :=
  if !(s.port p).linkUp || (s.port p).rx.isSome then s
  else
    let limit := s.reg (Od.portFrameLimit p)
    let s1 := s.occupancy p (s.port p).rxUsed
    if 16384 - (s1.port p).rxUsed < limit then
      (s1.modPort p fun x => { x with rx := some ⟨s.now, true, none, none, none⟩ }).overflowDrop p
    else
      (s1.modPort p fun x => { x with rx := some ⟨s.now, false, none, none, none⟩ }).occupancy p
        ((s1.port p).rxUsed + limit)

def execRxFrameStart (at_ : Instant) (port : Nat) (s : State) : Result :=
  act (port < 32) 3 (s.arrive at_) fun s => s.rxStart port

/-- A receive timestamp (R65, R66): the start of the frame less the ingress latency. -/
def State.rxTime (s : State) (p : Nat) (r : Reception) : Nat := dripAdd r.startedAt (-(s.regI 64 (Od.ptpPortIngressLatency p)))

/-- Cells and octets of the frames of a local queue (R87). -/
def localCells (l : List LocalFrame) : Nat := (l.map (·.cells)).sum

/-- Whether a local queue can reserve `n` cells (R87, R89). -/
def State.localRoom (s : State) (q n : Nat) : Bool :=
  let l := Tab.look s.sw.localQs q []
  l.length < 512 && localCells l + n ≤ 512

/-- Append to a local queue. -/
def State.localPut (s : State) (q : Nat) (e : LocalFrame) : State :=
  { s with sw := { s.sw with localQs := Tab.mod s.sw.localQs q [] (· ++ [e]) } }

/-- Queues whose consumer takes a frame as it completes: 0 to 4 (R87); the pails' 5 to 14 and the diagnostic queue 15
keep it. -/
def takenAtOnce (q : Nat) : Bool := q ≤ 4

/-- A good frame has ended: its local copies are complete, with the cells they fill (R89). -/
def State.finishLocal (s : State) (p len : Nat) : State :=
  { s with sw := { s.sw with localQs :=
      (s.sw.localQs.map fun (q, l) =>
        (q, (l.map fun e => if !e.complete && e.port = p then { e with complete := true, len := len, cells := cellsOf len }
                            else e).filter fun e => !(takenAtOnce q && e.complete))).filter fun e => !e.2.isEmpty } }

/-- A frame's length exceeds the limit of an egress port, as received or as it would be sent (R81). -/
def State.over (s : State) (f : SwFrame) (e : Egress) (len : Nat) : Bool :=
  let limit := s.reg (Od.portFrameLimit e.port)
  limit < len || limit < (s.onWire { f with frame := { f.frame with len := len } } e).len

/-- The egress ports of a frame whose limit its received length exceeds (R81). -/
def State.tooLong (s : State) (id len : Nat) : State :=
  match Tab.find s.sw.frames id with
  | none => s
  | some f => s.each f.egress fun e t =>
    if s.over f e len then
      if e.started then t.stomp id e.port (s.reg (Od.portFrameLimit e.port)) else (t.leave id e.port).countPort e.port 0x24
    else t

/-- A duplicate goes nowhere (R137). -/
def State.removeCopies (s : State) (p : Nat) (id : Option Nat) : State :=
  let t := match id.bind (Tab.find s.sw.frames) with
    | some f => s.each f.egress fun e u => u.leave (id.getD 0) e.port
    | none => s
  t.dropLocal p

/-- A frame of a PRP group is judged when it has ended good (R137); one that is accepted takes its sequence numbers (R136). -/
def State.prpJudged (s : State) (p : Nat) (r : Reception) (len : Nat) : State :=
  match r.prp, r.frame with
  | some (g, a), some f =>
    let v := s.judgePrp g a { f with len := len }
    if !v.accept then v.state.removeCopies p r.swId
    else
      match r.swId with
      | none => v.state
      | some id =>
        match Tab.find v.state.sw.frames id with
        | none => v.state
        | some x =>
          let q := v.state.takeSeqs (x.egress.map fun e => ⟨e.port, e.cls, e.cutThrough, e.keepTag⟩)
          q.1.setSw fun w => { w with frames := Tab.insert w.frames id { x with seqs := q.2 } }
  | _, _ => s

/-- The frame of a good reception is complete: its length is known, and the cells it did not fill return (R89, R110). -/
def State.completeFrame (s : State) (id len : Nat) : State :=
  match Tab.find s.sw.frames id with
  | none => s
  | some f =>
    let g : SwFrame := { f with complete := true, bytesIn := len, frame := { f.frame with len := len } }
    (s.setSw fun w => { w with frames := Tab.insert w.frames id g }).trimCells id (cellsOf len)

/-- The first error of R80 that applies to a reception, by the subindex of its counter. -/
def rxError (e : RxEnd) (limit : Nat) : Option Nat :=
  if e.len < 64 then some 0x23 else if limit < e.len then some 0x24
  else if !e.alignOk then some 0x22 else if !e.fcsOk then some 0x21 else none

/-- RX_FRAME_END (R79 to R81, R89, R92, R93, R97, R98, R110, R130, R137). A good frame that OVERFLOW_DROP counted counts in the size
and type counters too (log 117). -/
def State.rxEnd (s : State) (p : Nat) (e : RxEnd) : State :=
  match (s.port p).rx with
  | none => s
  | some r =>
    let limit := s.reg (Od.portFrameLimit p)
    let s0 := (s.modPort p fun x => { x with rx := none }).noteLoad p (min e.len limit) false
    if r.dropped then s0.occupancy p (s.port p).rxUsed
    else
      let len := min e.len limit
      let onId (t : State) (f : Nat → State → State) : State := match r.swId with
        | some id => f id t
        | none => t
      let s1 := match rxError e limit with
        | some c =>
          let t := onId (s0.countPort p c) fun id u => (u.tooLong id len).badFrame id len
          let t := t.dropLocal p
          match c = 0x24 && s.on (Od.portDiagEnable p) && t.localRoom 15 (cellsOf len), r.frame with
          | true, some f => (t.localPut 15 ⟨f, p, len, s.rxTime p r, true, true, cellsOf len⟩).countPort p 0x25
          | _, _ => t
        | none =>
          let t := match r.frame with
            | some f => s0.countGood p 0 f len
            | none => s0
          (onId (t.prpJudged p r len) fun id u => (u.completeFrame id len).tooLong id len).finishLocal p len
      s1.occupancy p ((s.port p).rxUsed + len)

def execRxFrameEnd (at_ : Instant) (port : Nat) (ending : RxEnd) (s : State) : Result :=
  act (port < 32) 3 (s.arrive at_) fun s => s.rxEnd port ending

/-! ### PAUSE (R92, R95 to R97) -/

/-- A received PAUSE whose FCS is good: counted, and honoured with RX_PAUSE_ENABLE (R95, R96). -/
def State.pauseIn (s : State) (p q : Nat) : State :=
  if !(s.port p).linkUp then s
  else
    let s1 := s.countPort p 0x0C
    if !s.rxPause p then s1
    else
      let x := s1.port p
      let running : Bool := match x.pause with
        | .running t => s.now < t
        | _ => false
      if running then
        s1.setPort p { x with pause := if q = 0 then .none else .running (s.now + wireTime x.speed (64 * q)) }
      else if x.tx.isSome then s1.setPort p { x with pause := if q = 0 then .none else .pending q }
      else s1.setPort p { x with pause := if q = 0 then .none else .running (s.now + wireTime x.speed (64 * q)) }

def execPauseReceived (at_ : Instant) (port pauseTime : Nat) (s : State) : Result :=
  act (port < 32) 3 (s.arrive at_) fun s => s.pauseIn port (pauseTime % 2 ^ 16)

/-- PAUSE_EXPIRY (R96): the pause has lasted its quanta. -/
def State.pauseOver (s : State) (p : Nat) : State :=
  s.modPort p fun x =>
    match x.pause with
    | .running t => if t ≤ s.now then { x with pause := .none } else x
    | _ => x

def execPauseExpiry (at_ : Instant) (port : Nat) (s : State) : Result :=
  act (port < 32) 3 (s.arrive at_) fun s => s.pauseOver port

/-- PAUSE_REPEAT (R97): the XOFF is sent again every 32,768 quanta while the occupancy stays above XON_THRESHOLD. -/
def State.pauseAgain (s : State) (p : Nat) : State :=
  let s1 := s.occupancy p (s.port p).rxUsed
  let x := s1.port p
  if x.linkUp && x.xoff && x.xoffSentAt + wireTime x.speed (64 * 32768) ≤ s.now then
    s1.setPort p { x with xoffSentAt := s.now, pauseOut := x.pauseOut ++ [0xFFFF] }
  else s1

def execPauseRepeat (at_ : Instant) (port : Nat) (s : State) : Result :=
  act (port < 32) 3 (s.arrive at_) fun s => s.pauseAgain port

/-! ### Speed (R74, R75, R98, R99) -/

/-- A change of mode between the configured one and LOWER_MODE takes the link down (R98). -/
def State.speedNow (s : State) (p : Nat) (lower : Bool) : State :=
  ((s.linkLoss p).modPort p fun y => { y with
    lowered := lower, lastSpeedChange := some s.now, speedWaits := none, rxLoad := [], txLoad := [], raiseSeen := false
    busyUntil := s.now }).setFlag p 4

/-- A change that waited for the end of the frame in transmission. -/
def State.speedAwaited (s : State) (p : Nat) : State :=
  let x := s.port p
  match x.speedWaits with
  | some lower => if x.tx.isSome || x.speedBlocked then s else s.speedNow p lower
  | none => s

/-- Traffic has called for the change: below LOWER_THRESHOLD in each direction for LOWER_HOLD seconds, or above RAISE_THRESHOLD in
either direction over 100 ms (R98; log 115). -/
def State.speedCalled (s : State) (p : Nat) (lower : Bool) : Bool :=
  let x := s.port p
  if lower then s.reg (Od.portLowerThreshold p) ≠ 0 && x.busyUntil + s.reg (Od.portLowerHold p) * second ≤ s.now else x.raiseSeen

/-- SPEED_LOWER and SPEED_RAISE: the traffic calls for the change, and the last one lies LOWER_HOLD seconds back; it waits for the end
of the frame in transmission. -/
def State.changeSpeed (s : State) (p : Nat) (lower : Bool) : State :=
  let x := s.port p
  let rested : Bool := match x.lastSpeedChange with
    | some t => t + s.reg (Od.portLowerHold p) * second ≤ s.now
    | none => true
  if s.reg (Od.portRole p) = 3 && s.on (Od.portSpeedLowering p) && !x.speedBlocked && x.lowered ≠ lower && rested &&
      s.speedCalled p lower && x.linkUp then
    if x.tx.isSome then s.modPort p fun y => { y with speedWaits := some lower } else s.speedNow p lower
  else s

def execSpeedLower (at_ : Instant) (port : Nat) (s : State) : Result :=
  act (port < 32) 3 (s.arrive at_) fun s => s.changeSpeed port true

def execSpeedRaise (at_ : Instant) (port : Nat) (s : State) : Result :=
  act (port < 32) 3 (s.arrive at_) fun s => s.changeSpeed port false

/-- SGMII_SPEED_REPORT (R74, R75): half duplex holds the link down; a new speed takes it down. -/
def State.sgmiiReport (s : State) (p speed : Nat) (full : Bool) : State :=
  if s.nextMode p ≠ 2 then s
  else if !full then ((s.linkLoss p).modPort p fun x => { x with duplexHeld := true }).setFlag p 6
  else
    let s1 := s.modPort p fun x => { x with duplexHeld := false }
    let old := if (s.port p).phySpeed = 0 then modeSpeed 2 else (s.port p).phySpeed
    if old = speed then s1.modPort p fun x => { x with phySpeed := speed }
    else ((s1.linkLoss p).modPort p fun x => { x with phySpeed := speed }).setFlag p 4

def execSgmiiSpeedReport (at_ : Instant) (port speed : Nat) (fullDuplex : Bool) (s : State) : Result :=
  act (port < 32) 3 (s.arrive at_) fun s => s.sgmiiReport port speed fullDuplex

/-! ### Link (R77, R100 to R102, R399, R497) -/

def execLinkDown (at_ : Instant) (port : Nat) (s : State) : Result :=
  act (port < 32) 3 (s.arrive at_) fun s => s.pcsLoss port

def execLinkUp (at_ : Instant) (port : Nat) (s : State) : Result :=
  act (port < 32) 3 (s.arrive at_) fun s => s.linkGain port

/-- SERDES_LOCK_LOST (R399, R400, R497): the link goes down; while REFCLK_25M is lost it does not count; the third loss in
30 s retires the port. -/
def State.lockLost (s : State) (p : Nat) : State :=
  if (s.port p).retired then s
  else
    let s1 := (s.linkLoss p).setFlag p 7
    if s.health.refclkLost then s1
    else
      let r := s1.noteError (unitId 4 p) (30 * second)
      if 3 ≤ r.2 then r.1.retirePort p 1 r.2 else r.1

def execSerdesLockLost (at_ : Instant) (port : Nat) (s : State) : Result :=
  act (port < 32) 3 (s.arrive at_) fun s => s.lockLost port

/-! ### HALF_RANGE_MAP (R93) -/

/-- A write of HALF_RANGE_MAP clears the bits that are 1 in the value, but those that a counter set at the same instant (R93). -/
def State.clearHalfRange (s : State) (p value : Nat) : Answer :=
  let old := s.reg (Od.cntHalfRangeMap p)
  let x := s.port p
  let kept (i : Nat) : Bool := !bit value i || (decide (x.halfAt = s.now) && bit x.halfBits i)
  (s.setReg (Od.cntHalfRangeMap p) (maskOf ((bitsOf 64 old).filter kept))).ok

def execHalfRangeMapWrite (at_ : Instant) (port value : Nat) (s : State) : Result :=
  act (port < 32) 3 (s.arrive at_) fun s => (s.clearHalfRange port value).told

/-! ### Transmit timestamps (R45, R52, R54, R67 to R71) -/

/-- The message that completes a two-step one: the transmit time of a Sync, or of a peer-delay response (R52, R67). -/
def State.followUpOf (s : State) (p : Nat) (e : TsEntry) (m : PtpTx) : State :=
  let t := toPtp e.ts
  let m' : PtpTx := { m with twoStep := false, inFrame := false, seconds := t.1, nanos := t.2.1, residenceFrom := none }
  match m.kind with
  | .sync => s.sendPtp p { m' with kind := .followUp, correction := m.correction + t.2.2 } false
  | .pdelayResp => s.sendPtp p { m' with kind := .pdelayRespFollowUp, correction := m.carry + t.2.2 } false
  | _ => s

/-- TIMESTAMP_COLLECT (R68): the oldest entry of an owner is collected and freed. -/
def State.collect (s : State) (p owner : Nat) : State :=
  let x := s.port p
  match x.tsQueue.find? (·.owner = owner) with
  | none => s
  | some e =>
    let s1 := s.setPort p { x with
      tsQueue := x.tsQueue.erase e, tsFreedAt := s.now, tsFreed := (if x.tsFreedAt = s.now then x.tsFreed else 0) + 1 }
    match decide (owner = 0), e.ptp with
    | true, some m =>
      match m.kind, m.residenceFrom with
      | .pdelayReq, _ => s1.setPtpPort p { s1.ptpPort p with reqSentAt := some e.ts }
      | .sync, some t0 => s1.residenceKnown p m.seq (dripDiff e.ts t0)
      | _, _ => s1.followUpOf p e m
    | _, _ => s1

def execTimestampCollect (at_ : Instant) (port owner : Nat) (s : State) : Result :=
  act (port < 32 && owner < 17) 3 (s.arrive at_) fun s => s.collect port owner

/-- TIMESTAMP_UNCOLLECTED (R68, R70): entries not collected 1 s after capture are freed and lost. -/
def State.uncollected (s : State) (p : Nat) : State :=
  let stale := (s.port p).tsQueue.filter fun e => e.captured + second ≤ s.now
  let s1 := s.modPort p fun x => { x with tsQueue := x.tsQueue.filter fun e => !(e.captured + second ≤ s.now) }
  s1.each stale fun e t => t.timestampLost p e 1

def execTimestampUncollected (at_ : Instant) (port : Nat) (s : State) : Result :=
  act (port < 32) 3 (s.arrive at_) fun s => s.uncollected port

end Sys2Proof.Machine
end

