-- ==== Sys2Proof/Machine/Switch.lean ====
section
/-!
DEFINITION. The switch core's commands (03_ports_and_mac.md, 04_switch_core_and_separator.md): classification and
forwarding, egress scheduling, residence, the forwarding tables and their barrier.
-/

namespace Sys2Proof.Machine

open Sys2Proof

/-! ### Classification (R82 to R85) -/

/-- Where a frame is steered: the class of R82 if it is fixed (1 to 4), whether it goes to the switch, its local queues. -/
structure Steer where
  fixed : Nat
  switch : Bool
  queues : List Nat

/-- A port is a member of an HSR ring. -/
def State.onRing (s : State) (p : Nat) : Bool :=
  match s.groupOf p with
  | some (g, _) => s.groupKind g = 2
  | none => false

/-- The EtherType a port matches (R84): an HSR tag is an EtherType of its own off the ring. -/
def State.etypeAt (s : State) (p : Nat) (f : Frame) : Nat :=
  if f.hsr.isSome && !s.onRing p then 0x892F else f.etherType

/-- A rule matches a frame (R83, R84). -/
def State.ruleMatches (s : State) (p : Nat) (f : Frame) (r : FilterRule) : Bool :=
  let pcp := match f.tag with
    | some t => t.pcp
    | none => s.reg (Od.portDefaultPcp p)
  r.enable && (!r.matchVid || r.vid = s.vidOf (some p) f) && (!r.matchPcp || r.pcp = pcp) &&
    (!r.matchEtype || r.etherType = s.etypeAt p f) && (!r.matchAppid || r.appid = f.appid)

/-- The default action of a role (R84). -/
def State.roleAction (s : State) (p : Nat) (f : Frame) : Steer :=
  let e := s.etypeAt p f
  match s.reg (Od.portRole p) with
  | 1 => if e = 0x88BA then ⟨0, true, [0]⟩ else if e = 0x88B8 then ⟨0, true, [1]⟩ else ⟨0, true, []⟩
  | 2 =>
    if e = 0x88B8 then ⟨0, true, [1]⟩
    else if isGroupMac f.dst && (e = 0x0806 || e = 0x86DD) then ⟨0, true, [4]⟩ else ⟨0, true, []⟩
  | _ => ⟨0, true, []⟩

/-- The steering of a received frame (R82, R83); PTP with an HSR tag is ring traffic (R142). -/
def State.steerFrame (s : State) (p : Nat) (f : Frame) : Steer :=
  let e := s.etypeAt p f
  if e = 0x8808 then ⟨1, false, []⟩
  else if e = 0x88F7 && f.hsr.isNone && s.on (Od.ptpPortPtpEnable p) then ⟨2, false, [2]⟩
  else if e = s.reg Od.pairHbEthertype && (s.reg (Od.portRole p) = 2 || s.reg (Od.portRole p) = 4) then ⟨3, false, [3]⟩
  else if f.dst = s.portMac p || f.dst = Config.baseMac.toNat + 32 then ⟨4, false, [4]⟩
  else
    match ((List.range 64).map fun i => filterRule (s.reg (Od.filterRule p i))).find? (s.ruleMatches p f) with
    | some r =>
      match r.action with
      | 0 => ⟨0, true, []⟩
      | 1 => ⟨0, false, [r.queue]⟩
      | _ => ⟨0, true, [r.queue]⟩
    | none => s.roleAction p f

/-- A frame matches an active sampled-value subscription (R99, R146). -/
def State.subscribedFrame (s : State) (p : Nat) (f : Frame) : Bool :=
  s.etypeAt p f = 0x88BA && (List.range 512).any fun n =>
    s.on (Od.svEnable n) && s.reg (Od.svDstMac n) = f.dst && s.reg (Od.svAppid n) = f.appid &&
      (s.reg (Od.svVid n) = 0xFFFF || s.reg (Od.svVid n) = s.vidOf (some p) f) &&
      f.svids.any fun v => v.length ≤ 64 && v = s.blob (Od.svid n)

/-! ### RX_CLASSIFIED -/

/-- Whether a frame is cut through to a destination (R127). A frame in transmission still counts in its queue; no entry decides a miss
or ring forwarding, so none inhibits it (log 117). -/
def State.cutsThrough (s : State) (p : Nat) (cls : Nat) (inhibit keepTag : Bool) (e : Nat) : Bool :=
  let fromPrp : Bool := match s.groupOf p with
    | some (g, _) => s.groupKind g = 1
    | none => false
  bit (s.reg (Od.swPortCutThrough e)) cls && !inhibit && (s.port e).speed ≤ (s.port p).speed && (s.port e).speed ≠ 0 &&
    (s.sw.queue e cls).isEmpty && !fromPrp && !(s.onRing e && !keepTag)

/-- A port of a group that exchanges no traffic with the switch core (R131). -/
def State.danPort (s : State) (p : Nat) : Bool :=
  match s.groupOf p with
  | some (g, _) => s.reg (Od.sepGroupRole g) = 0
  | none => false

/-- The destinations of a switched frame: the decided set without the ingress port, both ports of each group it names,
none of the ingress group's or a DAN's (R116, R131, R136, R140), the QuadBox peer's with the tag kept, the other ring port. -/
def State.destinations (s : State) (p : Nat) (f : Frame) (dec : Decision) (deliver ring : Bool) : List Dest :=
  let own := match s.groupOf p with
    | some (g, _) => s.groupPorts g
    | none => [p]
  let peer := match s.groupOf p with
    | some (g, _) =>
      if deliver && s.groupKind g = 2 && s.reg (Od.sepGroupRole g) = 2 && f.hsr.isSome && f.dst ≠ s.groupMac g then
        s.groupPorts (s.reg (Od.sepGroupQuadboxPeer g)) else []
    | none => []
  let around := if ring then own.filter (· ≠ p) else []
  let table := (s.widen dec.ports).filter fun e => !own.contains e && !peer.contains e && !s.danPort e
  (table.map fun e => ⟨e, dec.cls, s.cutsThrough p dec.cls dec.inhibit false e, false⟩) ++
    (peer.map fun e => ⟨e, dec.cls, s.cutsThrough p dec.cls dec.inhibit true e, true⟩) ++
    (around.map fun e => ⟨e, dec.cls, s.cutsThrough p dec.cls false true e, true⟩)

/-- Sources that enter a ring from the switch side are marked (R140). -/
def State.markEntering (s : State) (p src : Nat) (dests : List Dest) : State :=
  s.each (List.range 16) fun g t =>
    let mine : Bool := match s.groupOf p with
      | some (h, _) => h = g
      | none => false
    if s.groupKind g = 2 && !mine && dests.any (fun d => (s.groupPorts g).contains d.port) then t.markProxied g src else t

/-- A flag of the SWITCH source; INFO is the port (R470). -/
def State.switchFlag (s : State) (flag p : Nat) : State := s.setFlag 33 flag (some p)

/-- What the separator does with a frame as its header has arrived: a PRP frame goes on and is judged as it ends (R133, R137). -/
def State.separated (s : State) (p : Nat) (f : Frame) (fixed : Nat) : Separated :=
  match s.groupOf p with
  | none => ⟨s, true, false⟩
  | some (g, a) =>
    if fixed = 1 || fixed = 2 then ⟨s, true, false⟩
    else
      let s1 := s.sepCount (if a then Od.sepCntRxA g else Od.sepCntRxB g)
      if s.groupKind g = 1 then ⟨s1, true, false⟩ else s1.separate g a f

/-- The group in which a frame is judged as it ends. -/
def State.prpGroup (s : State) (p fixed : Nat) : Option (Nat × Bool) :=
  if fixed = 1 || fixed = 2 then none else (s.groupOf p).filter fun e => s.groupKind e.1 = 1

/-- KIND of the group a port is in, or 0. -/
def State.kindAt (s : State) (p : Nat) : Nat := ((s.groupOf p).map fun e => s.groupKind e.1).getD 0

/-- Admit and store a classified frame (R89, R90, R106 to R117). A local copy that has waited 2 µs for the memory is dropped: how long
one waits that is not sure of its place is not stated, so a free value says (R107, log 106). -/
def State.classify (s : State) (p : Nat) (r : Reception) (f : Frame) : State :=
  let st := s.steerFrame p f
  let sep := s.separated p f st.fixed
  let judged := s.prpGroup p st.fixed
  let s1 := sep.state
  let toSwitch := st.switch && sep.deliver && !s.danPort p
  let cells := cellsOf (s.reg (Od.portFrameLimit p))
  let dec : Decision := if toSwitch then s1.decide_ (some p) f
    else ⟨[], match f.tag with | some t => t.pcp % 8 | none => s.reg (Od.portDefaultPcp p) % 8, false, false⟩
  let s2 := if dec.unknown then (s1.countEv (Od.swCntUnknownDiscard p) 33 (some p)).switchFlag 2 p else s1
  let dests := s2.destinations p f dec toSwitch sep.ring
  let s3 := s2.markEntering p f.src dests
  let a := s3.admitCopies cells dests
  let q := if judged.isSome then (a.state, []) else a.state.takeSeqs a.admitted
  let id := q.1.sw.nextId
  let s4 := q.1.enqueue
    { frame := f, ingress := some p, cells := cells, generation := s.reg Od.swTableGeneration, ageFrom := s.rxTime p r
      bytesIn := 0, complete := false, bad := false, egress := [], tsOwner := none, tsTag := 0, ptp := none, seqs := q.2
      inKind := s.kindAt p }
    a.admitted
  let queues := if sep.deliver then st.queues else []
  let room := queues.filter fun q => s4.localRoom q cells
  let s5 := if room.isEmpty then s4 else s4.useMemory (2 * cells)
  let late := !room.isEmpty && s5.memoryFull
  let s6 := s5.when_ late fun t => t.drew
  let fits := if late && s5.freeBelow 2 = 1 then [] else room
  let s7 := s6.each fits fun q t => t.localPut q ⟨f, p, 0, s.rxTime p r, false, false, cells⟩
  let dropped := !a.overflowed.isEmpty || fits.length < queues.length
  let s8 := s7.modPort p fun x => { x with rx := some { r with
    frame := some f, swId := if a.admitted.isEmpty then none else some id, prp := judged } }
  s8.when_ dropped fun t => t.overflowDrop p

/-- RX_CLASSIFIED: the matchable header of the frame in reception has arrived. -/
def State.rxClassified (s : State) (p : Nat) (f : Frame) : State :=
  match (s.port p).rx with
  | none => s
  | some r =>
    if r.dropped || r.frame.isSome then s
    else
      let s1 := if s.on (Od.portSpeedLowering p) && !(s.port p).speedBlocked && s.subscribedFrame p f then
          (s.modPort p fun x => { x with speedBlocked := true }).setFlag p 5 else s
      s1.classify p r f

def execRxClassified (at_ : Instant) (port : Nat) (frame : Frame) (s : State) : Result :=
  act (port < 32) 3 (s.arrive at_) fun s => s.rxClassified port frame

/-! ### Transmission (R54, R67, R95, R112, R125 to R130, R136) -/

/-- The transmission of a frame would end after its age reaches the limit (R112); 20 octets of preamble and gap (R113). A frame whose
end has not arrived has the length its header gave (log 117). -/
def State.tooOld (s : State) (p : Nat) (f : SwFrame) (len : Nat) : Bool :=
  f.ageFrom + ofUs (s.reg Od.swResidenceLimit) < s.now + wireTime (s.port p).speed (len + 20)

/-- A frame is removed for its age and counted (R112). -/
def State.discardOld (s : State) (p id : Nat) : State :=
  ((s.leave id p).countEv (Od.swCntResidenceDiscard p) 33 (some p)).switchFlag 1 p

/-- A frame may start at a port: it is complete and good, or cut through there with 64 octets received (R111, R128). -/
def State.startable (s : State) (f : SwFrame) (e : Egress) : Bool :=
  f.complete || (e.cutThrough && match f.ingress with
    | some q => match (s.port q).rx with
      | some r => 64 ≤ s.arrived q r
      | none => false
    | none => false)

/-- A frame in reception has passed an egress port's limit already (R81). -/
def State.pastLimit (s : State) (f : SwFrame) (e : Egress) : Bool :=
  !f.complete && match f.ingress with
    | some q => match (s.port q).rx with
      | some r => s.over f e (s.arrived q r)
      | none => false
    | none => false

/-- The head of a class queue that may start, after the heads that would be too old or are too long are removed; `fuel` bounds
those. -/
def State.readyHead (s : State) (p cls : Nat) : Nat → State × Option (Nat × SwFrame × Egress)
  | 0 => (s, none)
  | fuel + 1 =>
    match s.sw.queue p cls with
    | [] => (s, none)
    | id :: _ =>
      match Tab.find s.sw.frames id with
      | none => (s, none)
      | some f =>
        match f.egress.find? (·.port = p) with
        | none => (s, none)
        | some e =>
          if s.pastLimit f e then ((s.leave id p).countPort p 0x24).readyHead p cls fuel
          else if !s.startable f e then (s, none)
          else if s.tooOld p f (s.onWire f e).len then (s.discardOld p id).readyHead p cls fuel
          else (s, some (id, f, e))

/-- The deficit round-robin of classes 0 to 5 (R125, log 18): the lengths of the ready heads by class; answers the class
and the deficits left. -/
def drrPick (lens : List (Option Nat)) (quantum : Nat → Nat) (current : Nat) (deficits : List Nat) : Option (Nat × List Nat) :=
  let kept := deficits.zipIdx.map fun (d, c) => if (lens.getD c none).isSome then d else 0
  match lens.getD current none with
  | some n =>
    if n ≤ kept.getD current 0 then some (current, kept.set current (kept.getD current 0 - n))
    else turn kept
  | none => turn kept
where
  turn (kept : List Nat) : Option (Nat × List Nat) :=
    ((List.range 6).map fun i => (current + 1 + i) % 6).findSome? fun c =>
      match lens.getD c none with
      | some n => some (c, kept.set c (kept.getD c 0 + quantum c - n))
      | none => none

/-- Start sending a chosen frame (R54, R65, R67, R126): its timestamp is captured, a departing event message corrected. -/
def State.startFrame (s : State) (p id : Nat) (f : SwFrame) (e : Egress) : State :=
  let s1 := s.setSw fun w => { w with frames := Tab.insert w.frames id { f with
    egress := f.egress.map fun g => if g.port = p then { g with started := true } else g } }
  let s2 := s1.modPort p fun x => { x with tx := some (.frame id) }
  let s3 := match s.groupOf p with
    | some (g, a) => if e.keepTag then s2 else s2.sepCount (if a then Od.sepCntTxA g else Od.sepCntTxB g)
    | none => s2
  let s4 := match f.tsOwner with
    | some o => s3.capture p f id o
    | none => s3
  match f.ptp with
  | some m =>
    let ts := dripAdd s.now (s.regI 64 (Od.ptpPortEgressLatency p))
    let out : PtpTx :=
      if !m.inFrame then m
      else match m.residenceFrom, m.kind with
        | some t0, _ => { m with correction := m.correction + toCorrection (dripDiff ts t0) }
        | none, .sync =>
          let t := toPtp ts
          { m with seconds := t.1, nanos := t.2.1, correction := m.correction + t.2.2 }
        | none, _ => m
    s4.emit (.ptp p out)
  | none => s4.emit (.frame p (s.onWire f e))

/-- What the scheduler of a port chooses: the state without the frames it removed, and the frame. -/
structure Choice where
  state : State
  pick : Option (Nat × SwFrame × Egress)

/-- The next frame of R125 at a port: class 7, class 6, the deficit round-robin; a class with nothing ready keeps no deficit. -/
def State.choose (s : State) (p : Nat) : Choice :=
  let x := s.port p
  let r := (List.range 8).reverse.foldl (fun (acc : State × List (Nat × Nat × SwFrame × Egress)) c =>
    let h := acc.1.readyHead p c ((acc.1.sw.queue p c).length + 1)
    match h.2 with
    | some y => (h.1, acc.2 ++ [(c, y)])
    | none => (h.1, acc.2)) (s, [])
  let t := r.1
  let head (c : Nat) : Option (Nat × SwFrame × Egress) := (r.2.find? (·.1 = c)).map (·.2)
  let kept := x.deficits.zipIdx.map fun (d, c) => if (head c).isSome then d else 0
  match (head 7).orElse fun _ => head 6 with
  | some h => ⟨t.modPort p fun y => { y with deficits := kept }, some h⟩
  | none =>
    let lens := (List.range 6).map fun c => (head c).map fun h => (t.onWire h.2.1 h.2.2).len
    match drrPick lens (fun c => s.reg (Od.swPortWrrWeight p c) * 2048) x.drr kept with
    | none => ⟨t.modPort p fun y => { y with deficits := kept }, none⟩
    | some (c, ds) => ⟨t.modPort p fun y => { y with drr := c, deficits := ds }, head c⟩

/-- A port may start a frame: its link is up and it is idle, no PAUSE waits and no pause holds it. -/
def State.mayStart_ (s : State) (p : Nat) : Bool :=
  let x := s.port p
  x.linkUp && x.tx.isNone && x.pauseOut.isEmpty && !s.paused p

/-- EGRESS_TX_START (R97, R98, R125): an idle port changes its speed where that waited, sends a waiting PAUSE, else the frame chosen. -/
def State.txStart (s : State) (p : Nat) : State :=
  let x := s.port p
  if !x.linkUp || x.tx.isSome then s
  else if x.speedWaits.isSome && !x.speedBlocked then s.speedAwaited p
  else
    match x.pauseOut with
    | q :: rest => (s.setPort p { x with tx := some (.pause q), pauseOut := rest }).emit (.pause p q)
    | [] =>
      if s.paused p then s
      else
        let c := s.choose p
        match c.pick with
        | some (id, f, e) => c.state.startFrame p id f e
        | none => c.state

def execEgressTxStart (at_ : Instant) (port : Nat) (s : State) : Result :=
  act (port < 32) 3 (s.arrive at_) fun s => s.txStart port

/-- CUT_THROUGH_START (R125, R127 to R129): the cut-through frame in reception starts at an idle egress port where it is the one that the
scheduler chooses. -/
def State.cutStart (s : State) (ingress p : Nat) : State :=
  if !s.mayStart_ p || ((s.port p).speedWaits.isSome && !(s.port p).speedBlocked) then s
  else
    let own := (s.port ingress).rx.bind (·.swId)
    let c := s.choose p
    match c.pick with
    | some (id, f, e) => if own = some id && e.cutThrough then c.state.startFrame p id f e else s
    | none => s

def execCutThroughStart (at_ : Instant) (ingress egress : Nat) (s : State) : Result :=
  act (ingress < 32 && egress < 32) 3 (s.arrive at_) fun s => s.cutStart ingress egress

/-- The last bit has left; a pending pause begins (R92, R93, R96, R110, R129). -/
def State.txLast (s : State) (p : Nat) : State :=
  match (s.port p).tx with
  | none => s
  | some (.pause _) =>
    let s1 := s.modPort p fun x => { x with tx := none }
    let f : Frame := ⟨0x0180C2000001, 0, none, 0x8808, 1, none, none, 64, [], []⟩
    (((s1.noteLoad p 64 true).countGood p 0x10 f 64).countPort p 0x1C).pauseBegins p
  | some (.frame id) =>
    let s1 := s.modPort p fun x => { x with tx := none }
    match Tab.find s.sw.frames id with
    | none => s1.pauseBegins p
    | some f =>
      match f.egress.find? (·.port = p) with
      | none => s1.pauseBegins p
      | some e =>
        let g := s.onWire f e
        (((s1.noteLoad p g.len true).countGood p 0x10 g g.len).leave id p).pauseBegins p

/-- TX_FRAME_END: a change of speed that waited for it follows (R98). -/
def State.txEnd (s : State) (p : Nat) : State := if (s.port p).tx.isNone then s else (s.txLast p).speedAwaited p

def execTxFrameEnd (at_ : Instant) (port : Nat) (s : State) : Result :=
  act (port < 32) 3 (s.arrive at_) fun s => s.txEnd port

/-- RESIDENCE_DISCARD (R112): every frame at the port whose age has reached the limit and that has not started. -/
def State.residence (s : State) (p : Nat) : State :=
  let limit := ofUs (s.reg Od.swResidenceLimit)
  let old := s.sw.frames.filter fun e =>
    e.2.ageFrom + limit ≤ s.now && e.2.egress.any fun g => g.port = p && !g.started
  s.each (old.map (·.1)) fun id t => t.discardOld p id

def execResidenceDiscard (at_ : Instant) (port : Nat) (s : State) : Result :=
  act (port < 32) 3 (s.arrive at_) fun s => s.residence port

/-! ### The forwarding tables (R118 to R124) -/

/-- 4,096 generation-changing writes have been accepted in the last 2 ms, a committed TABLE_BLOCK that has still to apply counted among
them (R123). -/
def State.tablesBusy (s : State) : Bool :=
  4096 ≤ (s.sw.tableWrites.filter fun t => s.now < t + ofMs 2).length +
    b2n (s.edp.commit.isSome && s.edp.stage.any fun e => e.key = Od.swTableBlock)

/-- A generation-changing write is refused with BUSY and its event (R123). -/
def State.tableBusy (s : State) : Answer := ⟨s.setFlag 33 4, stBusy, []⟩

/-- The next generation (R121). -/
def State.newGeneration (s : State) : Nat := (s.reg Od.swTableGeneration + 1) % 2 ^ 16

/-- A write has changed the tables: the generation rises and the reply carries it (R121). -/
def State.tableChanged (s : State) : Answer :=
  let g := s.newGeneration
  let s1 := s.setReg Od.swTableGeneration g
  (s1.setSw fun w => { w with tableWrites := s.now :: w.tableWrites.filter fun t => s.now < t + ofMs 2 }).ok (beBytes 2 g)

/-- The writable bits of a static entry (R118). -/
def staticEntryBits : Nat := 2 ^ 101 - 1

/-- A write of static entry `n` (R118, R121, R123). -/
def State.writeStatic (s : State) (n value : Nat) : Answer :=
  let v := value &&& staticEntryBits
  let old := s.reg (Od.staticEntry n)
  let e := staticEntry v
  if v = old &&& staticEntryBits then s.ok (beBytes 2 (s.reg Od.swTableGeneration))
  else if s.tablesBusy then s.tableBusy
  else if e.kind = 3 || (e.kind = 1 && 1023 < e.group) ||
      (e.valid && s.regs.any fun r => 0x221001 ≤ r.1 && r.1 ≤ 0x2250FF && r.1 ≠ Od.staticEntry n &&
        (staticEntry r.2).valid && (staticEntry r.2).sameKey e) then s.refuse stInvalidValue
  else (s.setReg (Od.staticEntry n) (v + s.newGeneration * 2 ^ 112)).tableChanged

def execStaticEntryWrite (at_ : Instant) (entry value : Nat) (s : State) : Result :=
  act (entry < 16384) 3 (s.arrive at_) fun s => (s.writeStatic entry value).told

/-- The writable bits of a multicast group (R119). -/
def groupBits : Nat := 2 ^ 63 + (2 ^ 32 - 1)

/-- A write of multicast group `n` (R119, R121, R123). -/
def State.writeGroup (s : State) (n value : Nat) : Answer :=
  let v := value &&& groupBits
  if v = s.reg (Od.mcGroup n) &&& groupBits then s.ok (beBytes 2 (s.reg Od.swTableGeneration))
  else if s.tablesBusy then s.tableBusy
  else (s.setReg (Od.mcGroup n) (v + s.newGeneration * 2 ^ 32)).tableChanged

def execMulticastGroupWrite (at_ : Instant) (group value : Nat) (s : State) : Result :=
  act (group < 1024) 3 (s.arrive at_) fun s => (s.writeGroup group value).told

/-- Clear the entries of a range of keys whose writable bits are not zero; each takes the new generation in its field. -/
def State.clearRange (s : State) (lo hi bits place : Nat) : State :=
  s.each (s.regs.filter fun e => lo ≤ e.1 && e.1 ≤ hi && e.2 &&& bits ≠ 0) fun e t =>
    t.setReg e.1 (s.newGeneration * 2 ^ place)

/-- A write of CLEAR_TABLES (R121, R123, R143): 1 entries, 2 groups, 3 both. -/
def State.clearForwarding (s : State) (value : Nat) : Answer :=
  if s.tablesBusy then s.tableBusy
  else if value = 0 || 3 < value then s.refuse stInvalidValue
  else
    let s1 := if bit value 0 then s.clearRange 0x221001 0x2250FF staticEntryBits 112 else s
    let s2 := if bit value 1 then s1.clearRange 0x226001 0x2264FF groupBits 32 else s1
    s2.tableChanged

def execClearTables (at_ : Instant) (value : Nat) (s : State) : Result :=
  act true 3 (s.arrive at_) fun s => (s.clearForwarding value).told

/-- Generation `a` is older than `b` (R123). -/
def olderGen (a b : Nat) : Bool := 1 ≤ (b + 2 ^ 16 - a) % 2 ^ 16 && (b + 2 ^ 16 - a) % 2 ^ 16 ≤ 32767

/-- A frame of a generation older than `g` is in a class queue or in transmission. -/
def State.olderFrames (s : State) (g : Nat) : Bool := s.sw.frames.any fun e => olderGen e.2.generation g

/-- Every barrier completes for which no older frame is left (R124). -/
def State.barrierOver (s : State) : State :=
  let over_ := s.sw.barriers.filter fun g => !s.olderFrames g
  if over_.isEmpty then s
  else (s.setSw fun w => { w with barriers := w.barriers.filter fun g => s.olderFrames g }).setFlag 33 3

/-- A write of TABLE_BARRIER (R124): refused for a generation not yet issued. -/
def State.writeBarrier (s : State) (g : Nat) : Answer :=
  if 2 ^ 16 ≤ g || olderGen (s.reg Od.swTableGeneration) g then s.refuse stInvalidValue
  else ((s.setSw fun w => { w with barriers := w.barriers ++ [g] }).barrierOver).ok

def execTableBarrier (at_ : Instant) (generation : Nat) (s : State) : Result :=
  act true 3 (s.arrive at_) fun s => (s.writeBarrier generation).told

def execBarrierDone (at_ : Instant) (s : State) : Result :=
  act true 3 (s.arrive at_) fun s => s.barrierOver

/-- A write of RESIDENCE_LIMIT (R113): it governs every frame queued at that instant. -/
def State.writeResidence (s : State) (value : Nat) : Answer :=
  if value < 100 || 2000 < value then s.refuse stInvalidValue
  else
    let s1 := s.setReg Od.swResidenceLimit value
    (s1.each (List.range 32) fun p t => t.residence p).ok

def execResidenceLimitWrite (at_ : Instant) (value : Nat) (s : State) : Result :=
  act true 3 (s.arrive at_) fun s => (s.writeResidence value).told

end Sys2Proof.Machine
end

