-- ==== Sys2Proof/Machine/ApplyOps.lean ====
section
/-!
DEFINITION. What a configuration does where it comes into force, at a commit's boundary or at a start: the entries take their
values (R148, R432, R446), and every block follows (R49, R77, R97, R122, R131, R187, R206, R211, R227, R238, R265, R298, R320,
R343, R465); the configuration measurement (R390).
-/

namespace Sys2Proof.Machine

open Sys2Proof

/-! ### Entries (R390, R448) -/

/-- The record of an entry in a measurement and in a configuration file. -/
def entryRecord (index sub : Nat) (r : OdRow) (v : List Byte) : List Byte :=
  beBytes 2 index ++ beBytes 1 sub ++ beBytes 1 r.ty.code ++ beBytes 4 v.length ++ v

/-- Every STAGED entry, by rising index and subindex. -/
def stagedEntries : List (Nat × Nat × OdRow) :=
  (odGroups.map fun g =>
    ((List.range (g.last + 1 - g.first)).map fun i =>
      ((g.rows.filter fun r => decide (r.ap = Apply.staged)).map fun r =>
        (List.range (min r.hi (g.highest (g.first + i)) + 1 - r.lo)).map fun j => (g.first + i, r.lo + j, r)).flatten).flatten).flatten

/-- Entries that the measurement leaves out. -/
def measuredEntry (index sub : Nat) : Bool :=
  !(0x1000 ≤ index && index ≤ 0x10FF) && !(0x9000 ≤ index && index ≤ 0x92FF) && !(index = 0x8000 && (sub = 2 || sub = 3))

/-- The committed tick rate: that of a change still to come (R49). -/
def State.committedRate (s : State) : Nat :=
  match s.time.rateNext with
  | some (r, _) => r
  | none => s.rate

/-- The committed value of an entry in its EDP form. -/
def State.committedBytes (s : State) (index sub : Nat) (r : OdRow) : List Byte :=
  if index * 256 + sub = Od.tickRate then beBytes 2 s.committedRate else s.entryBytes index sub r

/-- The configuration measurement and CONFIG_TAG. -/
def State.measureConfig (s : State) : State :=
  let x := shake256 ((stagedEntries.filter fun e => measuredEntry e.1 e.2.1).map fun (index, sub, r) =>
    entryRecord index sub r (s.committedBytes index sub r)).flatten 64
  (s.setReg Od.attConfigMeasurement (ofBe x)).setReg Od.attConfigTag (beAt x 60 4)

/-- A number written over an entry's value: bits outside the writable ones keep theirs. -/
def mergeWord (r : OdRow) (old new : Nat) : Nat :=
  if r.mask = 0 then new else (old ^^^ (old &&& r.mask)) ||| (new &&& r.mask)

/-- A window list's reserved bits read 0 (R6, R225). -/
def blobValue (k : Nat) (v : List Byte) : List Byte :=
  if 0x700000 ≤ k && k < 0x706000 && k % 256 = 6 then ((windowWords v).map (beBytes 16)).flatten else v

/-- Give an entry a value in its EDP form. -/
def State.storeEntry (s : State) (index sub : Nat) (r : OdRow) (v : List Byte) : State :=
  let k := index * 256 + sub
  if r.ty.isBlob then s.setBlob k (blobValue k v) else s.setReg k (mergeWord r (s.reg k) (ofBe v))

/-- One staged value: a tick rate waits for the first second at least 1 s after the commit (R49). -/
def State.storeStaged (s : State) (accepted : Nat) (e : Staged) : State :=
  if e.key = Od.tickRate then
    let v := ofBe e.value
    let t := ceilDiv (accepted + second) second * second
    s.setTimeUnit fun u => { u with rateNext := if v = s.rate then none else some (v, t) }
  else
    match odRow? (e.key / 256) (e.key % 256) with
    | none => s
    | some r => s.storeEntry (e.key / 256) (e.key % 256) r e.value

/-! ### The time unit (R52, R57) -/

/-- A commit that changes CLOCK_TYPE, DOMAIN, SOURCE_ORDER or a PTP_ENABLE has the source chosen anew; another domain's masters are
forgotten. -/
def State.applyTime (s old : State) : State :=
  let changed (k : Nat) : Bool := s.reg k ≠ old.reg k
  let s1 := s.when_ (changed Od.ptpDomain) fun t => t.each (t.time.ptp.map (·.1)) fun p u =>
    u.setPtpPort p { u.ptpPort p with foreign := none, syncPending := none }
  s1.when_ (!s.time.frozen && ([Od.ptpClockType, Od.ptpDomain, Od.ptpSourceOrder, Od.ptpPriority1, Od.ptpPriority2].any changed ||
    (List.range 32).any fun p => changed (Od.ptpPortPtpEnable p))) fun t => t.reselect

/-! ### Ports, tables, groups -/

/-- A role or mode that a commit has changed takes the link down (R75, R77), a role that was DISABLED starts LINK_UP_HOLD (R77, R102);
a write of SPEED_LOWERING ends its block (R99); what an SGMII PHY reported ends with the mode (R74); PAUSE follows the settings
(R97). -/
def State.applyPort (s old : State) (keys : List Nat) (p : Nat) : State :=
  let changed (k : Nat) : Bool := s.reg k ≠ old.reg k
  let x := s.port p
  let off := s.reg (Od.portRole p) = 0 && changed (Od.portRole p)
  let unlower := x.lowered && !s.on (Od.portSpeedLowering p)
  let s1 := s.when_ (off || changed (Od.portMode p) || unlower) fun t => t.linkLoss p
  let s2 := s1.modPort p fun y => { y with
    speedBlocked := y.speedBlocked && !keys.contains (Od.portSpeedLowering p)
    lowered := y.lowered && s.on (Od.portSpeedLowering p)
    duplexHeld := y.duplexHeld && s1.nextMode p = 2
    phySpeed := if s1.nextMode p = 2 then y.phySpeed else 0
    pcsLostAt := if old.reg (Od.portRole p) = 0 && changed (Od.portRole p) then some s.now else y.pcsLostAt
    busyUntil := if keys.contains (Od.portSpeedLowering p) then s.now else y.busyUntil
    xoff := y.xoff && s.reg (Od.portRole p) = 3 && s.on (Od.portTxPauseEnable p) }
  let s3 := s2.modPort p fun y => { y with mode := if y.linkUp then y.mode else s2.nextMode p }
  s3.pauseRule p

/-- TABLE_BLOCK: a whole new table of one generation (R122; log 19). -/
def State.applyTables (s : State) (keys : List Nat) : State :=
  if !keys.contains Od.swTableBlock then s
  else
    let g := s.newGeneration
    let block := s.blob Od.swTableBlock
    let s1 : State := { s with regs := s.regs.filter fun e => e.1 < 0x221001 || 0x2264FF < e.1 }
    let s2 := s1.each (List.range 16384) fun n t =>
      t.setReg (Od.staticEntry n) ((Config.tableBlockEntry block n).toNat % 2 ^ 101 + g * 2 ^ 112)
    let s3 := s2.each (List.range 1024) fun n t =>
      t.setReg (Od.mcGroup n) (((Config.tableBlockGroup block n).toNat &&& groupBits) + g * 2 ^ 32)
    (s3.setReg Od.swTableGeneration g).setSw fun w => { w with
      tableWrites := s.now :: w.tableWrites.filter fun t => s.now < t + ofMs 2 }

/-- A group whose record a commit has changed loses its source entries (R131). -/
def State.applyGroup (s old : State) (g : Nat) : State :=
  if (List.range 6).all fun i => s.reg ((0x2310 + g) * 256 + i + 1) = old.reg ((0x2310 + g) * 256 + i + 1) then s
  else
    let s1 := s.setSw fun w => { w with
      sources := w.sources.filter fun e => e.group ≠ g
      lastTagged := w.lastTagged.filter fun e => e.1 / 2 ≠ g
      silent := w.silent.filter fun h => h ≠ g }
    (s1.watchGroup g).stand 34 2 (!s1.sw.silent.isEmpty) (some (maskOf s1.sw.silent))

/-! ### Partitions (R227, R231, R265) -/

/-- Enabled partitions fit the pool in ascending order up to this one (R265). -/
def State.poolHolds (s : State) (n : Nat) : Bool :=
  (((List.range (n + 1)).filter fun m => s.on (Od.partEnable m)).map fun m => s.reg (Od.partMemory m)).sum ≤ s.partitionPool

/-- The windows of the committed table, those on units that cannot run them moved (R230; log 50). -/
def State.windowsToUse (s : State) (n : Nat) : List Nat := s.movedWindows n (s.committedWindows n)

/-- A partition that a configuration enables is built and started, one that it disables stops; with a new window table every partition takes
its configured windows at the next major frame, one that the manager had moved too (R227, R230). -/
def State.applyPart (s old : State) (table : Bool) (n : Nat) : State :=
  let on_ := s.on (Od.partEnable n)
  let fits := s.poolHolds n
  let was := old.on (Od.partEnable n) && !(old.part n).unplaced
  if on_ && fits && !was then
    (s.setPart n { windowsNext := some (s.windowsToUse n) }).askRestart n 0 0
  else if on_ && !fits && !was then
    (s.setPart n { unplaced := true }).when_ (!(old.part n).unplaced) fun t => t.healthFlag 3 (some n)
  else if !on_ then s.setPart n {}
  else if table && fits then
    s.modPart n fun x => { x with windowsNext := some (s.windowsToUse n) }
  else s

/-- The stage brings a new window table: a window list, MAJOR_FRAME, or another set of enabled partitions. -/
def windowKey (k : Nat) : Bool := k = Od.mgrMajorFrame || (0x700000 ≤ k && k < 0x706000 && (k % 256 = 1 || k % 256 = 6))

/-! ### Pails (R237, R238) -/

/-- What resets a pail when a commit changes it: its binding, queue count, local queues. -/
def pailShape (p : Nat) : List Nat :=
  [Od.pailBindKind p, Od.pailPartition p, Od.pailPasid p, Od.pailQueuePairs p, Od.pailRxQueue p, Od.pailTxQueue p]

def State.applyPail (s old : State) (p : Nat) : State :=
  if !s.on (Od.pailEnable p) then s.setPail p {}
  else if !old.on (Od.pailEnable p) then s.setPail p { state := .active }
  else if (pailShape p).any fun k => s.reg k ≠ old.reg k then s.resetPail p
  else s

/-! ### The engines -/

/-- The churn engine starts afresh at its next cycle boundary after a commit of its program, CYCLE_TICKS or a table, or when it is
enabled; disabled, it stops. A committed program brings its own constants whenever it starts (R298). A land made an input is no longer driven. -/
def State.applyChurn (s old : State) (keys : List Nat) : State :=
  let s0 := s.setChurn fun c => { c with gpioOut := c.gpioOut.filter fun e => bit (s.reg (Od.gpioConfig e.1)) 0 }
  let program := keys.contains Od.churnProgram
  if !s.on Od.churnEnable then
    (if old.on Od.churnEnable then
      (s0.when_ s0.churn.batch.isSome fun t => t.refuseBatch 7).setEngine .stopped |>.setChurn fun c => { c with
        startDue := false, evaluating := false, evalDone := false }
    else s0).setChurn fun c => { c with loadConstants := c.loadConstants || program }
  else
    let due := program || !old.on Od.churnEnable ||
      [Od.churnCycleTicks, Od.churnInputTable, Od.churnOutputTable].any fun k => keys.contains k
    s0.setChurn fun c => { c with startDue := c.startDue || due, loadConstants := c.loadConstants || program }

/-! ### GOOSE (R343, R465) -/

/-- Cells under new member types. -/
def retyped (types : List Nat) (cells : Tab Nat) : Tab Nat :=
  cells.filterMap fun (m, c) =>
    let ty := types.getD m 0
    if ty = 0 then none else some (m, cell ty (cellValue c) (cellQuality c))

/-- A publication that is enabled, or whose STAGED entries have changed, starts afresh. -/
def State.applyPub (s old : State) (j : Nat) : State :=
  let changed := (List.range 14).any fun i =>
    let k := (0xE400 + j) * 256 + i + 1
    s.reg k ≠ old.reg k || s.blob k ≠ old.blob k
  if !changed then s
  else
    let x := s.pub j
    s.setPub j { x with cells := retyped (s.pubTypes j) x.cells, fresh := true, adopted := none }

/-- A subscription whose entries have changed has received nothing yet. -/
def State.applySub (s old : State) (n : Nat) : State :=
  let changed := (List.range 14).any fun i =>
    let k := (0xE000 + n) * 256 + i + 1
    s.reg k ≠ old.reg k || s.blob k ≠ old.blob k
  if !changed then s
  else
    let lost := (s.sub n).alive
    ((s.setSub n {}).setReg (Od.gsAlive n) 0).when_ lost fun t => t.gsFlag 1 n

/-- A stream that a commit enables has no samples yet (R149). -/
def State.applyStream (s old : State) (n : Nat) : State :=
  if s.on (Od.svEnable n) && !old.on (Od.svEnable n) then s.setStream n {} else s

/-! ### The whole configuration -/

/-- The stage changes the subscription table or the channel records (R148). -/
def subscriptionKey (k : Nat) : Bool := (0x300000 ≤ k && k ≤ 0x31FFFF) || (0x348000 ≤ k && k ≤ 0x34FFFF)

/-- A channel's HIST_ENABLE has changed (R211). -/
def State.histChanged (s old : State) : Bool := decide (s.storedChannels ≠ old.storedChannels)

/-- Staged values come into force at a tick boundary, whose tick is given: images of earlier instants are still built under the
entries as they were (R148). -/
def State.applyStage (s : State) (stage : List Staged) (accepted tick : Nat) : State :=
  let keys := stage.map (·.key)
  let b := s.tickAt tick
  let s1 := s.each stage fun e t => t.storeStaged accepted e
  let s2 : State := { s1 with befores := (b, s.regs, s.blobs) :: s.befores.filter fun x => s.now ≤ x.1 + ofMs 100 }
  let s3 := s2.when_ (keys.any subscriptionKey) fun t =>
    t.setReg Od.ingestSubscriptionGen ((t.reg Od.ingestSubscriptionGen + 1) % 2 ^ 16)
  let s4 := (s3.each (List.range 32) fun p t => t.applyPort s keys p).applyTime s
  let s5 := (s4.applyTables keys).each (List.range 16) fun g t => t.applyGroup s g
  let s6 := (s5.when_ (s5.histChanged s) fun t => t.emptyStore).when_ (keys.any subscriptionKey) fun t => t.fixShed tick
  let s7 := s6.each (List.range 64) fun p t => t.applyPail s p
  let s8 := s7.each (List.range 96) fun n t => t.applyPart s (keys.any windowKey) n
  let s9 := ((s8.applyChurn s keys).restartLoops s).each (List.range 256) fun j t => t.applyPub s j
  let s10 := (s9.each (List.range 1024) fun n t => t.applySub s n).each (List.range 512) fun n t => t.applyStream s n
  (s10.stand 112 2 (decide (s10.reg Od.mgrCapacityReserve < 25))).measureConfig

end Sys2Proof.Machine
end

