-- ==== Sys2Proof/Machine/Start.lean ====
section
/-!
DEFINITION. Starts of the module: the supervisor watchdog (R420), RESTART (R426), and the start-up steps from power good (R423,
R424) with firmware verification (R385, R386), the key store (R364, R382, R509) and what a start keeps (R403, R405, R416, R432, R479).
-/

namespace Sys2Proof.Machine

open Sys2Proof

/-! ### Firmware (R384 to R388) -/

/-- The stored security version of an image type (R459). -/
def State.svnOf (s : State) (type : Nat) : Nat := field (s.reg Od.fwSvn) (32 * (6 - type)) 32

/-- An owner signature is required (R385). -/
def State.cosignRequired (s : State) : Bool := decide (s.sec.lc = LifeCycle.owned) && s.on Od.lcOwnerCosignRequired

/-- The owner signature of an image verifies under OWNER_PUBKEY, with the algorithm of OWNER_KEY_ALG. -/
def State.ownerSigned (s : State) (x : Image) : Bool :=
  let alg := if bit x.flags 1 then 6 else 5
  s.reg Od.lcOwnerKeyAlg = alg && Config.slhVerify alg (beBytes 64 (s.reg Od.lcOwnerPubkey)) x.header x.ownerSig

/-- An image passes R385. -/
def State.imageAccepted (s : State) (x : Image) : Bool :=
  x.magic = 0x56584657 && x.headerVersion = 1 && 2 ≤ x.imageType && x.imageType ≤ 6 && x.flags < 4 && x.reserved = 0 &&
    Config.slhVerify 5 (Config.vendorKey s.vendorKeyIndex) x.header x.vendorSig &&
    shake256 x.payload 64 = x.payloadDigest && (x.lcMask &&& lcCode s.sec.lc ≠ 0) && s.svnOf x.imageType ≤ x.svn &&
    (if bit x.flags 0 then s.ownerSigned x else !s.cosignRequired)

/-- A bank can start: it holds the five images in order and each passes; the factory set of bank 0 passes while no security version
was raised and no owner signature is required (log 13). -/
def State.bankStarts (s : State) (b : Nat) : Bool :=
  match Tab.find s.sec.banks b with
  | some l => l.map (·.imageType) = [2, 3, 4, 5, 6] && l.all s.imageAccepted
  | none => b = 0 && s.reg Od.fwSvn = 0 && !s.cosignRequired

/-! ### What a start keeps -/

/-- Entries that hold a setting (R432): all that can be written and read, but for status words (R479) and counters' marks. -/
def settingKept (k : Nat) : Bool :=
  match odRow? (k / 256) (k % 256) with
  | none => false
  | some r =>
    r.wr ≠ 5 && r.rd ≠ 5 && decide (r.ap ≠ Apply.none) && !(0xB00000 ≤ k && k < 0xB08000 && k % 256 = 1) &&
      !(0x204000 ≤ k && k < 0x206000 && k % 256 = 0x2A)

/-- Entries of the journal and the counts since manufacture. -/
def journalKept : List Nat :=
  [Od.healthStartCount, Od.pfPwrFailCount, Od.tamperLogTotal, Od.keysUpdateSeq, Od.lcOwnerPubkey, Od.lcOwnerKeyAlg, Od.fwActiveBank,
    Od.fwSvn]

/-- Key slots: those without PERSIST are empty after a start; their generations are kept (R378, R380). -/
def slotKept (k v : Nat) : Option (Nat × Nat) :=
  if k < Od.keySlot 0 || Od.keySlot 255 < k then none
  else if (slotRec v).persist then some (k, v)
  else if (slotRec v).ownGen = 0 then none
  else some (k, { slotRec 0 with ownGen := (slotRec v).ownGen : SlotRec }.word)

/-- RESTARTS of a filter record counts from 0 after a start (R220). -/
def startWord (k v : Nat) : Nat := if Od.filterRecord 0 ≤ k && k ≤ Od.filterRecord 8191 then setField v 56 8 0 else v

/-- The counters of the ports, which only a power-up of NETC resets (R91): one is part of a start from power-on, and of one for a supply
out of range (log 92). -/
def State.countersKept (s : State) (cause k : Nat) : Bool :=
  0x204000 ≤ k && k < 0x206000 && k % 256 ≠ 0x2A && bit s.power.domains 3 && cause ≠ 0 && cause ≠ 6

/-- The numeric entries after a start. -/
def State.keptRegs (s : State) (cause : Nat) : Tab Nat :=
  s.regs.filterMap fun (k, v) =>
    if settingKept k then some (k, startWord k v)
    else if journalKept.contains k || s.countersKept cause k then some (k, v) else slotKept k v

/-- The tamper key and what is wrapped under it; a volatile key cell is empty (R380, R382, R509). -/
def Security.started (x : Security) (persist : Nat → Bool) : Security := { x with
  lc := if x.decom then .decommissioned else if x.mfgDone && x.lc = .manufacture then .shipped else x.lc
  cells := x.cells.filter fun e => persist e.1
  brokenCells := [], update := none, phase := 0, secLost := false, loopFaults := [0, 0], running := [] }

/-- The state in which a start finds the module: settings and logs, everything else at reset. -/
def State.coldState (s : State) : State :=
  let rate := s.committedRate
  let s0 : State :=
    { regs := s.keptRegs s.power.nextCause
      blobs := s.blobs.filter fun e => settingKept e.1 && e.1 ≠ Od.fwImages
      time := { now := s.now, freq := s.time.storedFreq.getD 0, storedFreq := s.time.storedFreq, frozen := s.power.osc10Lost }
      pair := { lanesUp := s.pair.lanesUp }
      sec := s.sec.started fun n => (s.slot n).persist
      health := {
        retired := s.health.retired, out := (s.health.retired.map (·.unit_)).dedup, repairs := s.health.repairs
        spareRows := sparesOf s.health.repairs, lockedRows := s.health.lockedRows, gasps := s.health.gasps
        kickManager := s.now, kickNetwork := s.now, refclkLost := s.health.refclkLost }
      power := {
        supplies := s.power.supplies, temps := s.power.temps, osc10Lost := s.power.osc10Lost
        tapRegister := s.power.tapRegister, configSeq := s.power.configSeq }
      mem := s.mem.filter fun c => 2 ^ 64 * 128 ≤ c.1
      out := s.out, freeUsed := s.freeUsed, pending := s.pending }
  let s1 := s0.setReg Od.tickRate rate
  let s2 := s1.setTimeUnit fun u => { u with
    ppsOffset := s1.regI 64 Od.ppsOutOffset, ppsWidth := s1.reg Od.ppsOutWidth, ppsMode := s1.reg Od.ppsOutMode }
  s2.setReg Od.tamperStatus s2.sec.firing

/-! ### Step 5: tests, herds, regions (R20, R399, R401, R405, R424) -/

/-- A unit identifier of R404 that the module has. -/
def unitExists (u : Nat) : Bool :=
  match u / 4096 with
  | 1 => u % 4096 < 60
  | 2 => u % 4096 < 16
  | 3 => u % 4096 < 4
  | 4 => u % 4096 < 32
  | 5 => u % 4096 < 2
  | 6 => u % 4096 < 6
  | 7 => memOk (u % 4096)
  | _ => false

/-- A unit that fails a start-up test is retired; a lane group takes its slice with it. -/
def State.failUnit (s : State) (u : Nat) : State :=
  if !unitExists u then s
  else
    let s1 := s.recordRetirement u 3 0
    if u / 4096 = 2 then s1.recordRetirement (unitId 3 (u % 4096 / 4)) 3 0 else s1

/-- The units of a herd as a start finds them: position 4 is the spare, or runs the lowest logical unit whose position is out. -/
def State.freshHerd (s : State) (h : Nat) : Herd :=
  let gone (i : Nat) : Bool := s.isOut (coreId h i)
  if gone 4 then { spare := none }
  else
    match (List.range 4).find? gone with
    | none => {}
    | some l => { units := [0, 1, 2, 3].set l 4, spare := none }

/-- What follows from the units that are out: ports, lanes, links, herds, regions without a working herd or without their slice while
the fall-back engine has failed, the manager's place. -/
def State.placeUnits (s : State) : State :=
  let s1 := (List.range 12).foldl (fun (t : State) h => t.setHerd h (s.freshHerd h)) s
  let lost := (List.range 4).filter fun r =>
    ((List.range 3).all fun i => s.herdDead (3 * r + i)) || (s.health.fallbackFailed && s.isOut (unitId 3 r))
  let s2 := s1.setHealth fun x => { x with
    lostRegions := lost, managerHerd := 0, managerLent := false
    linksFailed := (List.range 6).filter fun l => s.isOut (unitId 6 l)
    lastPass := (List.range 60).foldl (fun t n => Tab.insert t (unitId 1 n) s.now)
      ((List.range 4).foldl (fun t n => Tab.insert t (unitId 3 n) s.now) []) }
  let s3 := (s2.setReg Od.mgrManagerHerd 0).coverage
  let s4 := s3.when_ (!lost.isEmpty && lost.length < 4) fun t => t.moveManager
  (s4.setSec fun x => { x with secLost := s4.health.linksFailed.any fun l => l = 2 || l = 4 || l = 5 }).setPair fun p => { p with
    lanesRetired := (List.range 2).filter fun l => s.isOut (unitId 5 l) }

/-- The domains of RUN less the regions left unpowered (R484, R424). -/
def State.runDomains (s : State) : Nat := s.health.lostRegions.foldl (fun d r => setBit d (6 + r) false) 0x0FFF

/-- The result records of the logic tests at a start; how a failing unit failed is not stated. -/
def State.startResults (s : State) (failed : List Nat) : State :=
  s.each s.testedUnits fun u t => if failed.contains u then (t.recordTest u 2 (1 + t.freeBelow 2)).drew else t.recordTest u 2 0

/-- Rows stay locked out, and the pages of rows of DRAM withheld, until the record of their memory is cleared and it passes its march test
(R416). -/
def State.withholdRows (s : State) (faults : List MarchFault) : State :=
  s.setHealth fun h =>
    let rows := h.lockedRows.filter fun k => s.isOut (unitId 7 (k / 2 ^ 32)) || faults.any fun f => f.memory = k / 2 ^ 32
    { h with lockedRows := rows, withheldPages := withheldOf rows }

/-- A fault that a march test found is repaired; without a spare row a core unit or a slice is out before it gets work (R414 to R416). -/
def State.marchFault (s : State) (f : MarchFault) : State :=
  let c := memClass f.memory
  let row := f.row % 2 ^ 32
  if !memOk f.memory || s.holderOut f.memory then s
  else if (c < 2 || c = 6) && memSpares c ≤ Tab.look s.health.spareRows (rowBankKey f.memory row) 0 then
    (s.writeRepair ⟨f.memory, row, f.bitPos % 2 ^ 16, f.failType, 3, 0xFFFF, s.tickNow % 2 ^ 32⟩).recordRetirement
      (if c = 6 then sliceId (memIndex f.memory) else unitId 1 (memIndex f.memory)) 6 0
  else s.repairRow f.memory row (f.bitPos % 2 ^ 16) f.failType 0

/-- Step 5: the march tests run on what the soft repairs of the log have redirected (R416, R423). -/
def State.stepFive (s : State) (start : StartUp) : State :=
  let s0 := (s.withholdRows start.marchFaults).each start.marchFaults fun f t => t.marchFault f
  let s1 := ((s0.startResults start.failedUnits).each start.failedUnits fun u t => t.failUnit u).setHealth fun h => { h with
    fallbackFailed := start.fallbackFailed }
  let s2 := s1.placeUnits
  s2.setPower fun p => { p with state := .run, domains := s2.runDomains, step := 5 }

/-! ### Steps 6 to 8 (R231, R238, R265, R289, R320, R329, R424) -/

/-- A partition is placed and started, or stays stopped where it cannot be placed. -/
def State.startPart (s : State) (n : Nat) : State :=
  if !s.on (Od.partEnable n) then s
  else
    let l := s.windowsToUse n
    if s.poolHolds n && s.windowsFit n l then (s.setPart n { windows := l }).askRestart n 0 0
    else (s.setPart n { unplaced := true }).healthFlag 3 (some n)

/-- Step 6: partitions, pails and engines are built; `bare` is the state with every entry at its default. -/
def State.stepSix (s : State) : State :=
  let bare : State := { s with regs := [], blobs := [] }
  let s1 := s.each (List.range 96) fun n t => t.startPart n
  let s2 := s1.each ((List.range 64).filter fun p => s.on (Od.pailEnable p)) fun p t => t.setPail p { state := .active }
  let s3 := (s2.applyChurn bare []).restartLoops bare
  (s3.each ((List.range 256).filter fun j => s.on (Od.gpEnable j)) fun j t => t.setPub j {}).setPower fun p => { p with step := 6 }

/-- Steps 7 and 8: the role that R330 starts from, or LEAD of a module without a pair (R328). -/
def State.stepEight (s : State) : State :=
  let s1 := s.setPair fun p => { p with enabled := s.on Od.pairEnable, bootAt := s.now }
  { (s1.setRole (if s1.pair.enabled then .init else .lead)).setPower fun p => { p with step := 8 } with majorFrame := s.majorSet }

/-- Steps 5 to 8; with no region left the module stays as in HOLD. -/
def State.bringUp (s : State) (start : StartUp) : State :=
  let s1 := s.stepFive start
  if s1.health.lostRegions.length = 4 then s1.setPower fun p => { p with state := .hold, domains := 0x003F }
  else
    let s2 := (s1.stepSix.stepEight).stand 112 2 (decide (s1.reg Od.mgrCapacityReserve < 25))
    { s2 with workTick := s2.tickNow }

/-! ### Steps 1 to 4 -/

/-- Step 1: RESET_CAUSE, START_COUNT, STARTUP_TIMES (R403, R422, R423). -/
def State.stepOne (s : State) (cause : Nat) (start : StartUp) : State :=
  let times := ((places 8 start.stepTimes).map (beBytes 4)).flatten
  ((s.setReg Od.healthResetCause cause).count 32 Od.healthStartCount).setReg Od.healthStartupTimes (ofBe times)

/-- Step 2: the active bank, else the other; none where neither starts (R386). -/
def State.bootBank (s : State) : Option Nat :=
  let a := s.reg Od.fwActiveBank % 2
  if s.bankStarts a then some a else if s.bankStarts (1 - a) then some (1 - a) else none

/-- Step 3: a tamper key for a module without wrapped items; a key that was lost with its domain is an alarm (R394, R509). -/
def State.stepThree (s : State) : State :=
  let s1 := s.drawNonce
  if !s1.hasWrapped then s1.setSec fun x => { x with tamperKey := !x.tamperHold }
  else if !s1.sec.tamperKey && !s1.sec.tamperHold then (s1.tamperResponse 0x08).lastGasp 3
  else s1

/-- In TAMPER_HOLD the module runs as in HOLD, its service UART powered (R394, R395, R484); the alarm stands. -/
def State.stopTampered (s : State) : State :=
  let sources := (s.sec.tamperLog.head?.map (·.sources)).getD 0
  let s0 := (s.when_ s.sec.unreported fun t => t.setFlag 97 0 (some sources)).setSec fun x => { x with unreported := false }
  let s1 := s0.setPower fun p => { p with state := .tamperHold, domains := 0x083F, step := 4 }
  s1.stand 97 1 true (some sources)

/-- Step 4: ports, redundancy groups and the time unit (R56, R77, R98, R102, R141). -/
def State.stepFour (s : State) : State :=
  ((s.each (List.range 32) fun p t => t.modPort p fun x => { x with
      mode := s.reg (Od.portMode p), retired := s.isOut (unitId 4 p)
      busyUntil := if s.on (Od.portSpeedLowering p) then s.now else 0 }).each
    (List.range 16) fun g t => t.watchGroup g).setPower
    fun p => { p with domains := 0x003F, step := 4 }

/-- A start from power good. -/
def State.startUp (s : State) (start : StartUp) : State :=
  let s1 := s.coldState.stepOne s.power.nextCause start
  match s1.bootBank with
  | none =>
    ((s1.setReg Od.healthResetCause 9).setPower fun p => { p with domains := 0x0807, step := 1, bootStopped := true }).drawNonce
  | some b =>
    let s2 := (s1.setSec fun x => { x with running := (Tab.find x.banks b).getD [] }).when_ (b ≠ s1.reg Od.fwActiveBank % 2) fun t => t.lcFlag 3
    let s3 := s2.stepThree
    if start.networkFailed then s3.setPower fun p => { p with domains := 0x0007, step := 3 }
    else
      let s4 := s3.stepFour
      if s4.sec.tamperHold then s4.placeUnits.measureConfig.stopTampered
      else
        let s5 := s4.bringUp start
        let s6 := s5.measureConfig
        if s6.power.osc10Lost || s6.health.refclkLost || s6.health.linksFailed.any (fun l => l = 0 || l = 1 || l = 3) then s6.withdraw 8
        else s6

/-- A module that is held in reset, unpowered but for its battery, or has not started yet starts at power good. -/
def State.mayStart (s : State) : Bool :=
  s.power.heldReset || decide (s.power.state = .battery) || (s.power.step = 0 && decide (s.power.state = .run))

def execPowerGood (at_ : Instant) (start : StartUp) (s : State) : Result :=
  need true (done ((s.arrive at_).when_ s.mayStart fun t =>
    (t.setPower fun p => { p with badRails := [], pwrFail := false }).startUp start))

/-! ### The supervisor watchdog and RESTART (R420, R426) -/

def execSupWatchdogKick (at_ : Instant) (manager : Bool) (s : State) : Result :=
  act true (if manager then 10 else 3) (s.arrive at_) fun s =>
    s.setHealth fun h => if manager then { h with kickManager := s.now } else { h with kickNetwork := s.now }

/-- The manager or the network-die firmware, where it runs, has not kicked for a whole period. -/
def State.watchdogDue (s : State) : Bool :=
  let late (t : Nat) : Bool := t + ofMs (s.reg Od.healthSupWatchdog) < s.now
  (s.powered 3 && 4 ≤ s.power.step && late s.health.kickNetwork) || (s.powered 10 && 8 ≤ s.power.step && late s.health.kickManager)

/-- The withdrawal, the last-gasp record and the forced reset. -/
def State.watchdogReset (s : State) : State :=
  if s.watchdogDue then ((s.withdraw 2).lastGasp 2).restartNow 2 else s

def execSupWatchdogExpiry (at_ : Instant) (s : State) : Result := act true 1 (s.arrive at_) fun s => s.watchdogReset

/-- A write of RESTART: the module is withdrawn first where OUT_ENABLE is asserted. -/
def State.writeModuleRestart (s : State) (value : Nat) : Answer :=
  if 2 ≤ value then s.refuse stTypeMismatch
  else if s.power.bootStopped then s.refuse stBusy
  else if value = 0 then s.ok
  else (s.restartNow 5).ok

def execRestartModule (at_ : Instant) (value : Nat) (s : State) : Result :=
  act true 1 (s.arrive at_) fun s => (s.writeModuleRestart value).told

end Sys2Proof.Machine
end

