-- ==== Sys2Proof/Machine/Banks.lean ====
section
/-!
DEFINITION. The octets of a bank of the boot store, as an external programmer finds them (R382, R500), and the configuration file that a
configuration bank holds (R432, R448).
-/

namespace Sys2Proof.Machine

open Sys2Proof

/-- The header of a bank: MAGIC, SEQ and the length of the body (R382, R500). -/
def bankHeader (magic seq length : Nat) : List Byte := beBytes 4 magic ++ beBytes 8 seq ++ beBytes 4 length

/-- The commit record over a header and a body (R382). -/
def commitRecord (seq : Nat) (written : List Byte) : List Byte :=
  beBytes 8 seq ++ shake256 written 32 ++ beBytes 4 0x5658434D ++ beBytes 4 0

/-- The octets of a complete bank. -/
def bankOctets (magic seq : Nat) (body : List Byte) : List Byte :=
  let written := bankHeader magic seq body.length ++ body
  written ++ commitRecord seq written

/-- The octets that stand where a bank of a kind begins are a complete bank: its commit record carries the header's SEQ and a matching
digest. -/
def bankComplete (magic : Nat) (octets : List Byte) : Bool :=
  let body := (octets.drop 16).take (beAt octets 12 4)
  beAt octets 0 4 = magic && octets.take (64 + beAt octets 12 4) = bankOctets magic (beAt octets 4 8) body

/-- Of two complete banks the one with the higher SEQ is used, by 64-bit serial arithmetic. -/
def newerBank (a b : Nat) : Bool := a ≠ b && (a + 2 ^ 64 - b) % 2 ^ 64 < 2 ^ 63

def configMagic : Nat := 0x56584346
def journalMagic : Nat := 0x56584A4E

/-- The record of an entry with its committed value. -/
def State.keptRecord (s : State) (k : Nat) : List Byte :=
  match odRow? (k / 256) (k % 256) with
  | some r => entryRecord (k / 256) (k % 256) r (s.committedBytes (k / 256) (k % 256) r)
  | none => []

/-- The configuration file of the store: the settings that do not hold their Default, by rising index and subindex. -/
def State.configFile (s : State) : List Byte :=
  let keys := (s.regs.map (·.1) ++ s.blobs.map (·.1)).filter settingKept
  ((keys.mergeSort fun a b => a ≤ b).map s.keptRecord).flatten

/-- The octets of the configuration bank last written. -/
def State.configBank (s : State) : List Byte := bankOctets configMagic s.power.configSeq s.configFile

/-- A write of R432: to the bank not in use, with SEQ one higher. -/
def State.configWritten (s : State) : State := s.setPower fun p => { p with configSeq := (p.configSeq + 1) % 2 ^ 64 }

end Sys2Proof.Machine
end

