-- ==== Sys2Proof/Machine/Power.lean ====
section
/-!
DEFINITION. Power states, rails, resets, clocks, measured values and test access (16_power_pins_and_electrical.md).
-/

namespace Sys2Proof.Machine

open Sys2Proof

/-! ### Power states (R484 to R486) -/

/-- The engines' domains go off: what they held is gone; the network die keeps its own. -/
def State.enginesOff (s : State) : State :=
  let s1 : State := { s with
    dp := { streams := s.clearRings.dp.streams }, hist := {}, parts := [], pails := [], churn := {}, loops := {}, pubs := []
    mem := s.mem.filter fun c => 2 ^ 64 * 128 ≤ c.1 }
  (s1.setReg Od.churnEngineState 0).setReg Od.forcesActive 0

/-- The withdrawal of a power request or of TEMP_LIMIT; its cause is not stated, and the next start's stays. -/
def State.withdrawPower (s : State) : State :=
  if s.power.withdrawn then s
  else
    let c := s.power.nextCause
    (s.drew.withdraw (s.freeBelow 256)).setPower fun p => { p with nextCause := c }

/-- RUN to HOLD. -/
def State.enterHold (s : State) : State :=
  let s1 := (s.withdrawPower.setRole .withdrawn).enginesOff
  (s1.setPower fun p => { p with state := .hold, domains := 0x003F, step := 4 }).setFlag 114 0

/-- RUN or HOLD to OFF: sessions close, every domain but BAT and SUP goes off. -/
def State.enterOff (s : State) : State :=
  let s1 := if s.outEnabled then s.withdrawPower.setRole .withdrawn else s
  let s2 := (s1.setFlag 114 0).each (s1.edp.sessions.map (·.1)) fun sid t => t.closeSession sid
  let s3 : State := { s2.enginesOff with ports := [], sw := {} }
  s3.setPower fun p => { p with state := .off, domains := 0x0003, withdrawn := true, step := 0 }

/-- HOLD to RUN: start-up steps 5 to 8, which is not a start; a module withdrawn for a fault of its own stays so (R422). -/
def State.enterRun (s : State) (start : StartUp) : State :=
  let s1 := s.setPower fun p => { p with withdrawn := decide (p.nextCause = 8), rising := some s.now }
  let s2 := (s1.setPair fun p => { p with role := .init, settled := false }).setReg Od.pairRoleState 0
  (s2.bringUp start).setFlag 114 0

/-- A transition from HOLD to RUN may still be in progress: its last step ends within 18.5 s, at an instant that is not stated
(R485, log 90). -/
def State.rises (s : State) : Bool :=
  decide (s.power.state = PowerState.run) && !s.power.heldReset && s.power.rising.any fun t => s.now < t + ofMs 18500

/-- It is in progress. -/
def State.midRise (s : State) : Bool := s.rises && s.freeBelow 2 = 1

/-- The choice whether it is has been made. -/
def State.judgedRise (s : State) : State := if s.rises then s.drew else s

/-- A transition from HOLD to RUN in progress is abandoned, and the domains it was powering go off (R488). -/
def State.abandonRise (s : State) : State :=
  if !s.midRise then s.judgedRise
  else
    (s.judgedRise.setRole .withdrawn).enginesOff.setPower fun p => { p with
      state := .hold, domains := 0x003F, withdrawn := true, step := 4, rising := none }

/-- The rails that CFAB, CMP0 to CMP3 and HIO draw from (R482). -/
def runRails : List Nat := [0, 2, 3, 4]

/-- A die lies above TEMP_WARN. -/
def State.warm (s : State) : Bool := s.power.temps.any fun t => s.regI 16 Od.tempWarn < t

/-- A write of POWER_REQUEST. -/
def State.writePower (s : State) (value : Nat) (start : StartUp) : Answer :=
  let busy := s.refuse stBusy
  if s.power.bootStopped || decide (s.power.state = .tamperHold) then busy
  else if 3 ≤ value then s.refuse stInvalidValue
  else
    match s.power.state, value with
    | .run, 0 | .hold, 1 | .off, 2 => s.ok
    | .run, 1 => if s.midRise then s.judgedRise.refuse stBusy else s.judgedRise.enterHold.ok
    | .run, _ => if s.midRise then s.judgedRise.refuse stBusy else s.judgedRise.enterOff.ok
    | .hold, 2 => s.enterOff.ok
    | .hold, _ => if (runRails.any fun r => s.power.badRails.contains r) || s.warm then busy else (s.enterRun start).ok
    | .tamperHold, _ | .off, _ | .battery, _ => busy

def execPowerRequestRun (at_ : Instant) (start : StartUp) (s : State) : Result :=
  act true 1 (s.arrive at_) fun s => (s.writePower 0 start).told

/-- A start that finds nothing failing. -/
def cleanStart : StartUp := ⟨false, [], false, [], []⟩

def execPowerRequestHold (at_ : Instant) (s : State) : Result :=
  act true 1 (s.arrive at_) fun s => (s.writePower 1 cleanStart).told

def execPowerRequestOff (at_ : Instant) (s : State) : Result :=
  act true 1 (s.arrive at_) fun s => (s.writePower 2 cleanStart).told

/-! ### Rails and resets (R483, R487, R490 to R492) -/

/-- VBAT lies below VBAT_LOW. -/
def State.vbatStand (s : State) : State := s.stand 114 3 (decide (s.reg Od.vbat < s.reg Od.vbatLow))

/-- BATTERY: below 2.0 V the battery domain retains neither the tamper key nor the battery log. -/
def State.enterBattery (s : State) : State :=
  let kept := decide (2000 ≤ s.reg Od.vbat)
  let s1 := s.vbatStand.enginesOff
  let s2 : State := { s1 with ports := [], sw := {}, edp := {} }
  let s3 := s2.setSec fun x => { x with
    update := none, phase := 0, tamperKey := x.tamperKey && kept, tamperLog := if kept then x.tamperLog else [] }
  s3.setPower fun p => { p with
    state := .battery, domains := 0x0001, heldReset := false, secHeld := false, withdrawn := true, step := 0, nextCause := 0 }

def execVddAonLoss (at_ : Instant) (s : State) : Result := act true 0 (s.arrive at_) fun s => s.enterBattery

/-- The domains a rail feeds (R482). -/
def railFeeds (rail : Nat) : List Nat := [[6, 7, 8, 9, 10], [3], [4, 5, 11], [10, 11], [10], [2], [0, 1], []].getD rail []

/-- The supervisor judges a rail: it feeds a powered domain, or is VDD_AON or VDD_18 (R487). -/
def State.judged (s : State) (rail : Nat) : Bool := rail = 6 || rail = 7 || (railFeeds rail).any fun d => bit s.power.domains d

/-- A rail leaves its tolerance. -/
def State.railOut (s : State) (rail : Nat) : State :=
  let s1 := s.abandonRise.setPower fun p => { p with badRails := if p.badRails.contains rail then p.badRails else rail :: p.badRails }
  if !s1.judged rail then s1
  else
    let s2 := ((s1.withdraw 6).lastGasp 6).setFlag 114 2 (some rail)
    s2.setPower fun p => { p with
      heldReset := true, secHeld := true, withdrawn := true, step := 0, nextCause := if p.pwrFail then 0 else 6 }

def execRailOutOfRange (at_ : Instant) (rail : Nat) (s : State) : Result :=
  act (rail < 8) 1 (s.arrive at_) fun s => s.railOut rail

/-- The first sample that finds PWR_FAIL_N asserted. -/
def State.failWarned (s : State) : State :=
  if s.power.pwrFail then s
  else
    let s1 := (s.count 32 Od.pfPwrFailCount).setFlag 114 1
    ((s1.lastGasp 7).setPower fun p => { p with pwrFail := true, pwrFailSince := s.now }).abandonRise

def execPwrFail (at_ : Instant) (s : State) : Result := act true 1 (s.arrive at_) fun s => s.failWarned

/-- PWR_FAIL_N stays asserted for 2 ms: SEC stays up until a journal update has ended. -/
def State.failSustained (s : State) : State :=
  if !s.power.pwrFail || s.now < s.power.pwrFailSince + ofMs 2 || decide (s.power.state = PowerState.off) then s
  else
    (s.withdraw 7).setPower fun p => { p with
      heldReset := true, secHeld := s.sec.update.isNone, withdrawn := true, step := 0, nextCause := 7 }

def execPwrFailSustained (at_ : Instant) (s : State) : Result := act true 1 (s.arrive at_) fun s => s.failSustained

/-- PWR_FAIL_N released: the start that follows has cause 0x07, or 0x00 where a rail left its range. -/
def State.failReleased (s : State) : State :=
  s.setPower fun p => { p with
    pwrFail := false, nextCause := if p.heldReset && p.nextCause = 7 && !p.badRails.isEmpty then 0 else p.nextCause }

def execPwrFailReleased (at_ : Instant) (s : State) : Result := act true 1 (s.arrive at_) fun s => s.failReleased

/-- A low pulse on PORST_N: between 1 and 10 µs it may or may not act. -/
def State.resetPulse (s : State) (width : Nat) : State :=
  let s1 := if ofUs 1 ≤ width && width < ofUs 10 then s.drew else s
  let acts := ofUs 10 ≤ width || (ofUs 1 ≤ width && s.freeBelow 2 = 1)
  if acts && decide (s.power.state ≠ PowerState.battery) then
    s1.setPower fun p => { p with heldReset := true, secHeld := true, withdrawn := true, step := 0, nextCause := 1 }
  else s1

def execPorst (at_ : Instant) (width : Nat) (s : State) : Result := act true 0 (s.arrive at_) fun s => s.resetPulse width

/-! ### Clocks (R497) -/

/-- A lost clock withdraws the module, and it stays withdrawn. -/
def State.clockLost (s : State) : State := (s.withdraw 8).setPower fun p => { p with nextCause := 8 }

def execRefclk25mLost (at_ : Instant) (s : State) : Result :=
  act true 1 (s.arrive at_) fun s => s.clockLost.setHealth fun h => { h with refclkLost := true }

def execRefclk25mRestored (at_ : Instant) (s : State) : Result :=
  act true 1 (s.arrive at_) fun s => s.setHealth fun h => { h with refclkLost := false }

/-- The time unit freezes its state. -/
def execOsc10mLost (at_ : Instant) (s : State) : Result :=
  act true 1 (s.arrive at_) fun s =>
    (s.clockLost.setPower fun p => { p with osc10Lost := true }).setTimeUnit fun u => { u with frozen := true }

def execOsc10mRestored (at_ : Instant) (s : State) : Result :=
  act true 1 (s.arrive at_) fun s =>
    (s.setPower fun p => { p with osc10Lost := false }).setTimeUnit fun u => { u with frozen := false }

/-! ### Measured values (R463, R507) -/

/-- The nominal voltage of a rail in mV and its tolerance in per cent (R481). -/
def railNominal (rail : Nat) : Nat := [750, 800, 900, 800, 1100, 800, 800, 1800].getD rail 0
def railTolerance (rail : Nat) : Nat := if rail = 7 then 5 else 3

/-- A measured supply lies within its rail's tolerance. -/
def railGood (rail mv : Nat) : Bool :=
  railNominal rail * (100 - railTolerance rail) ≤ 100 * mv && 100 * mv ≤ railNominal rail * (100 + railTolerance rail)

/-- The first die above a temperature. -/
def hotDie (temps : List Int) (limit : Int) : Option Nat := (List.range 4).find? fun d => limit < temps.getD d 0

/-- The standing flags of the temperatures and of VBAT, as the values and the settings now stand. -/
def State.envStand (s : State) : State :=
  let warm := hotDie s.power.temps (s.regI 16 Od.tempWarn)
  let hot := hotDie s.power.temps 2000
  ((s.stand 115 0 warm.isSome warm).stand 115 1 hot.isSome hot).vbatStand

/-- A refresh: the values, the standing flags they give, and HOLD above 125 degrees. -/
def State.refreshEnv (s : State) (env : Env) : State :=
  let temps := (List.range 4).map fun d => env.temps.getD d 0
  let top := temps.foldl max (s.power.tempMax.getD (temps.getD 0 0))
  let s1 := s.setPower fun p => { p with
    supplies := places 8 env.supplies, temps := temps, tempMax := some top
    badRails := p.badRails.filter fun r => !railGood r (env.supplies.getD r 0) }
  let s2 := ((s1.setReg Od.vbat (env.vbat % 2 ^ 16)).setReg Od.powerModulePower (env.power % 2 ^ 32)).setReg Od.powerPeakPower
    (max (s.reg Od.powerPeakPower) (env.power % 2 ^ 32))
  let s3 := s2.envStand
  if (hotDie temps 2000).isSome && decide (s3.power.state = PowerState.run) && 5 ≤ s3.power.step then s3.enterHold else s3

def execEnvironmentRefresh (at_ : Instant) (env : Env) (s : State) : Result :=
  act true 1 (s.arrive at_) fun s => s.refreshEnv env

/-! ### Test access (R501) -/

/-- An instruction code of the TAP as the command gives it: 0 is BYPASS, 1 is IDCODE, any other a different one (the spec gives no
codes). With test access closed every other one behaves as BYPASS; with it open it works, and what it does is not described. -/
def execTapInstruction (at_ : Instant) (code : Nat) (s : State) : Result :=
  if 2 ≤ code && s.testAccess then .refused .tapInstructionUndescribed
  else
    done ((s.arrive at_).setPower fun p => { p with tapRegister := if code = 1 then 0x1096155B else 0 })

end Sys2Proof.Machine
end

