-- ==== Sys2Proof/Machine/Time.lean ====
section
/-!
DEFINITION. The time unit's commands (02_drips_turns_and_station_time.md): PTP, SET_TIME and STEP_NOW, PPS_IN and
PPS_OUT, holdover, the change of the tick rate.
-/

namespace Sys2Proof.Machine

open Sys2Proof

/-! ### PTP reception (R43, R44, R52 to R58) -/

/-- The ports a transparent clock forwards a message to. -/
def State.ptpOthers (s : State) (p : Nat) : List Nat := (List.range 32).filter fun q => q ≠ p && s.ptpUp q

/-- The module is a transparent clock. -/
def State.isTc (s : State) : Bool := s.reg Od.ptpClockType = 3

/-- The corrections of a transparent clock are applied on a port: two valid exchanges since link-up (R55). -/
def State.corrects (s : State) (p : Nat) : Bool := 2 ≤ (s.ptpPort p).validSinceUp

/-- The mean link delay of a port. -/
def State.linkDelay (s : State) (p : Nat) : Int := s.regI 64 (Od.ptpPortMeanLinkDelay p)

/-- DELAY_ASYMMETRY of a port (R65). -/
def State.asymmetry (s : State) (p : Nat) : Int := s.regI 64 (Od.ptpPortDelayAsymmetry p)

/-- The ingress port's link delay and asymmetry for the correction field (R54, R65). -/
def State.ingressCorrection (s : State) (p : Nat) : Int := toCorrection (s.linkDelay p) + toCorrection (s.asymmetry p)

/-- A message forwarded as it is (R52). -/
def State.passPtp (s : State) (p : Nat) (m : PtpMsg) : State :=
  s.each (s.ptpOthers p) fun q t =>
    t.sendPtp q ⟨m.kind, m.seq, m.twoStep, m.seconds, m.nanos, m.correction, none, m.data, 0, false⟩ false

/-- A Sync through a transparent clock (R54): a one-step port corrects the departing frame; a two-step port sends its residence time
in the Follow_Up that comes after it, its own where the Sync came without one. `rx` is the receive timestamp. -/
def State.forwardSync (s : State) (p : Nat) (m : PtpMsg) (rx : Nat) : State :=
  let c := s.ingressCorrection p
  s.each (s.ptpOthers p) fun q t =>
    if t.on (Od.ptpPortTwoStep q) then
      let x := t.ptpPort q
      let u := t.when_ (!m.twoStep) fun v =>
        v.setPtpPort q { x with tcFollow := Tab.insert x.tcFollow m.seq { m with kind := .followUp, correction := c } }
      u.sendPtp q ⟨.sync, m.seq, true, m.seconds, m.nanos, m.correction, some rx, none, 0, false⟩ true
    else t.sendPtp q ⟨.sync, m.seq, m.twoStep, m.seconds, m.nanos, m.correction + c, some rx, none, 0, true⟩ false

/-- A Follow_Up through a transparent clock: a two-step port adds link delay and residence time. -/
def State.forwardFollowUp (s : State) (p : Nat) (m : PtpMsg) : State :=
  let c := m.correction + s.ingressCorrection p
  s.each (s.ptpOthers p) fun q t =>
    if t.on (Od.ptpPortTwoStep q) then
      let x := t.ptpPort q
      match Tab.find x.tcResidence m.seq with
      | some r =>
        (t.setPtpPort q { x with tcResidence := Tab.del x.tcResidence m.seq }).sendPtp q
          ⟨.followUp, m.seq, false, m.seconds, m.nanos, c + toCorrection r, none, none, 0, false⟩ false
      | none => t.setPtpPort q { x with tcFollow := Tab.insert x.tcFollow m.seq { m with correction := c } }
    else t.sendPtp q ⟨.followUp, m.seq, false, m.seconds, m.nanos, m.correction, none, none, 0, false⟩ false

/-- An end-to-end Delay_Req or Delay_Resp goes the way of ordinary multicast, neither answered nor corrected (R52). -/
def State.forwardDelay (s : State) (p : Nat) (m : PtpMsg) : State :=
  let x : PtpTx := ⟨m.kind, m.seq, m.twoStep, m.seconds, m.nanos, m.correction, none, none, 0, false⟩
  let f := s.ptpFrame p x
  let out := (s.decide_ (some p) f).ports.filter fun q => q ≠ p
  (s.sendOwn f (some out) none 0 (some x)).state

/-- The time source is this port. -/
def State.slaveOf (s : State) (p : Nat) : Bool := s.time.source = some (.ptp p) && s.time.sourceValid

/-- The offset a Sync measures: the master's time of the frame's arrival less the count at its arrival (R43, R56, R65). -/
def State.measure (s : State) (p seconds nanos : Nat) (correction : Int) (rx : Nat) : State :=
  match fromPtp seconds nanos correction (s.linkDelay p + s.asymmetry p) with
  | none => (s.setTimeUnit fun t => { t with malformed := t.malformed + 1 }).timeFlag 5
  | some a =>
    let s1 := s.setTimeUnit fun t => { t with ptpOffset := some (dripDiff a rx) }
    if s.slaveOf p then s1.servoUpdate (dripDiff a rx) else s1

/-- The Syncs of a port tell the time: it is the slave port, selected as the source or not (R57, R62). -/
def State.tellsTime (s : State) (p : Nat) : Bool := s.slaveOf p || decide (s.bestPort = some p)

/-- A Sync (R52, R54): a one-step one measures, a two-step one waits for its Follow_Up; a transparent clock passes it on, corrected
where its corrections apply (R55). -/
def State.ptpSync (s : State) (p : Nat) (m : PtpMsg) (rx : Nat) : State :=
  let s1 :=
    if m.twoStep then s.setPtpPort p { s.ptpPort p with syncPending := some (m.seq, rx, m.correction) }
    else if s.tellsTime p then s.measure p m.seconds m.nanos m.correction rx else s
  if s.isTc then (if s.corrects p then s1.forwardSync p m rx else s1.passPtp p m) else s1

/-- A Follow_Up (R52, R54): it completes a two-step Sync; a transparent clock passes it on. -/
def State.ptpFollowUp (s : State) (p : Nat) (m : PtpMsg) : State :=
  let s1 := match (s.ptpPort p).syncPending with
    | some (q, rx, c) =>
      if q = m.seq then
        let t := s.setPtpPort p { s.ptpPort p with syncPending := none }
        if s.tellsTime p then t.measure p m.seconds m.nanos (m.correction + c) rx else t
      else s
    | none => s
  if s.isTc then (if s.corrects p then s1.forwardFollowUp p m else s1.passPtp p m) else s1

/-- A Pdelay_Req is answered with the turnaround, in one step or two (R52); the remainder of the request's receipt time is added to
the response's correction field (R45). -/
def State.ptpPdelayReq (s : State) (p : Nat) (m : PtpMsg) (rx : Nat) : State :=
  if s.on (Od.ptpPortTwoStep p) then
    let t := toPtp rx
    s.sendPtp p ⟨.pdelayResp, m.seq, true, t.1, t.2.1, t.2.2, none, none, m.correction, false⟩ true
  else s.sendPtp p ⟨.pdelayResp, m.seq, false, 0, 0, m.correction, some rx, none, 0, true⟩ false

/-- Neighbour rate ratio less 1, in 2^-48, over the oldest and newest of the last five exchanges that told the responder's transmit
time, 0 where fewer than two did (R55; log 105). -/
def rateRatio (l : List PdExchange) : Int :=
  let told : List (Nat × Nat) := l.filterMap fun e => e.t3.map fun t => (t, e.t4)
  match told.head?, told.getLast? with
  | some (t3, t4), some (u3, u4) =>
    if u4 < t4 then roundDiv ((((t3 : Int) - (u3 : Int)) - ((t4 : Int) - (u4 : Int))) * 2 ^ 48) (t4 - u4 : Nat) else 0
  | _, _ => 0

/-- A valid peer-delay exchange has completed: the median of the last five (R55). -/
def State.exchangeDone (s : State) (p : Nat) (e : PdExchange) : State :=
  let x := s.ptpPort p
  let l := (e :: x.exchanges).take 5
  let s1 := s.setPtpPort p { x with exchanges := l, validSinceUp := x.validSinceUp + 1, awaiting := false, respPending := none }
  let s2 := s1.setReg (Od.ptpPortMeanLinkDelay p) (ofSigned 64 (median (l.map (·.delay))))
  (s2.setReg (Od.ptpPortRateRatio p) (ofSigned 64 (rateRatio l))).reselect

/-- The mean link delay of one exchange (R55): half of what lies between its times `sent` and `got` less the responder's turnaround,
in 2^-16 ns, and the port's asymmetry; one exact quantity rounded once (R43, R65). -/
def State.exchangeDelay (s : State) (p got sent : Nat) (turnaround : Int) : Int :=
  roundDiv ((dripDiff got sent - s.asymmetry p) * 1000000000 - turnaround * 2 ^ 20) (2 * 1000000000)

/-- A Pdelay_Resp to the request in progress (R55). -/
def State.ptpPdelayResp (s : State) (p : Nat) (m : PtpMsg) (rx : Nat) : State :=
  let x := s.ptpPort p
  match x.reqSentAt with
  | some t1 =>
    if !x.awaiting || m.seq ≠ x.reqSeq then s
    else if m.twoStep then s.setPtpPort p { x with respPending := some (rx, m.seconds, m.nanos, m.correction) }
    else s.exchangeDone p ⟨s.exchangeDelay p rx t1 m.correction, none, rx⟩
  | none => s

/-- A Pdelay_Resp_Follow_Up completes a two-step exchange (R55). -/
def State.ptpPdelayFollowUp (s : State) (p : Nat) (m : PtpMsg) : State :=
  let x := s.ptpPort p
  match x.reqSentAt, x.respPending with
  | some t1, some (t4, sec, ns, c) =>
    if !x.awaiting || m.seq ≠ x.reqSeq then s
    else
      s.exchangeDone p
        ⟨s.exchangeDelay p t4 t1 (ptpExact m.seconds m.nanos (m.correction + c) - ptpExact sec ns 0),
          fromPtp m.seconds m.nanos m.correction, t4⟩
  | _, _ => s

/-- PTP_MESSAGE_RECEIVED (R43, R44, R52): the command's instant is the message's receive timestamp at the lands. -/
def State.ptpReceived (s : State) (p : Nat) (m : PtpMsg) : State :=
  if !s.ptpUp p then s
  else
    let rx := dripAdd s.now (-(s.regI 64 (Od.ptpPortIngressLatency p)))
    if (fromPtp m.seconds m.nanos m.correction).isNone then
      (s.setTimeUnit fun t => { t with malformed := t.malformed + 1 }).timeFlag 5
    else if m.domain ≠ s.reg Od.ptpDomain then
      match m.kind with
      | .sync | .followUp | .announce | .management | .other => if s.isTc then s.passPtp p m else s
      | .delayReq | .delayResp => s.forwardDelay p m
      | .pdelayReq | .pdelayResp | .pdelayRespFollowUp => s
    else
      match m.kind with
      | .sync => s.ptpSync p m rx
      | .followUp => s.ptpFollowUp p m
      | .pdelayReq => s.ptpPdelayReq p m rx
      | .pdelayResp => s.ptpPdelayResp p m rx
      | .pdelayRespFollowUp => s.ptpPdelayFollowUp p m
      | .announce =>
        let s1 := s.setPtpPort p { s.ptpPort p with foreign := m.data, lastAnnounce := s.now }
        let s2 := s1.reselect
        if s.isTc then s2.passPtp p m else s2
      | .delayReq | .delayResp => s.forwardDelay p m
      | .management | .other => if s.isTc then s.passPtp p m else s

def execPtpMessageReceived (at_ : Instant) (port : Nat) (msg : PtpMsg) (s : State) : Result :=
  act (port < 32) 3 (s.arrive at_) fun s => s.ptpReceived port msg

/-! ### PTP transmission (R45, R52, R53) -/

/-- The module acts as a master on a port: a grandmaster-capable or boundary clock, not the slave port. -/
def State.mastersAt (s : State) (p : Nat) : Bool :=
  s.ptpUp p && (s.reg Od.ptpClockType = 1 || s.reg Od.ptpClockType = 2) &&
    match s.bestPort with
    | some q => s.reg Od.ptpClockType = 2 && q ≠ p
    | none => true

/-- PTP_SYNC_SEND (R45, R52). -/
def State.sendSync (s : State) (p : Nat) : State :=
  if !s.mastersAt p then s
  else
    let x := s.ptpPort p
    let two := s.on (Od.ptpPortTwoStep p)
    (s.setPtpPort p { x with syncSeq := (x.syncSeq + 1) % 2 ^ 16 }).sendPtp p
      ⟨.sync, x.syncSeq, two, 0, 0, 0, none, none, 0, !two⟩ two

def execPtpSyncSend (at_ : Instant) (port : Nat) (s : State) : Result :=
  act (port < 32) 3 (s.arrive at_) fun s => s.sendSync port

/-- PTP_ANNOUNCE_SEND (R52, R53): the own data set, or as a boundary clock its master's, with the TLV of the profile; the origin time
has no correction beside it (R45; log 114). -/
def State.sendAnnounce (s : State) (p : Nat) : State :=
  if !s.mastersAt p then s
  else
    let x := s.ptpPort p
    let data := match s.bestPort with
      | some q => match (s.ptpPort q).foreign with
        | some a => { a with stepsRemoved := a.stepsRemoved + 1, tlv := s.reg Od.ptpProfile = 1 }
        | none => s.ownAnnounce
      | none => s.ownAnnounce
    let t := toPtpRounded s.now
    (s.setPtpPort p { x with announceSeq := (x.announceSeq + 1) % 2 ^ 16 }).sendPtp p
      ⟨.announce, x.announceSeq, false, t.1, t.2, 0, none, some data, 0, false⟩ false

def execPtpAnnounceSend (at_ : Instant) (port : Nat) (s : State) : Result :=
  act (port < 32) 3 (s.arrive at_) fun s => s.sendAnnounce port

/-- PDELAY_REQ_SEND (R52, R55): a new exchange, the port's asymmetry subtracted from its correction field (R65); one still waiting
has failed, so valid exchanges are no longer in a row until two have completed after link-up. -/
def State.sendPdelayReq (s : State) (p : Nat) : State :=
  if !s.ptpUp p then s
  else
    let x := s.ptpPort p
    let n := (x.reqSeq + 1) % 2 ^ 16
    (s.setPtpPort p { x with
        reqSeq := n, awaiting := true, reqSentAt := none, respPending := none
        validSinceUp := if x.awaiting && x.validSinceUp < 2 then 0 else x.validSinceUp }).sendPtp p
      ⟨.pdelayReq, n, false, 0, 0, -toCorrection (s.asymmetry p), none, none, 0, false⟩ true

def execPdelayReqSend (at_ : Instant) (port : Nat) (s : State) : Result :=
  act (port < 32) 3 (s.arrive at_) fun s => s.sendPdelayReq port

/-- ANNOUNCE_RECEIPT_TIMEOUT (R52, R56): no Announce for three intervals of 1 s (the defaults; no entry sets them). -/
def State.announceTimeout (s : State) (p : Nat) : State :=
  let x := s.ptpPort p
  if x.foreign.isSome && x.lastAnnounce + 3 * second ≤ s.now then (s.setPtpPort p { x with foreign := none }).reselect else s

def execAnnounceReceiptTimeout (at_ : Instant) (port : Nat) (s : State) : Result :=
  act (port < 32) 3 (s.arrive at_) fun s => s.announceTimeout port

/-! ### Holdover (R56, R60) -/

def execHoldoverOutOfSpec (at_ : Instant) (s : State) : Result :=
  act true 3 (s.arrive at_) fun s =>
    if s.time.servo = .holdover && s.holdExceeded && !s.time.frozen then s.setServo .holdoverOutOfSpec else s

/-- FREQUENCY_STORE (R56): once an hour while LOCKED; the filtered frequency is the one in force (log 105). -/
def State.storeFrequency (s : State) : State :=
  if s.time.servo = .locked && s.time.storedAt + 3600 * second ≤ s.now && !s.time.frozen then
    s.setTimeUnit fun t => { t with storedFreq := some t.freq, storedAt := t.now }
  else s

def execFrequencyStore (at_ : Instant) (s : State) : Result := act true 3 (s.arrive at_) fun s => s.storeFrequency

/-! ### SET_TIME and STEP_NOW (R58, R59, R511) -/

/-- A write of SET_TIME. -/
def State.writeSetTime (s : State) (t : Nat) : Answer :=
  if s.time.sourceValid then s.refuse stBusy
  else
    let offset := dripDiff t s.now
    if s.beyondStep offset && !s.outEnabled then (s.stepTime offset).ok
    else
      let s1 := s.setTimeUnit fun u => { u with setOffset := offset, setAt := u.now, offset := offset }
      ((if s.beyondStep offset then s1.timeFlag 1 else s1).steer).ok

def execSetTime (at_ : Instant) (time : Nat) (s : State) : Result :=
  act true 3 (s.arrive at_) fun s => (s.writeSetTime (time % 2 ^ 80)).told

/-- What remains of an offset of SET_TIME: slewing has removed an amount the spec bounds by the slew limit and does not
state, so a free value within it. -/
def State.remaining (s : State) : Int × State :=
  let o := s.time.setOffset
  let most := min o.natAbs ((s.now - s.time.setAt) * s.reg Od.ptpSlewLimit / 1000000000)
  let gone : Int := (s.freeBelow (most + 1) : Nat)
  (if 0 ≤ o then o - gone else o + gone, s.drew)

/-- A write of STEP_NOW: an explicit step of an offset beyond the step threshold, the source's or SET_TIME's. -/
def State.writeStepNow (s : State) (value : Nat) : Answer :=
  if 2 ≤ value then s.refuse stTypeMismatch
  else if value = 0 then s.ok
  else if s.time.sourceValid then (if s.beyondStep s.time.offset then s.stepTime s.time.offset else s).ok
  else
    let r := s.remaining
    (if r.2.beyondStep r.1 then r.2.stepTime r.1 else r.2).ok

def execStepNow (at_ : Instant) (value : Nat) (s : State) : Result :=
  act true 3 (s.arrive at_) fun s => (s.writeStepNow value).told

/-! ### PPS (R57, R61 to R63) -/

/-- How far the known time lies ahead of the count (R62): by the PTP time, else by a time of SET_TIME not yet reached, else not. -/
def State.timeAhead (s : State) : Int × State :=
  match s.time.ptpOffset with
  | some o => (o, s)
  | none => if s.time.setOffset = 0 then (0, s) else s.remaining

/-- PPS_IN_EDGE (R61, R62): the active edge is the rising one; pulses shorter than 100 ns are ignored. -/
def State.ppsEdge (s : State) (e : PpsEdge) : State :=
  if !s.on Od.ppsInEnable || !e.rising || e.width < 6872 || s.time.frozen then s
  else
    let t : Int := (s.now : Int) - s.regI 64 Od.ppsInCableDelay
    let known := s.timeAhead
    let s := known.2
    let offset := roundDiv (t + known.1) (2 ^ 36) * 2 ^ 36 - t
    if 2 * 2 ^ 36 < 5 * offset.natAbs then s
    else if s.time.ppsLocked && (ofUs 100 : Nat) < offset.natAbs then
      s.setTimeUnit fun u => { u with ppsRejected := u.ppsRejected + 1 }
    else
      let s1 := (s.setTimeUnit fun u => { u with ppsLastEdge := u.now, ppsValid := true }).reselect
      if s1.time.source = some .pps then s1.servoUpdate offset else s1

def execPpsInEdge (at_ : Instant) (edge : PpsEdge) (s : State) : Result :=
  act true 3 (s.arrive at_) fun s => s.ppsEdge edge

/-- PPS_IN_INVALID (R62): three seconds without an accepted edge. -/
def State.ppsLost (s : State) : State :=
  if s.time.ppsValid && s.time.ppsLastEdge + 3 * second ≤ s.now && !s.time.frozen then
    ((s.setTimeUnit fun u => { u with ppsValid := false, ppsLocked := false }).timeFlag 4).reselect
  else s

def execPpsInInvalid (at_ : Instant) (s : State) : Result := act true 3 (s.arrive at_) fun s => s.ppsLost

/-- PPS_OUT_RISE (R63): at the top of a second plus the offset a pulse rises where pulses are driven. -/
def State.ppsRise (s : State) : State :=
  let s1 := s.ppsRefresh
  if s1.time.drivesPps && s1.time.ppsDue && !s1.time.ppsOut then
    s1.setTimeUnit fun u => { u with ppsOut := true, ppsRoseAt := u.now }
  else s1

def execPpsOutRise (at_ : Instant) (s : State) : Result := act true 3 (s.arrive at_) fun s => s.ppsRise

/-- PPS_OUT_FALL (R63): after the high time. -/
def State.ppsFall (s : State) : State :=
  let s1 := s.ppsRefresh
  if s1.time.ppsRoseAt + s1.time.ppsWidth ≤ s1.now then s1.setTimeUnit fun u => { u with ppsOut := false } else s1

def execPpsOutFall (at_ : Instant) (s : State) : Result := act true 3 (s.arrive at_) fun s => s.ppsFall

/-! ### The tick rate (R9, R49, R211) -/

/-- TICK_RATE_CHANGE: the committed rate is in force from its second on; rings restart empty, the curd store is emptied. -/
def State.changeRate (s : State) : State :=
  match s.time.rateNext with
  | some (r, t) =>
    if t ≤ s.now then
      ((s.setTimeUnit fun u => { u with rateNext := none }).setReg Od.tickRate r).clearRings.renumber.emptyStore
    else s
  | none => s

def execTickRateChange (at_ : Instant) (s : State) : Result := act true 3 (s.arrive at_) fun s => s.changeRate

end Sys2Proof.Machine
end

