-- ==== Sys2Proof/Machine/EntryWrites.lean ====
section
/-!
DEFINITION. Writes of LIVE entries as the dictionary protocol brings them (R431 and the entry tables of every chapter): the type of a
value (R429), and what each entry does with it.
-/

namespace Sys2Proof.Machine

open Sys2Proof

/-! ### Types (R428, R429) -/

/-- A continuation octet of UTF-8. -/
def utf8Tail (b : Byte) : Bool := b.toNat / 64 = 2

/-- How many continuation octets may follow these first two octets of a character of more than one: none where they begin none. -/
def utf8Lead (a b : Nat) : Option Nat :=
  if 0xC2 ≤ a && a ≤ 0xDF then some 1
  else if a = 0xE0 then (if 0xA0 ≤ b then some 2 else none)
  else if a = 0xED then (if b ≤ 0x9F then some 2 else none)
  else if 0xE1 ≤ a && a ≤ 0xEF then some 2
  else if a = 0xF0 then (if 0x90 ≤ b then some 3 else none)
  else if a = 0xF4 then (if b ≤ 0x8F then some 3 else none)
  else if 0xF1 ≤ a && a ≤ 0xF3 then some 3
  else none

/-- Octets are valid UTF-8, `need` continuation octets still expected. -/
def utf8From (need : Nat) : List Byte → Bool
  | [] => need = 0
  | b :: bs =>
    if need ≠ 0 then utf8Tail b && utf8From (need - 1) bs
    else if b.toNat < 0x80 then utf8From 0 bs
    else
      match utf8Lead b.toNat ((bs.head?.map (·.toNat)).getD 0) with
      | none => false
      | some n => utf8From n bs

def utf8Ok (bs : List Byte) : Bool := utf8From 0 bs

/-- A value fits a type (R429); the limit of a DOMAIN is that of its transfer. -/
def typeFits (ty : EdpType) (v : List Byte) : Bool :=
  match ty with
  | .bool => v.length = 1 && ofBe v < 2
  | .string n => v.length ≤ n && utf8Ok v
  | .domain => true
  | .u8 | .u16 | .u32 | .u64 | .i8 | .i16 | .i32 | .i64 | .q16_16 | .q1_31 | .drip80 | .drip64 | .turn32 | .iturn32 | .mac48
  | .ipaddr | .octets _ => v.length = ty.size

/-- A numeric value lies within the ranges its table gives. -/
def rangeFits (r : OdRow) (v : List Byte) : Bool :=
  r.ty.isBlob || r.ok.isEmpty || r.ok.any fun q => q.1 ≤ ofBe v && ofBe v ≤ q.2

/-! ### Entries whose write is a setting -/

/-- A LIVE setting, applied at once. -/
def State.writeSetting (s : State) (index sub : Nat) (r : OdRow) (v : List Byte) : Answer :=
  if rangeFits r v then (s.storeEntry index sub r v).ok else s.refuse stInvalidValue

/-- TEMP_WARN and VBAT_LOW: the standing flags follow the new setting (R472). -/
def State.writeEnv (s : State) (index sub : Nat) (r : OdRow) (v : List Byte) : Answer :=
  let a := s.writeSetting index sub r v
  if a.code ≠ 0 then a else a.state.envStand.ok

/-- Settings of PPS_OUT apply at the next top of a second (R63); the settings of PPS_IN at once, so that the source is chosen anew
(R57). -/
def State.writePps (s : State) (sub : Nat) (r : OdRow) (v : List Byte) : Answer :=
  let a := s.ppsRefresh.writeSetting 0x1140 sub r v
  if a.code ≠ 0 then s.refuse a.code
  else if sub ≤ 2 then (if sub = 1 && !s.time.frozen then a.state.reselect else a.state).ok
  else a.state.ppsChanged.ok

/-- XOFF_THRESHOLD and XON_THRESHOLD keep 2,048 octets apart (R97); a threshold applies from the next frame or interval (R105). -/
def State.writePort (s : State) (p sub : Nat) (r : OdRow) (v : List Byte) : Answer :=
  let n := ofBe v
  let far := match sub with
    | 0x0A => decide (s.reg (Od.portXonThreshold p) + 2048 ≤ n)
    | 0x0B => decide (n + 2048 ≤ s.reg (Od.portXoffThreshold p))
    | _ => true
  if !far then s.refuse stInvalidValue
  else s.writeSetting (0x2000 + p) sub r v

/-- A role key must name a slot with ALG 7 and DERIVE for internal consumer 2, or none (R374). -/
def State.writeRoleKey (s : State) (sub : Nat) (r : OdRow) (v : List Byte) : Answer :=
  let n := ofBe v
  if n = 0xFF || s.admits .edpRole (s.slotRecord n) then s.writeSetting 0x9002 sub r v else s.refuse stInvalidValue

/-! ### Entries whose write is a command -/

/-- CLEAR_RETIREMENT needs VENDOR_SERVICE for a memory instance (R405). -/
def State.writeClearUnit (s : State) (role unit : Nat) : Answer :=
  if unit / 4096 = 7 && role < 4 then s.refuse stDenied else s.writeClearRetirement unit

/-- The key operations of R375. -/
def keyOpOf (n : Nat) : Option KeyOp :=
  match n with
  | 1 => some .derive
  | 2 => some .load
  | 3 => some .generate
  | 4 => some .destroy
  | 5 => some .bump
  | 6 => some .export_
  | 7 => some .import_
  | _ => none

/-- A write of KEY_COMMAND. -/
def State.writeKeyCommand (s : State) (role session : Nat) (v : List Byte) : Answer :=
  match keyCmdOf v with
  | none => s.refuse stInvalidValue
  | some (n, c) =>
    match keyOpOf n with
    | none => s.refuse stInvalidValue
    | some op => s.keyCommand op role session c

/-- A life-cycle state by its code (R363). -/
def lcOf (n : Nat) : Option LifeCycle :=
  match n with
  | 0x01 => some .manufacture
  | 0x02 => some .shipped
  | 0x04 => some .owned
  | 0x08 => some .return_
  | 0x10 => some .decommissioned
  | _ => none

/-- A token as it stands in a request (R367): a body of 56 octets and a signature. -/
def tokenOf (bs : List Byte) : Option Token :=
  if bs.length < 56 || beAt bs 0 4 ≠ 0x56584C43 || beAt bs 15 9 ≠ 0 then none
  else some ⟨beAt bs 4 8, beAt bs 12 1, beAt bs 13 1, beAt bs 14 1, slice bs 24 32, bs.drop 56⟩

/-- A write of LC_REQUEST (R366). -/
def State.writeLcRequest (s : State) (role slot : Nat) (v : List Byte) : Answer :=
  match lcOf (beAt v 0 1) with
  | none => s.refuse stInvalidValue
  | some to_ =>
    if v.length < 132 then s.refuse stInvalidValue
    else
      s.lcRequest role slot to_
        ⟨beAt v 1 1, bit (beAt v 2 1) 0, slice v 4 32, slice v 36 64, slice v 100 32, tokenOf (v.drop 132)⟩

/-- A write of a port's RESET of a pail (R266): value 1 resets an enabled pail. -/
def State.writePailReset (s : State) (p value : Nat) : Answer :=
  (if value ≠ 0 && s.on (Od.pailEnable p) then s.resetPail p else s).ok

/-! ### Every LIVE entry -/

/-- Who writes: the session's role and slot, and the session. -/
structure Writer where
  role : Nat
  slot : Nat
  session : Nat
  deriving DecidableEq, Repr

/-- LIVE entries below 0x4000. -/
def State.writeLower (s : State) (w : Writer) (index sub : Nat) (r : OdRow) (v : List Byte) : Answer :=
  let n := ofBe v
  if index = 0x1100 then (if sub = 7 then s.writeSetTime n else s.writeStepNow n)
  else if index = 0x1140 then s.writePps sub r v
  else if index = 0x1200 && sub = 7 then s.writeClearUnit w.role n
  else if index = 0x1200 && sub = 0x0C then s.writeModuleRestart n
  else if 0x2000 ≤ index && index < 0x2020 then s.writePort (index - 0x2000) sub r v
  else if 0x2040 ≤ index && index < 0x2060 then s.clearHalfRange (index - 0x2040) n
  else if index = 0x2200 then
    (if sub = 1 then s.writeResidence n else if sub = 3 then s.writeBarrier n else s.clearForwarding n)
  else if 0x2210 ≤ index && index ≤ 0x2250 then s.writeStatic ((index - 0x2210) * 255 + (sub - 1)) n
  else if 0x2260 ≤ index && index ≤ 0x2264 then s.writeGroup ((index - 0x2260) * 255 + (sub - 1)) n
  else s.writeSetting index sub r v

/-- LIVE entries from 0x4000 to 0x7FFF. -/
def State.writeMiddle (s : State) (index sub : Nat) (r : OdRow) (v : List Byte) : Answer :=
  let n := ofBe v
  if index = 0x41C0 then s.writeFreezeMap n
  else if index = 0x4200 && sub = 6 then s.writeTriggerNow n
  else if index = 0x4200 && sub = 7 then s.writeReleaseWindow n
  else if index = 0x5000 then s.writeRestart n
  else if index = 0x5020 then s.writeBatch v
  else if index = 0x5100 then s.writeReleaseAll n
  else if 0x5110 ≤ index && index < 0x5118 then s.writeForce ((index - 0x5110) * 128 + (sub - 1)) n
  else if 0x6000 ≤ index && index < 0x6020 then
    let l := index - 0x6000
    if sub = 0x16 then s.writeManualValue l n
    else if sub = 0x1B then s.writeModeRequest l n
    else if sub = 0x1C then s.writeLoopRelease l n
    else if tuningSub sub then s.writeTuning l sub n
    else s.writeValueEntry index sub n
  else if 0x6100 ≤ index && index < 0x6120 then s.writeValueEntry index sub n
  else if 0x6200 ≤ index && index < 0x6208 then s.writeGroupRelease (index - 0x6200) n
  else if 0x7100 ≤ index && index < 0x7140 then
    (if sub = 0x12 then s.writePailReset (index - 0x7100) n else s.writeStateRecord (index - 0x7100) v)
  else s.writeSetting index sub r v

/-- LIVE entries from 0x8000 on. -/
def State.writeUpper (s : State) (w : Writer) (index sub : Nat) (r : OdRow) (v : List Byte) : Answer :=
  let n := ofBe v
  if index = 0x8000 && sub = 0x0E then s.writeSwapNow n
  else if index = 0x8000 && sub = 0x10 then s.writePailMove n
  else if index = 0x9001 then s.writeKeyCommand w.role w.session v
  else if index = 0x9002 then s.writeRoleKey sub r v
  else if index = 0x9100 && sub = 3 then s.writeLcRequest w.role w.slot v
  else if index = 0x9140 && sub = 3 then s.writeTamperClear w.role w.slot n
  else if index = 0x9200 then s.writeNonce w.role w.session n
  else if index = 0xA010 && sub = 5 then s.writeManualRun n
  else if index = 0xA010 && sub = 7 then s.writeHardRepair n
  else if 0xB000 ≤ index && index < 0xB080 && sub = 1 then (s.clearStatus (index - 0xB000) n).ok
  else if 0xB000 ≤ index && index < 0xB080 && sub = 2 then (s.writeEnableMask (index - 0xB000) n).ok
  else if index = 0xD000 then s.writePower n cleanStart
  else if index = 0xD020 || index = 0xD030 then s.writeEnv index sub r v
  else s.writeSetting index sub r v

/-- What a write of a LIVE entry does. -/
def State.liveEntry (s : State) (w : Writer) (index sub : Nat) (r : OdRow) (v : List Byte) : Answer :=
  if index < 0x4000 then s.writeLower w index sub r v
  else if index < 0x8000 then s.writeMiddle index sub r v
  else s.writeUpper w index sub r v

/-- A write of a LIVE entry with a value of its type; after a failed firmware verification only an installation is possible (R386). A
setting is kept (R432). -/
def State.liveWrite (s : State) (w : Writer) (index sub : Nat) (r : OdRow) (v : List Byte) : Answer :=
  if s.power.bootStopped && index ≠ 0x9110 then s.refuse stBusy
  else
    let a := s.liveEntry w index sub r v
    if a.code = 0 && settingKept (index * 256 + sub) then { a with state := a.state.configWritten } else a

end Sys2Proof.Machine
end

