-- ==== Sys2Proof/Machine/Commit.lean ====
section
/-!
DEFINITION. The check of a whole stage at a COMMIT (R446): the refusal rules of the owning chapters, as if all staged values were
in force together. Each staged entry is held against the rules that read it.
-/

namespace Sys2Proof.Machine

open Sys2Proof

/-! ### Ports and redundancy groups -/

/-- R97 and R99 for port `p`: TX_PAUSE_ENABLE on BULK only, SPEED_LOWERING on BULK without PTP. -/
def State.portOk (c : State) (p : Nat) : Bool :=
  (!c.on (Od.portTxPauseEnable p) || c.reg (Od.portRole p) = 3) &&
    (!c.on (Od.portSpeedLowering p) || (c.reg (Od.portRole p) = 3 && !c.on (Od.ptpPortPtpEnable p)))

/-- R131 for group `g`; a QuadBox is one of two HSR groups, each naming the other. -/
def State.groupOk (c : State) (g : Nat) : Bool :=
  let a := c.reg (Od.sepGroupPortA g)
  let b := c.reg (Od.sepGroupPortB g)
  c.groupKind g = 0 ||
    (a ≠ b && a < 32 && b < 32 && c.reg (Od.portMode a) = c.reg (Od.portMode b) && c.reg (Od.portRole a) ≠ 0 &&
      c.reg (Od.portRole b) ≠ 0 &&
      (List.range 16).all (fun h => h = g || c.groupKind h = 0 || (c.groupPorts h).all fun p => p ≠ a && p ≠ b) &&
      (c.reg (Od.sepGroupRole g) ≠ 2 ||
        let h := c.reg (Od.sepGroupQuadboxPeer g)
        c.groupKind g = 2 && h ≠ g && h < 16 && c.groupKind h = 2 && c.reg (Od.sepGroupRole h) = 2 &&
          c.reg (Od.sepGroupQuadboxPeer h) = g))

/-- The groups a port is in keep R131. -/
def State.portGroupsOk (c : State) (p : Nat) : Bool :=
  (List.range 16).all fun g => !(c.groupPorts g).contains p || c.groupOk g

/-! ### Sampled-value subscriptions, channels, outputs -/

/-- R165 for stream `n`: the alignment window against sample period and delays, in units of 1 / (10^6 STREAM_RATE) drips. -/
def State.delaysOk (c : State) (n : Nat) : Bool :=
  let rate := c.reg (Od.svStreamRate n)
  let ds := ((c.svMapOf n).map fun m => [c.channelDelay m.1, c.groupDelay m.1]).flatten
  let most := ds.max?.getD 0
  let least := ds.min?.getD 0
  let w : Int := (c.reg Od.ingestAlignWindow * rate * 2 ^ 36 : Nat)
  let period : Int := (1000000 * 2 ^ 36 : Nat)
  let scale : Int := (1000000 * rate : Nat)
  3 * period + max 0 most * scale ≤ w && w + (most - least) * scale + 3 * period ≤ 62 * period

/-- Two subscriptions have keys that can match one ASDU (R147). -/
def State.sameStream (c : State) (n m : Nat) : Bool :=
  let v := c.reg (Od.svVid n)
  let w := c.reg (Od.svVid m)
  c.reg (Od.svDstMac n) = c.reg (Od.svDstMac m) && c.reg (Od.svAppid n) = c.reg (Od.svAppid m) &&
    c.blob (Od.svid n) = c.blob (Od.svid m) && (v = w || v = 0xFFFF || w = 0xFFFF)

/-- R147 and R165 for an enabled stream `n`. -/
def State.streamOk (c : State) (n : Nat) : Bool :=
  let all := c.mapTable.map (·.1)
  !c.on (Od.svEnable n) ||
    (c.svEntries.all (fun m => m = n || !c.sameStream n m) &&
      (List.range 32).all (fun i =>
        let v := c.reg (Od.svMap n i)
        v = 0xFFFF || (i < c.reg (Od.svChannels n) && v < channelLimit c.rate && all.count v = 1)) &&
      (c.reg (Od.svAuthMode n) ≠ 1 || c.admits .svVerify (c.slotRecord (c.reg (Od.svKeySlotA n)))) && c.delaysOk n)

def State.allDelaysOk (c : State) : Bool := c.svEntries.all c.delaysOk

/-- R219: the channels a frequency group names lie below the limit. -/
def State.fgroupOk (c : State) (g : Nat) : Bool :=
  [Od.fgroupRefChannel g, Od.fgroupBackupChannel g].all fun k => c.reg k = 0xFFFF || c.reg k < channelLimit c.rate

/-- R173: mapped channels and the groups' channels lie below the limit of the tick rate. -/
def State.channelsOk (c : State) : Bool :=
  c.mapTable.all (fun m => m.1 < channelLimit c.rate) && (List.range 64).all c.fgroupOk

/-- R199: no other enabled output has the channel and path of output `p`. -/
def State.outputOk (c : State) (p : Nat) : Bool :=
  !c.outEnable p || c.outputs.all fun q => q = p || c.outChannel q ≠ c.outChannel p || c.outSkim q != c.outSkim p

/-- R217: COEFFICIENTS and CORRECTION of profile `p` have their lengths. -/
def State.profileOk (c : State) (p : Nat) : Bool :=
  let taps := c.reg (Od.profileTaps p)
  (c.blob (Od.profileCoefficients p)).length = 4 * (if c.on (Od.profileSymmetric p) then (taps + 1) / 2 else taps) &&
    (c.blob (Od.profileCorrection p)).length = 21 * 8

/-- GAIN of a filter record and DELAY of a channel record lie in their ranges (R165, R220). -/
def gainOk (w : Nat) : Bool := 0x20000000 ≤ (filterRecord w).gain && (filterRecord w).gain ≤ 0x80000000
def delayOk (w : Nat) : Bool := (toSigned 64 (w % 2 ^ 64)).natAbs ≤ 68719477

/-! ### Partitions and pails -/

/-- R265: the MEMORY of the enabled partitions fits the pool; each is even (R264). -/
def State.memoryOk (c : State) : Bool :=
  (((List.range 96).filter fun n => c.on (Od.partEnable n)).map fun n => c.reg (Od.partMemory n)).sum ≤ c.partitionPool

/-- R339: the largest state image fits its limit. -/
def State.imageFits (c : State) : Bool := c.imageSize ≤ imageLimit c.rate

/-- What pail `p` is given, once each: publications, receive queue, transmit queue, PASID, partition, with a number for the
kind. -/
def State.pailHolds (c : State) (p : Nat) : List (Nat × Nat) :=
  ((List.range 16).filterMap fun i => (c.pailPub p i).map fun j => (0, j)) ++
    (if c.reg (Od.pailRxQueue p) = 0xFF then [] else [(1, c.reg (Od.pailRxQueue p))]) ++
    (if c.reg (Od.pailTxQueue p) = 0xFF then [] else [(2, c.reg (Od.pailTxQueue p))]) ++
    (if c.reg (Od.pailBindKind p) = 2 then [(3, c.reg (Od.pailPasid p))] else []) ++
    (if c.reg (Od.pailBindKind p) = 1 then [(4, c.reg (Od.pailPartition p))] else [])

/-- R238 for pail `p`; its grants name instances that exist. -/
def State.pailOk (c : State) (p : Nat) : Bool :=
  let own := c.pailHolds p
  decide own.Nodup &&
    (List.range 64).all (fun q => q = p || (c.pailHolds q).all fun h => !own.contains h) &&
    (List.range 32).all (fun i => !(c.pailSub p i).any (1024 ≤ ·)) &&
    (List.range 16).all (fun i => !(c.pailPub p i).any (256 ≤ ·)) &&
    (List.range 8).all fun i => !(c.pailCrypto p i).any fun n => 256 ≤ n || !c.bindAdmits (.pailSeal p) (c.slotRecord n)

/-! ### The churn engine -/

/-- R273 and R340: the program and its budgets; none with ENABLE = 1 is refused. -/
def State.programOk (c : State) : Bool :=
  let bs := c.blob Od.churnProgram
  let ticks := c.reg Od.churnCycleTicks
  if bs.isEmpty then !c.on Od.churnEnable
  else imageOk bs && evalFits bs ticks c.rate && (!c.on Od.pairEnable || linkFits bs ticks c.rate)

def State.outputsOk (c : State) : Bool := c.outTableOk (c.blob Od.churnOutputTable)

/-! ### The closed-loop engine (R322) -/

/-- A source code names something that exists and is enabled; NONE and VALUE name nothing. -/
def State.sourceOk (c : State) (code : Nat) : Bool :=
  let i := srcIndex code
  match srcKind code with
  | 0 | 1 | 8 | 9 => true
  | 2 | 3 | 4 | 5 => i < 8192 && c.outEnable i
  | 6 | 7 => i < 64
  | 10 => i < 32 && c.on (Od.genEnable i)
  | 11 => i < 32 && c.heads.contains i
  | _ => false

/-- The binary64 entries of loop `l` are finite, OUT_MIN < OUT_MAX, rates, TF and KB not negative. -/
def State.loopValuesOk (c : State) (l : Nat) : Bool :=
  let at_ (sub : Nat) : Nat := c.reg ((0x6000 + l) * 256 + sub)
  [0x06, 0x07, 0x0A, 0x0B, 0x0C, 0x0D, 0x0E, 0x0F, 0x11, 0x12, 0x13, 0x14, 0x16, 0x19, 0x1A, 0x1D].all (fun b => f64Finite (at_ b)) &&
    f64Lt (at_ 0x11) (at_ 0x12) && [0x0D, 0x0E, 0x13, 0x14].all fun b => f64Le f64Zero (at_ b)

/-- The churn output table writes member `m` of publication `j`. -/
def State.churnWrites (c : State) (j m : Nat) : Bool :=
  (outRecords (c.blob Od.churnOutputTable)).any fun r => r.kind ≤ 2 && r.target = j && r.member = m

/-- OUT_PUB and OUT_MEMBER of a head. -/
def State.outPubOk (c : State) (h : Nat) : Bool :=
  let j := c.reg (Od.loopOutPub h)
  let m := c.reg (Od.loopOutMember h)
  let ty := (c.pubTypes j).getD m 0
  j = 0xFFFF ||
    (j < 256 && !c.pubOwned j && (ty = 2 || ty = 4) && !c.churnWrites j m &&
      c.heads.all fun x => x = h || c.reg (Od.loopOutPub x) ≠ j || c.reg (Od.loopOutMember x) ≠ m)

/-- A loop keeps the rules of R322: those on what it reads and writes where it is enabled. -/
def State.loopOk (c : State) (l : Nat) : Bool :=
  let h := c.headOf l
  let kind (k : Nat) : Nat := srcKind (c.reg k)
  c.reg (Od.loopPhase l) < c.reg (Od.loopPeriod l) && kind (Od.loopFfSource l) ≠ 1 && (!c.loopOn l ||
    (c.reg (Od.loopPeriod l) = c.reg (Od.loopPeriod h) && c.reg (Od.loopPhase l) = c.reg (Od.loopPhase h) &&
      2 ≤ kind (Od.loopMeasSource l) &&
      [Od.loopMeasSource l, Od.loopSpSource l, Od.loopFfSource l, Od.loopManualSource l, Od.loopFollowSource l].all (fun k =>
        c.sourceOk (c.reg k)) &&
      (if h = l then c.outPubOk l else c.reg (Od.loopOutPub l) = 0xFFFF && !c.churnGoverns l)))

/-- Generator `g` keeps them: finite values, positive limits, PHASE below PERIOD, a target that exists. -/
def State.genOk (c : State) (g : Nat) : Bool :=
  [Od.genTarget g, Od.genVmax g, Od.genAmax g, Od.genJmax g].all (fun k => f64Finite (c.reg k)) &&
    [Od.genVmax g, Od.genAmax g, Od.genJmax g].all (fun k => f64Lt f64Zero (c.reg k)) &&
    c.reg (Od.genPhase g) < c.reg (Od.genPeriod g) && (!c.on (Od.genEnable g) || c.sourceOk (c.reg (Od.genTargetSource g)))

/-- R315: the costs due at every work tick fit the budget. -/
def State.scheduleOk (c : State) : Bool := c.schedulePeak ≤ scheduleBudget c.rate

def State.loopsOk (c : State) : Bool :=
  (List.range 32).all (fun l => c.loopOk l && c.loopValuesOk l && c.genOk l) && c.scheduleOk

/-! ### GOOSE -/

/-- Two GOOSE subscriptions can match one message (R465). -/
def State.sameSub (c : State) (n m : Nat) : Bool :=
  let v := c.reg (Od.gsVid n)
  let w := c.reg (Od.gsVid m)
  c.reg (Od.gsDstMac n) = c.reg (Od.gsDstMac m) && c.reg (Od.gsAppid n) = c.reg (Od.gsAppid m) &&
    c.blob (Od.gsGocbRef n) = c.blob (Od.gsGocbRef m) && (v = w || v = 0xFFFF || w = 0xFFFF)

/-- MEMBER_TYPES codes. -/
def typesOk (v : Nat) : Bool := (List.range 32).all fun i => octetElem 32 1 v i ≤ 6

/-- R465 for subscription `n`. -/
def State.subOk (c : State) (n : Nat) : Bool :=
  typesOk (c.reg (Od.gsMemberTypes n)) &&
    (!c.on (Od.gsEnable n) ||
      ((List.range 1024).all (fun m => m = n || !c.on (Od.gsEnable m) || !c.sameSub n m) &&
        (c.reg (Od.gsAuthMode n) ≠ 1 || c.admits .gooseVerify (c.slotRecord (c.reg (Od.gsKeySlotA n))))))

/-- R344: with SRC_MODE = 1, publication `j` leaves through no port of a separator group. -/
def State.srcModeOk (c : State) (j : Nat) : Bool :=
  c.reg (Od.gpSrcMode j) ≠ 1 || (c.decide_ none (c.gooseFrame j {})).ports.all fun p => (c.groupOf p).isNone

/-- R344 and R362 for publication `j`. -/
def State.pubOk (c : State) (j : Nat) : Bool := typesOk (c.reg (Od.gpMemberTypes j)) && c.srcModeOk j

def State.pubsOk (c : State) : Bool := (List.range 256).all c.srcModeOk

/-! ### One staged entry -/

/-- The configuration a stage would make: every staged value in force, the tick rate too. -/
def State.candidate_ (s : State) (stage : List Staged) : State :=
  (s.setReg Od.tickRate s.committedRate).each stage fun e t =>
    match odRow? (e.key / 256) (e.key % 256) with
    | none => t
    | some r => t.storeEntry (e.key / 256) (e.key % 256) r e.value

/-- The entry is refused for now: R49, R123, R166, R211. -/
def State.entryBusy (s c : State) (k : Nat) : Bool :=
  if k = Od.tickRate then c.rate ≠ s.committedRate && (s.outEnabled || s.storeHeld)
  else if k = Od.swTableBlock then s.tablesBusy
  else if k = Od.ingestAlignWindow then c.reg k ≠ s.reg k && s.outEnabled
  else if Od.filterRecord 0 ≤ k && k ≤ Od.filterRecord 8191 then
    (filterRecord (c.reg k)).hist != (filterRecord (s.reg k)).hist && s.storeHeld
  else false

/-- The rules that read an entry below 0x5000 hold in a configuration. -/
def State.lowerHolds (c : State) (index sub : Nat) : Bool :=
  let k := index * 256 + sub
  if index = 0x1101 then c.channelsOk && c.programOk && c.scheduleOk && c.imageFits
  else if 0x1120 ≤ index && index < 0x1140 then c.portOk (index - 0x1120)
  else if 0x2000 ≤ index && index < 0x2020 then c.portOk (index - 0x2000) && c.portGroupsOk (index - 0x2000)
  else if 0x2080 ≤ index && index < 0x20A0 then filterRuleOk (c.reg k)
  else if 0x2310 ≤ index && index < 0x2320 then (List.range 16).all c.groupOk && c.pubsOk
  else if 0x3000 ≤ index && index < 0x3200 then c.streamOk (index - 0x3000) && c.authLoad ≤ 5000000
  else if index = 0x3400 then c.allDelaysOk
  else if 0x3480 ≤ index && index < 0x3500 then delayOk (c.reg k) && c.allDelaysOk
  else if 0x4000 ≤ index && index < 0x4040 then c.profileOk (index - 0x4000)
  else if 0x4100 ≤ index && index < 0x4140 then c.fgroupOk (index - 0x4100) && c.allDelaysOk
  else if 0x4140 ≤ index && index < 0x4180 then c.outputOk ((index - 0x4140) * 128 + (sub - 1)) && c.loopsOk
  else if 0x4180 ≤ index && index < 0x41C0 then gainOk (c.reg k) && c.allDelaysOk
  else true

/-- The rules that read an entry from 0x5000 on hold. -/
def State.upperHolds (c : State) (index sub : Nat) : Bool :=
  if index = 0x5000 then
    if sub = 4 then inTableOk (c.blob Od.churnInputTable)
    else if sub = 5 then c.outputsOk && c.loopsOk
    else c.programOk && (sub ≠ 2 || c.imageFits)
  else if index = 0x5030 then field (c.reg (index * 256 + sub)) 8 14 ≤ 10000 && c.outputsOk
  else if 0x6000 ≤ index && index < 0x6200 then c.loopsOk
  else if 0x7000 ≤ index && index < 0x7060 then
    if sub = 4 then c.reg (index * 256 + sub) % 2 = 0 && c.memoryOk
    else if sub = 7 then c.reg (index * 256 + sub) % 64 = 0 && c.imageFits
    else if sub = 6 then windowsOk (c.blob (Od.partWindows (index - 0x7000))) && c.tableOk c.committedWindows
    else if sub = 1 then c.tableOk c.committedWindows && c.memoryOk && c.imageFits
    else true
  else if index = 0x7060 then c.tableOk c.committedWindows
  else if 0x7100 ≤ index && index < 0x7140 then c.pailOk (index - 0x7100) && c.outputsOk && c.loopsOk
  else if index = 0x8000 && sub = 1 then !c.on Od.pairEnable || (c.imageFits && c.programOk)
  else if 0xE000 ≤ index && index < 0xE400 then c.subOk (index - 0xE000)
  else if 0xE400 ≤ index && index < 0xE500 then c.pubOk (index - 0xE400) && c.outputsOk && c.loopsOk
  else true

/-- The status of a staged entry at a COMMIT: BUSY before INVALID_VALUE (R438). -/
def State.stagedStatus (s c : State) (e : Staged) : Nat :=
  let index := e.key / 256
  let sub := e.key % 256
  if s.entryBusy c e.key then stBusy
  else
    match s.entry? index sub with
    | none => stNoEntry
    | some r =>
      if rangeFits r e.value && (if index < 0x5000 then c.lowerHolds index sub else c.upperHolds index sub) then 0
      else stInvalidValue

/-- The first failing entry of the stage, by rising index and subindex, with its status. -/
def State.commitCheck (s : State) : Option (Nat × Nat) :=
  let c := s.candidate_ s.edp.stage
  s.edp.stage.findSome? fun e => if s.stagedStatus c e = 0 then none else some (e.key, s.stagedStatus c e)

/-! ### The stage (R445) -/

/-- Put a value into the stage, which is kept by rising key. -/
def putStaged (e : Staged) : List Staged → List Staged
  | [] => [e]
  | x :: xs => if e.key < x.key then e :: x :: xs else if e.key = x.key then e :: xs else x :: putStaged e xs

/-- The octets the stage holds. -/
def stageSize (l : List Staged) : Nat := (l.map fun e => e.value.length).sum

/-- A WINDOWS entry (R264). -/
def windowsEntry (index sub : Nat) : Bool := 0x7000 ≤ index && index < 0x7060 && sub = 6

/-- A value that is refused when it is written already: filter rules, DELAY and GAIN (R85, R174, R220). -/
def refusedAtOnce (index : Nat) (v : List Byte) : Bool :=
  (0x2080 ≤ index && index < 0x20A0 && !filterRuleOk (ofBe v)) ||
  (0x3480 ≤ index && index < 0x3500 && !delayOk (ofBe v)) || (0x4180 ≤ index && index < 0x41C0 && !gainOk (ofBe v))

/-- A staging write by the session that would own the stage: a window list that holds no whole records or too many of them is no value of its
type; then COMMITTING, BUSY, INVALID_VALUE, TOO_LARGE, in this order. -/
def State.stageWrite (s : State) (owner index sub : Nat) (v : List Byte) : Answer :=
  if windowsEntry index sub && 64 * 16 < v.length then s.refuse stTooLarge
  else if windowsEntry index sub && !windowsOk v then s.refuse stTypeMismatch
  else if s.edp.commit.isSome then s.refuse stCommitting
  else if s.edp.owner.any (· ≠ owner) then s.refuse stBusy
  else if refusedAtOnce index v then s.refuse stInvalidValue
  else
    let stage := putStaged ⟨index * 256 + sub, v⟩ s.edp.stage
    if 2 ^ 24 < stageSize stage then s.refuse stTooLarge
    else (s.setEdp fun e => { e with stage := stage, owner := some owner }).ok

/-- A COMMIT is accepted: the stage applies at the first tick that begins at least 100 µs later (R446). -/
def State.acceptCommit (s : State) (session seq : Nat) (op : Option Nat) : State :=
  let g := tickOf s.rate (s.now + ofUs 100 - 1) + 1
  s.setEdp fun e => { e with commit := some ⟨session, seq, s.now, s.tickAt g, g, op⟩, owner := some session }

end Sys2Proof.Machine
end

