-- ==== Sys2Proof/Machine/Protocol.lean ====
section
/-!
DEFINITION. Shared operations of the dictionary protocol (13_dictionary_protocol_and_long_operations.md): replies and their PDUs (R435,
R440), the checks of a request (R438, R439, R441), access to an entry (R430), the value of an entry as a session reads it.
-/

namespace Sys2Proof.Machine

open Sys2Proof

/-! ### Transports (R433, R484) -/

/-- The largest payload, and the number of sessions. -/
def payloadLimit : Transport → Nat
  | .udp => 1400
  | .mailbox => 12248
  | .uart => 1024
def sessionLimit : Transport → Nat
  | .udp => 24
  | .mailbox | .uart => 4

/-- A transport brings requests: its domain is powered, and the link from its die to the supervisor's works (R28); the mailbox only
outside TAMPER_HOLD, and while it is BUSY with one. -/
def State.transportUp (s : State) : Transport → Bool
  | .udp => s.powered 3 && !s.cut 4
  | .mailbox => s.powered 11 && !s.cut 5 && decide (s.power.state ≠ PowerState.tamperHold) && s.edp.mbxBusy
  | .uart => s.powered 11 && !s.cut 5

/-! ### Replies (R435, R439, R440) -/

/-- The 24-byte header of a reply. -/
def Reply.header (r : Reply) : List Byte :=
  pduHeader 1 r.opcode r.flags r.session r.seq r.index r.sub r.status r.payload.length r.handle

/-- The PDU under the module-to-client key: clear without a tag, a SESSION_OPEN's nonce in clear with its tag, else sealed. -/
def Reply.pdu (r : Reply) (key : List Byte) : List Byte :=
  if !r.tagged then r.header ++ r.payload
  else if r.opcode = 0x30 then
    r.header ++ r.payload ++ gcmTag key (gcmIv r.session 1 0) (r.header ++ r.payload) []
  else sealedPdu key (gcmIv r.session 1 r.seq) r.header r.payload

/-- A reply leaves: over the mailbox its PDU stands in the response buffer, RESPONSE_READY is set and vector 64 sent (R434). -/
def State.sendReply (s : State) (t : Transport) (key : List Byte) (r : Reply) : State :=
  let s1 := (s.emit (.reply r)).sendPdu t (r.pdu key)
  match t with
  | .udp | .uart => s1
  | .mailbox => (s1.setEdp fun e => { e with mbxResp := r.pdu key, mbxReady := true, mbxBusy := false }).msix 64

/-- A request discarded without reply; the mailbox is no longer busy with it. -/
def State.discardReq (s : State) (t : Transport) : State :=
  match t with
  | .udp | .uart => s
  | .mailbox => s.setEdp fun e => { e with mbxBusy := false }

/-- The reply to a request, with RESPONSE set. -/
def replyTo (q : Req) (opcode status : Nat) (payload : List Byte) : Reply :=
  { opcode := opcode, flags := 1, session := q.session, seq := q.seq, index := q.index, sub := q.sub, status := status
    handle := q.handle, payload := payload, tagged := true }

/-- A reply in clear, without a tag (R439). -/
def State.answerClear (s : State) (q : Req) (opcode status : Nat) : State :=
  s.sendReply q.transport [] { replyTo q opcode status [] with tagged := false }

/-- A reply over its limit is TOO_LARGE (R437). -/
def Reply.limited (r : Reply) (t : Transport) : Reply :=
  if payloadLimit t < r.payload.length then { r with status := stTooLarge, payload := [], flags := 1 } else r

/-- A session's reply: kept as the last one where the request is the latest processed, and sent. -/
def State.answerSession (s : State) (sid : Nat) (x : Session) (r : Reply) : State :=
  let r1 := r.limited x.transport
  let s1 := match s.session? sid with
    | some y => if y.highest = r1.seq then s.setSession sid { y with lastReply := some r1 } else s
    | none => s
  s1.sendReply x.transport (x.keys.drop 32) r1

/-! ### What brings a request (R433 to R435, R440) -/

/-- The 24-byte header of a request, and the tag of GCM over it and the ciphertext under the client-to-module key. -/
def reqHeader (q : Req) (opcode : Nat) : List Byte :=
  pduHeader q.version opcode q.flags q.session q.seq q.index q.sub 0 q.payload.length q.handle
def reqIv (q : Req) : List Byte := gcmIv q.session 0 q.seq
def reqTag (q : Req) (opcode : Nat) (key : List Byte) : List Byte :=
  gcmTag key (reqIv q) (reqHeader q opcode) (gcmCrypt key (reqIv q) q.payload)

/-- The tag of a request verifies. -/
def reqVerifies (q : Req) (opcode : Nat) (key : List Byte) : Bool := q.tag.all fun t => t = reqTag q opcode key

/-- The octets of a request: in clear without a tag for SESSION_OPEN. -/
def reqPdu (q : Req) (opcode : Nat) (key : List Byte) : List Byte :=
  if opcode = 0x30 then reqHeader q opcode ++ q.payload
  else reqHeader q opcode ++ gcmCrypt key (reqIv q) q.payload ++ q.tag.getD (reqTag q opcode key)

/-- The client-to-module key of a session. -/
def Session.clientKey (x : Session) : List Byte := x.keys.take 32

/-- The addresses of the management stack (R454): MGMT_IPV4 and MGMT_IPV6 where set, and the link-local address. -/
def State.managementAddress (s : State) (a : Nat) : Bool :=
  (a = s.reg Od.mgmtIpv4 && a ≠ 0xFFFF00000000) || (a = s.reg Od.mgmtIpv6 && a ≠ 0) || a = 0xFE80 * 2 ^ 112 + Config.interfaceId.toNat

/-- The first `n` octets of the mailbox's request buffer. -/
def Edp.requestBytes (e : Edp) (n : Nat) : List Byte :=
  ((List.range ((n + 3) / 4)).map fun i => leBytes 4 (Tab.look e.mbxReq i 0)).flatten.take n

/-- A request reaches the protocol: a datagram for the management stack's address, port and VID, a UART frame with a good CRC, or the
request in the mailbox's buffer. -/
def State.carried (s : State) (opcode : Nat) (q : Req) : Bool :=
  match q.transport with
  | .udp => q.dest.all fun d => s.managementAddress d.1 && d.2.1 = s.reg Od.mgmtEdpUdpPort && d.2.2 = s.reg Od.mgmtVid
  | .uart => q.crc.all fun c => c = uartCrc (reqPdu q opcode (((s.session? q.session).map (·.clientKey)).getD []))
  | .mailbox => s.edp.requestBytes 24 = reqHeader q opcode && s.edp.mbxReqLen = 24 + q.payload.length + (if opcode = 0x30 then 0 else 16)

/-! ### Requests (R438, R439, R441, R442) -/

/-- What a request comes to: the state, and its reply; none where the reply comes later. -/
structure Served where
  state : State
  reply : Option Reply

/-- A verified request opens its session and restarts its time. -/
def State.verified (s : State) (sid : Nat) (x : Session) : State :=
  (s.setSession sid { x with opened := true, lastAt := s.now }).when_ (!x.opened) fun t => t.edpFlag 2 x.transport

/-- A verified request of a session, by its sequence: processed, answered again, or discarded as a replay. -/
def State.sequenced (s : State) (x : Session) (q : Req) (serve : State → Session → Served) : State :=
  let s1 := s.verified q.session x
  let y : Session := { x with opened := true, lastAt := s.now, highest := q.seq }
  if x.highest < q.seq then
    let r := serve (s1.setSession q.session y) y
    match r.reply with
    | none => r.state
    | some p => r.state.answerSession q.session y p
  else
    match x.lastReply with
    | some p =>
      if p.seq = q.seq && q.seq = x.highest then s1.sendReply x.transport (x.keys.drop 32) p
      else if q.seq = x.highest then s1.discardReq q.transport
      else ((s1.count 32 Od.mgmtReplays).edpFlag 1 q.transport).discardReq q.transport
    | none =>
      if q.seq = x.highest && q.seq ≠ 0 then s1.discardReq q.transport
      else ((s1.count 32 Od.mgmtReplays).edpFlag 1 q.transport).discardReq q.transport

/-- A request of a session. -/
def State.request (s : State) (opcode : Nat) (q : Req) (serve : State → Session → Served) : State :=
  if !s.transportUp q.transport || !s.carried opcode q then s
  else if q.version ≠ 1 then s.discardReq q.transport
  else
    match (s.session? q.session).filter fun x => x.transport = q.transport with
    | none => s.answerClear q opcode stNoSession
    | some x =>
      if !reqVerifies q opcode x.clientKey then ((s.count 32 Od.mgmtAuthFailures).edpFlag 0 q.transport).discardReq q.transport
      else s.sequenced x q serve

/-- A request answered with a status and a payload. -/
def State.served (s : State) (opcode : Nat) (q : Req) (status : Nat) (payload : List Byte := []) (flags : Nat := 1) : Served :=
  ⟨s, some { replyTo q opcode status payload with flags := flags }⟩

/-- The answer of a write as the reply of its request. -/
def Answer.served (a : Answer) (opcode : Nat) (q : Req) : Served :=
  ⟨a.state, some (replyTo q opcode a.code (if a.code = 0 then a.payload else []))⟩

/-! ### Access to an entry (R430, R438) -/

/-- The vendor range exists for this session (R469). -/
def Session.vendor (x : Session) (index : Nat) : Bool := vendorRange index && x.role = 4

/-- The first check that fails for a read or a write of an entry, or its row. -/
def State.reach (s : State) (x : Session) (q : Req) (write : Bool) : Nat × Option OdRow :=
  match s.entry? q.index q.sub with
  | none => (stNoEntry, none)
  | some r =>
    let least := if write then r.wr else r.rd
    if least = 5 then (if write then stReadOnly else stWriteOnly, none)
    else if x.role < least then (stDenied, none)
    else (0, some r)

/-- A staged value as it will read once committed: reserved bits and read-only fields are those in force (R6). -/
def State.stagedBytes (s : State) (index sub : Nat) (r : OdRow) (v : List Byte) : List Byte :=
  let k := index * 256 + sub
  if r.ty.isBlob then blobValue k v
  else
    let w := mergeWord r (s.reg k) (ofBe v)
    if 0x3480 ≤ index && index ≤ 0x34FF then s.channelBytes ((index - 0x3480) * 64 + (sub - 1)) w else beBytes r.ty.size w

/-- The value of an entry as READ gives it: with STAGED_VIEW the staged one where one is held (R431). -/
def State.viewed (s : State) (flags index sub : Nat) (r : OdRow) : List Byte :=
  match s.edp.stage.find? fun e => e.key = index * 256 + sub with
  | some e => if bit flags 3 then s.stagedBytes index sub r e.value else s.entryBytes index sub r
  | none => s.entryBytes index sub r

/-- A whole record: subindex, type code, length and value of every subindex the session may read and READ can carry. -/
def State.wholeRecord (s : State) (role flags index : Nat) : List Byte :=
  match odGroup? index with
  | none => []
  | some g =>
    ((List.range (g.highest index)).map fun i =>
      match s.entry? index (i + 1) with
      | none => []
      | some r =>
        if role < r.rd || decide (r.ty = EdpType.domain) then []
        else
          let v := s.viewed flags index (i + 1) r
          beBytes 1 (i + 1) ++ beBytes 1 r.ty.code ++ beBytes 4 v.length ++ v).flatten

/-! ### Writes of an entry -/

/-- The power domain of the block a command entry acts on (R482). -/
def commandDomain (index : Nat) : Nat :=
  if index = 0x1100 || (0x2000 ≤ index && index < 0x2400) then 3
  else if 0x3000 ≤ index && index < 0x8000 then 10
  else if index = 0x8000 then 11
  else if 0x9000 ≤ index && index < 0xA000 then 2
  else 1

/-- A checked value of a fitting type is written or staged: a command to a block without power is BUSY. -/
def State.writeEntry (s : State) (sid : Nat) (x : Session) (index sub : Nat) (r : OdRow) (v : List Byte) : Answer :=
  if decide (r.ap = Apply.staged) then
    if s.power.bootStopped || (s.edp.commit.isNone && (s.opOf opConfig).isSome) then s.refuse stBusy
    else s.stageWrite sid index sub v
  else if r.rd = 5 && !s.powered (commandDomain index) then s.refuse stBusy
  else s.liveWrite ⟨x.role, x.slot, sid⟩ index sub r v

/-- The entries whose write starts a long operation; the reply carries its handle (R450). -/
def starterEntry (index : Nat) : Bool := index = 0x9001 || index = 0x9200

/-- The reply of a WRITE: a starter's handle stands in the header. -/
def Answer.written (a : Answer) (opcode : Nat) (q : Req) : Served :=
  if starterEntry q.index && !a.payload.isEmpty then ⟨a.state, some { replyTo q opcode a.code [] with handle := ofBe a.payload }⟩
  else a.served opcode q

/-! ### Transfers in segments (R443) -/

/-- The transfer of OP_START's parameters, by operation type. -/
def startKey (type : Nat) : Nat := 2 ^ 24 + type

/-- A segment's place: OFFSET, TOTAL, data. -/
def segOffset (p : List Byte) : Nat := beAt p 0 4
def segTotal (p : List Byte) : Nat := beAt p 4 4

/-- A segment arrives: an error status with the offset expected, the offset expected next, or the whole value with the last one. -/
inductive Segment where
  | bad (status next : Nat)
  | more (next : Nat)
  | whole (value : List Byte)
  deriving DecidableEq, Repr

def State.setXfer (s : State) (sid : Nat) (w : Option WriteXfer) : State :=
  match s.session? sid with
  | none => s
  | some x => s.setSession sid { x with write := w }

/-- One segment of a transfer to `key`, at most 64 MiB. -/
def State.segment (s : State) (sid key flags : Nat) (p : List Byte) : State × Segment :=
  let cur := ((s.session? sid).bind (·.write)).filter fun w => w.key = key && segOffset p ≠ 0
  let have_ := (cur.map (·.data)).getD []
  let total := (cur.map (·.total)).getD (segTotal p)
  let data := have_ ++ p.drop 8
  if p.length < 8 then (s, .bad stTypeMismatch have_.length)
  else if 2 ^ 26 < segTotal p then (s, .bad stTooLarge have_.length)
  else if segOffset p ≠ have_.length then
    (s.when_ cur.isSome fun t => t.setXfer sid (cur.map fun w => { w with lastAt := s.now }), .bad stSegmentError have_.length)
  else if total < data.length then (s, .bad stTooLarge have_.length)
  else if bit flags 2 then (s.setXfer sid none, if data.length = total then .whole data else .bad stTypeMismatch 0)
  else (s.setXfer sid (some ⟨key, total, data, s.now⟩), .more data.length)

end Sys2Proof.Machine
end

