-- ==== Sys2Proof/Machine/LongOps.lean ====
section
/-!
DEFINITION. Long operations (R450 to R453): the work of each between its safe points, its end, its cancel, and the commands that
start, drive and expire operations.
-/

namespace Sys2Proof.Machine

open Sys2Proof

def State.modOp (s : State) (n : Nat) (f : Op → Op) : State := s.setOp n (f (s.op n))

/-- An operation fails with a status and DETAIL. -/
def State.failOp (s : State) (n status detail : Nat) : State := (s.modOp n fun x => { x with detail := detail }).endOp n .failed status

/-- One more piece of the work is done, of so many. -/
def State.progress (s : State) (n total : Nat) : State :=
  s.modOp n fun x => { x with pos := x.pos + 1, progress := min 999 ((x.pos + 1) * 1000 / max 1 total) }

/-! ### FIRMWARE_INSTALL (R384, R385, R387) -/

/-- The bank that is not active. -/
def State.idleBank (s : State) : Nat := if s.reg Od.fwActiveBank = 0 then 1 else 0

/-- The first image of a set of octets, and what follows it. -/
def firstImage (bs : List Byte) : Option (Image × List Byte) :=
  let flags := beAt bs 6 2
  let own := if !bit flags 0 then 0 else if bit flags 1 then 49856 else 29792
  let len := beAt bs 16 4
  let start := 29920 + own
  if bs.length < start + len then none
  else
    some ({ magic := beAt bs 0 4, headerVersion := beAt bs 4 1, imageType := beAt bs 5 1, flags := flags, svn := beAt bs 8 4
            version := beAt bs 12 4, reserved := beAt bs 20 4 + beAt bs 89 39, lcMask := beAt bs 88 1
            payloadDigest := slice bs 24 64, header := bs.take 128, vendorSig := slice bs 128 29792
            ownerSig := slice bs 29920 own, payload := slice bs start len }, bs.drop (start + len))

/-- The images of a set, up to `fuel`; none where the octets end within one or go on. -/
def imageSet : Nat → List Byte → Option (List Image)
  | 0, bs => if bs.isEmpty then some [] else none
  | n + 1, bs =>
    if bs.isEmpty then some []
    else (firstImage bs).bind fun r => (imageSet n r.2).map fun l => r.1 :: l

/-- One image is written into the idle bank and verified. -/
def State.installOne (s : State) (n : Nat) : State :=
  let x := s.op n
  match ((imageSet 5 x.params).getD [])[x.pos]? with
  | none => s.failOp n stInvalidValue x.pos
  | some i =>
    if i.imageType ≠ x.pos + 2 || !s.imageAccepted i then s.failOp n stInvalidValue x.pos
    else
      let b := s.idleBank
      (s.setSec fun y => { y with banks := Tab.insert y.banks b (Tab.look y.banks b [] ++ [i]) }).progress n 5

/-- The commit phase: the journal update that makes the bank active. -/
def State.installCommit (s : State) (n : Nat) : State :=
  if s.updateBusy then s.refuseUpdate.state.failOp n stBusy 5
  else
    let svns := (Tab.look s.sec.banks s.idleBank []).map fun i => (i.imageType, i.svn)
    (s.modOp n fun x => { x with commitPhase := true }).startUpdate (.firmware s.idleBank svns)

/-- The end of an installation: its commit phase begins; one whose update is gone has failed. -/
def State.installEnd (s : State) (n : Nat) : State :=
  if !(s.op n).commitPhase then s.installCommit n else if s.sec.phase = 0 then s.failOp n stFailed 5 else s

/-! ### FULL_SELF_TEST (R407, R414, R418, R423) -/

/-- The units step 5 tests: core units, slices, memory instances. -/
def stepFiveUnits : List Nat :=
  (List.range 60).map (unitId 1) ++ (List.range 4).map (unitId 3) ++
    ((List.range 8).map fun c => (List.range (memCount c)).map fun i => unitId 7 (256 * c + i)).flatten

/-- A memory's march test, whose outcome no rule gives: a fault found is repaired. -/
def State.marchOne (s : State) (m : Nat) : State :=
  let s1 := s.drew
  if s.freeBelow 2 = 0 then s1
  else (s1.drew.drew.drew).repairRow m (s1.freeBelow (2 ^ 32)) (s1.drew.freeBelow 256) (1 + s1.drew.drew.freeBelow 6) 0

/-- A unit's test, whose outcome no rule gives; a unit that fails is retired. -/
def State.testOne (s : State) (unit : Nat) : State :=
  if unit / 4096 = 7 then s.marchOne (unit % 4096)
  else if s.isOut unit then s
  else
    let result := s.freeBelow 3
    let s1 := s.drew.recordTest unit 0 result
    if result = 0 then s1
    else if unit / 4096 = 1 then s1.retireCore (unit % 4096) 3 0
    else s1.retireSlice (unit % 4096) 3 0 0

def State.selfTestOne (s : State) (n : Nat) : State :=
  match stepFiveUnits[(s.op n).pos]? with
  | none => s
  | some u => (s.testOne u).progress n stepFiveUnits.length

/-! ### HISTORY_EXPORT (R215, R216) -/

/-- The first and the last tick asked for, and the channels: an export keeps those of its start. -/
def State.exportParams (s : State) : List Byte :=
  beBytes 8 (s.reg Od.histExportFirstTick) ++ beBytes 8 (s.reg Od.histExportLastTick) ++ s.blob Od.histExportChannels
def exportTicks (p : List Byte) : Nat × Nat := (beAt p 0 8, beAt p 8 8)
def exportChannels (p : List Byte) : List Nat := (List.range (p.length / 2 - 8)).map fun i => beAt p (16 + 2 * i) 2

/-- The frames of a range of ticks. -/
def exportFrames (first last : Nat) : List Nat := (List.range (last / 8 + 1 - first / 8)).map fun i => 8 * (first / 8 + i)

/-- The store holds every frame of the range with every channel. -/
def State.exportable (s : State) : Bool :=
  let (first, last) := exportTicks s.exportParams
  let cs := exportChannels s.exportParams
  !cs.isEmpty && first ≤ last && last ≤ first + 2 ^ 24 &&
    (exportFrames first last).all fun g => s.hist.frames.any fun f => f.tick = g && cs.all fun c => f.blocks.any fun b => b.channel = c

/-- The value of a channel at a tick as binary32, and its ANY_INVALID. -/
def State.exportSample (s : State) (c g : Nat) : Nat × Bool :=
  match (s.hist.frames.find? fun f => f.tick = g / 8 * 8).bind fun f => f.blocks.find? fun b => b.channel = c with
  | none => (0, true)
  | some b => (f32Round (((b.mant.getD (g % 8) 0 * 2 ^ b.exp : Int) : Rat) / 65536) false, bit b.flags 0)

/-- The trigger of an export: that of a window it covers, else its first tick. -/
def State.exportTrigger (s : State) (first last : Nat) : Nat :=
  ((s.hist.windows.find? fun e => e.2.open_ && first ≤ e.2.trigger && e.2.trigger ≤ last).map (·.2.trigger)).getD first

/-! The files of IEEE C37.111-2013 (R216); what of their layout R216 does not state is the standard's (log 113). -/

/-- A number in decimal, and in at least `n` digits; a value and a line end. -/
def decimal (v : Nat) : List Byte := ascii (toString v)
def digits (n v : Nat) : List Byte := List.replicate (n - (decimal v).length) 0x30 ++ decimal v
def cfgLine (items : List (List Byte)) : List Byte := (items.intersperse (ascii ",")).flatten ++ [0x0D, 0x0A]

/-- Day, month and year of a day since 1970-01-01. -/
def civilDate (day : Nat) : Nat × Nat × Nat :=
  let z := day + 719468
  let era := z / 146097
  let doe := z % 146097
  let yoe := (doe - doe / 1460 + doe / 36524 - doe / 146096) / 365
  let doy := doe - (365 * yoe + yoe / 4 - yoe / 100)
  let mp := (5 * doy + 2) / 153
  let m := if mp < 10 then mp + 3 else mp - 9
  (doy - (153 * mp + 2) / 5 + 1, m, yoe + 400 * era + b2n (m ≤ 2))

/-- An instant as microseconds of UTC: through R45, rounded half to even. -/
def State.utcMicros (s : State) (t : Nat) : Nat :=
  let p := toPtp t
  let us := (roundDiv ((p.2.1 * 65536 : Nat) + p.2.2) 65536000).toNat
  (((p.1 : Nat) : Int) - s.regI 16 Od.timeUtcOffset).toNat * 1000000 + us

/-- The date and the time of day of a .CFG file. -/
def State.cfgTime (s : State) (t : Nat) : List Byte :=
  let us := s.utcMicros t
  let sec := us / 1000000
  let (d, m, y) := civilDate (sec / 86400)
  cfgLine [digits 2 d ++ ascii "/" ++ digits 2 m ++ ascii "/" ++ digits 4 y,
    digits 2 (sec / 3600 % 24) ++ ascii ":" ++ digits 2 (sec / 60 % 60) ++ ascii ":" ++ digits 2 (sec % 60) ++ ascii "." ++
      digits 6 (us % 1000000)]

/-- The module serial number in hexadecimal. -/
def serialText : List Byte :=
  (serialBytes.map fun b => ascii (String.ofList (Nat.toDigits 16 (b.toNat / 16) ++ Nat.toDigits 16 (b.toNat % 16)))).flatten

/-- Every exported image has TIME_STATE LOCKED. -/
def State.exportLocked (s : State) (first last : Nat) : Bool :=
  (List.range (last + 1 - first)).all fun i =>
    s.hist.frames.any fun f => f.tick = (first + i) / 8 * 8 && bit f.locked ((first + i) % 8)

/-- The name of a channel. -/
def channelName (c : Nat) : List Byte := ascii "CH" ++ digits 4 c

/-- The lines of analog channel and digital channel number `n`, for image channel `c`. -/
def State.analogLine (s : State) (n c : Nat) : List Byte :=
  let volts := (s.frec c).volts
  cfgLine [decimal n, channelName c, [], [], ascii (if volts then "V" else "A"), ascii (if volts then "0.01" else "0.001"), ascii "0",
    ascii "0", Config.exportText 0, ascii "1", ascii "1", ascii "P"]
def digitalLine (n c : Nat) : List Byte := cfgLine [decimal n, channelName c ++ ascii "_Q", [], [], Config.exportText 1]

/-- The .CFG file. -/
def State.exportCfg (s : State) (p : List Byte) : List Byte :=
  let (first, last) := exportTicks p
  let cs := exportChannels p
  let n := cs.length
  cfgLine [s.blob Od.histStationName, serialText, ascii "2013"] ++
    cfgLine [decimal (2 * n), decimal n ++ ascii "A", decimal n ++ ascii "D"] ++
    (cs.zipIdx.map fun (c, i) => s.analogLine (i + 1) c).flatten ++ (cs.zipIdx.map fun (c, i) => digitalLine (i + 1) c).flatten ++
    cfgLine [decimal (s.reg (Od.fgroupNominal (s.frec (cs.headD 0)).group))] ++ cfgLine [ascii "1"] ++
    cfgLine [decimal s.rate, decimal (last + 1 - first)] ++ s.cfgTime (s.tickAt first) ++
    s.cfgTime (s.tickAt (s.exportTrigger first last)) ++ cfgLine [ascii "BINARY32"] ++ cfgLine [ascii "1"] ++
    cfgLine [ascii "0", ascii "0"] ++
    cfgLine [if s.exportLocked first last then Config.exportText 3 else Config.exportText 2, Config.exportText 4]

/-- One record of the .DAT file: the sample's number, its time in µs from the first tick, the analog values, the digital ones in words
of 16. -/
def State.exportRecord (s : State) (cs : List Nat) (first i : Nat) : List Byte :=
  let xs := cs.map fun c => s.exportSample c (first + i)
  leBytes 4 (i + 1) ++ leBytes 4 (roundDiv ((i * 1000000 : Nat) : Int) (max 1 s.rate)).toNat ++
    (xs.map fun x => leBytes 4 x.1).flatten ++
    ((List.range (ceilDiv cs.length 16)).map fun w =>
      leBytes 2 (maskOf ((List.range 16).filter fun j => (xs.getD (16 * w + j) (0, false)).2))).flatten

/-- The .DAT file. -/
def State.exportDat (s : State) (p : List Byte) : List Byte :=
  let (first, last) := exportTicks p
  ((List.range (last + 1 - first)).map (s.exportRecord (exportChannels p) first)).flatten

/-- The export's protection ends: its windows are held again. -/
def State.endExport (s : State) : State :=
  s.setHist fun h => { h with
    exportRange := none, exportSlot := none
    windows := h.windows.map fun (w, x) => (w, if x.state = 3 then { x with state := 2 } else x) }

/-- The export's protection begins: held windows that it reads show EXPORTING. -/
def State.beginExport (s : State) (n : Nat) : State :=
  let (first, last) := exportTicks (s.op n).params
  let range := (first / 8 * 8, last / 8 * 8 + 7)
  s.setHist fun h => { h with
    exportRange := some range, exportSlot := some n
    windows := h.windows.map fun (w, x) =>
      (w, if x.state = 2 && x.first ≤ range.2 && range.1 ≤ x.last then { x with state := 3 } else x) }

def State.exportOne (s : State) (n : Nat) : State :=
  s.progress n (exportFrames (exportTicks (s.op n).params).1 (exportTicks (s.op n).params).2).length

/-- The files are complete, .CFG then .DAT (R221); more than a DOMAIN holds fails. -/
def State.exportEnd (s : State) (n : Nat) : State :=
  let files := s.exportCfg (s.op n).params ++ s.exportDat (s.op n).params
  if 2 ^ 26 < files.length then s.endExport.failOp n stTooLarge 0 else ((s.setBlob Od.histExportFiles files).endExport).endOp n .done 0

/-! ### PARTITION_MIGRATE (R262) -/

/-- The partition and the window list of the parameters. -/
def migratePart (params : List Byte) : Nat := beAt params 0 1
def migrateList (params : List Byte) : List Nat := windowWords (params.drop 4)

/-- The windows of each partition once `n` has the list `l`: those it waits for, those it uses, or where it is stopped its entry's. -/
def State.migratedWindows (s : State) (n : Nat) (l : List Nat) (m : Nat) : List Nat :=
  let x := s.part m
  if m = n then l
  else
    match x.migrateTo.orElse fun _ => x.windowsNext with
    | some w => w
    | none => if x.run = .stopped then s.committedWindows m else x.windows

/-- The list passes R227 (R262). -/
def State.migrateOk (s : State) (params : List Byte) : Bool :=
  let n := migratePart params
  let l := migrateList params
  params.length % 16 = 4 && params.length ≤ 4 + 16 * 64 && n < 96 && (s.part n).run = .running &&
    s.tableOk (s.migratedWindows n l)

/-- The wait begins, or begins anew after a suspension. -/
def State.migrateWait (s : State) (n : Nat) : State :=
  let p := (s.op n).params
  s.modPart (migratePart p) fun x => { x with run := .migrating, migrateTo := some (migrateList p), migrateSince := s.workTick }

/-- The wait ends without the list. -/
def State.migrateStop (s : State) (n : Nat) : State := s.modPart (migratePart (s.op n).params) fun x => { x with migrateTo := none }

/-- The list has been applied, or cannot be any more. -/
def State.migrateEnd (s : State) (n : Nat) : State :=
  let x := s.part (migratePart (s.op n).params)
  if x.run = .migrating then s
  else if x.windows = migrateList (s.op n).params then s.endOp n .done 0
  else s.failOp n stFailed 0

/-- The partition goes on as before. -/
def State.migrateCancel (s : State) (n : Nat) : State :=
  s.modPart (migratePart (s.op n).params) fun x => { x with migrateTo := none, run := if x.run = .migrating then .running else x.run }

/-! ### CONFIG_APPLY (R448, R450) -/

/-- The records of a configuration file: index, subindex, type code, value; none where the octets do not come out even. -/
def fileRecords : Nat → List Byte → Option (List (Nat × Nat × Nat × List Byte))
  | 0, bs => if bs.isEmpty then some [] else none
  | n + 1, bs =>
    if bs.isEmpty then some []
    else if bs.length < 8 + beAt bs 4 4 then none
    else
      (fileRecords n (bs.drop (8 + beAt bs 4 4))).map fun l =>
        (beAt bs 0 2, beAt bs 2 1, beAt bs 3 1, slice bs 8 (beAt bs 4 4)) :: l

def configRecords (bs : List Byte) : Option (List (Nat × Nat × Nat × List Byte)) := fileRecords (bs.length / 8) bs

/-- One record is staged, with the role its entry requires. -/
def State.applyRecord (s : State) (role session : Nat) (r : Nat × Nat × Nat × List Byte) : Answer :=
  match s.entry? r.1 r.2.1 with
  | none => s.refuse stNoEntry
  | some e =>
    if e.wr = 5 then s.refuse stReadOnly
    else if role < e.wr then s.refuse stDenied
    else if e.ty.code ≠ r.2.2.1 || !typeFits e.ty r.2.2.2 then s.refuse stTypeMismatch
    else if decide (e.ap ≠ Apply.staged) then s.refuse stInvalidValue
    else s.stageWrite session r.1 r.2.1 r.2.2.2

/-- A CONFIG_APPLY that fails leaves its stage to its session, or to nobody where that is gone. -/
def State.configFails (s : State) (n status key : Nat) : State :=
  (s.when_ (s.session? (s.op n).session).isNone fun t => t.dropStage).failOp n status key

def State.configOne (s : State) (n : Nat) : State :=
  let x := s.op n
  let records := (configRecords x.params).getD []
  match records[x.pos]? with
  | none => s
  | some r =>
    let a := s.applyRecord x.role x.session r
    if a.code ≠ 0 then s.configFails n a.code (r.1 * 256 + r.2.1) else a.state.progress n (records.length + 1)

/-- The commit phase: the check of R446, and the commit. -/
def State.configEnd (s : State) (n : Nat) : State :=
  if (s.op n).commitPhase then s
  else
    match s.commitCheck with
    | some (key, status) => (s.setFlag 117 5).configFails n status key
    | none => (s.modOp n fun x => { x with commitPhase := true }).acceptCommit (s.op n).session 0 (some n)

/-! ### MEMORY_SCRUB (R414) -/

/-- A row is scrubbed; how many there are is not stated, so nor is PROGRESS. -/
def State.scrubOne (s : State) (n : Nat) : State :=
  (s.drew).modOp n fun x => { x with pos := x.pos + 1, progress := s.freeBelow 1000 }

/-! ### Work, end, cancel -/

/-- Pieces of work left between the present place and the last safe point. -/
def State.piecesLeft (s : State) (n : Nat) : Nat :=
  let x := s.op n
  if x.type = opFirmware then 5 - x.pos
  else if x.type = opSelfTest then stepFiveUnits.length - x.pos
  else if x.type = opExport then (exportFrames (exportTicks x.params).1 (exportTicks x.params).2).length - x.pos
  else if x.type = opConfig then ((configRecords x.params).getD []).length - x.pos
  else 0

/-- One piece of an operation's work. -/
def State.opPiece (s : State) (n : Nat) : State :=
  let t := (s.op n).type
  if t = opScrub then s.scrubOne n
  else if s.piecesLeft n = 0 then s
  else if t = opFirmware then s.installOne n
  else if t = opSelfTest then s.selfTestOne n
  else if t = opExport then s.exportOne n
  else s.configOne n

/-- All of it that is left, as long as nothing fails. -/
def State.opPieces (s : State) (n : Nat) : Nat → State
  | 0 => s
  | k + 1 => if (s.op n).active then (s.opPiece n).opPieces n k else s

/-- The work after the last safe point, and the end. -/
def State.opEnd (s : State) (n : Nat) : State :=
  let t := (s.op n).type
  if !(s.op n).active then s
  else if t = opFirmware then s.installEnd n
  else if t = opAttest then s.attestDone n
  else if t = opKeygen then s.keygenDone n
  else if t = opExport then s.exportEnd n
  else if t = opMigrate then s.migrateEnd n
  else if t = opConfig then s.configEnd n
  else s.endOp n .done 0

/-- What a cancel leaves (R453). -/
def State.opCancelled (s : State) (n : Nat) : State :=
  let x := s.op n
  let s1 :=
    if x.type = opFirmware then s.setSec fun y => { y with banks := Tab.insert y.banks s.idleBank [] }
    else if x.type = opSelfTest then
      match stepFiveUnits[x.pos]? with
      | some u => ((s.writeResult u 3 0 (s.freeBelow (2 ^ 32)) (Config.free (s.freeUsed + 1))).drew).drew
      | none => s
    else if x.type = opExport then (s.setBlob Od.histExportFiles []).endExport
    else if x.type = opMigrate then s.migrateCancel n
    else if x.type = opConfig then s.dropStage
    else s
  s1.endOp n .cancelled 0

/-- The operation is suspended: the wait of a migration stops with it. -/
def State.opSuspended (s : State) (n : Nat) : State :=
  let x := s.op n
  let s1 := s.when_ (x.type = opMigrate) fun t => t.migrateStop n
  (s1.setOp n { x with
    state := if x.cancelDeferred then .cancelling else .suspended, suspendedAt := s.now, cancelDeferred := false }).opFlag 3 n

/-- A resumed operation runs again, or goes on to suspend. -/
def State.opResumed (s : State) (n : Nat) : State :=
  let x := s.op n
  let s1 := s.setOp n { x with state := if x.suspendDeferred then .suspending else .running, suspendDeferred := false }
  s1.when_ (x.type = opMigrate && !x.suspendDeferred) fun t => t.migrateWait n

/-- The operation is past its last safe point. -/
def State.inCommitPhase (s : State) (n : Nat) : Bool :=
  let x := s.op n
  x.commitPhase || (x.type = opMigrate && x.state = .running && (s.part (migratePart x.params)).migrateTo.isNone)

/-! ### OP_SAFE_POINT, OP_COMPLETE and the expiries (R451) -/

/-- A safe point: a piece of work is done; an operation asked to suspend is suspended, one that resumes runs again. -/
def State.safePoint (s : State) (n : Nat) : State :=
  if s.inCommitPhase n then s
  else
    match (s.op n).state with
    | .running => s.opPiece n
    | .suspending =>
      let s1 := s.opPiece n
      if decide ((s1.op n).state = OpState.suspending) then s1.opSuspended n else s1
    | .resuming => s.opResumed n
    | .idle | .suspended | .cancelling | .done | .failed | .cancelled => s

def execOpSafePoint (at_ : Instant) (slot : Nat) (s : State) : Result :=
  act (slot < 16) 1 (s.arrive at_) fun s => s.safePoint slot

/-- An operation ends: a cancel completes, or what is left of the work is done. -/
def State.opComplete (s : State) (n : Nat) : State :=
  match (s.op n).state with
  | .cancelling => s.opCancelled n
  | .running => (s.opPieces n (s.piecesLeft n)).opEnd n
  | .resuming =>
    let s1 := s.opResumed n
    if decide ((s1.op n).state = OpState.running) then (s1.opPieces n (s1.piecesLeft n)).opEnd n else s1
  | .idle | .suspending | .suspended | .done | .failed | .cancelled => s

def execOpComplete (at_ : Instant) (slot : Nat) (s : State) : Result :=
  act (slot < 16) 1 (s.arrive at_) fun s => s.opComplete slot

/-- 600 s after the end the slot is IDLE. -/
def State.resultExpiry (s : State) (n : Nat) : State :=
  let x := s.op n
  if !x.active && decide (x.state ≠ OpState.idle) && x.ended + 600 * second ≤ s.now then s.setOp n {} else s

def execOpResultExpiry (at_ : Instant) (slot : Nat) (s : State) : Result :=
  act (slot < 16) 1 (s.arrive at_) fun s => s.resultExpiry slot

/-- 3,600 s in SUSPENDED cancel the operation. -/
def State.suspendExpiry (s : State) (n : Nat) : State :=
  let x := s.op n
  if decide (x.state = OpState.suspended) && x.suspendedAt + 3600 * second ≤ s.now then s.opCancelled n else s

def execOpSuspendExpiry (at_ : Instant) (slot : Nat) (s : State) : Result :=
  act (slot < 16) 1 (s.arrive at_) fun s => s.suspendExpiry slot

/-! ### OP_START by operation (R450) -/

/-- A slot is taken and the operation begun; the answer carries the handle. -/
def State.beginOp (s : State) (type role session : Nat) (params : List Byte) (setup : Nat → State → State) : Answer :=
  match s.openOp type role session params with
  | none => s.refuse stBusy
  | some (n, t) => (setup n t).ok (beBytes 4 (t.op n).handle)

/-- OP_START of a type: its role first, segments gathered, then what `begin_` makes of the parameters. -/
def State.opStart (s : State) (type : Nat) (q : Req) (begin_ : State → Session → List Byte → Answer) : State :=
  s.request 0x10 q fun t x =>
    let started (u : State) (params : List Byte) : Served :=
      let a := begin_ u x params
      if a.code ≠ 0 then ⟨a.state, some (replyTo q 0x10 a.code [])⟩
      else
        let h := ofBe a.payload
        ⟨a.state, some { replyTo q 0x10 0 (a.state.op (h % 16)).record with handle := h }⟩
    if payloadLimit x.transport < q.payload.length then t.served 0x10 q stTooLarge
    else if x.role < opRole type then t.served 0x10 q stDenied
    else if t.power.bootStopped && type ≠ opFirmware then t.served 0x10 q stBusy
    else if bit q.flags 1 then
      match t.segment q.session (startKey type) q.flags q.payload with
      | (u, .bad status next) => u.served 0x10 q status (if status = stSegmentError then beBytes 4 next else [])
      | (u, .more next) => u.served 0x10 q 0 (beBytes 4 next)
      | (u, .whole v) => started u (v.drop 4)
    else if q.payload.length < 4 then t.served 0x10 q stTypeMismatch
    else started t (q.payload.drop 4)

def State.beginAttest (s : State) (x : Session) (sid : Nat) (params : List Byte) : Answer :=
  if params.length ≠ 32 then s.refuse stTypeMismatch else s.writeNonce x.role sid (ofBe params)

def execAttestSign (at_ : Instant) (req : Req) (s : State) : Result :=
  act true 1 (s.arrive at_) fun s => s.opStart opAttest req fun t x p => t.beginAttest x req.session p

/-- The parameters are a key command with OP GENERATE and ALG 5. -/
def State.beginKeygen (s : State) (x : Session) (sid : Nat) (params : List Byte) : Answer :=
  match keyCmdOf params with
  | none => s.refuse stTypeMismatch
  | some (op, c) =>
    if op ≠ 3 || (wantedRecord c.attr c.bind c.parent c.rooted).alg ≠ 5 then s.refuse stInvalidValue
    else s.keyCommand .generate x.role sid c

def execKeygenSlhdsa (at_ : Instant) (req : Req) (s : State) : Result :=
  act true 1 (s.arrive at_) fun s => s.opStart opKeygen req fun t x p => t.beginKeygen x req.session p

/-- The images are those of FW_IMAGES; the idle bank holds no valid set until all are written. -/
def State.beginFirmware (s : State) (x : Session) (sid : Nat) : Answer :=
  if s.sec.secLost then s.refuse stBusy
  else
    s.beginOp opFirmware x.role sid (s.blob Od.fwImages) fun _ t =>
      t.setSec fun y => { y with banks := Tab.insert y.banks t.idleBank [] }

def execFirmwareInstall (at_ : Instant) (req : Req) (s : State) : Result :=
  act true 1 (s.arrive at_) fun s => s.opStart opFirmware req fun t x _ => t.beginFirmware x req.session

/-- Only in MANUFACTURE and RETURN, and not while OUT_ENABLE is asserted. -/
def State.beginSelfTest (s : State) (x : Session) (sid : Nat) : Answer :=
  if !s.testAccess then s.refuse stDenied
  else if s.outEnabled then s.refuse stBusy
  else s.beginOp opSelfTest x.role sid [] fun _ t => t

def execFullSelfTest (at_ : Instant) (req : Req) (s : State) : Result :=
  act true 1 (s.arrive at_) fun s => s.opStart opSelfTest req fun t x _ => t.beginSelfTest x req.session

/-- Refused where R213 refuses its window, or where the store does not hold what it asks for. -/
def State.beginHistory (s : State) (x : Session) (sid : Nat) : Answer :=
  let (first, last) := exportTicks s.exportParams
  if !s.powered 10 || s.opBusy opExport || !s.mayProtect (first / 8 * 8) (last / 8 * 8 + 7) then s.refuse stBusy
  else if !s.exportable then s.refuse stInvalidValue
  else s.beginOp opExport x.role sid s.exportParams fun n t => t.beginExport n

def execHistoryExport (at_ : Instant) (req : Req) (s : State) : Result :=
  act true 1 (s.arrive at_) fun s => s.opStart opExport req fun t x _ => t.beginHistory x req.session

def State.beginMigrate (s : State) (x : Session) (sid : Nat) (params : List Byte) : Answer :=
  if !s.powered 10 || s.opBusy opMigrate then s.refuse stBusy
  else if !s.migrateOk params then s.refuse stInvalidValue
  else s.beginOp opMigrate x.role sid params fun n t => t.migrateWait n

def execPartitionMigrate (at_ : Instant) (req : Req) (s : State) : Result :=
  act true 1 (s.arrive at_) fun s => s.opStart opMigrate req fun t x p => t.beginMigrate x req.session p

/-- CONFIG_APPLY takes the stage as its own. -/
def State.beginConfig (s : State) (x : Session) (sid : Nat) (params : List Byte) : Answer :=
  if s.edp.commit.isSome then s.refuse stCommitting
  else if s.edp.owner.any (· ≠ sid) then s.refuse stBusy
  else if (configRecords params).isNone then s.refuse stTypeMismatch
  else s.beginOp opConfig x.role sid params fun _ t => t.setEdp fun e => { e with owner := some sid }

def execConfigApply (at_ : Instant) (req : Req) (s : State) : Result :=
  act true 1 (s.arrive at_) fun s => s.opStart opConfig req fun t x p => t.beginConfig x req.session p

def State.beginScrub (s : State) (x : Session) (sid : Nat) : Answer :=
  if !s.powered 10 then s.refuse stBusy else s.beginOp opScrub x.role sid [] fun _ t => t

def execMemoryScrub (at_ : Instant) (req : Req) (s : State) : Result :=
  act true 1 (s.arrive at_) fun s => s.opStart opScrub req fun t x _ => t.beginScrub x req.session

/-! ### OP_SUSPEND, OP_RESUME, OP_CANCEL, OP_STATUS (R451, R452) -/

/-- The slot of a handle. -/
def State.opByHandle (s : State) (h : Nat) : Option Nat :=
  let x := s.op (h % 16)
  if decide (x.state ≠ OpState.idle) && x.handle = h then some (h % 16) else none

/-- What a request asks of an operation. -/
inductive OpAsk where
  | suspend | resume | cancel
  deriving DecidableEq, Repr

def OpAsk.opcode : OpAsk → Nat
  | .suspend => 0x11
  | .resume => 0x12
  | .cancel => 0x13

/-- The operation after an accepted request; none where its state does not allow it. -/
def Op.asked (x : Op) : OpAsk → Option Op
  | .suspend => match x.state with
    | .running => some { x with state := .suspending }
    | .resuming => some { x with suspendDeferred := true }
    | _ => none
  | .resume => match x.state with
    | .suspended => some { x with state := .resuming }
    | _ => none
  | .cancel => match x.state with
    | .running | .suspended => some { x with state := .cancelling }
    | .suspending => some { x with cancelDeferred := true }
    | _ => none

/-- A request against an operation; asked to suspend or to cancel, a migration waits no longer. -/
def State.opAsk (s : State) (ask : OpAsk) (q : Req) : State :=
  s.request ask.opcode q fun t x =>
    match t.opByHandle q.handle with
    | none => t.served ask.opcode q stUnknownHandle
    | some n =>
      let o := t.op n
      if x.role < opRole o.type then t.served ask.opcode q stDenied o.record
      else if t.inCommitPhase n then t.served ask.opcode q stCommitting o.record
      else
        match o.asked ask with
        | none => t.served ask.opcode q stBadState o.record
        | some y => ((t.when_ (o.type = opMigrate && ask ≠ .resume) fun u => u.migrateStop n).setOp n y).served ask.opcode q 0 y.record

def execOpSuspend (at_ : Instant) (req : Req) (s : State) : Result :=
  act true 1 (s.arrive at_) fun s => s.opAsk .suspend req

def execOpResume (at_ : Instant) (req : Req) (s : State) : Result :=
  act true 1 (s.arrive at_) fun s => s.opAsk .resume req

def execOpCancel (at_ : Instant) (req : Req) (s : State) : Result :=
  act true 1 (s.arrive at_) fun s => s.opAsk .cancel req

/-- OP_STATUS answers any session; a result once read frees the slot. -/
def State.opStatus (s : State) (q : Req) : State :=
  s.request 0x14 q fun t _ =>
    match t.opByHandle q.handle with
    | none => t.served 0x14 q stUnknownHandle
    | some n =>
      let o := t.op n
      (if o.active then t else t.setOp n {}).served 0x14 q 0 o.record

def execOpStatus (at_ : Instant) (req : Req) (s : State) : Result :=
  act true 1 (s.arrive at_) fun s => s.opStatus req

end Sys2Proof.Machine
end

