-- ==== Sys2Proof/Machine/Edp.lean ====
section
/-!
DEFINITION. The dictionary protocol's commands (13_dictionary_protocol_and_long_operations.md): READ to WRITE_BLOCK, the stage and
its commit, sessions, events and time-outs; the writes of event sources (R471, R474).
-/

namespace Sys2Proof.Machine

open Sys2Proof

/-! ### READ and WRITE (R428 to R431, R435) -/

def State.read (s : State) (q : Req) : State :=
  s.request 0x01 q fun t x =>
    if x.vendor q.index then
      t.drew.served 0x01 q 0 ((List.range (t.freeBelow 256)).map fun i => Config.vendorByte (q.index * 256 + q.sub) i)
    else
      match t.reach x q false with
      | (status, none) => t.served 0x01 q status
      | (_, some r) =>
        if bit q.flags 4 then t.served 0x01 q 0 (t.wholeRecord x.role q.flags q.index)
        else if decide (r.ty = EdpType.domain) then t.served 0x01 q stTooLarge
        else t.served 0x01 q 0 (t.viewed q.flags q.index q.sub r)

def execRead (at_ : Instant) (req : Req) (s : State) : Result := act true 1 (s.arrive at_) fun s => s.read req

/-- A write of the vendor range is accepted; what it does is outside the spec (R469). -/
def State.write (s : State) (q : Req) : State :=
  s.request 0x02 q fun t x =>
    if x.vendor q.index then t.served 0x02 q 0
    else
      match t.reach x q true with
      | (status, none) => t.served 0x02 q status
      | (_, some r) =>
        if decide (r.ty = EdpType.domain) || payloadLimit x.transport < q.payload.length then t.served 0x02 q stTooLarge
        else if !typeFits r.ty q.payload then t.served 0x02 q stTypeMismatch
        else (t.writeEntry q.session x q.index q.sub r q.payload).written 0x02 q

def execWrite (at_ : Instant) (req : Req) (s : State) : Result := act true 1 (s.arrive at_) fun s => s.write req

/-! ### READ_BLOCK and WRITE_BLOCK (R443, R444) -/

/-- One reply of a READ_BLOCK from a snapshot. -/
def State.readSegment (s : State) (q : Req) (x : Session) (r : ReadXfer) : Served :=
  let data := (r.data.drop r.sent).take (min (beAt q.payload 4 4) (payloadLimit x.transport - 8))
  let sent := r.sent + data.length
  let last := r.data.length ≤ sent
  let t := match s.session? q.session with
    | some y => s.setSession q.session { y with reads := if last then none else some { r with sent := sent, lastAt := s.now } }
    | none => s
  t.served 0x03 q 0 (beBytes 4 r.sent ++ beBytes 4 r.data.length ++ data) (if last then 5 else 1)

/-- READ_BLOCK of an existing entry: OFFSET 0 takes a snapshot; any other place than the next is SEGMENT_ERROR. -/
def State.readBlockOf (s : State) (q : Req) (x : Session) (row : OdRow) : Served :=
  let key := q.index * 256 + q.sub
  let offset := beAt q.payload 0 4
  if q.payload.length ≠ 8 then s.served 0x03 q stTypeMismatch
  else if offset = 0 then s.readSegment q x ⟨key, s.viewed q.flags q.index q.sub row, 0, s.now⟩
  else
    match x.reads.filter fun r => r.key = key with
    | none => s.served 0x03 q stSegmentError (beBytes 4 0)
    | some r => if r.sent = offset then s.readSegment q x r else s.served 0x03 q stSegmentError (beBytes 4 r.sent)

def State.readBlock (s : State) (q : Req) : State :=
  s.request 0x03 q fun t x =>
    match t.reach x q false with
    | (status, none) => t.served 0x03 q status
    | (_, some r) => t.readBlockOf q x r

def execReadBlock (at_ : Instant) (req : Req) (s : State) : Result := act true 1 (s.arrive at_) fun s => s.readBlock req

/-- The last segment has come: the value is checked and written or staged. -/
def State.writeWhole (s : State) (q : Req) (x : Session) (r : OdRow) (v : List Byte) : Served :=
  if !typeFits r.ty v then s.served 0x04 q stTypeMismatch
  else
    let a := s.writeEntry q.session x q.index q.sub r v
    let b : Served := a.written 0x04 q
    { b with reply := b.reply.map fun p => if a.code = 0 then { p with payload := beBytes 4 v.length } else p }

def State.writeBlock (s : State) (q : Req) : State :=
  s.request 0x04 q fun t x =>
    match t.reach x q true with
    | (status, none) => t.served 0x04 q status
    | (_, some r) =>
      if payloadLimit x.transport < q.payload.length then t.served 0x04 q stTooLarge
      else
        match t.segment q.session (q.index * 256 + q.sub) q.flags q.payload with
        | (u, .bad status next) => u.served 0x04 q status (if status = stSegmentError then beBytes 4 next else [])
        | (u, .more next) => u.served 0x04 q 0 (beBytes 4 next)
        | (u, .whole v) => u.writeWhole q x r v

def execWriteBlock (at_ : Instant) (req : Req) (s : State) : Result := act true 1 (s.arrive at_) fun s => s.writeBlock req

/-! ### The stage and its commit (R445 to R447) -/

/-- STAGE of a LIVE entry is refused with INVALID_VALUE. -/
def State.stageEntry (s : State) (q : Req) : State :=
  s.request 0x05 q fun t x =>
    match t.reach x q true with
    | (status, none) => t.served 0x05 q status
    | (_, some r) =>
      if decide (r.ty = EdpType.domain) || payloadLimit x.transport < q.payload.length then t.served 0x05 q stTooLarge
      else if !typeFits r.ty q.payload then t.served 0x05 q stTypeMismatch
      else if decide (r.ap ≠ Apply.staged) then t.served 0x05 q stInvalidValue
      else (t.writeEntry q.session x q.index q.sub r q.payload).served 0x05 q

def execStage (at_ : Instant) (req : Req) (s : State) : Result := act true 1 (s.arrive at_) fun s => s.stageEntry req

/-- A session may commit or discard: no commit is pending, and nobody else owns the stage. -/
def State.stageTurn (s : State) (sid : Nat) : Nat :=
  if s.edp.commit.isSome then stCommitting
  else if s.power.bootStopped || s.edp.owner.any (· ≠ sid) || (s.opOf opConfig).isSome then stBusy
  else 0

/-- COMMIT: the first failing entry's status, or acceptance, whose reply comes at the boundary. -/
def State.commitStage (s : State) (q : Req) : State :=
  s.request 0x06 q fun t x =>
    if t.stageTurn q.session ≠ 0 then t.served 0x06 q (t.stageTurn q.session)
    else
      match t.commitCheck with
      | some (key, status) =>
        ⟨t.edpFlag 5 x.transport, some { replyTo q 0x06 status [] with index := key / 256, sub := key % 256 }⟩
      | none => ⟨t.acceptCommit q.session q.seq none, none⟩

def execCommit (at_ : Instant) (req : Req) (s : State) : Result := act true 1 (s.arrive at_) fun s => s.commitStage req

/-- The reply of a commit to its session, if it is still there. -/
def State.commitReply (s : State) (c : PendingCommit) : State :=
  match s.session? c.session, c.op with
  | some x, none =>
    (s.edpFlag 4 x.transport).answerSession c.session x
      { opcode := 0x06, flags := 1, session := c.session, seq := c.seq, index := 0, sub := 0, status := 0, handle := 0
        payload := beBytes 8 c.applyTick ++ beBytes 4 (s.reg Od.attConfigTag), tagged := true }
  | some x, some _ => s.edpFlag 4 x.transport
  | none, _ => s.setFlag 117 4

/-- COMMIT_APPLY: from the boundary B on the stage is in force, measured and kept (R390, R432, R446). -/
def State.commitApply (s : State) : State :=
  match s.edp.commit with
  | none => s
  | some c =>
    if s.now < c.applyAt then s
    else
      let s1 := s.applyStage s.edp.stage c.acceptedAt c.applyTick
      let s2 := (s1.setEdp fun e => { e with commit := none }).dropStage
      let s3 := s2.configWritten.commitReply c
      match c.op with
      | some n => if (s3.op n).commitPhase && (s3.op n).type = opConfig then s3.endOp n .done 0 else s3
      | none => s3

def execCommitApply (at_ : Instant) (s : State) : Result := act true 1 (s.arrive at_) fun s => s.commitApply

def State.discardStage (s : State) (q : Req) : State :=
  s.request 0x07 q fun t _ =>
    if t.stageTurn q.session ≠ 0 then t.served 0x07 q (t.stageTurn q.session) else t.dropStage.served 0x07 q 0

def execDiscard (at_ : Instant) (req : Req) (s : State) : Result := act true 1 (s.arrive at_) fun s => s.discardStage req

/-! ### Events (R436, R449) -/

/-- SUBSCRIBE_EVENTS replaces the mask; the mailbox has no events. -/
def State.subscribe (s : State) (q : Req) : State :=
  s.request 0x20 q fun t x =>
    if decide (x.transport = Transport.mailbox) then t.served 0x20 q stUnsupported
    else if q.payload.length ≠ 16 then t.served 0x20 q stTypeMismatch
    else
      match t.session? q.session with
      | some y => (t.setSession q.session { y with mask := ofLe q.payload }).served 0x20 q 0
      | none => t.served 0x20 q 0

def execSubscribeEvents (at_ : Instant) (req : Req) (s : State) : Result := act true 1 (s.arrive at_) fun s => s.subscribe req

/-- A held EVENT is sent at the end of its 10 ms, with the status at its sending. -/
def State.holdExpiry (s : State) (sid n : Nat) : State :=
  match s.session? sid with
  | none => s
  | some x =>
    let due := match Tab.find x.evSent n with
      | some t => decide (t + ofMs 10 ≤ s.now)
      | none => true
    if x.evHeld.contains n && due then s.sendEvent sid n else s

def execEventHoldExpiry (at_ : Instant) (session source : Nat) (s : State) : Result :=
  act (source < 128) 1 (s.arrive at_) fun s => s.holdExpiry session source

/-- A write of STATUS; a flag set in the same cycle stays, and notifies again where its clear would have hidden it (R473, R474). -/
def State.statusWrite (s : State) (n value setMeanwhile : Nat) : State :=
  let before := s.reg (Od.evStatus n)
  let s1 := s.each (bitsOf 16 setMeanwhile) fun f t => t.setFlag n f
  let hidden := (bitsOf 16 setMeanwhile).any fun f =>
    bit value f && !standing n f && bit before f && bit (s.reg (Od.evEnableMask n)) f && s.sourceUp n
  (s1.clearStatus n (maskOf ((bitsOf 16 value).filter fun f => !bit setMeanwhile f))).when_ hidden fun t => t.notify n

def execEventStatusWrite (at_ : Instant) (source value setMeanwhile : Nat) (s : State) : Result :=
  act (source < 128) 1 (s.arrive at_) fun s => s.statusWrite source value setMeanwhile

def execEnableMaskWrite (at_ : Instant) (source value : Nat) (s : State) : Result :=
  act (source < 128) 1 (s.arrive at_) fun s => s.writeEnableMask source (value % 2 ^ 32)

/-! ### Sessions (R373, R374, R395, R433, R439, R442) -/

/-- The slot that serves a role: slot 0 where the life-cycle state makes it so, else the one named. -/
def State.roleSlot (s : State) (role : Nat) : Nat :=
  let held := s.sec.tamperHold || s.sec.reprovision || decide (s.sec.lc = LifeCycle.shipped)
  if role = 4 && s.testAccess then 0
  else if role = 3 && held then 0
  else s.reg (Od.roleKey role)

/-- The service UART opens a session (R433). -/
def State.uartOpens (s : State) (role slot : Nat) : Bool :=
  if s.sec.tamperHold then slot = 0
  else if s.testAccess then true
  else s.on Od.mgmtUartEnable && role ≠ 4

/-- DENIED: a role that does not exist here, a slot that is none, slots other than 0 in TAMPER_HOLD, the UART's own rules. -/
def State.openDenied (s : State) (t : Transport) (role slot : Nat) : Bool :=
  4 < role || (role = 4 && !s.testAccess) || 256 ≤ slot || slot = 0xFF || (s.sec.tamperHold && slot ≠ 0) ||
    (decide (t = Transport.uart) && !s.uartOpens role slot)

/-- The session a SESSION_OPEN makes, with its keys. -/
def newSession (t : Transport) (role slot now : Nat) (keys : List Byte) : Session :=
  { transport := t, role := role, slot := slot, opened := false, createdAt := now, lastAt := now, highest := 0, lastReply := none
    keys := keys, write := none, reads := none, mask := 0, evSent := [], evHeld := [], evSeq := 1 }

/-- A session identifier, never 0 (log 63). -/
def State.takeSession (s : State) : Nat × State :=
  (s.edp.nextSession, s.setEdp fun e => { e with nextSession := e.nextSession % (2 ^ 32 - 1) + 1 })

/-- The session is made and MODULE_NONCE answered with its tag. -/
def State.openSession (s : State) (q : Req) (role slot : Nat) : State :=
  let nonce := s.randomBytes 32
  let id := nonce.2.takeSession
  let x := beBytes 1 role ++ beBytes 4 id.1 ++ slice q.payload 4 32 ++ nonce.1
  let keys := kmac256 (s.slotKey slot) x (ascii "VX96 EDP SESSION") 64
  let r : Reply := { replyTo q 0x30 0 nonce.1 with session := id.1 }
  (id.2.setSession id.1 (newSession q.transport role slot s.now keys)).sendReply q.transport (keys.drop 32) r

/-- SESSION_OPEN. A payload of another length is no request of this form and is discarded. -/
def State.sessionOpen (s : State) (q : Req) : State :=
  let role := beAt q.payload 0 1
  let slot := s.roleSlot role
  if !s.transportUp q.transport || !s.carried 0x30 q then s
  else if q.version ≠ 1 || q.payload.length ≠ 36 then s.discardReq q.transport
  else if s.openDenied q.transport role slot then s.answerClear q 0x30 stDenied
  else if s.sec.secLost then s.answerClear q 0x30 stBusy
  else
    let use := s.useSlot slot .edpRole
    if !use.1 then use.2.answerClear q 0x30 stDenied
    else if sessionLimit q.transport ≤ (s.edp.sessions.filter fun e => decide (e.2.transport = q.transport)).length then
      s.answerClear q 0x30 stBusy
    else use.2.openSession q role slot

def execSessionOpen (at_ : Instant) (req : Req) (s : State) : Result := act true 1 (s.arrive at_) fun s => s.sessionOpen req

def State.sessionClose (s : State) (q : Req) : State :=
  s.request 0x31 q fun t _ => (t.closeSession q.session).served 0x31 q 0

def execSessionClose (at_ : Instant) (req : Req) (s : State) : Result := act true 1 (s.arrive at_) fun s => s.sessionClose req

def State.keepalive (s : State) (q : Req) : State := s.request 0x3F q fun t _ => t.served 0x3F q 0

def execKeepalive (at_ : Instant) (req : Req) (s : State) : Result := act true 1 (s.arrive at_) fun s => s.keepalive req

/-- The opcodes a client may send (R436). -/
def clientOpcodes : List Nat := [1, 2, 3, 4, 5, 6, 7, 0x10, 0x11, 0x12, 0x13, 0x14, 0x20, 0x30, 0x31, 0x3F]

/-- Any other opcode of 8 bits, EVENT among them. -/
def State.unsupported (s : State) (opcode : Nat) (q : Req) : State :=
  if clientOpcodes.contains opcode || 256 ≤ opcode then s else s.request opcode q fun t _ => t.served opcode q stUnsupported

def execUnsupportedOpcode (at_ : Instant) (opcode : Nat) (req : Req) (s : State) : Result :=
  act true 1 (s.arrive at_) fun s => s.unsupported opcode req

/-! ### Time-outs (R439, R442 to R444) -/

/-- SESSION_TIMEOUT without a request whose tag verifies. -/
def State.sessionTimeout (s : State) (sid : Nat) : State :=
  match s.session? sid with
  | none => s
  | some x => if x.opened && x.lastAt + s.reg Od.mgmtSessionTimeout * second ≤ s.now then s.closeSession sid else s

def execSessionTimeout (at_ : Instant) (session : Nat) (s : State) : Result :=
  act true 1 (s.arrive at_) fun s => s.sessionTimeout session

/-- 5 s without a first verified request. -/
def State.openTimeout (s : State) (sid : Nat) : State :=
  match s.session? sid with
  | none => s
  | some x => if !x.opened && x.createdAt + 5 * second ≤ s.now then s.closeSession sid else s

def execSessionOpenTimeout (at_ : Instant) (session : Nat) (s : State) : Result :=
  act true 1 (s.arrive at_) fun s => s.openTimeout session

/-- 10 s without a segment. -/
def State.transferTimeout (s : State) (sid : Nat) : State :=
  match s.session? sid with
  | none => s
  | some x => if x.write.any fun w => w.lastAt + 10 * second ≤ s.now then s.setXfer sid none else s

def execBlockTransferTimeout (at_ : Instant) (session : Nat) (s : State) : Result :=
  act true 1 (s.arrive at_) fun s => s.transferTimeout session

/-- 10 s without a request for the next segment. -/
def State.snapshotTimeout (s : State) (sid : Nat) : State :=
  match s.session? sid with
  | none => s
  | some x => if x.reads.any fun r => r.lastAt + 10 * second ≤ s.now then s.setSession sid { x with reads := none } else s

def execReadSnapshotTimeout (at_ : Instant) (session : Nat) (s : State) : Result :=
  act true 1 (s.arrive at_) fun s => s.snapshotTimeout session

end Sys2Proof.Machine
end

