-- ==== Sys2Proof/Machine/HostPort.lean ====
section
/-!
DEFINITION. The PCI Express endpoint (R253 to R255), the mailbox (R434), and plain register and entry writes: the pails' register windows
(R239), BAR index 0, LIVE entries of the dictionary.
-/

namespace Sys2Proof.Machine

open Sys2Proof

/-! ### Function-level reset (R253, R434) -/

/-- The mailbox and the MSI-X table as after a reset; every mailbox session closes. -/
def State.resetMailbox (s : State) : State :=
  let sids := (s.edp.sessions.filter fun e => decide (e.2.transport = Transport.mailbox)).map (·.1)
  (s.each sids fun sid t => t.closeSession sid).setEdp fun e => { e with
    mbxReq := [], mbxReqLen := 0, mbxResp := [], mbxBusy := false, mbxReady := false
    msixMasked := [], msixPending := [], msixTable := [], msixSent := [] }

/-- Every host-bound pail is reset as CTRL.RESET does, unless the link to the pails is down (R28), and the mailbox; partitions are not
affected. -/
def State.functionReset (s : State) : State :=
  (s.when_ (!s.cut 1) fun s =>
    s.each ((List.range 64).filter fun p => s.reg (Od.pailBindKind p) = 2) fun p t => t.resetPail p).resetMailbox

def execFunctionLevelReset (at_ : Instant) (s : State) : Result := act true 11 (s.arrive at_) fun s => s.functionReset

/-! ### The mailbox (R434) -/

/-- The TOO_LARGE reply to a request longer than the buffer, in clear: what was read of it is its header. -/
def State.mailboxTooLarge (s : State) : State :=
  let h := s.edp.requestBytes 24
  s.sendReply .mailbox [] { opcode := beAt h 1 1, flags := 1, session := beAt h 4 4, seq := beAt h 8 4, index := beAt h 12 2
                            sub := beAt h 14 1, status := stTooLarge, handle := beAt h 20 4, payload := [], tagged := false }

/-- MBX_DOORBELL.REQUEST: the request in the buffer is being processed; ignored while one is. -/
def State.mailboxDoorbell (s : State) (value : Nat) : State :=
  if !bit value 0 || s.edp.mbxBusy || decide (s.power.state = PowerState.tamperHold) then s
  else if 12288 < s.edp.mbxReqLen then s.mailboxTooLarge
  else if s.edp.mbxReqLen < 24 then s
  else s.setEdp fun e => { e with mbxBusy := true }

def execMbxDoorbell (at_ : Instant) (value : Nat) (s : State) : Result :=
  act true 11 (s.arrive at_) fun s => s.mailboxDoorbell value

/-! ### BAR index 0 (R255, R434) -/

/-- The MSI-X table: bit 0 of an entry's fourth word masks its vector, whose pending message leaves once it is unmasked. -/
def State.msixWrite (s : State) (o value : Nat) : State :=
  let v := o / 16
  let s1 := s.setEdp fun e => { e with msixTable := Tab.put e.msixTable o value 0 }
  if o % 16 ≠ 12 then s1
  else if bit value 0 then s1.setEdp fun e => { e with msixMasked := v :: e.msixMasked.filter (· ≠ v) }
  else
    (s1.setEdp fun e => { e with msixMasked := e.msixMasked.filter (· ≠ v), msixPending := e.msixPending.filter (· ≠ v) }).when_
      (s1.edp.msixPending.contains v) fun t => t.msix v

/-- A write of one word of BAR index 0. -/
def State.barZero (s : State) (o value : Nat) : State :=
  if o = 0x004 then s.mailboxDoorbell value
  else if o = 0x008 then s.setEdp fun e => { e with mbxReady := e.mbxReady && !bit value 1 }
  else if o = 0x00C then s.setEdp fun e => { e with mbxReqLen := value % 2 ^ 16 }
  else if 0x1000 ≤ o && o < 0x4000 then s.setEdp fun e => { e with mbxReq := Tab.put e.mbxReq ((o - 0x1000) / 4) value 0 }
  else if 0xE000 ≤ o && o < 0xE800 then s.msixWrite (o - 0xE000) value
  else s

/-! ### Pail windows (R239, R240, R246, R250, R258) -/

/-- The low or the high word of a 64-bit register. -/
def putHalf (w : Nat) (high : Bool) (value : Nat) : Nat := setField w (if high then 32 else 0) 32 value

/-- A half of a base register, which holds a 4 KiB-aligned address. -/
def putBase (w : Nat) (high : Bool) (value : Nat) : Nat := putHalf w high value / 4096 * 4096

/-- CTRL: RESET asks for a reset, FREEZE asks for a freeze or releases it. -/
def State.writeCtrl (s : State) (p value : Nat) : State :=
  let s1 := s.when_ (bit value 0) fun t => t.resetPail p
  if bit value 1 then s1.askFreeze p else s1.releaseFreeze p

/-- EVQ_CTRL: a LOG2 out of its range is ignored; the phase is 1 after enable. -/
def State.writeEvCtrl (s : State) (p value : Nat) : State :=
  let e := (s.pail p).ev
  if field value 1 4 < 4 || 12 < field value 1 4 then s
  else
    s.modPail p fun x => { x with ev := { x.ev with
      ctrl := value % 2 ^ 7, run := [], phase := if bit value 0 && !bit e.ctrl 0 then true else e.phase } }

/-- DIRTY_CTRL: ENABLE, OUT_OF_SPAN cleared by 1, SWAP. -/
def State.writeDirtyCtrl (s : State) (p value : Nat) : State :=
  let s1 := s.modPail p fun x => { x with dirty := { x.dirty with
    ctrl := setBit (setBit x.dirty.ctrl 0 (bit value 0)) 3 (bit x.dirty.ctrl 3 && !bit value 3) } }
  s1.when_ (bit value 1) fun t => t.dirtySwap p

/-- The registers below 0x100. -/
def State.writePailCommon (s : State) (p o value : Nat) : State :=
  let ev (f : EvRing → EvRing) : State := s.modPail p fun x => { x with ev := f x.ev }
  let dirty (f : Dirty → Dirty) : State := s.modPail p fun x => { x with dirty := f x.dirty }
  match o with
  | 0x00C => s.writeCtrl p value
  | 0x020 => s.pailFreeze p (putHalf (s.pail p).dcFreeze false value)
  | 0x024 => s.pailFreeze p (putHalf (s.pail p).dcFreeze true value)
  | 0x028 => s.pailTrigger p value
  | 0x030 => ev fun e => { e with base := putBase e.base false value, run := [] }
  | 0x034 => ev fun e => { e with base := putBase e.base true value, run := [] }
  | 0x038 => s.writeEvCtrl p value
  | 0x03C => s.writeEvHead p value
  | 0x060 => dirty fun d => { d with origin := putHalf d.origin false value }
  | 0x064 => dirty fun d => { d with origin := putHalf d.origin true value }
  | 0x068 => dirty fun d => { d with next := putHalf d.next false value }
  | 0x06C => dirty fun d => { d with next := putHalf d.next true value }
  | 0x070 => dirty fun d => { d with span := value % 2 ^ 32 }
  | 0x074 => s.writeDirtyCtrl p value
  | _ => s

/-- The registers of a queue, from 0x200 on. -/
def State.writeQueueReg (s : State) (p q r value : Nat) : State :=
  let queue (f : Queue → Queue) : State :=
    if q < s.queuePairs p then s.modPail p fun x => x.setQueue q (f (x.queue q)) else s
  match r with
  | 0x00 => queue fun y => { y with sqBase := putBase y.sqBase false value }
  | 0x04 => queue fun y => { y with sqBase := putBase y.sqBase true value }
  | 0x08 => queue fun y => { y with cqBase := putBase y.cqBase false value }
  | 0x0C => queue fun y => { y with cqBase := putBase y.cqBase true value }
  | 0x10 => s.queueControl p q value
  | _ => s

/-- A write of one word of a pail's window; read-only and reserved offsets keep their values. -/
def State.writePailWindow (s : State) (p o value : Nat) : State :=
  if decide ((s.pail p).state = PailState.disabled) then s
  else if o < 0x100 then s.writePailCommon p o value
  else if o < 0x140 then
    if o % 0x10 = 0 then s.txDoorbell p (o / 0x10 % 4) value
    else if o % 0x10 = 4 then s.rxDoorbell p (o / 0x10 % 4) value else s
  else if 0x200 ≤ o && o < 0x280 then s.writeQueueReg p ((o - 0x200) / 0x20) (o % 0x20) value
  else if o = 0x600 then s.pubCommit p value
  else if o = 0x604 then s.modPail p fun x => { x with late := x.late && !bit value 16 }
  else if 0x1000 ≤ o && o < 0x2000 then s.stageCell p ((o - 0x1000) / 0x100) (o % 0x100 / 8) (decide (o % 8 = 4)) value
  else s

/-! ### REGISTER_WRITE (R6, R7) -/

/-- A LIVE entry written by its own side, with every role's rights; any other entry keeps its value. -/
def State.writeLiveEntry (s : State) (key value : Nat) : State :=
  match s.entry? (key / 256) (key % 256) with
  | none => (s.refuse stNoEntry).told
  | some r =>
    if r.wr = 5 then (s.refuse stReadOnly).told
    else if decide (r.ap ≠ Apply.live) then (s.refuse stInvalidValue).told
    else
      let v := beBytes r.ty.size value
      if r.ty.isBlob || !typeFits r.ty v then (s.refuse stTypeMismatch).told
      else if r.rd = 5 && !s.powered (commandDomain (key / 256)) then (s.refuse stBusy).told
      else (s.liveWrite ⟨4, 0, 0⟩ (key / 256) (key % 256) r v).told

/-- A store of one word by the owner of a memory: a partition to its own RAM, a machine behind a PASID to its own memory (log 112). -/
def State.ownerStore (s : State) (owner a value : Nat) : State :=
  if owner < 128 && !(owner < 96 && s.inRam owner a 4) then s else s.storeBytes owner a (leBytes 4 value)

/-- A pail's window can be reached: a host-bound one only over the link between the compute die and the I/O die (R28). -/
def State.windowReach (s : State) (p : Nat) : Bool := s.reg (Od.pailBindKind p) ≠ 2 || !s.cut 1

/-- A write of one 32-bit word to a register: space 0, the pail windows of BAR index 2; space 1, BAR index 0; space 2, a plain entry
named by its key; space 3, a word of memory, the offset its owner times 2^64 with the address (log 112). An offset off a word boundary
names no register. -/
def State.registerWrite (s : State) (space offset value : Nat) : State :=
  if space = 2 then s.writeLiveEntry offset value
  else if offset % 4 ≠ 0 then s
  else if space = 1 then s.barZero offset (value % 2 ^ 32)
  else if space = 3 then s.ownerStore (offset / 2 ^ 64) (offset % 2 ^ 64) (value % 2 ^ 32)
  else if offset < 64 * 0x4000 && s.windowReach (offset / 0x4000) then
    s.writePailWindow (offset / 0x4000) (offset % 0x4000) (value % 2 ^ 32)
  else s

/-- The power domain behind a space (R482): the pails' fabric, the host interface, the supervisor, the owners' memory. -/
def spaceDomain (space : Nat) : Nat := if space = 0 || space = 3 then 10 else if space = 1 then 11 else 1

def execRegisterWrite (at_ : Instant) (space offset value : Nat) (s : State) : Result :=
  act (space < 4) (spaceDomain space) (s.arrive at_) fun s => s.registerWrite space offset value

end Sys2Proof.Machine
end

