-- ==== Sys2Proof/Machine/Dispatch.lean ====
section
/-!
DEFINITION. One arm for each constructor of `Instr`: a direct call of its meaning, or its rejection by name.
-/

namespace Sys2Proof.Machine

open Sys2Proof

/-- What a command does to everything but the queue. -/
def exec (i : Instr) (s : State) : Host.Outcome State Fault Refusal :=
  match i with
  | .workTickBoundary at_ => Sys2Proof.Machine.execWorkTickBoundary at_ s
  | .alignmentWindowClose at_ image => Sys2Proof.Machine.execAlignmentWindowClose at_ image s
  | .imageRelease at_ image => Sys2Proof.Machine.execImageRelease at_ image s
  | .phasorRelease at_ image => Sys2Proof.Machine.execPhasorRelease at_ image s
  | .residueMismatch at_ slice group => Sys2Proof.Machine.execResidueMismatch at_ slice group s
  | .fallbackHandover at_ slice => Sys2Proof.Machine.execFallbackHandover at_ slice s
  | .fallbackReturn at_ slice => Sys2Proof.Machine.execFallbackReturn at_ slice s
  | .curdFrameWrite at_ firstTick => Sys2Proof.Machine.execCurdFrameWrite at_ firstTick s
  | .triggerNow at_ value => Sys2Proof.Machine.execTriggerNow at_ value s
  | .releaseWindow at_ window => Sys2Proof.Machine.execReleaseWindow at_ window s
  | .dcFreezeMapWrite at_ map => Sys2Proof.Machine.execDcFreezeMapWrite at_ map s
  | .rxFrameStart at_ port => Sys2Proof.Machine.execRxFrameStart at_ port s
  | .rxClassified at_ port frame => Sys2Proof.Machine.execRxClassified at_ port frame s
  | .rxFrameEnd at_ port ending => Sys2Proof.Machine.execRxFrameEnd at_ port ending s
  | .cutThroughStart at_ ingress egress => Sys2Proof.Machine.execCutThroughStart at_ ingress egress s
  | .egressTxStart at_ port => Sys2Proof.Machine.execEgressTxStart at_ port s
  | .txFrameEnd at_ port => Sys2Proof.Machine.execTxFrameEnd at_ port s
  | .timestampCollect at_ port owner => Sys2Proof.Machine.execTimestampCollect at_ port owner s
  | .timestampUncollected at_ port => Sys2Proof.Machine.execTimestampUncollected at_ port s
  | .residenceDiscard at_ port => Sys2Proof.Machine.execResidenceDiscard at_ port s
  | .pauseReceived at_ port pauseTime => Sys2Proof.Machine.execPauseReceived at_ port pauseTime s
  | .pauseExpiry at_ port => Sys2Proof.Machine.execPauseExpiry at_ port s
  | .pauseRepeat at_ port => Sys2Proof.Machine.execPauseRepeat at_ port s
  | .speedLower at_ port => Sys2Proof.Machine.execSpeedLower at_ port s
  | .speedRaise at_ port => Sys2Proof.Machine.execSpeedRaise at_ port s
  | .sgmiiSpeedReport at_ port speed fullDuplex => Sys2Proof.Machine.execSgmiiSpeedReport at_ port speed fullDuplex s
  | .linkDown at_ port => Sys2Proof.Machine.execLinkDown at_ port s
  | .linkUp at_ port => Sys2Proof.Machine.execLinkUp at_ port s
  | .serdesLockLost at_ port => Sys2Proof.Machine.execSerdesLockLost at_ port s
  | .halfRangeMapWrite at_ port value => Sys2Proof.Machine.execHalfRangeMapWrite at_ port value s
  | .staticEntryWrite at_ entry value => Sys2Proof.Machine.execStaticEntryWrite at_ entry value s
  | .multicastGroupWrite at_ group value => Sys2Proof.Machine.execMulticastGroupWrite at_ group value s
  | .clearTables at_ value => Sys2Proof.Machine.execClearTables at_ value s
  | .tableBarrier at_ generation => Sys2Proof.Machine.execTableBarrier at_ generation s
  | .barrierDone at_ => Sys2Proof.Machine.execBarrierDone at_ s
  | .residenceLimitWrite at_ value => Sys2Proof.Machine.execResidenceLimitWrite at_ value s
  | .supervisionFrameSend at_ group => Sys2Proof.Machine.execSupervisionFrameSend at_ group s
  | .lanSilent at_ group => Sys2Proof.Machine.execLanSilent at_ group s
  | .entryForget at_ group mac => Sys2Proof.Machine.execEntryForget at_ group mac s
  | .ptpMessageReceived at_ port msg => Sys2Proof.Machine.execPtpMessageReceived at_ port msg s
  | .ptpSyncSend at_ port => Sys2Proof.Machine.execPtpSyncSend at_ port s
  | .ptpAnnounceSend at_ port => Sys2Proof.Machine.execPtpAnnounceSend at_ port s
  | .pdelayReqSend at_ port => Sys2Proof.Machine.execPdelayReqSend at_ port s
  | .announceReceiptTimeout at_ port => Sys2Proof.Machine.execAnnounceReceiptTimeout at_ port s
  | .holdoverOutOfSpec at_ => Sys2Proof.Machine.execHoldoverOutOfSpec at_ s
  | .frequencyStore at_ => Sys2Proof.Machine.execFrequencyStore at_ s
  | .setTime at_ time => Sys2Proof.Machine.execSetTime at_ time s
  | .stepNow at_ value => Sys2Proof.Machine.execStepNow at_ value s
  | .ppsInEdge at_ edge => Sys2Proof.Machine.execPpsInEdge at_ edge s
  | .ppsInInvalid at_ => Sys2Proof.Machine.execPpsInInvalid at_ s
  | .ppsOutRise at_ => Sys2Proof.Machine.execPpsOutRise at_ s
  | .ppsOutFall at_ => Sys2Proof.Machine.execPpsOutFall at_ s
  | .tickRateChange at_ => Sys2Proof.Machine.execTickRateChange at_ s
  | .svAsduReceived at_ asdu => Sys2Proof.Machine.execSvAsduReceived at_ asdu s
  | .gooseMessageReceived at_ msg => Sys2Proof.Machine.execGooseMessageReceived at_ msg s
  | .info at_ partition => Sys2Proof.Machine.execInfo at_ partition s
  | .tick at_ partition => Sys2Proof.Machine.execTick at_ partition s
  | .tickDone at_ partition => Sys2Proof.Machine.execTickDone at_ partition s
  | .yield at_ partition => Sys2Proof.Machine.execYield at_ partition s
  | .timerSet at_ partition time => Sys2Proof.Machine.execTimerSet at_ partition time s
  | .timerCancel at_ partition => Sys2Proof.Machine.execTimerCancel at_ partition s
  | .stateDeclare at_ partition region address length => Sys2Proof.Machine.execStateDeclare at_ partition region address length s
  | .stateStatus at_ partition => Sys2Proof.Machine.execStateStatus at_ partition s
  | .portSend at_ partition dest address length => Sys2Proof.Machine.execPortSend at_ partition dest address length s
  | .portRecv at_ partition address length => Sys2Proof.Machine.execPortRecv at_ partition address length s
  | .log at_ partition address => Sys2Proof.Machine.execLog at_ partition address s
  | .health at_ partition => Sys2Proof.Machine.execHealth at_ partition s
  | .watchdogKick at_ partition => Sys2Proof.Machine.execWatchdogKick at_ partition s
  | .restartSelf at_ partition => Sys2Proof.Machine.execRestartSelf at_ partition s
  | .configRead at_ partition index sub address length => Sys2Proof.Machine.execConfigRead at_ partition index sub address length s
  | .migrateReady at_ partition => Sys2Proof.Machine.execMigrateReady at_ partition s
  | .invalidMonitorCall at_ partition number => Sys2Proof.Machine.execInvalidMonitorCall at_ partition number s
  | .windowStart at_ partition window => Sys2Proof.Machine.execWindowStart at_ partition window s
  | .windowEnd at_ partition window => Sys2Proof.Machine.execWindowEnd at_ partition window s
  | .vsTimerInterrupt at_ partition => Sys2Proof.Machine.execVsTimerInterrupt at_ partition s
  | .partitionException at_ exception => Sys2Proof.Machine.execPartitionException at_ exception s
  | .partitionRestart at_ partition => Sys2Proof.Machine.execPartitionRestart at_ partition s
  | .partitionWatchdogExpiry at_ partition => Sys2Proof.Machine.execPartitionWatchdogExpiry at_ partition s
  | .pailReset at_ pail => Sys2Proof.Machine.execPailReset at_ pail s
  | .pailResetComplete at_ pail => Sys2Proof.Machine.execPailResetComplete at_ pail s
  | .freeze at_ pail => Sys2Proof.Machine.execFreeze at_ pail s
  | .pailFrozen at_ pail => Sys2Proof.Machine.execPailFrozen at_ pail s
  | .freezeRelease at_ pail => Sys2Proof.Machine.execFreezeRelease at_ pail s
  | .stateRecordWrite at_ pail record => Sys2Proof.Machine.execStateRecordWrite at_ pail record s
  | .txDbWrite at_ pail queue value => Sys2Proof.Machine.execTxDbWrite at_ pail queue value s
  | .rxDbWrite at_ pail queue value => Sys2Proof.Machine.execRxDbWrite at_ pail queue value s
  | .qCtrlWrite at_ pail queue value => Sys2Proof.Machine.execQCtrlWrite at_ pail queue value s
  | .imageCopy at_ pail queue => Sys2Proof.Machine.execImageCopy at_ pail queue s
  | .phasorCopy at_ pail queue => Sys2Proof.Machine.execPhasorCopy at_ pail queue s
  | .freqCopy at_ pail queue => Sys2Proof.Machine.execFreqCopy at_ pail queue s
  | .rxBuffer at_ pail queue => Sys2Proof.Machine.execRxBuffer at_ pail queue s
  | .txFrame at_ pail queue answered => Sys2Proof.Machine.execTxFrame at_ pail queue answered s
  | .cryptoSeal at_ pail queue answered => Sys2Proof.Machine.execCryptoSeal at_ pail queue answered s
  | .cryptoOpen at_ pail queue answered => Sys2Proof.Machine.execCryptoOpen at_ pail queue answered s
  | .hmacGenerate at_ pail queue answered => Sys2Proof.Machine.execHmacGenerate at_ pail queue answered s
  | .hmacVerify at_ pail queue answered => Sys2Proof.Machine.execHmacVerify at_ pail queue answered s
  | .rxFrameCompletion at_ pail => Sys2Proof.Machine.execRxFrameCompletion at_ pail s
  | .txTimestampCompletion at_ pail => Sys2Proof.Machine.execTxTimestampCompletion at_ pail s
  | .pubCommit at_ pail value => Sys2Proof.Machine.execPubCommit at_ pail value s
  | .histTrigger at_ pail value => Sys2Proof.Machine.execHistTrigger at_ pail value s
  | .dcFreezeWrite at_ pail value => Sys2Proof.Machine.execDcFreezeWrite at_ pail value s
  | .evqHeadWrite at_ pail value => Sys2Proof.Machine.execEvqHeadWrite at_ pail value s
  | .dirtySwap at_ pail => Sys2Proof.Machine.execDirtySwap at_ pail s
  | .dirtySwapComplete at_ pail => Sys2Proof.Machine.execDirtySwapComplete at_ pail s
  | .functionLevelReset at_ => Sys2Proof.Machine.execFunctionLevelReset at_ s
  | .mbxDoorbell at_ value => Sys2Proof.Machine.execMbxDoorbell at_ value s
  | .churnCycleBoundary at_ => Sys2Proof.Machine.execChurnCycleBoundary at_ s
  | .churnEvalDone at_ => Sys2Proof.Machine.execChurnEvalDone at_ s
  | .onlineBatch at_ batch => Sys2Proof.Machine.execOnlineBatch at_ batch s
  | .forceWrite at_ entry value => Sys2Proof.Machine.execForceWrite at_ entry value s
  | .releaseAll at_ value => Sys2Proof.Machine.execReleaseAll at_ value s
  | .restart at_ value => Sys2Proof.Machine.execRestart at_ value s
  | .gpioSample at_ levels => Sys2Proof.Machine.execGpioSample at_ levels s
  | .unitComputation at_ head => Sys2Proof.Machine.execUnitComputation at_ head s
  | .generatorComputation at_ gen => Sys2Proof.Machine.execGeneratorComputation at_ gen s
  | .loopOverrun at_ head => Sys2Proof.Machine.execLoopOverrun at_ head s
  | .loopRelease at_ loop value => Sys2Proof.Machine.execLoopRelease at_ loop value s
  | .groupRelease at_ group value => Sys2Proof.Machine.execGroupRelease at_ group value s
  | .modeRequest at_ loop value => Sys2Proof.Machine.execModeRequest at_ loop value s
  | .manualValue at_ loop value => Sys2Proof.Machine.execManualValue at_ loop value s
  | .valueEntryWrite at_ index sub value => Sys2Proof.Machine.execValueEntryWrite at_ index sub value s
  | .tuningWrite at_ loop sub value => Sys2Proof.Machine.execTuningWrite at_ loop sub value s
  | .heartbeatSend at_ => Sys2Proof.Machine.execHeartbeatSend at_ s
  | .heartbeat at_ hdr hb => Sys2Proof.Machine.execHeartbeat at_ hdr hb s
  | .hbWaitExpiry at_ => Sys2Proof.Machine.execHbWaitExpiry at_ s
  | .digestSend at_ => Sys2Proof.Machine.execDigestSend at_ s
  | .digest at_ hdr dig => Sys2Proof.Machine.execDigest at_ hdr dig s
  | .state at_ hdr frag => Sys2Proof.Machine.execState at_ hdr frag s
  | .relinquish at_ hdr msg => Sys2Proof.Machine.execRelinquish at_ hdr msg s
  | .swapRequest at_ hdr msg => Sys2Proof.Machine.execSwapRequest at_ hdr msg s
  | .swapAccept at_ hdr msg => Sys2Proof.Machine.execSwapAccept at_ hdr msg s
  | .swapRefuse at_ hdr msg => Sys2Proof.Machine.execSwapRefuse at_ hdr msg s
  | .ack at_ hdr msg => Sys2Proof.Machine.execAck at_ hdr msg s
  | .selftest at_ hdr msg => Sys2Proof.Machine.execSelftest at_ hdr msg s
  | .regions at_ hdr msg => Sys2Proof.Machine.execRegions at_ hdr msg s
  | .changeAck at_ hdr msg => Sys2Proof.Machine.execChangeAck at_ hdr msg s
  | .roleRepeat at_ => Sys2Proof.Machine.execRoleRepeat at_ s
  | .migrateData at_ hdr msg => Sys2Proof.Machine.execMigrateData at_ hdr msg s
  | .migrateAck at_ hdr msg => Sys2Proof.Machine.execMigrateAck at_ hdr msg s
  | .migrateAbort at_ hdr msg => Sys2Proof.Machine.execMigrateAbort at_ hdr msg s
  | .migrateResend at_ => Sys2Proof.Machine.execMigrateResend at_ s
  | .pailMove at_ value => Sys2Proof.Machine.execPailMove at_ value s
  | .laneLost at_ lane => Sys2Proof.Machine.execLaneLost at_ lane s
  | .laneRestored at_ lane => Sys2Proof.Machine.execLaneRestored at_ lane s
  | .revertDelayExpiry at_ => Sys2Proof.Machine.execRevertDelayExpiry at_ s
  | .swapIntervalExpiry at_ => Sys2Proof.Machine.execSwapIntervalExpiry at_ s
  | .swapNow at_ value => Sys2Proof.Machine.execSwapNow at_ value s
  | .lcToShipped at_ session req => Sys2Proof.Machine.execLcToShipped at_ session req s
  | .lcToOwned at_ session req => Sys2Proof.Machine.execLcToOwned at_ session req s
  | .lcReown at_ session req => Sys2Proof.Machine.execLcReown at_ session req s
  | .lcToReturn at_ session req => Sys2Proof.Machine.execLcToReturn at_ session req s
  | .lcDecommission at_ session req => Sys2Proof.Machine.execLcDecommission at_ session req s
  | .lcRevoke at_ session req => Sys2Proof.Machine.execLcRevoke at_ session req s
  | .derive at_ session cmd => Sys2Proof.Machine.execDerive at_ session cmd s
  | .load at_ session cmd => Sys2Proof.Machine.execLoad at_ session cmd s
  | .generate at_ session cmd => Sys2Proof.Machine.execGenerate at_ session cmd s
  | .destroy at_ session cmd => Sys2Proof.Machine.execDestroy at_ session cmd s
  | .bump at_ session cmd => Sys2Proof.Machine.execBump at_ session cmd s
  | .keyExport at_ session cmd => Sys2Proof.Machine.execKeyExport at_ session cmd s
  | .keyImport at_ session cmd => Sys2Proof.Machine.execKeyImport at_ session cmd s
  | .journalCommit at_ => Sys2Proof.Machine.execJournalCommit at_ s
  | .tamperAlarm at_ sources => Sys2Proof.Machine.execTamperAlarm at_ sources s
  | .tamperLoopCheck at_ faults => Sys2Proof.Machine.execTamperLoopCheck at_ faults s
  | .tamperClear at_ session value => Sys2Proof.Machine.execTamperClear at_ session value s
  | .attestSign at_ req => Sys2Proof.Machine.execAttestSign at_ req s
  | .keygenSlhdsa at_ req => Sys2Proof.Machine.execKeygenSlhdsa at_ req s
  | .firmwareInstall at_ req => Sys2Proof.Machine.execFirmwareInstall at_ req s
  | .fullSelfTest at_ req => Sys2Proof.Machine.execFullSelfTest at_ req s
  | .historyExport at_ req => Sys2Proof.Machine.execHistoryExport at_ req s
  | .partitionMigrate at_ req => Sys2Proof.Machine.execPartitionMigrate at_ req s
  | .configApply at_ req => Sys2Proof.Machine.execConfigApply at_ req s
  | .memoryScrub at_ req => Sys2Proof.Machine.execMemoryScrub at_ req s
  | .opSafePoint at_ slot => Sys2Proof.Machine.execOpSafePoint at_ slot s
  | .opComplete at_ slot => Sys2Proof.Machine.execOpComplete at_ slot s
  | .opResultExpiry at_ slot => Sys2Proof.Machine.execOpResultExpiry at_ slot s
  | .opSuspendExpiry at_ slot => Sys2Proof.Machine.execOpSuspendExpiry at_ slot s
  | .lockstepMismatch at_ unit => Sys2Proof.Machine.execLockstepMismatch at_ unit s
  | .spareTakeover at_ herd => Sys2Proof.Machine.execSpareTakeover at_ herd s
  | .partitionRelocate at_ herd => Sys2Proof.Machine.execPartitionRelocate at_ herd s
  | .regionLost at_ region => Sys2Proof.Machine.execRegionLost at_ region s
  | .managerMoved at_ => Sys2Proof.Machine.execManagerMoved at_ s
  | .eccCorrected at_ memory row bitPos => Sys2Proof.Machine.execEccCorrected at_ memory row bitPos s
  | .doubleBitError at_ memory row place => Sys2Proof.Machine.execDoubleBitError at_ memory row place s
  | .dieLinkFailed at_ link => Sys2Proof.Machine.execDieLinkFailed at_ link s
  | .selfTestSlotStart at_ unit => Sys2Proof.Machine.execSelfTestSlotStart at_ unit s
  | .selfTestEnd at_ unit ending => Sys2Proof.Machine.execSelfTestEnd at_ unit ending s
  | .sliceSelfTestStart at_ slice => Sys2Proof.Machine.execSliceSelfTestStart at_ slice s
  | .patrolScrub at_ memory row errors => Sys2Proof.Machine.execPatrolScrub at_ memory row errors s
  | .clearRetirement at_ unit => Sys2Proof.Machine.execClearRetirement at_ unit s
  | .hardRepair at_ record => Sys2Proof.Machine.execHardRepair at_ record s
  | .manualRun at_ value => Sys2Proof.Machine.execManualRun at_ value s
  | .supWatchdogKick at_ manager => Sys2Proof.Machine.execSupWatchdogKick at_ manager s
  | .supWatchdogExpiry at_ => Sys2Proof.Machine.execSupWatchdogExpiry at_ s
  | .restartModule at_ value => Sys2Proof.Machine.execRestartModule at_ value s
  | .powerGood at_ start => Sys2Proof.Machine.execPowerGood at_ start s
  | .read at_ req => Sys2Proof.Machine.execRead at_ req s
  | .write at_ req => Sys2Proof.Machine.execWrite at_ req s
  | .readBlock at_ req => Sys2Proof.Machine.execReadBlock at_ req s
  | .writeBlock at_ req => Sys2Proof.Machine.execWriteBlock at_ req s
  | .stage at_ req => Sys2Proof.Machine.execStage at_ req s
  | .commit at_ req => Sys2Proof.Machine.execCommit at_ req s
  | .commitApply at_ => Sys2Proof.Machine.execCommitApply at_ s
  | .discard at_ req => Sys2Proof.Machine.execDiscard at_ req s
  | .opSuspend at_ req => Sys2Proof.Machine.execOpSuspend at_ req s
  | .opResume at_ req => Sys2Proof.Machine.execOpResume at_ req s
  | .opCancel at_ req => Sys2Proof.Machine.execOpCancel at_ req s
  | .opStatus at_ req => Sys2Proof.Machine.execOpStatus at_ req s
  | .subscribeEvents at_ req => Sys2Proof.Machine.execSubscribeEvents at_ req s
  | .sessionOpen at_ req => Sys2Proof.Machine.execSessionOpen at_ req s
  | .sessionClose at_ req => Sys2Proof.Machine.execSessionClose at_ req s
  | .keepalive at_ req => Sys2Proof.Machine.execKeepalive at_ req s
  | .unsupportedOpcode at_ opcode req => Sys2Proof.Machine.execUnsupportedOpcode at_ opcode req s
  | .sessionTimeout at_ session => Sys2Proof.Machine.execSessionTimeout at_ session s
  | .sessionOpenTimeout at_ session => Sys2Proof.Machine.execSessionOpenTimeout at_ session s
  | .blockTransferTimeout at_ session => Sys2Proof.Machine.execBlockTransferTimeout at_ session s
  | .readSnapshotTimeout at_ session => Sys2Proof.Machine.execReadSnapshotTimeout at_ session s
  | .eventHoldExpiry at_ session source => Sys2Proof.Machine.execEventHoldExpiry at_ session source s
  | .eventStatusWrite at_ source value setMeanwhile => Sys2Proof.Machine.execEventStatusWrite at_ source value setMeanwhile s
  | .enableMaskWrite at_ source value => Sys2Proof.Machine.execEnableMaskWrite at_ source value s
  | .powerRequestRun at_ start => Sys2Proof.Machine.execPowerRequestRun at_ start s
  | .powerRequestHold at_ => Sys2Proof.Machine.execPowerRequestHold at_ s
  | .powerRequestOff at_ => Sys2Proof.Machine.execPowerRequestOff at_ s
  | .vddAonLoss at_ => Sys2Proof.Machine.execVddAonLoss at_ s
  | .railOutOfRange at_ rail => Sys2Proof.Machine.execRailOutOfRange at_ rail s
  | .pwrFail at_ => Sys2Proof.Machine.execPwrFail at_ s
  | .pwrFailSustained at_ => Sys2Proof.Machine.execPwrFailSustained at_ s
  | .pwrFailReleased at_ => Sys2Proof.Machine.execPwrFailReleased at_ s
  | .porst at_ width => Sys2Proof.Machine.execPorst at_ width s
  | .refclk25mLost at_ => Sys2Proof.Machine.execRefclk25mLost at_ s
  | .osc10mLost at_ => Sys2Proof.Machine.execOsc10mLost at_ s
  | .environmentRefresh at_ env => Sys2Proof.Machine.execEnvironmentRefresh at_ env s
  | .tapInstruction at_ code => Sys2Proof.Machine.execTapInstruction at_ code s
  | .registerWrite at_ space offset value => Sys2Proof.Machine.execRegisterWrite at_ space offset value s
  | .refclk25mRestored at_ => Sys2Proof.Machine.execRefclk25mRestored at_ s
  | .osc10mRestored at_ => Sys2Proof.Machine.execOsc10mRestored at_ s
  | .testOverdue at_ => Sys2Proof.Machine.execTestOverdue at_ s
  | .badOpcode at_ pail queue => Sys2Proof.Machine.execBadOpcode at_ pail queue s

end Sys2Proof.Machine
end

