-- ==== Sys2Proof/Safety.lean ====
section
/-!
DEFINITION. What counts as a safe run: the output lands say what the state says (R494), and no step stops. The words in which
statements say what a command does.
-/

namespace Sys2Proof.Machine

open Sys2Proof

/-- The discrete outputs are those the rest of the state gives (R329, R477, R494). -/
def PinsAgree (s : State) : Prop := s.pins = s.pinsOf

/-- A step answers a next state. -/
def Runs (s : State) : Prop := ∃ t, step s = .next t

/-- The command answers a next state: `u`, with the output lands that follow from it, and nothing else changed. -/
def Does (c : Instr) (s u : State) : Prop := exec c s = .next u.settle

/-- The command answers a next state of which `P` holds. -/
def Yields (c : Instr) (s : State) (P : State → Prop) : Prop := ∃ t, exec c s = .next t ∧ P t

/-- As `Yields`, for a command that brings a request with an opcode, where the request's transport carries it to the protocol and its tag
verifies in its session. -/
def Serves (q : Req) (opcode : Nat) (c : Instr) (s : State) (P : State → Prop) : Prop :=
  s.carried opcode q = true → (∀ x, s.session? q.session = some x → reqVerifies q opcode x.clientKey = true) → Yields c s P

end Sys2Proof.Machine
end

