-- ==== Sys2Proof/WellFormed.lean ====
section
/-!
DEFINITION. Well-formed commands: every operand that numbers an instance of the module names one it has, and the instant
is a DRIP80 (R37). The counts are those of R3, R8, R22, R37, R87, R118, R119, R293, R450, R470 and R481.
-/

namespace Sys2Proof

/-- Every instance a command names exists. -/
def Instr.namesInstance : Instr → Bool
  | .workTickBoundary _ => true
  | .alignmentWindowClose _ _ => true
  | .imageRelease _ _ => true
  | .phasorRelease _ _ => true
  | .residueMismatch _ slice group => decide (slice < 5) && decide (group < 4)
  | .fallbackHandover _ slice => decide (slice < 4)
  | .fallbackReturn _ slice => decide (slice < 4)
  | .curdFrameWrite _ _ => true
  | .triggerNow _ _ => true
  | .releaseWindow _ _ => true
  | .dcFreezeMapWrite _ _ => true
  | .rxFrameStart _ port => decide (port < 32)
  | .rxClassified _ port _ => decide (port < 32)
  | .rxFrameEnd _ port _ => decide (port < 32)
  | .cutThroughStart _ ingress egress => decide (ingress < 32) && decide (egress < 32)
  | .egressTxStart _ port => decide (port < 32)
  | .txFrameEnd _ port => decide (port < 32)
  | .timestampCollect _ port owner => decide (port < 32) && decide (owner < 17)
  | .timestampUncollected _ port => decide (port < 32)
  | .residenceDiscard _ port => decide (port < 32)
  | .pauseReceived _ port _ => decide (port < 32)
  | .pauseExpiry _ port => decide (port < 32)
  | .pauseRepeat _ port => decide (port < 32)
  | .speedLower _ port => decide (port < 32)
  | .speedRaise _ port => decide (port < 32)
  | .sgmiiSpeedReport _ port _ _ => decide (port < 32)
  | .linkDown _ port => decide (port < 32)
  | .linkUp _ port => decide (port < 32)
  | .serdesLockLost _ port => decide (port < 32)
  | .halfRangeMapWrite _ port _ => decide (port < 32)
  | .staticEntryWrite _ entry _ => decide (entry < 16384)
  | .multicastGroupWrite _ group _ => decide (group < 1024)
  | .clearTables _ _ => true
  | .tableBarrier _ _ => true
  | .barrierDone _ => true
  | .residenceLimitWrite _ _ => true
  | .supervisionFrameSend _ group => decide (group < 16)
  | .lanSilent _ group => decide (group < 16)
  | .entryForget _ group _ => decide (group < 16)
  | .ptpMessageReceived _ port _ => decide (port < 32)
  | .ptpSyncSend _ port => decide (port < 32)
  | .ptpAnnounceSend _ port => decide (port < 32)
  | .pdelayReqSend _ port => decide (port < 32)
  | .announceReceiptTimeout _ port => decide (port < 32)
  | .holdoverOutOfSpec _ => true
  | .frequencyStore _ => true
  | .setTime _ _ => true
  | .stepNow _ _ => true
  | .ppsInEdge _ _ => true
  | .ppsInInvalid _ => true
  | .ppsOutRise _ => true
  | .ppsOutFall _ => true
  | .tickRateChange _ => true
  | .svAsduReceived _ asdu => decide (asdu.port < 32)
  | .gooseMessageReceived _ msg => decide (msg.port < 32)
  | .info _ partition => decide (partition < 96)
  | .tick _ partition => decide (partition < 96)
  | .tickDone _ partition => decide (partition < 96)
  | .yield _ partition => decide (partition < 96)
  | .timerSet _ partition _ => decide (partition < 96)
  | .timerCancel _ partition => decide (partition < 96)
  | .stateDeclare _ partition _ _ _ => decide (partition < 96)
  | .stateStatus _ partition => decide (partition < 96)
  | .portSend _ partition _ _ _ => decide (partition < 96)
  | .portRecv _ partition _ _ => decide (partition < 96)
  | .log _ partition _ => decide (partition < 96)
  | .health _ partition => decide (partition < 96)
  | .watchdogKick _ partition => decide (partition < 96)
  | .restartSelf _ partition => decide (partition < 96)
  | .configRead _ partition _ _ _ _ => decide (partition < 96)
  | .migrateReady _ partition => decide (partition < 96)
  | .invalidMonitorCall _ partition _ => decide (partition < 96)
  | .windowStart _ partition window => decide (partition < 96) && decide (window < 64)
  | .windowEnd _ partition window => decide (partition < 96) && decide (window < 64)
  | .vsTimerInterrupt _ partition => decide (partition < 96)
  | .partitionException _ exception => decide (exception.partition < 96)
  | .partitionRestart _ partition => decide (partition < 96)
  | .partitionWatchdogExpiry _ partition => decide (partition < 96)
  | .pailReset _ pail => decide (pail < 64)
  | .pailResetComplete _ pail => decide (pail < 64)
  | .freeze _ pail => decide (pail < 64)
  | .pailFrozen _ pail => decide (pail < 64)
  | .freezeRelease _ pail => decide (pail < 64)
  | .stateRecordWrite _ pail _ => decide (pail < 64)
  | .txDbWrite _ pail queue _ => decide (pail < 64) && decide (queue < 4)
  | .rxDbWrite _ pail queue _ => decide (pail < 64) && decide (queue < 4)
  | .qCtrlWrite _ pail queue _ => decide (pail < 64) && decide (queue < 4)
  | .imageCopy _ pail queue => decide (pail < 64) && decide (queue < 4)
  | .phasorCopy _ pail queue => decide (pail < 64) && decide (queue < 4)
  | .freqCopy _ pail queue => decide (pail < 64) && decide (queue < 4)
  | .rxBuffer _ pail queue => decide (pail < 64) && decide (queue < 4)
  | .txFrame _ pail queue _ => decide (pail < 64) && decide (queue < 4)
  | .cryptoSeal _ pail queue _ => decide (pail < 64) && decide (queue < 4)
  | .cryptoOpen _ pail queue _ => decide (pail < 64) && decide (queue < 4)
  | .hmacGenerate _ pail queue _ => decide (pail < 64) && decide (queue < 4)
  | .hmacVerify _ pail queue _ => decide (pail < 64) && decide (queue < 4)
  | .rxFrameCompletion _ pail => decide (pail < 64)
  | .txTimestampCompletion _ pail => decide (pail < 64)
  | .pubCommit _ pail _ => decide (pail < 64)
  | .histTrigger _ pail _ => decide (pail < 64)
  | .dcFreezeWrite _ pail _ => decide (pail < 64)
  | .evqHeadWrite _ pail _ => decide (pail < 64)
  | .dirtySwap _ pail => decide (pail < 64)
  | .dirtySwapComplete _ pail => decide (pail < 64)
  | .functionLevelReset _ => true
  | .mbxDoorbell _ _ => true
  | .churnCycleBoundary _ => true
  | .churnEvalDone _ => true
  | .onlineBatch _ _ => true
  | .forceWrite _ entry _ => decide (entry < 1024)
  | .releaseAll _ _ => true
  | .restart _ _ => true
  | .gpioSample _ _ => true
  | .unitComputation _ head => decide (head < 32)
  | .generatorComputation _ gen => decide (gen < 32)
  | .loopOverrun _ head => decide (head < 32)
  | .loopRelease _ loop _ => decide (loop < 32)
  | .groupRelease _ group _ => decide (group < 8)
  | .modeRequest _ loop _ => decide (loop < 32)
  | .manualValue _ loop _ => decide (loop < 32)
  | .valueEntryWrite _ index sub _ => Machine.valueEntry index sub
  | .tuningWrite _ loop sub _ => decide (loop < 32) && Machine.tuningSub sub
  | .heartbeatSend _ => true
  | .heartbeat _ _ _ => true
  | .hbWaitExpiry _ => true
  | .digestSend _ => true
  | .digest _ _ _ => true
  | .state _ _ _ => true
  | .relinquish _ _ _ => true
  | .swapRequest _ _ _ => true
  | .swapAccept _ _ _ => true
  | .swapRefuse _ _ _ => true
  | .ack _ _ _ => true
  | .selftest _ _ _ => true
  | .regions _ _ _ => true
  | .changeAck _ _ _ => true
  | .roleRepeat _ => true
  | .migrateData _ _ _ => true
  | .migrateAck _ _ _ => true
  | .migrateAbort _ _ _ => true
  | .migrateResend _ => true
  | .pailMove _ _ => true
  | .laneLost _ lane => decide (lane < 2)
  | .laneRestored _ lane => decide (lane < 2)
  | .revertDelayExpiry _ => true
  | .swapIntervalExpiry _ => true
  | .swapNow _ _ => true
  | .lcToShipped _ _ _ => true
  | .lcToOwned _ _ _ => true
  | .lcReown _ _ _ => true
  | .lcToReturn _ _ _ => true
  | .lcDecommission _ _ _ => true
  | .lcRevoke _ _ _ => true
  | .derive _ _ _ => true
  | .load _ _ _ => true
  | .generate _ _ _ => true
  | .destroy _ _ _ => true
  | .bump _ _ _ => true
  | .keyExport _ _ _ => true
  | .keyImport _ _ _ => true
  | .journalCommit _ => true
  | .tamperAlarm _ _ => true
  | .tamperLoopCheck _ _ => true
  | .tamperClear _ _ _ => true
  | .attestSign _ _ => true
  | .keygenSlhdsa _ _ => true
  | .firmwareInstall _ _ => true
  | .fullSelfTest _ _ => true
  | .historyExport _ _ => true
  | .partitionMigrate _ _ => true
  | .configApply _ _ => true
  | .memoryScrub _ _ => true
  | .opSafePoint _ slot => decide (slot < 16)
  | .opComplete _ slot => decide (slot < 16)
  | .opResultExpiry _ slot => decide (slot < 16)
  | .opSuspendExpiry _ slot => decide (slot < 16)
  | .lockstepMismatch _ unit => decide (unit < 60)
  | .spareTakeover _ herd => decide (herd < 12)
  | .partitionRelocate _ herd => decide (herd < 12)
  | .regionLost _ region => decide (region < 4)
  | .managerMoved _ => true
  | .eccCorrected _ memory _ _ => Machine.memOk memory
  | .doubleBitError _ memory row place => Machine.memOk memory && decide (row < 2 ^ 32) && Machine.memPlaceOk place
  | .dieLinkFailed _ link => decide (link < 6)
  | .selfTestSlotStart _ unit => decide (unit < 60)
  | .selfTestEnd _ unit _ => (decide (unit / 4096 = 1) && decide (unit % 4096 < 60)) || (decide (unit / 4096 = 3) && decide (unit % 4096 < 4))
  | .sliceSelfTestStart _ slice => decide (slice < 4)
  | .patrolScrub _ memory _ _ => Machine.memOk memory
  | .clearRetirement _ _ => true
  | .hardRepair _ _ => true
  | .manualRun _ _ => true
  | .supWatchdogKick _ _ => true
  | .supWatchdogExpiry _ => true
  | .restartModule _ _ => true
  | .powerGood _ _ => true
  | .read _ _ => true
  | .write _ _ => true
  | .readBlock _ _ => true
  | .writeBlock _ _ => true
  | .stage _ _ => true
  | .commit _ _ => true
  | .commitApply _ => true
  | .discard _ _ => true
  | .opSuspend _ _ => true
  | .opResume _ _ => true
  | .opCancel _ _ => true
  | .opStatus _ _ => true
  | .subscribeEvents _ _ => true
  | .sessionOpen _ _ => true
  | .sessionClose _ _ => true
  | .keepalive _ _ => true
  | .unsupportedOpcode _ _ _ => true
  | .sessionTimeout _ _ => true
  | .sessionOpenTimeout _ _ => true
  | .blockTransferTimeout _ _ => true
  | .readSnapshotTimeout _ _ => true
  | .eventHoldExpiry _ _ source => decide (source < 128)
  | .eventStatusWrite _ source _ _ => decide (source < 128)
  | .enableMaskWrite _ source _ => decide (source < 128)
  | .powerRequestRun _ _ => true
  | .powerRequestHold _ => true
  | .powerRequestOff _ => true
  | .vddAonLoss _ => true
  | .railOutOfRange _ rail => decide (rail < 8)
  | .pwrFail _ => true
  | .pwrFailSustained _ => true
  | .pwrFailReleased _ => true
  | .porst _ _ => true
  | .refclk25mLost _ => true
  | .osc10mLost _ => true
  | .environmentRefresh _ _ => true
  | .tapInstruction _ _ => true
  | .registerWrite _ space _ _ => decide (space < 4)
  | .refclk25mRestored _ => true
  | .osc10mRestored _ => true
  | .testOverdue _ => true
  | .badOpcode _ pail queue => decide (pail < 64) && decide (queue < 4)

/-- A well-formed command. -/
def Instr.wf (i : Instr) : Bool := decide (i.instant < 2 ^ 80) && i.namesInstance

end Sys2Proof
end

