-- ==== Sys2Proof/Certificates/Slice0/Obligations.lean ====
section
/-!
DEFINITION. The statements for the provers. `Does c s u` says that command `c` answers at `s` and leaves `u`, its output lands settled, so
that whatever `u` does not change stays; `Yields c s P` that it answers a state of which `P` holds.
-/

open Sys2Proof Sys2Proof.Machine

-- One theorem at a time: elaborating them all at once asks for more threads than the memory limit allows.
set_option Elab.async false

/-- The queue of commands: the model's form of what reaches the block (log 3 for the empty queue). -/
def Obligations.StepRunsTheFrontCommand : Prop :=
  (∀ (s : State) (c : Instr) (rest : List Instr), s.pending = c :: rest → step s = exec c { s with pending := rest }) ∧
  ∀ s : State, s.pending = [] → step s = .next s

/-- R329, R361, R432, R477, R494 at reset. -/
def Obligations.ResetHoldsTheDefaults : Prop :=
  (∀ k, State.reset.reg k = odDefault k) ∧ State.reset.pending = [] ∧ State.reset.out = [] ∧ PinsAgree State.reset ∧
  Memory.wf State.reset.mem = true ∧ State.reset.mem = [] ∧ State.reset.pins.modOk = false ∧ State.reset.pins.outEnable = false ∧
  State.reset.pair.role = .init ∧ State.reset.edp.sessions = [] ∧
  State.reset.reg Od.pairEnable = 0 ∧ State.reset.reg Od.pairHbEthertype = 0x88B5 ∧ State.reset.reg Od.pairHbKeySlot = 0xFF ∧
  State.reset.reg Od.pairHbWait = 2000 ∧ State.reset.reg Od.pairRevertDelay = 60 ∧ State.reset.reg Od.pairSwapInterval = 86400

/-- R329, R477, R494: the lands follow the state; R235, R239: the memory's one form. -/
def Obligations.EveryStepKeepsTheInvariant : Prop :=
  ∀ s t : State, PinsAgree s → Memory.wf s.mem = true → step s = .next t → PinsAgree t ∧ Memory.wf t.mem = true

/-- R28, R479, R482, R501. -/
def Obligations.EveryCommandAnswers : Prop :=
  ∀ (c : Instr) (s : State),
    (c.namesInstance = false → exec c s = .fault .noSuchInstance) ∧
    (c.namesInstance = true → (∀ a k, c = .tapInstruction a k → k < 2 ∨ s.testAccess = false) →
      Yields c s fun t => t.pending = s.pending) ∧
    (∀ a k, c = .tapInstruction a k → 2 ≤ k → s.testAccess = true → exec c s = .refused .tapInstructionUndescribed) ∧
    (c.namesInstance = true → s.power.domains = 0 → (∀ a st, c ≠ .powerGood a st) → (∀ a k, c ≠ .tapInstruction a k) →
      Does c s (s.arrive c.instant))

/-- What each command leaves alone, part by part. -/
def Obligations.OnlyTheseCommandsReachABlock : Prop :=
  ∀ (c : Instr) (s t : State), exec c s = .next t →
    (t.subs ≠ s.subs →
      match c with
        | .workTickBoundary _ | .gooseMessageReceived _ _ | .powerGood _ _ | .commitApply _ => True
        | _ => False) ∧
    (t.pubs ≠ s.pubs →
      match c with
        | .workTickBoundary _ | .tickDone _ _ | .pubCommit _ _ _ | .churnCycleBoundary _ | .powerGood _ _ | .write _ _
        | .writeBlock _ _ | .commitApply _ | .powerRequestRun _ _ | .powerRequestHold _ | .powerRequestOff _ | .vddAonLoss _
        | .railOutOfRange _ _ | .pwrFail _ | .environmentRefresh _ _ | .registerWrite _ _ _ _ => True
        | _ => False) ∧
    (t.hist ≠ s.hist →
      match c with
        | .workTickBoundary _ | .imageRelease _ _ | .curdFrameWrite _ _ | .triggerNow _ _ | .releaseWindow _ _ | .tickRateChange _
        | .histTrigger _ _ _ | .churnCycleBoundary _ | .historyExport _ _ | .opComplete _ _ | .opSuspendExpiry _ _ | .dieLinkFailed _ _
        | .powerGood _ _ | .write _ _ | .writeBlock _ _ | .commitApply _ | .powerRequestRun _ _ | .powerRequestHold _
        | .powerRequestOff _ | .vddAonLoss _ | .railOutOfRange _ _ | .pwrFail _ | .environmentRefresh _ _ | .registerWrite _ _ _ _ => True
        | _ => False) ∧
    (t.churn ≠ s.churn →
      match c with
        | .workTickBoundary _ | .ptpMessageReceived _ _ _ | .setTime _ _ | .stepNow _ _ | .ppsInEdge _ _ | .tickRateChange _
        | .churnCycleBoundary _ | .churnEvalDone _ | .onlineBatch _ _ | .restart _ _ | .gpioSample _ _ | .doubleBitError _ _ _ _
        | .powerGood _ _ | .write _ _ | .writeBlock _ _ | .commitApply _ | .powerRequestRun _ _ | .powerRequestHold _
        | .powerRequestOff _ | .vddAonLoss _ | .railOutOfRange _ _ | .pwrFail _ | .environmentRefresh _ _ | .registerWrite _ _ _ _ => True
        | _ => False) ∧
    (t.loops ≠ s.loops →
      match c with
        | .workTickBoundary _ | .ptpMessageReceived _ _ _ | .setTime _ _ | .stepNow _ _ | .ppsInEdge _ _ | .tickRateChange _
        | .churnCycleBoundary _ | .unitComputation _ _ | .generatorComputation _ _ | .loopOverrun _ _ | .loopRelease _ _ _
        | .groupRelease _ _ _ | .tuningWrite _ _ _ _ | .doubleBitError _ _ _ _ | .powerGood _ _ | .write _ _ | .writeBlock _ _
        | .commitApply _ | .powerRequestRun _ _ | .powerRequestHold _ | .powerRequestOff _ | .vddAonLoss _ | .railOutOfRange _ _
        | .pwrFail _ | .environmentRefresh _ _ | .registerWrite _ _ _ _ => True
        | _ => False) ∧
    (t.dp ≠ s.dp →
      match c with
        | .workTickBoundary _ | .alignmentWindowClose _ _ | .imageRelease _ _ | .phasorRelease _ _ | .residueMismatch _ _ _
        | .fallbackHandover _ _ | .fallbackReturn _ _ | .ptpMessageReceived _ _ _ | .setTime _ _ | .stepNow _ _ | .ppsInEdge _ _
        | .tickRateChange _ | .svAsduReceived _ _ | .churnCycleBoundary _ | .doubleBitError _ _ _ _ | .powerGood _ _ | .write _ _
        | .writeBlock _ _ | .commitApply _ | .powerRequestRun _ _ | .powerRequestHold _ | .powerRequestOff _ | .vddAonLoss _
        | .railOutOfRange _ _ | .pwrFail _ | .environmentRefresh _ _ | .registerWrite _ _ _ _ => True
        | _ => False) ∧
    (t.ports ≠ s.ports →
      match c with
        | .workTickBoundary _ | .rxFrameStart _ _ | .rxClassified _ _ _ | .rxFrameEnd _ _ _ | .cutThroughStart _ _ _
        | .egressTxStart _ _ | .txFrameEnd _ _ | .timestampCollect _ _ _ | .timestampUncollected _ _ | .residenceDiscard _ _
        | .pauseReceived _ _ _ | .pauseExpiry _ _ | .pauseRepeat _ _ | .speedLower _ _ | .speedRaise _ _ | .sgmiiSpeedReport _ _ _ _
        | .linkDown _ _ | .linkUp _ _ | .serdesLockLost _ _ | .residenceLimitWrite _ _ | .supervisionFrameSend _ _
        | .ptpMessageReceived _ _ _ | .ptpSyncSend _ _ | .ptpAnnounceSend _ _ | .pdelayReqSend _ _ | .txFrame _ _ _ _
        | .txTimestampCompletion _ _ | .churnCycleBoundary _ | .heartbeatSend _ | .opSafePoint _ _ | .opComplete _ _
        | .eccCorrected _ _ _ _ | .doubleBitError _ _ _ _ | .patrolScrub _ _ _ _ | .powerGood _ _ | .write _ _ | .writeBlock _ _
        | .commitApply _ | .powerRequestRun _ _ | .powerRequestHold _ | .powerRequestOff _ | .vddAonLoss _ | .registerWrite _ _ _ _ => True
        | _ => False) ∧
    (t.sw ≠ s.sw →
      match c with
        | .workTickBoundary _ | .rxClassified _ _ _ | .rxFrameEnd _ _ _ | .cutThroughStart _ _ _ | .egressTxStart _ _ | .txFrameEnd _ _
        | .timestampCollect _ _ _ | .residenceDiscard _ _ | .speedLower _ _ | .speedRaise _ _ | .sgmiiSpeedReport _ _ _ _
        | .linkDown _ _ | .serdesLockLost _ _ | .staticEntryWrite _ _ _ | .multicastGroupWrite _ _ _ | .clearTables _ _
        | .tableBarrier _ _ | .barrierDone _ | .residenceLimitWrite _ _ | .supervisionFrameSend _ _ | .lanSilent _ _
        | .entryForget _ _ _ | .ptpMessageReceived _ _ _ | .ptpSyncSend _ _ | .ptpAnnounceSend _ _ | .pdelayReqSend _ _
        | .txFrame _ _ _ _ | .rxFrameCompletion _ _ | .churnCycleBoundary _ | .heartbeatSend _ | .opSafePoint _ _ | .opComplete _ _
        | .eccCorrected _ _ _ _ | .doubleBitError _ _ _ _ | .patrolScrub _ _ _ _ | .powerGood _ _ | .write _ _ | .writeBlock _ _
        | .commitApply _ | .powerRequestRun _ _ | .powerRequestHold _ | .powerRequestOff _ | .vddAonLoss _ | .registerWrite _ _ _ _ => True
        | _ => False) ∧
    (t.sec ≠ s.sec →
      match c with
        | .lcToShipped _ _ _ | .lcToOwned _ _ _ | .lcReown _ _ _ | .lcToReturn _ _ _ | .lcDecommission _ _ _ | .lcRevoke _ _ _
        | .derive _ _ _ | .load _ _ _ | .generate _ _ _ | .destroy _ _ _ | .bump _ _ _ | .keyExport _ _ _ | .keyImport _ _ _
        | .journalCommit _ | .tamperAlarm _ _ | .tamperLoopCheck _ _ | .tamperClear _ _ _ | .keygenSlhdsa _ _ | .firmwareInstall _ _
        | .opSafePoint _ _ | .opComplete _ _ | .opSuspendExpiry _ _ | .doubleBitError _ _ _ _ | .dieLinkFailed _ _ | .powerGood _ _
        | .write _ _ | .writeBlock _ _ | .powerRequestRun _ _ | .powerRequestHold _ | .powerRequestOff _ | .vddAonLoss _
        | .registerWrite _ _ _ _ => True
        | _ => False) ∧
    (t.power ≠ s.power →
      match c with
        | .journalCommit _ | .tamperAlarm _ _ | .tamperLoopCheck _ _ | .tamperClear _ _ _ | .dieLinkFailed _ _ | .supWatchdogExpiry _
        | .restartModule _ _ | .powerGood _ _ | .write _ _ | .writeBlock _ _ | .powerRequestRun _ _ | .powerRequestHold _
        | .powerRequestOff _ | .vddAonLoss _ | .railOutOfRange _ _ | .pwrFail _ | .pwrFailSustained _ | .pwrFailReleased _ | .porst _ _
        | .refclk25mLost _ | .osc10mLost _ | .environmentRefresh _ _ | .tapInstruction _ _ | .registerWrite _ _ _ _ | .osc10mRestored _ => True
        | _ => False) ∧
    (t.workTick ≠ s.workTick →
      match c with
        | .workTickBoundary _ | .powerGood _ _ | .write _ _ | .writeBlock _ _ | .powerRequestRun _ _ | .powerRequestHold _
        | .powerRequestOff _ | .registerWrite _ _ _ _ => True
        | _ => False) ∧
    (t.regs ≠ s.regs →
      match c with
        | .releaseWindow _ _ | .pauseExpiry _ _ | .pauseRepeat _ _ | .entryForget _ _ _ | .frequencyStore _ | .ppsOutRise _
        | .ppsOutFall _ | .info _ _ | .tick _ _ | .tickDone _ _ | .yield _ _ | .timerSet _ _ _ | .timerCancel _ _
        | .stateDeclare _ _ _ _ _ | .stateStatus _ _ | .portSend _ _ _ _ _ | .portRecv _ _ _ _ | .log _ _ _ | .health _ _
        | .watchdogKick _ _ | .restartSelf _ _ | .configRead _ _ _ _ _ _ | .migrateReady _ _ | .invalidMonitorCall _ _ _
        | .windowStart _ _ _ | .vsTimerInterrupt _ _ | .partitionWatchdogExpiry _ _ | .pailReset _ _ | .freeze _ _ | .pailFrozen _ _
        | .freezeRelease _ _ | .stateRecordWrite _ _ _ | .txDbWrite _ _ _ _ | .rxDbWrite _ _ _ _ | .qCtrlWrite _ _ _ _
        | .imageCopy _ _ _ | .phasorCopy _ _ _ | .freqCopy _ _ _ | .rxBuffer _ _ _ | .rxFrameCompletion _ _
        | .txTimestampCompletion _ _ | .dcFreezeWrite _ _ _ | .evqHeadWrite _ _ _ | .dirtySwap _ _ | .dirtySwapComplete _ _
        | .mbxDoorbell _ _ | .onlineBatch _ _ | .gpioSample _ _ | .generatorComputation _ _ | .hbWaitExpiry _ | .digestSend _
        | .roleRepeat _ | .pailMove _ _ | .revertDelayExpiry _ | .swapIntervalExpiry _ | .swapNow _ _ | .opResultExpiry _ _
        | .clearRetirement _ _ | .hardRepair _ _ | .supWatchdogKick _ _ | .supWatchdogExpiry _ | .restartModule _ _
        | .blockTransferTimeout _ _ | .readSnapshotTimeout _ _ | .eventHoldExpiry _ _ _ | .pwrFailSustained _ | .pwrFailReleased _
        | .porst _ _ | .refclk25mLost _ | .osc10mLost _ | .tapInstruction _ _ | .refclk25mRestored _ | .osc10mRestored _
        | .badOpcode _ _ _ => False
        | _ => True) ∧
    (t.mem ≠ s.mem →
      match c with
        | .releaseWindow _ _ | .dcFreezeMapWrite _ _ | .pauseExpiry _ _ | .pauseRepeat _ _ | .halfRangeMapWrite _ _ _
        | .entryForget _ _ _ | .frequencyStore _ | .ppsOutRise _ | .ppsOutFall _ | .info _ _ | .tick _ _ | .tickDone _ _ | .yield _ _
        | .timerSet _ _ _ | .timerCancel _ _ | .stateDeclare _ _ _ _ _ | .stateStatus _ _ | .portSend _ _ _ _ _ | .log _ _ _
        | .health _ _ | .watchdogKick _ _ | .restartSelf _ _ | .migrateReady _ _ | .invalidMonitorCall _ _ _ | .vsTimerInterrupt _ _
        | .partitionWatchdogExpiry _ _ | .pailReset _ _ | .pailResetComplete _ _ | .freeze _ _ | .pailFrozen _ _ | .freezeRelease _ _
        | .stateRecordWrite _ _ _ | .txDbWrite _ _ _ _ | .rxDbWrite _ _ _ _ | .qCtrlWrite _ _ _ _ | .dcFreezeWrite _ _ _
        | .dirtySwap _ _ | .dirtySwapComplete _ _ | .mbxDoorbell _ _ | .churnEvalDone _ | .onlineBatch _ _ | .forceWrite _ _ _
        | .releaseAll _ _ | .restart _ _ | .gpioSample _ _ | .generatorComputation _ _ | .modeRequest _ _ _ | .manualValue _ _ _
        | .valueEntryWrite _ _ _ _ | .tuningWrite _ _ _ _ | .hbWaitExpiry _ | .digestSend _ | .roleRepeat _ | .pailMove _ _
        | .revertDelayExpiry _ | .swapIntervalExpiry _ | .swapNow _ _ | .opResultExpiry _ _ | .clearRetirement _ _ | .hardRepair _ _
        | .supWatchdogKick _ _ | .supWatchdogExpiry _ | .restartModule _ _ | .blockTransferTimeout _ _ | .readSnapshotTimeout _ _
        | .eventHoldExpiry _ _ _ | .pwrFailSustained _ | .pwrFailReleased _ | .porst _ _ | .refclk25mLost _ | .osc10mLost _
        | .tapInstruction _ _ | .refclk25mRestored _ | .osc10mRestored _ | .badOpcode _ _ _ => False
        | _ => True)

/-- R12, R227, R249, R329 to R331, R333, R337. -/
def Obligations.RolesChangeAtTheBoundary : Prop :=
  ∀ (s u : State) (a : Instant), s.powered 10 = true → u = s.arrive a →
    (u.tickNow = s.workTick → Does (.workTickBoundary a) s u) ∧
    (u.tickNow ≠ s.workTick → Yields (.workTickBoundary a) s fun t =>
      let k := s.workTick
      let lacked := 3 ≤ (s.pair.link.judge k).lacked ∧ (s.hasStationPath = false ∨ 3 ≤ (s.pair.station.judge k).lacked)
      let failed := s.pair.partnerFailed = true ∨ s.pair.partner.isSome = true ∧ lacked
      let out := s.pair.role = .withdrawn ∨ s.power.withdrawn = true
      t.workTick = u.tickNow ∧
      t.pins.outEnable = (decide (t.power.state = .run) && decide (t.pair.role = .follow ∨ t.pair.role = .lead) && !t.power.withdrawn) ∧
      (∀ n, (t.part n).window = none ∧ (t.part n).done = false) ∧
      (∀ n ∈ s.subs.map (·.1), (t.sub n).snapCells = (s.sub n).cells ∧ (t.sub n).snapSt = (s.sub n).stNum ∧
        (t.sub n).snapSq = (s.sub n).sqNum) ∧
      (t.pair.role ≠ .follow → t.pair.role ≠ .lead → ∀ j st sq ttl w cells stamp auth,
        .goose j st sq ttl w cells stamp auth ∈ t.out → .goose j st sq ttl w cells stamp auth ∈ s.out) ∧
      (out → t.pair.role = .withdrawn) ∧
      (¬out → s.paired = false → t.pair.role = s.pair.role) ∧
      (¬out → s.paired = true →
        (s.pair.role = .syncing ∨ s.pair.role = .follow → failed ∨ s.pair.relinquished = true → t.pair.role = .lead) ∧
        (s.pair.role = .lead → s.pair.relinquishSent = true → t.pair.role = .syncing) ∧
        (s.pair.role = .init → s.pair.swap = none → u.heard k = false →
          t.pair.role = if s.pair.hbWaited then .lead else .init) ∧
        (∀ hb, s.pair.role = .init → s.pair.swap = none → u.heard k = true → s.pair.partner = some hb →
          (hb.state = 2 ∨ hb.state = 3 → t.pair.role = .syncing) ∧
          (hb.state < 2 → t.pair.role = if s.winsTie hb then .lead else .syncing)) ∧
        (s.pair.role = .lead → s.pair.relinquishSent = false → s.pair.swap = none → u.heard k = false → t.pair.role = .lead)))

/-- R48 with R46: at each supported rate, the tick computed for an instant begins no later than it, and the next tick after it; R45
then R43 is the identity on DRIP80 values, and where no correction field stands beside them, to half a nanosecond. -/
def Obligations.TicksAndTimesConvert : Prop :=
  (∀ ft ∈ [4000, 4800, 12800, 14400], ∀ t : Nat,
    tickInstant ft (tickOf ft t) ≤ t ∧ t < tickInstant ft (tickOf ft t + 1)) ∧
  ∀ a : Nat, a < 2 ^ 80 →
    fromPtp (toPtp a).1 (toPtp a).2.1 (toPtp a).2.2 = some a ∧
    ((toPtpRounded a).1 < 2 ^ 44 →
      ∃ b : Nat, fromPtp (toPtpRounded a).1 (toPtpRounded a).2 0 = some b ∧ b ≤ a + 34 ∧ a ≤ b + 34)

/-- R511 with R58. `u` is the state once the command has arrived. -/
def Obligations.SetTimeStepsOrSlews : Prop :=
  ∀ (s u : State) (a : Instant) (t : Nat), s.powered 3 = true → u = s.arrive a → t < 2 ^ 80 →
    (s.time.sourceValid = true → Does (.setTime a t) s (u.emit (.status 7 []))) ∧
    (s.time.sourceValid = false → u.now < 2 ^ 63 → t < 2 ^ 63 → u.beyondStep (dripDiff t u.now) = true → u.outEnabled = false →
      Yields (.setTime a t) s fun v => v.now = t ∧ v.dp.images = [] ∧ v.dp.lastReleased = none ∧
        v.time.servo = if s.time.servo = .locked then .acquiring else s.time.servo) ∧
    (s.time.sourceValid = false → u.beyondStep (dripDiff t u.now) = false ∨ u.outEnabled = true →
      Yields (.setTime a t) s fun v => v.now = u.now ∧ v.time.servo = s.time.servo ∧ v.time.setOffset = dripDiff t u.now ∧
        v.time.freq.natAbs ≤ u.slewMax ∧
        (u.beyondStep (dripDiff t u.now) = true → u.sourceUp 32 = true → bit (v.reg (Od.evStatus 32)) 1 = true)) ∧
    Does (.stepNow a 0) s (u.emit (.status 0 [])) ∧ (2 ≤ t → Does (.stepNow a t) s (u.emit (.status 2 []))) ∧
    (s.time.sourceValid = true → u.beyondStep u.time.offset = true →
      Yields (.stepNow a 1) s fun v => v.now = dripAdd u.now u.time.offset % 2 ^ 80 ∧ v.dp.images = []) ∧
    (s.time.sourceValid = false → u.drew.beyondStep u.remaining.1 = true →
      Yields (.stepNow a 1) s fun v => v.now = dripAdd u.now u.remaining.1 % 2 ^ 80 ∧ v.dp.images = [])

/-- R61 to R63. `u.timeAhead` is how far the known time lies ahead of the count and the state after it was asked; `o` is the
distance from the edge, less the cable delay, to the nearest top of a second by that time. -/
def Obligations.PpsEdgesAndPulses : Prop :=
  ∀ (s u : State) (a : Instant) (e : PpsEdge) (x o : Int), s.powered 3 = true → s.time.frozen = false → u = s.arrive a →
    u.now < 2 ^ 79 → x = (u.now : Int) - s.regI 64 Od.ppsInCableDelay →
    o = roundDiv (x + u.timeAhead.1) (2 ^ 36) * 2 ^ 36 - x →
    (s.on Od.ppsInEnable = false ∨ e.rising = false ∨ e.width < 6872 → Does (.ppsInEdge a e) s u) ∧
    (s.on Od.ppsInEnable = true → e.rising = true → 6872 ≤ e.width → 2 * 2 ^ 36 < 5 * o.natAbs →
      Does (.ppsInEdge a e) s u.timeAhead.2) ∧
    (s.on Od.ppsInEnable = true → e.rising = true → 6872 ≤ e.width → 5 * o.natAbs ≤ 2 * 2 ^ 36 → s.time.ppsLocked = true →
      ofUs 100 < o.natAbs →
      Does (.ppsInEdge a e) s (u.timeAhead.2.setTimeUnit fun t => { t with ppsRejected := t.ppsRejected + 1 })) ∧
    (s.on Od.ppsInEnable = true → e.rising = true → 6872 ≤ e.width → 5 * o.natAbs ≤ 2 * 2 ^ 36 →
      s.time.ppsLocked = false ∨ o.natAbs ≤ ofUs 100 →
      Yields (.ppsInEdge a e) s fun t => t.time.ppsValid = true ∧ t.time.ppsLastEdge = t.now ∧ t.time.ppsRejected = s.time.ppsRejected) ∧
    (s.time.ppsValid = true → s.time.ppsLastEdge + 3 * 2 ^ 36 ≤ u.now →
      Yields (.ppsInInvalid a) s fun t => t.time.ppsValid = false ∧ t.time.ppsLocked = false ∧ t.now = u.now) ∧
    (s.time.ppsChangeAt = none → s.time.drivesPps = true → u.time.ppsDue = true → s.time.ppsOut = false →
      Does (.ppsOutRise a) s (u.setTimeUnit fun t => { t with ppsOut := true, ppsRoseAt := u.now })) ∧
    (s.time.ppsChangeAt = none → s.time.drivesPps = false ∨ u.time.ppsDue = false ∨ s.time.ppsOut = true →
      Does (.ppsOutRise a) s u) ∧
    (s.time.ppsChangeAt = none → s.time.ppsRoseAt + s.time.ppsWidth ≤ u.now →
      Does (.ppsOutFall a) s (u.setTimeUnit fun t => { t with ppsOut := false })) ∧
    (s.time.ppsChangeAt = none → u.now < s.time.ppsRoseAt + s.time.ppsWidth → Does (.ppsOutFall a) s u)

/-- R56, R60: holdover and the stored frequency; R49: the tick rate; R52: the Announce timeout, whose interval is the model's (log 11). -/
def Obligations.HoldoverFrequencyAndRate : Prop :=
  ∀ (s u : State) (a : Instant), s.powered 3 = true → u = s.arrive a →
    (s.time.servo = .holdover → s.time.frozen = false → u.holdExceeded = true →
      Yields (.holdoverOutOfSpec a) s fun t => t.time.servo = .holdoverOutOfSpec ∧ t.now = u.now) ∧
    (s.time.servo = .locked → s.time.frozen = false → s.time.storedAt + 3600 * 2 ^ 36 ≤ u.now →
      Does (.frequencyStore a) s (u.setTimeUnit fun t => { t with storedFreq := some t.freq, storedAt := t.now })) ∧
    (∀ r at_, s.time.rateNext = some (r, at_) → at_ ≤ u.now →
      Yields (.tickRateChange a) s fun t => t.rate = r ∧ t.time.rateNext = none ∧ t.dp.images = [] ∧ t.dp.lastReleased = none ∧
        ∀ n x, (n, x) ∈ t.dp.streams → x.ring = []) ∧
    (∀ p, p < 32 → (s.ptpPort p).foreign.isSome = true → (s.ptpPort p).lastAnnounce + 3 * 2 ^ 36 ≤ u.now →
      Yields (.announceReceiptTimeout a p) s fun t => (t.ptpPort p).foreign = none ∧ t.now = u.now)

/-- R44, R52, R55. -/
def Obligations.PtpMessagesOfAPort : Prop :=
  ∀ (s u : State) (a : Instant) (p : Nat) (m : PtpMsg), s.powered 3 = true → p < 32 → u = s.arrive a →
    (s.ptpUp p = false → Does (.ptpMessageReceived a p m) s u ∧ Does (.pdelayReqSend a p) s u ∧ Does (.ptpSyncSend a p) s u ∧
      Does (.ptpAnnounceSend a p) s u) ∧
    (s.ptpUp p = true → fromPtp m.seconds m.nanos m.correction = none →
      Yields (.ptpMessageReceived a p m) s fun t => t.time = { u.time with malformed := s.time.malformed + 1 }) ∧
    (s.ptpUp p = true → fromPtp m.seconds m.nanos m.correction ≠ none → m.domain = s.reg Od.ptpDomain → m.kind = .announce →
      Yields (.ptpMessageReceived a p m) s fun t => (t.ptpPort p).foreign = m.data ∧ (t.ptpPort p).lastAnnounce = u.now) ∧
    (s.ptpUp p = true → Yields (.pdelayReqSend a p) s fun t => (t.ptpPort p).awaiting = true ∧ (t.ptpPort p).reqSentAt = none ∧
      (t.ptpPort p).reqSeq = ((s.ptpPort p).reqSeq + 1) % 2 ^ 16) ∧
    (s.mastersAt p = true →
      Yields (.ptpSyncSend a p) s (fun t => (t.ptpPort p).syncSeq = ((s.ptpPort p).syncSeq + 1) % 2 ^ 16) ∧
      Yields (.ptpAnnounceSend a p) s fun t => (t.ptpPort p).announceSeq = ((s.ptpPort p).announceSeq + 1) % 2 ^ 16) ∧
    (s.mastersAt p = false → Does (.ptpSyncSend a p) s u ∧ Does (.ptpAnnounceSend a p) s u)

/-- R80, R88, R90: reception at a port. -/
def Obligations.PortReception : Prop :=
  ∀ (s u : State) (a : Instant) (p : Nat) (e : RxEnd), s.powered 3 = true → p < 32 → u = s.arrive a →
    ((s.port p).linkUp = false ∨ (s.port p).rx.isSome = true → Does (.rxFrameStart a p) s u) ∧
    ((s.port p).linkUp = true → (s.port p).rx = none →
      Yields (.rxFrameStart a p) s fun t => ∃ r, (t.port p).rx = some r ∧ r.startedAt = u.now ∧
        (r.dropped = true → u.sourceUp p = true → bit (t.reg (Od.evStatus p)) 9 = true)) ∧
    ((s.port p).linkUp = true → (s.port p).rx = none → (s.port p).rxUsed = 0 → s.reg (Od.portFrameLimit p) ≤ 2048 →
      Yields (.rxFrameStart a p) s fun t =>
        (t.port p).rx = some ⟨u.now, false, none, none, none⟩) ∧
    ((s.port p).rx = none → Does (.rxFrameEnd a p e) s u) ∧
    (∀ r, (s.port p).rx = some r → Yields (.rxFrameEnd a p e) s fun t => (t.port p).rx = none ∧
      (r.dropped = false → r.swId = none → e.len < 64 →
        t.reg ((0x2040 + p) * 256 + 0x23) = (s.reg ((0x2040 + p) * 256 + 0x23) + 1) % 2 ^ 32 ∧
        t.reg ((0x2040 + p) * 256 + 0x21) = s.reg ((0x2040 + p) * 256 + 0x21) ∧
        t.reg ((0x2040 + p) * 256 + 0x01) = s.reg ((0x2040 + p) * 256 + 0x01)))

/-- R95, R96. `run t` says that a pause is running to `t`, not yet come. -/
def Obligations.ReceivedPauseHoldsThePort : Prop :=
  ∀ (s u : State) (a : Instant) (p q : Nat), s.powered 3 = true → p < 32 → u = s.arrive a → q < 2 ^ 16 →
    ((s.port p).linkUp = false → Does (.pauseReceived a p q) s u) ∧
    ((s.port p).linkUp = true → s.rxPause p = false →
      Yields (.pauseReceived a p q) s fun t =>
        t.port p = { s.port p with halfAt := (t.port p).halfAt, halfBits := (t.port p).halfBits } ∧
        t.reg ((0x2040 + p) * 256 + 0x0C) = (s.reg ((0x2040 + p) * 256 + 0x0C) + 1) % 2 ^ 32) ∧
    ((s.port p).linkUp = true → s.rxPause p = true → ∃ x : Pause,
      Yields (.pauseReceived a p q) s (fun t =>
        t.port p = { s.port p with pause := x, halfAt := (t.port p).halfAt, halfBits := (t.port p).halfBits }) ∧
      (q = 0 → x = .none) ∧
      (q ≠ 0 → (s.port p).tx = none ∨ (∃ e, (s.port p).pause = .running e ∧ u.now < e) →
        x = .running (u.now + wireTime (s.port p).speed (64 * q))) ∧
      (q ≠ 0 → (s.port p).tx ≠ none → (∀ e, (s.port p).pause = .running e → e ≤ u.now) → x = .pending q)) ∧
    (∀ e, (s.port p).pause = .running e → e ≤ u.now → Does (.pauseExpiry a p) s (u.setPort p { s.port p with pause := .none })) ∧
    (∀ e, (s.port p).pause = .running e → u.now < e → Does (.pauseExpiry a p) s (u.setPort p (s.port p))) ∧
    (∀ n, (s.port p).tx.isSome = true → (s.port p).pause = .pending n → (s.port p).speedWaits = none →
      Yields (.txFrameEnd a p) s fun t =>
      (t.port p).pause = .running (u.now + wireTime (s.port p).speed (64 * n))) ∧
    ((s.port p).linkUp = true → Yields (.linkDown a p) s fun t => (t.port p).pause = .none)

/-- R74, R75, R97, R98, R100, R102, with the flags of R104 where the source's block can set them (R479). -/
def Obligations.PortLinkAndSpeed : Prop :=
  ∀ (s u : State) (a : Instant) (p : Nat), s.powered 3 = true → p < 32 → u = s.arrive a → s.sourceUp p = true →
    ((s.port p).linkUp = true → (s.port p).xoff = true → Yields (.pauseRepeat a p) s fun t => (t.port p).xoff = true →
      ((s.port p).xoffSentAt + wireTime (s.port p).speed (64 * 32768) ≤ u.now →
        (t.port p).pauseOut = (s.port p).pauseOut ++ [0xFFFF] ∧ (t.port p).xoffSentAt = u.now) ∧
      (u.now < (s.port p).xoffSentAt + wireTime (s.port p).speed (64 * 32768) →
        (t.port p).pauseOut = (s.port p).pauseOut ∧ (t.port p).xoffSentAt = (s.port p).xoffSentAt)) ∧
    ((s.port p).linkUp = true → Yields (.linkDown a p) s fun t => (t.port p).linkUp = false ∧ (t.port p).tx = none ∧
      (t.port p).rx = none ∧ (t.port p).pause = .none ∧ (t.port p).speed = 0 ∧ bit (t.reg (Od.evStatus p)) 0 = true) ∧
    ((s.port p).linkUp = false → Does (.linkDown a p) s (u.setPort p { s.port p with pcsLostAt := some u.now })) ∧
    (let holds := ∃ t, (s.port p).pcsLostAt = some t ∧ u.now < t + ofMs (s.reg (Od.portLinkUpHold p))
    ((s.port p).linkUp = true ∨ (s.port p).retired = true ∨ (s.port p).duplexHeld = true ∨ s.reg (Od.portRole p) = 0 ∨ holds →
      Does (.linkUp a p) s u) ∧
    ((s.port p).linkUp = false → (s.port p).retired = false → (s.port p).duplexHeld = false → s.reg (Od.portRole p) ≠ 0 → ¬holds →
      Yields (.linkUp a p) s fun t => (t.port p).linkUp = true ∧ (t.port p).mode = s.nextMode p ∧
        bit (t.reg (Od.evStatus p)) 1 = true)) ∧
    (∀ speed, s.nextMode p = 2 →
      Yields (.sgmiiSpeedReport a p speed false) s (fun t => (t.port p).linkUp = false ∧ (t.port p).duplexHeld = true ∧
        bit (t.reg (Od.evStatus p)) 6 = true) ∧
      ((s.port p).phySpeed ≠ 0 → (s.port p).phySpeed ≠ speed → Yields (.sgmiiSpeedReport a p speed true) s fun t =>
        (t.port p).linkUp = false ∧ (t.port p).phySpeed = speed ∧ bit (t.reg (Od.evStatus p)) 4 = true)) ∧
    (s.reg (Od.portRole p) = 3 → s.on (Od.portSpeedLowering p) = true → (s.port p).speedBlocked = false → (s.port p).linkUp = true →
      (∀ t, (s.port p).lastSpeedChange = some t → t + s.reg (Od.portLowerHold p) * 2 ^ 36 ≤ u.now) →
      ((s.port p).lowered = false → s.reg (Od.portLowerThreshold p) ≠ 0 →
        (s.port p).busyUntil + s.reg (Od.portLowerHold p) * 2 ^ 36 ≤ u.now →
        ((s.port p).tx = none → Yields (.speedLower a p) s fun t => (t.port p).lowered = true ∧ (t.port p).linkUp = false ∧
          (t.port p).lastSpeedChange = some u.now ∧ bit (t.reg (Od.evStatus p)) 4 = true) ∧
        ((s.port p).tx ≠ none → Does (.speedLower a p) s (u.setPort p { s.port p with speedWaits := some true }))) ∧
      ((s.port p).lowered = true → (s.port p).raiseSeen = true → (s.port p).tx = none →
        Yields (.speedRaise a p) s fun t => (t.port p).lowered = false ∧ (t.port p).linkUp = false ∧
          (t.port p).lastSpeedChange = some u.now ∧ bit (t.reg (Od.evStatus p)) 4 = true)) ∧
    (s.reg (Od.portLowerThreshold p) = 0 → Does (.speedLower a p) s u) ∧
    ((s.port p).raiseSeen = false → Does (.speedRaise a p) s u) ∧
    ((s.port p).retired = false → Yields (.serdesLockLost a p) s fun t => (t.port p).linkUp = false)

/-- R68, R70 and R93. -/
def Obligations.TimestampsAndHalfRangeMap : Prop :=
  ∀ (s u : State) (a : Instant) (p v : Nat), s.powered 3 = true → p < 32 → u = s.arrive a →
    (Yields (.halfRangeMapWrite a p v) s fun t =>
      (∀ i, i < 64 → bit (t.reg (Od.cntHalfRangeMap p)) i = (bit (s.reg (Od.cntHalfRangeMap p)) i && !bit v i)) ∧
      (∀ k, k ≠ Od.cntHalfRangeMap p → t.reg k = s.reg k) ∧ t.mem = s.mem ∧ t.ports = s.ports) ∧
    (∀ sub, 0 < sub → sub < 0x2A → bit (s.reg ((0x2040 + p) * 256 + sub)) (if sub = 1 ∨ sub = 0x11 then 47 else 31) = false →
      bit (s.reg ((0x2040 + p) * 256 + sub) + 1) (if sub = 1 ∨ sub = 0x11 then 47 else 31) = true →
      s.reg ((0x2040 + p) * 256 + sub) < 2 ^ (if sub = 1 ∨ sub = 0x11 then 48 else 32) - 1 → s.sourceUp p = true →
      bit ((s.countPort p sub).reg (Od.cntHalfRangeMap p)) (sub - 1) = true ∧ bit ((s.countPort p sub).reg (Od.evStatus p)) 2 = true) ∧
    (∀ sub, 0 < sub → sub < 0x2A → s.reg ((0x2040 + p) * 256 + sub) = 2 ^ (if sub = 1 ∨ sub = 0x11 then 48 else 32) - 1 →
      s.countPort p sub = s.setReg ((0x2040 + p) * 256 + sub) 0) ∧
    (∀ o, o < 17 → (s.port p).tsQueue.find? (·.owner = o) = none → Does (.timestampCollect a p o) s u) ∧
    (∀ o e, o < 17 → (s.port p).tsQueue.find? (·.owner = o) = some e →
      Yields (.timestampCollect a p o) s fun t => (t.port p).tsQueue = (s.port p).tsQueue.erase e) ∧
    (Yields (.timestampUncollected a p) s fun t =>
      (t.port p).tsQueue = (s.port p).tsQueue.filter fun e => decide (u.now < e.captured + 2 ^ 36))

/-- R82 and R83; R142 for PTP with an HSR tag, which is ring traffic. -/
def Obligations.FixedClassesThenFirstRule : Prop :=
  (∀ (s : State) (p : Nat) (f : Frame),
    (s.etypeAt p f = 0x8808 → (s.steerFrame p f).switch = false ∧ (s.steerFrame p f).queues = []) ∧
    (s.etypeAt p f = 0x88F7 → f.hsr = none → s.on (Od.ptpPortPtpEnable p) = true →
      (s.steerFrame p f).switch = false ∧ (s.steerFrame p f).queues = [2]) ∧
    (s.etypeAt p f ≠ 0x8808 → ¬(s.etypeAt p f = 0x88F7 ∧ f.hsr = none ∧ s.on (Od.ptpPortPtpEnable p) = true) →
      (s.etypeAt p f = s.reg Od.pairHbEthertype → s.reg (Od.portRole p) = 2 ∨ s.reg (Od.portRole p) = 4 →
        (s.steerFrame p f).switch = false ∧ (s.steerFrame p f).queues = [3]) ∧
      (¬(s.etypeAt p f = s.reg Od.pairHbEthertype ∧ (s.reg (Od.portRole p) = 2 ∨ s.reg (Od.portRole p) = 4)) →
        (f.dst = s.portMac p ∨ f.dst = Config.baseMac.toNat + 32 →
          (s.steerFrame p f).switch = false ∧ (s.steerFrame p f).queues = [4]) ∧
        (f.dst ≠ s.portMac p → f.dst ≠ Config.baseMac.toNat + 32 →
          (∀ i, i < 64 → s.ruleMatches p f (filterRule (s.reg (Od.filterRule p i))) = true →
            (∀ j, j < i → s.ruleMatches p f (filterRule (s.reg (Od.filterRule p j))) = false) →
            let r := filterRule (s.reg (Od.filterRule p i))
            (s.steerFrame p f).switch = (decide (r.action ≠ 1)) ∧
              (s.steerFrame p f).queues = if r.action = 0 then [] else [r.queue]) ∧
          ((∀ i, i < 64 → s.ruleMatches p f (filterRule (s.reg (Od.filterRule p i))) = false) →
            s.steerFrame p f = s.roleAction p f))))) ∧
  (∀ (s u : State) (a : Instant) (p : Nat) (f : Frame), s.powered 3 = true → p < 32 → u = s.arrive a →
    ((s.port p).rx = none → Does (.rxClassified a p f) s u) ∧
    (∀ r, (s.port p).rx = some r → r.dropped = true ∨ r.frame.isSome = true → Does (.rxClassified a p f) s u) ∧
    (∀ r, (s.port p).rx = some r → r.dropped = false → r.frame = none →
      Yields (.rxClassified a p f) s fun t => ∃ x, (t.port p).rx = some x ∧ x.frame = some f ∧ x.startedAt = r.startedAt))

/-- R115, for a frame received on port `p`. -/
def Obligations.ForwardingByExactVidFirst : Prop :=
  (∀ (s : State) (mac vid : Nat),
    (∀ e, s.lookup mac vid = some e → e ∈ s.staticEntries ∧ e.valid = true ∧ e.mac = mac ∧ (e.vidAny = true ∨ e.vid = vid)) ∧
    ((∃ e ∈ s.staticEntries, e.mac = mac ∧ e.vidAny = false ∧ e.vid = vid) →
      ∃ e, s.lookup mac vid = some e ∧ e.vidAny = false ∧ e.vid = vid) ∧
    (s.lookup mac vid = none ↔ ∀ e ∈ s.staticEntries, e.mac = mac → e.vidAny = false ∧ e.vid ≠ vid)) ∧
  (∀ (s : State) (p : Nat) (f : Frame), s.lookup f.dst (s.vidOf (some p) f) = none →
    (f.dst = broadcastMac → (s.decide_ (some p) f).ports = bitsOf 32 (s.reg (Od.swPortFloodMask p))) ∧
    (f.dst ≠ broadcastMac → isGroupMac f.dst = true → s.unknownMc p = true →
      (s.decide_ (some p) f).ports = bitsOf 32 (s.reg (Od.swPortFloodMask p)) ∧ (s.decide_ (some p) f).unknown = false) ∧
    (f.dst ≠ broadcastMac → isGroupMac f.dst = true → s.unknownMc p = false →
      (s.decide_ (some p) f).ports = [] ∧ (s.decide_ (some p) f).unknown = true) ∧
    (isGroupMac f.dst = false → f.dst ≠ broadcastMac → s.on (Od.swPortUnknownUc p) = true →
      (s.decide_ (some p) f).ports = bitsOf 32 (s.reg (Od.swPortFloodMask p)) ∧ (s.decide_ (some p) f).unknown = false) ∧
    (isGroupMac f.dst = false → f.dst ≠ broadcastMac → s.on (Od.swPortUnknownUc p) = false →
      (s.decide_ (some p) f).ports = [] ∧ (s.decide_ (some p) f).unknown = true))

/-- R108 and R109 of one class queue. -/
def Obligations.AdmissionKeepsGuarantees : Prop :=
  ∀ (w : Switch) (code port cls n : Nat), 0 < n → Tab.wf w.accounts 0 = true → w.rv ≤ w.free →
    (w.admits true code port cls n = .admitted → (w.charge port cls n).rv ≤ w.free - n ∧ (w.charge port cls n).rv ≤ w.free) ∧
    (w.account port cls + n ≤ 8 → w.admits true code port cls n = .admitted) ∧
    (n ≤ w.account port cls → (w.discharge port cls n).rv ≤ w.free + n) ∧
    (w.admits false code port cls n = .linkDown)

/-- R118, R119, R121, R123, R143; R123 and R124 for the barrier. -/
def Obligations.TableWritesAndTheirGeneration : Prop :=
  (∀ (s u : State) (a : Instant) (v : Nat), s.powered 3 = true → u = s.arrive a →
    let gen := (s.reg Od.swTableGeneration + 1) % 2 ^ 16
    let told (t : State) : State := ((t.setReg Od.swTableGeneration gen).setSw fun w => { w with
      tableWrites := u.now :: w.tableWrites.filter fun x => decide (u.now < x + ofMs 2) }).emit (.status 0 (beBytes 2 gen))
    (∀ n, n < 16384 →
      let e := staticEntry (v &&& staticEntryBits)
      let changes := v &&& staticEntryBits ≠ s.reg (Od.staticEntry n) &&& staticEntryBits
      let taken := ∃ r ∈ s.regs, 0x221001 ≤ r.1 ∧ r.1 ≤ 0x2250FF ∧ r.1 ≠ Od.staticEntry n ∧ (staticEntry r.2).valid = true ∧
        (staticEntry r.2).sameKey e = true
      (¬changes → Does (.staticEntryWrite a n v) s (u.emit (.status 0 (beBytes 2 (s.reg Od.swTableGeneration))))) ∧
      (changes → u.tablesBusy = true → Yields (.staticEntryWrite a n v) s fun t =>
        t.out.head? = some (.status 7 []) ∧ ∀ m, m < 16384 → t.reg (Od.staticEntry m) = s.reg (Od.staticEntry m)) ∧
      (changes → u.tablesBusy = false → e.kind = 3 ∨ (e.kind = 1 ∧ 1023 < e.group) ∨ (e.valid = true ∧ taken) →
        Does (.staticEntryWrite a n v) s (u.emit (.status 3 []))) ∧
      (changes → u.tablesBusy = false → e.kind ≠ 3 → ¬(e.kind = 1 ∧ 1023 < e.group) → ¬(e.valid = true ∧ taken) →
        Does (.staticEntryWrite a n v) s (told (u.setReg (Od.staticEntry n) ((v &&& staticEntryBits) + gen * 2 ^ 112))))) ∧
    (∀ n, n < 1024 → v &&& groupBits ≠ s.reg (Od.mcGroup n) &&& groupBits → u.tablesBusy = false →
      Does (.multicastGroupWrite a n v) s (told (u.setReg (Od.mcGroup n) ((v &&& groupBits) + gen * 2 ^ 32)))) ∧
    (u.tablesBusy = false → v = 0 ∨ 3 < v → Does (.clearTables a v) s (u.emit (.status 3 []))) ∧
    (u.tablesBusy = false → 0 < v → v ≤ 3 → Yields (.clearTables a v) s fun t =>
      t.reg Od.swTableGeneration = gen ∧ t.out.head? = some (.status 0 (beBytes 2 gen)) ∧ t.mem = s.mem ∧
      (bit v 0 = true → s.regs.Pairwise (fun x y => x.1 < y.1) → ∀ n, n < 16384 → t.reg (Od.staticEntry n) &&& staticEntryBits = 0))) ∧
  (∀ x y : Nat, x < 2 ^ 16 → y < 2 ^ 16 →
    (olderGen x y = true ↔ ∃ d, 1 ≤ d ∧ d ≤ 32767 ∧ y = (x + d) % 2 ^ 16)) ∧
  (∀ (s u : State) (a : Instant) (g : Nat), s.powered 3 = true → u = s.arrive a →
    (2 ^ 16 ≤ g ∨ olderGen (s.reg Od.swTableGeneration) g = true → Does (.tableBarrier a g) s (u.emit (.status 3 []))) ∧
    (g < 2 ^ 16 → olderGen (s.reg Od.swTableGeneration) g = false → Yields (.tableBarrier a g) s fun t =>
      t.out.head? = some (.status 0 []) ∧ (g ∈ t.sw.barriers ↔ s.olderFrames g = true) ∧ t.sw.frames = s.sw.frames) ∧
    (Yields (.barrierDone a) s fun t => t.sw.barriers = s.sw.barriers.filter s.olderFrames ∧ t.sw.frames = s.sw.frames) ∧
    ((∀ g ∈ s.sw.barriers, s.olderFrames g = true) → Does (.barrierDone a) s u))

/-- R97, R98, R112, R125 to R128. -/
def Obligations.EgressTransmission : Prop :=
  ∀ (s u : State) (a : Instant) (p q : Nat), s.powered 3 = true → p < 32 → q < 32 → u = s.arrive a →
    ((s.port p).linkUp = false ∨ (s.port p).tx.isSome = true → Does (.egressTxStart a p) s u ∧ Does (.cutThroughStart a q p) s u) ∧
    (∀ x rest, (s.port p).linkUp = true → (s.port p).tx = none → (s.port p).pauseOut = x :: rest → (s.port p).speedWaits = none →
      Does (.egressTxStart a p) s ((u.setPort p { s.port p with
        tx := some (.pause x), pauseOut := rest }).emit (.pause p x))) ∧
    ((s.port p).pauseOut = [] → (s.port p).speedWaits = none → u.paused p = true → Does (.egressTxStart a p) s u ∧ Does (.cutThroughStart a q p) s u) ∧
    ((s.port p).linkUp = true → (s.port p).tx = none → (s.port p).pauseOut = [] → (s.port p).speedWaits = none →
      u.paused p = false → (∀ c, c < 8 → s.sw.queue p c = []) →
      Does (.egressTxStart a p) s (u.setPort p { s.port p with deficits := (s.port p).deficits.map fun _ => 0 })) ∧
    (∀ id rest f e, (s.port p).linkUp = true → (s.port p).tx = none → (s.port p).pauseOut = [] → (s.port p).speedWaits = none →
      u.paused p = false → s.sw.queue p 7 = id :: rest → Tab.find s.sw.frames id = some f → f.egress.find? (·.port = p) = some e →
      f.complete = true → u.tooOld p f (u.onWire f e).len = false →
      Yields (.egressTxStart a p) s fun t => (t.port p).tx = some (.frame id)) ∧
    (∀ r id rest f e, (s.port p).linkUp = true → (s.port p).tx = none → (s.port p).pauseOut = [] → (s.port p).speedWaits = none →
      u.paused p = false → s.sw.queue p 7 = id :: rest → Tab.find s.sw.frames id = some f → f.egress.find? (·.port = p) = some e →
      e.cutThrough = true → (s.port q).rx = some r → r.swId = some id → f.ingress = some q → 64 ≤ u.arrived q r →
      u.pastLimit f e = false → u.tooOld p f (u.onWire f e).len = false →
      Yields (.cutThroughStart a q p) s fun t => (t.port p).tx = some (.frame id)) ∧
    (∀ id f e, (s.port p).linkUp = true → (s.port p).tx = none → (s.port p).pauseOut = [] → (s.port p).speedWaits = none →
      u.paused p = false → (u.choose p).pick = some (id, f, e) →
      Yields (.egressTxStart a p) s (fun t => (t.port p).tx = some (.frame id)) ∧
      ((s.port q).rx.bind (·.swId) ≠ some id → Does (.cutThroughStart a q p) s u)) ∧
    (∀ lower, (s.port p).linkUp = true → (s.port p).tx = none → (s.port p).speedBlocked = false →
      (s.port p).speedWaits = some lower → Does (.cutThroughStart a q p) s u ∧
      Yields (.egressTxStart a p) s fun t => (t.port p).lowered = lower ∧ (t.port p).linkUp = false) ∧
    ((s.port p).tx = none → Does (.txFrameEnd a p) s u) ∧
    ((s.port p).tx.isSome = true → Yields (.txFrameEnd a p) s fun t => (t.port p).tx = none)

/-- R112 and R113. -/
def Obligations.NoFrameOutlivesTheResidenceLimit : Prop :=
  ∀ (s u : State) (a : Instant) (p v : Nat), s.powered 3 = true → p < 32 → u = s.arrive a →
    (Yields (.residenceDiscard a p) s fun t => ∀ id f, Tab.find t.sw.frames id = some f →
      ∀ e ∈ f.egress, e.port = p → e.started = false → u.now < f.ageFrom + ofUs (s.reg Od.swResidenceLimit)) ∧
    (v < 100 ∨ 2000 < v → Does (.residenceLimitWrite a v) s (u.emit (.status 3 []))) ∧
    (100 ≤ v → v ≤ 2000 → Yields (.residenceLimitWrite a v) s fun t => t.reg Od.swResidenceLimit = v ∧
      t.out.head? = some (.status 0 []) ∧ ∀ id f, Tab.find t.sw.frames id = some f →
        ∀ e ∈ f.egress, e.port < 32 → e.started = false → u.now < f.ageFrom + ofUs v)

/-- R137, R139: the judgement for one purpose; and the two commands of the separator's times (R139, R141). -/
def Obligations.DuplicateJudgement : Prop :=
  (∀ (s : State) (g mac n k : Nat) (e : SrcEntry) (rest : List SrcEntry), n < 2 ^ 16 → k < 3 → e.top < 2 ^ 16 →
    e.windows.length = 3 → s.sourceEntry g mac = some (e, rest) →
    let ahead := (n + 2 ^ 16 - e.top) % 2 ^ 16
    let back := (e.top + 2 ^ 16 - n) % 2 ^ 16
    let r := s.judge g mac n k
    (e.fresh = true ∨ s.entryForgotten e = true →
      r.accept = true ∧ ∃ x, r.state.sw.sources = x :: rest ∧ x.top = n ∧ x.windows.getD k 0 = 1 ∧ x.lastAccept = s.now) ∧
    (e.fresh = false → s.entryForgotten e = false →
      (1 ≤ ahead → ahead ≤ 32767 → r.accept = true ∧
        ∃ x, r.state.sw.sources = x :: rest ∧ x.top = n ∧ bit (x.windows.getD k 0) 0 = true ∧ x.lastAccept = s.now) ∧
      (back < 64 → bit (e.windows.getD k 0) back = true → r.accept = false ∧ r.state = s.setSw fun w => { w with sources := e :: rest }) ∧
      (back < 64 → bit (e.windows.getD k 0) back = false → r.accept = true ∧
        ∃ x, r.state.sw.sources = x :: rest ∧ x.top = e.top ∧ bit (x.windows.getD k 0) back = true) ∧
      (32767 < ahead → 64 ≤ back → r.accept = true ∧
        r.state.reg (Od.sepCntOutOfWindow g) = (s.reg (Od.sepCntOutOfWindow g) + 1) % 2 ^ 32 ∧
        ∃ x, r.state.sw.sources = x :: rest ∧ x.top = e.top))) ∧
  (∀ (s : State) (g mac n k : Nat), s.sourceEntry g mac = none →
    (s.judge g mac n k).accept = true ∧ (s.judge g mac n k).state.sw = s.sw ∧
      (s.judge g mac n k).state.reg (Od.sepCntTableFull g) = (s.reg (Od.sepCntTableFull g) + 1) % 2 ^ 32) ∧
  (∀ (s u : State) (a : Instant) (g mac : Nat), s.powered 3 = true → g < 16 → u = s.arrive a →
    (Yields (.entryForget a g mac) s fun t => t.sw.sources.length = s.sw.sources.length ∧
      ∀ e ∈ t.sw.sources, e.group = g → e.mac = mac → e.lastAccept + ofMs (s.reg Od.sepEntryForgetTime) ≤ u.now →
        e.forgotten = true ∧ e.proxied = false) ∧
    (Yields (.lanSilent a g) s fun t => (g ∈ t.sw.silent ↔ u.isSilent g = true) ∧
      (s.sourceUp 34 = true → bit (t.reg (Od.evStatus 34)) 2 = !t.sw.silent.isEmpty)) ∧
    (s.groupKind g = 0 → Does (.supervisionFrameSend a g) s u) ∧
    (s.groupKind g ≠ 0 → s.reg (Od.sepGroupPortA g) < 32 → u.linkRead (s.reg (Od.sepGroupPortA g)) = true →
      70 ≤ s.reg (Od.portFrameLimit (s.reg (Od.sepGroupPortA g))) → s.sw.account (s.reg (Od.sepGroupPortA g)) 0 < 8 →
      Yields (.supervisionFrameSend a g) s fun t => ∃ f, Tab.find t.sw.frames s.sw.nextId = some f ∧
        f.frame.dst = 0x01154E000100 + s.reg Od.sepSupervisionAddrLsb ∧ f.frame.src = s.groupMac g ∧ f.ingress = none))

/-- R146, R154 over the interval of R153, and the failing rows of R150; `c` holds the table of R148. The order of the rows where several fail is the model's choice (assumption log 80). -/
def Obligations.AsduMatchAndChecks : Prop :=
  (∀ rate smpCnt a j : Nat, sampleNumber rate smpCnt a = some j ↔
    smpCnt < rate ∧ ∃ sec, j = sec * rate + smpCnt ∧
      let nominal := sec * 2 ^ 36 + (smpCnt * 2 ^ 36 + rate / 2) / rate
      a < nominal + 2 ^ 35 ∧ nominal ≤ a + 2 ^ 35 ∧ nominal ≤ a + ofUs 100) ∧
  ∀ (s u c : State) (a : Instant) (x : Asdu), s.powered 3 = true → x.port < 32 → u = s.arrive a → c = u.asOf x.idAt →
    let counts (k : Nat) : Prop := Yields (.svAsduReceived a x) s fun t => t.reg k = (s.reg k + 1) % 2 ^ 32 ∧ t.dp = s.dp
    (c.svMatch x = none ↔ 64 < x.svid.length ∨ ∀ n, n < 512 → c.on (Od.svEnable n) = true → c.reg (Od.svDstMac n) = x.dst →
      c.reg (Od.svAppid n) = x.appid → c.reg (Od.svVid n) = 0xFFFF ∨ c.reg (Od.svVid n) = c.readVid x.port x.tag →
      c.blob (Od.svid n) ≠ x.svid) ∧
    (c.svMatch x = none → counts Od.ingestCntUnsubscribed) ∧
    (∀ n, c.svMatch x = some n →
      (bit (c.reg (Od.svIngressMask n)) x.port = false → counts (Od.svWrongPort n)) ∧
      (bit (c.reg (Od.svIngressMask n)) x.port = true →
        (x.seqLen ≠ 8 * c.reg (Od.svChannels n) → counts Od.ingestCntMalformed) ∧
        (x.seqLen = 8 * c.reg (Od.svChannels n) →
          (c.reg (Od.svConfRev n) ≠ 0 → c.reg (Od.svConfRev n) ≠ x.confRev → counts (Od.svConfRevMismatch n)) ∧
          (c.reg (Od.svConfRev n) = 0 ∨ c.reg (Od.svConfRev n) = x.confRev →
            (x.sim ≠ c.on (Od.svSimAccept n) → counts (Od.svTestSimDiscard n)) ∧
            (x.sim = c.on (Od.svSimAccept n) →
              (sampleNumber (c.reg (Od.svStreamRate n)) x.smpCnt (u.svArrival x) = none → counts (Od.svBadSmpcnt n)) ∧
              ((sampleNumber (c.reg (Od.svStreamRate n)) x.smpCnt (u.svArrival x)).isSome = true →
                (x.smpSynch = 0 → c.reg (Od.svSyncPolicy n) = 0 → counts (Od.svUnsynced n)) ∧
                (x.smpSynch ≠ 0 ∨ c.reg (Od.svSyncPolicy n) ≠ 0 → c.reg (Od.svAuthMode n) = 1 →
                  (u.verifyAuth (c.reg (Od.svKeySlotA n)) (c.reg (Od.svKeySlotB n)) .svVerify x.auth).1 = false →
                  counts (Od.svAuthFail n))))))))

/-- R150, R157, R159, R160: what becomes of an accepted ASDU; `c` holds the table of R148 and `keys` the stream of its entry. -/
def Obligations.AcceptedAsduIsStoredOnce : Prop :=
  ∀ (s u c : State) (a : Instant) (x : Asdu) (n j : Nat), s.powered 3 = true → x.port < 32 → u = s.arrive a → c = u.asOf x.idAt →
    c.svMatch x = some n → bit (c.reg (Od.svIngressMask n)) x.port = true → x.seqLen = 8 * c.reg (Od.svChannels n) →
    c.reg (Od.svConfRev n) = 0 ∨ c.reg (Od.svConfRev n) = x.confRev → x.sim = c.on (Od.svSimAccept n) →
    sampleNumber (c.reg (Od.svStreamRate n)) x.smpCnt (u.svArrival x) = some j →
    x.smpSynch ≠ 0 ∨ c.reg (Od.svSyncPolicy n) ≠ 0 →
    c.reg (Od.svAuthMode n) ≠ 1 ∨
      (u.verifyAuth (c.reg (Od.svKeySlotA n)) (c.reg (Od.svKeySlotB n)) .svVerify x.auth).1 = true →
    let old := s.stream n
    let keys := c.streamKeys n
    let again := old.keys = some keys ∧ j ∈ old.seen
    let judged := old.judgedTo.any fun m => j ≤ m && sameRun j m
    Yields (.svAsduReceived a x) s fun t =>
      t.reg (Od.svFrames n) = (s.reg (Od.svFrames n) + 1) % 2 ^ 32 ∧ t.reg (Od.svLastSmpcnt n) = x.smpCnt ∧
      t.reg (Od.svLastEnd n) = u.svArrival x ∧ (s.cut 0 = true → t.dp = s.dp) ∧ t.dp.images = s.dp.images ∧
      (∀ m, m ≠ n → t.stream m = s.stream m) ∧
      (s.cut 0 = false →
        (t.stream n).arrivals = u.svArrival x :: old.arrivals ∧
        (again → t.reg (Od.svDuplicate n) = (s.reg (Od.svDuplicate n) + 1) % 2 ^ 32 ∧ (t.stream n).ring = old.ring) ∧
        (¬again → judged = true → t.reg (Od.svLate n) = (s.reg (Od.svLate n) + 1) % 2 ^ 32 ∧
          (t.stream n).lateSeen = true ∧ j ∈ (t.stream n).seen ∧ (t.stream n).ring = old.ring) ∧
        (¬again → judged = false → u.positionTaken n j keys = true →
          t.reg (Od.svBadSmpcnt n) = (s.reg (Od.svBadSmpcnt n) + 1) % 2 ^ 32 ∧ (t.stream n).ring = old.ring) ∧
        (¬again → judged = false → u.positionTaken n j keys = false → j ∈ (t.stream n).seen ∧ (t.stream n).keys = some keys ∧
          Tab.find (t.stream n).ring j =
            some ⟨keys, true, u.svArrival x, decide (x.smpSynch = 0), c.on (Od.svTestAccept n), x.samples, .waiting, false⟩ ∧
          ∀ k, k ≠ j → Tab.find (t.stream n).ring k = Tab.find old.ring k))

/-- R158, R168 and R181. -/
def Obligations.WindowCloseJudgesOnceAndForAll : Prop :=
  (∀ (s cfg : State) (n i g : Nat), s.guardAt cfg n i = some g →
    (∀ c m, (c, m) ∈ cfg.svMapOf n → sampleAt (cfg.reg (Od.svStreamRate n)) (s.tickAt i) (s.delayInUse cfg c i) + 3 ≤ g) ∧
    ∃ c m, (c, m) ∈ cfg.svMapOf n ∧ g = sampleAt (cfg.reg (Od.svStreamRate n)) (s.tickAt i) (s.delayInUse cfg c i) + 3) ∧
  ∀ (s u cfg : State) (a : Instant) (i deadline : Nat), s.powered 3 = true → u = s.arrive a → cfg = u.asOf (s.tickAt i) →
    deadline = s.tickAt i + ofUs (cfg.reg Od.ingestAlignWindow) →
    (u.now < deadline ∨ i < s.dp.imagesFrom ∨ (∃ j, s.dp.lastClosed = some j ∧ i ≤ j) → Does (.alignmentWindowClose a i) s u) ∧
    (deadline ≤ u.now → s.dp.imagesFrom ≤ i → (∀ j, s.dp.lastClosed = some j → j < i) → Yields (.alignmentWindowClose a i) s fun t =>
      t.dp.lastClosed = some i ∧ t.dp.freezeImage = s.dp.freezeNow ∧ t.dp.images = s.dp.images ∧ t.dp.lateShown = s.dp.lateCount ∧
      (∀ n g m, n ∈ cfg.svEntries → u.guardAt cfg n i = some g → (s.stream n).judgedTo = some m → sameRun m g = true →
        (s.stream n).ring.Pairwise (fun x y => x.1 < y.1) → s.reg (Od.svMissing n) < 2 ^ 32 →
        (t.stream n).judgedTo = some (max g m) ∧
        t.reg (Od.svMissing n) = (s.reg (Od.svMissing n) + ((List.range (g - m)).filter fun k =>
          !(Tab.find (s.stream n).ring (m + 1 + k)).any fun q => q.received && decide (q.arrival ≤ deadline)).length) % 2 ^ 32 ∧
        (∀ j, m < j → j ≤ g → g < j + 96 → ∃ r, Tab.find (t.stream n).ring j = some r ∧ r.judged ≠ .waiting ∧
          (r.judged = .present ↔
            ∃ q, Tab.find (s.stream n).ring j = some q ∧ q.received = true ∧ q.arrival ≤ deadline ∧ r.samples = q.samples)) ∧
        (∀ j, j ≤ m → max g m < j + 96 → Tab.find (t.stream n).ring j = (Tab.find (s.stream n).ring j).map fun r =>
          if r.received = true ∧ r.judged = .missing ∧ r.arrival ≤ u.now then { r with received := false } else r)) ∧
      ∀ n, n < 512 → ((t.stream n).alive = true ↔ s.on (Od.svEnable n) = true ∧
        ∃ x, (s.stream n).arrivals.find? (fun y => decide (y ≤ deadline)) = some x ∧
          deadline ≤ x + ofMs (s.reg (Od.svAliveTimeout n))))

/-- R162, R163, R169 to R171. -/
def Obligations.ReleasedImageIsWellFormed : Prop :=
  ∀ (s u : State) (a : Instant) (i : Nat), s.powered 10 = true → u = s.arrive a →
    let cfg := u.asOf (s.tickAt i)
    (s.dp.lastClosed ≠ some i ∨ s.dp.lastReleased = some i → Does (.imageRelease a i) s u) ∧
    (s.dp.lastClosed = some i → s.dp.lastReleased ≠ some i → Yields (.imageRelease a i) s fun t =>
      t.dp.lastReleased = some i ∧ (∀ k, k ≠ i % 64 → Tab.find t.dp.images k = Tab.find s.dp.images k) ∧
      ∃ x, Tab.find t.dp.images (i % 64) = some x ∧ x.tick = i ∧ x.instant = s.tickAt i ∧ x.tickRate = s.rate ∧
        x.timeState = Tab.look s.dp.timeAt i (servoCode s.time.servo) ∧ x.lateCount = s.dp.lateShown % 2 ^ 16 ∧
        x.subscriptionGen = cfg.reg Od.ingestSubscriptionGen ∧
        x.invalidCount = (x.slots.filter fun e => e.2.status % 4 = 1).length ∧
        x.substitutedCount = (x.slots.filter fun e => bit e.2.status 2).length ∧
        (∀ c, (Tab.find x.slots c).isSome = true ↔ ∃ n m, (c, n, m) ∈ cfg.mapped) ∧
        ∀ c y, Tab.find x.slots c = some y → y.status < 2 ^ 15 ∧ y.status % 4 ≠ 2 ∧
          (y.status % 4 = 1 → y.value = 0 ∧ (field y.status 8 2 = 2 ∨ field y.status 8 2 = 3)) ∧
          (y.status % 4 ≠ 1 → field y.status 8 2 = 0)) ∧
    (∀ c, Tab.find s.dp.images (i % 64) = none → u.slotAt i c = ⟨0, 0x0101⟩)

/-- R180 (with the freeze of R181), R183 and R185. -/
def Obligations.FilterArithmetic : Prop :=
  (∀ (cfg : State) (c rate j : Nat) (frozen : Bool) (x : Int) (ch : Channel),
    let v := (cfg.scaled c x).1
    let corner := cfg.reg (Od.profileDcCorner (cfg.frec c).profile)
    let r := cfg.blockSample c rate frozen j x ch
    (corner = 0 → Tab.find r.blocked j = some v ∧ r.dc = ch.dc) ∧
    (corner ≠ 0 → Tab.find r.blocked j = some (s48 (v - roundDiv ch.dc (2 ^ 48))) ∧
      (frozen = true → r.dc = ch.dc) ∧
      (frozen = false → r.dc = roundDiv (ch.dc * 2 ^ 31 + dcCoefficient corner rate * (v * 2 ^ 48 - ch.dc)) (2 ^ 31))) ∧
    r.blockedTo = some j ∧ r.fir = ch.fir ∧ r.hist = ch.hist) ∧
  (∀ u p q r s : Rat,
    let f (x : Rat) : Rat := p + q * x + r * x ^ 2 + s * x ^ 3
    lagrangeValue u (f (-1)) (f 0) (f 1) (f 2) = f u ∧
      lagrangeSlope u (f (-1)) (f 0) (f 1) (f 2) = q + 2 * r * u + 3 * s * u ^ 2) ∧
  (∀ (w : FilterUse) (y : List Int),
    (w.taps = 0 → firOutput w y = y.headD 0) ∧
    (w.taps ≠ 0 → firOutput w y = sat48 (roundDiv
      (((List.range (min (coefficients w).length y.length)).map fun j => (coefficients w).getD j 0 * y.getD j 0).sum) (2 ^ 31))) ∧
    (w.symmetric = true → ∀ j, j < w.taps → (coefficients w).length = w.taps ∧
      (coefficients w).getD j 0 = (coefficients w).getD (w.taps - 1 - j) 0))

/-- R193, R197, R200 to R202. -/
def Obligations.ReleasedPhasorsAreWellFormed : Prop :=
  ∀ (s u : State) (a : Instant) (i : Nat), s.powered 10 = true → u = s.arrive a →
    let cfg := u.asOf (s.tickAt i)
    (s.dp.lastReleased ≠ some i ∨ s.dp.lastPhasor = some i → Does (.phasorRelease a i) s u) ∧
    (s.dp.lastReleased = some i → s.dp.lastPhasor ≠ some i → Yields (.phasorRelease a i) s fun t =>
      t.dp.lastPhasor = some i ∧ t.dp.images = s.dp.images ∧ t.dp.channels = s.dp.channels ∧
      (∀ k, k / 8192 ≠ i % 64 → Tab.find t.dp.phasors k = Tab.find s.dp.phasors k) ∧
      (∀ k, k / 64 ≠ i % 64 → Tab.find t.dp.freqRecs k = Tab.find s.dp.freqRecs k) ∧
      (∀ p, p < 8192 → cfg.outEnable p = true → ∃ r, Tab.find t.dp.phasors (i % 64 * 8192 + p) = some r ∧
        r.tickLow = i % 2 ^ 32 ∧ r.source = cfg.outChannel p + 8192 * b2n (cfg.outSkim p) ∧ r.status < 2 ^ 16 ∧ r.status % 4 ≠ 2 ∧
        (r.status % 4 = 1 → r.real = 0 ∧ r.imag = 0 ∧ r.mag = 0 ∧ r.angle = 0) ∧
        (cfg.outSkim p = true → bit r.status 10 = false)) ∧
      (∀ g, g < 64 → ∃ r, Tab.find t.dp.freqRecs (i % 64 * 64 + g) = some r ∧ r.tickLow = i % 2 ^ 32 ∧ r.status < 16 ∧
        (bit r.status 0 = true → r.rocof = 0) ∧
        (bit r.status 2 = true ↔ r.freq < 45 * 65536 ∨ 65 * 65536 < r.freq) ∧
        (r.ref = 0xFFFF ∨ r.ref = cfg.reg (Od.fgroupRefChannel g) ∨ r.ref = cfg.reg (Od.fgroupBackupChannel g))))

/-- R203, R399, R401, R404. -/
def Obligations.ResidueMismatchesRetireASlice : Prop :=
  ∀ (s u : State) (a : Instant) (slice group : Nat), s.powered 10 = true → slice < 5 → group < 4 → u = s.arrive a →
    let earlier := ((Tab.look s.health.errors (laneGroupId slice group) []).filter fun e => u.now ≤ e + 10 * second).length
    Yields (.residueMismatch a slice group) s fun t =>
      t.reg Od.fbResidueMismatch = (s.reg Od.fbResidueMismatch + 1) % 2 ^ 32 ∧
      group ∈ Tab.look t.dp.mismatched slice [] ∧ t.dp.images = s.dp.images ∧ t.dp.streams = s.dp.streams ∧
      (slice = 4 → t.health.out = s.health.out ∧ t.health.retired = s.health.retired) ∧
      (slice < 4 → s.isOut (laneGroupId slice group) = false → earlier < 2 → t.health.out = s.health.out ∧
        (Tab.look t.health.errors (laneGroupId slice group) []).length = earlier + 1) ∧
      (slice < 4 → s.isOut (laneGroupId slice group) = false → s.isOut (sliceId slice) = false → 2 ≤ earlier →
        t.health.out = s.health.out ++ [laneGroupId slice group, sliceId slice] ∧
        ∃ r q, t.health.retired = s.health.retired ++ [r, q] ∧ r.unit_ = laneGroupId slice group ∧ r.cause = 1 ∧
          q.unit_ = sliceId slice ∧ q.cause = 1 ∧ q.time = u.now)

/-- R206, at the handovers and returns of R25 and R207. -/
def Obligations.FallbackServiceAndShedding : Prop :=
  ∀ (s u : State) (a : Instant) (slice : Nat), s.powered 10 = true → slice < 4 → u = s.arrive a →
    let fixed (t : State) (inService : Nat → Bool) : Prop :=
      let want := (s.mapped.map (·.1)).filter fun c => inService (c % 4)
      let cap := 10000000 / s.rate
      t.reg Od.fbFallbackChannels = min want.length cap ∧ t.reg Od.fbShedChannels = want.length - cap ∧
        ∃ shed, t.dp.sheds.head? = some (u.tickNow, shed) ∧ shed.length = want.length - cap ∧
          ∀ x ∈ shed, ∀ y ∈ want, y ∉ shed → x ∈ want ∧ (s.channelPriority x < s.channelPriority y ∨
            (s.channelPriority x = s.channelPriority y ∧ y < x))
    (u.handoverKind slice = none → Does (.fallbackHandover a slice) s u) ∧
    (∀ k, u.handoverKind slice = some k → Yields (.fallbackHandover a slice) s fun t =>
      t.fbService slice = some ⟨k, u.tickNow, none⟩ ∧ (∀ n, n ≠ slice → t.fbService n = s.fbService n) ∧
      fixed t (fun n => decide (n = slice) || (s.fbService n).isSome) ∧
      (k = .retired → ∀ c n m, (c, n, m) ∈ s.mapped → c % 4 = slice → (t.chan c).restartAt = some u.tickNow) ∧
      (k ≠ .retired → t.dp.channels = s.dp.channels)) ∧
    (u.mayReturn slice = false → Does (.fallbackReturn a slice) s u) ∧
    (u.mayReturn slice = true → Yields (.fallbackReturn a slice) s fun t =>
      t.fbService slice = none ∧ (∀ n, n ≠ slice → t.fbService n = s.fbService n) ∧
      fixed t (fun n => decide (n ≠ slice) && (s.fbService n).isSome) ∧ t.dp.channels = s.dp.channels)

/-- R208, R210, R213; R209 for a block. -/
def Obligations.FramesSpareProtectedOnes : Prop :=
  (∀ (s : State) (g c : Nat), (∀ k, k < 8 → sat48 (s.slotAt (g + k) c).value = (s.slotAt (g + k) c).value) →
    let b := s.curdBlock g c
    let v (k : Nat) : Int := (s.slotAt (g + k) c).value
    let fits (e : Nat) : Prop := ∀ k, k < 8 → -(2 ^ 23) ≤ roundDiv (v k) (2 ^ e) ∧ roundDiv (v k) (2 ^ e) ≤ 2 ^ 23 - 1
    b.channel = c ∧ b.mant.length = 8 ∧ b.exp ≤ 24 ∧ fits b.exp ∧ (∀ e, e < b.exp → ¬fits e) ∧
      ∀ k, k < 8 → b.mant.getD k 0 = roundDiv (v k) (2 ^ b.exp) ∧
        (b.exp = 0 → b.mant.getD k 0 = v k) ∧ 2 * (v k - b.mant.getD k 0 * 2 ^ b.exp).natAbs ≤ 2 ^ b.exp) ∧
  ∀ (s u : State) (a : Instant) (g : Nat), s.powered 10 = true → u = s.arrive a →
    let due := g % 8 = 0 ∧ (∃ i, s.dp.lastReleased = some i ∧ g + 7 ≤ i ∧ i < g + 64) ∧ s.storedChannels ≠ [] ∧
      s.cut 1 = false ∧ ∀ f ∈ s.hist.frames, f.tick ≠ g
    (¬due → Does (.curdFrameWrite a g) s u) ∧
    (due → Yields (.curdFrameWrite a g) s fun t =>
      (∃ kept f, t.hist.frames = kept ++ [f] ∧ f.tick = g ∧ f.blocks = s.storedChannels.map (s.curdBlock g) ∧
        kept.Sublist s.hist.frames ∧ s.hist.frames.length ≤ kept.length + 1 ∧
        (s.hist.frames.length < s.ringFrames → kept = s.hist.frames) ∧
        (∀ x ∈ s.hist.frames, protects s.protectedRanges x.tick = true → x ∈ kept)) ∧
      (∀ w x, w < 8 → s.hist.windows.Pairwise (fun e f => e.1 < f.1) → Tab.find s.hist.windows w = some x → x.state = 1 →
        x.last = g + 7 → (t.window w).state = 2))

/-- R213 (with R212's span and R214). -/
def Obligations.TriggersOpenWindows : Prop :=
  (∀ (s : State) (g w : Nat) (x : Window), s.hist.windows.find? (fun e => decide (e.2.state = 1)) = some (w, x) →
    (s.trigger g).window w = { x with triggers := min 16 (x.triggers + 1) } ∧
      ∀ v, v ≠ w → (s.trigger g).window v = s.window v) ∧
  (∀ (s : State) (g : Nat), s.hist.windows.find? (fun e => decide (e.2.state = 1)) = none →
    let sp := s.windowSpan g
    let opens := (s.hist.windows.filter fun e => e.2.open_).length < 8 ∧
      2 * protectedCount (s.protectedRanges ++ [(sp.1, sp.2.1)]) ≤ s.ringFrames ∧ ∃ w, w < 8 ∧ (s.window w).state = 0
    (sp.1 % 8 = 0 ∨ sp.1 = s.oldestTick) ∧
    (¬opens → (s.trigger g).reg Od.histFreezeRefused = (s.reg Od.histFreezeRefused + 1) % 2 ^ 32 ∧
      (s.trigger g).hist = s.hist ∧ (s.sourceUp 54 = true → bit ((s.trigger g).reg (Od.evStatus 54)) 2 = true)) ∧
    (opens → ∃ w, w < 8 ∧ (s.window w).state = 0 ∧ ((s.trigger g).window w).first = sp.1 ∧ ((s.trigger g).window w).last = sp.2.1 ∧
      ((s.trigger g).window w).trigger = g ∧ ((s.trigger g).window w).truncated = sp.2.2 ∧ ((s.trigger g).window w).state ≠ 0 ∧
      ∀ v, v ≠ w → (s.trigger g).window v = s.window v)) ∧
  (∀ (s u : State) (a : Instant) (v w : Nat), s.powered 10 = true → u = s.arrive a →
    (s.paired = true → s.pair.role = .follow ∨ s.pair.role = .syncing → v < 2 → Does (.triggerNow a v) s (u.emit (.status 7 []))) ∧
    (2 ≤ v → Does (.triggerNow a v) s (u.emit (.status 2 []))) ∧
    (s.paired = false → (v = 0 ∨ (v = 1 ∧ s.dp.lastReleased = none) → Does (.triggerNow a v) s (u.emit (.status 0 []))) ∧
      (∀ g, v = 1 → s.dp.lastReleased = some g → Does (.triggerNow a v) s ((u.trigger g).emit (.status 0 [])))) ∧
    (8 ≤ w → Does (.releaseWindow a w) s (u.emit (.status 3 []))) ∧
    (w < 8 → (s.window w).state = 3 → Does (.releaseWindow a w) s (u.emit (.status 7 []))) ∧
    (w < 8 → (s.window w).state ≠ 3 → Does (.releaseWindow a w) s ((u.setWindow w {}).emit (.status 0 []))) ∧
    (s.paired = false →
      Does (.dcFreezeMapWrite a v) s ((u.setReg Od.freezeDcFreezeMap (v % 2 ^ 8192)).emit (.status 0 []))))

/-- R232, with the formats of R9, R231 and R262: the calls that move no octets. -/
def Obligations.MonitorCallsAnswer : Prop :=
  ∀ (s u : State) (a : Instant) (n time number : Nat), s.powered 10 = true → n < 96 → u = s.arrive a →
    let x := s.part n
    let unit := (winRec (x.windows.getD (x.window.getD 0) 0)).unit
    let pail := (s.partPail n).getD 0xFF
    let returns (t : State) (status : Int) (results : List Int) : State :=
      t.modPart n fun y => { y with regs := (status :: results ++ y.regs.drop (1 + results.length)).take 4 }
    (x.window = none ∨ x.runs = false ∨ u.now < x.runsFrom →
      ∀ c ∈ [Instr.info a n, .tick a n, .tickDone a n, .yield a n, .timerSet a n time, .timerCancel a n, .stateStatus a n, .health a n,
        .watchdogKick a n, .restartSelf a n, .migrateReady a n, .invalidMonitorCall a n number, .log a n time,
        .portSend a n number time time, .portRecv a n time time, .stateDeclare a n number time time,
        .configRead a n number time time time], Does c s u) ∧
    (x.window.isSome = true → x.runs = true → x.runsFrom ≤ u.now →
      Does (.info a n) s (returns u 0 [((n + pail * 2 ^ 8 + unit * 2 ^ 16 + unit / 4 * 2 ^ 24 : Nat) : Int), (s.rate : Int),
        (((s.reg Od.ingestAlignWindow + 25) * s.rate / 1000000 + 1 : Nat) : Int)]) ∧
      Does (.tick a n) s (returns u 0
        [(s.workTick : Int), ((x.window.getD 0 : Nat) : Int), (((x.windowEndsAt - u.now) / 1024 : Nat) : Int)]) ∧
      Does (.yield a n) s (returns (u.modPart n fun y => { y with window := none }) 0 []) ∧
      Does (.timerSet a n time) s
        (returns (u.modPart n fun y => { y with timer := some (time % 2 ^ 64), timerPending := false }) 0 []) ∧
      Does (.timerCancel a n) s (returns (u.modPart n fun y => { y with timer := none, timerPending := false }) 0 []) ∧
      Does (.stateStatus a n) s (returns u 0 [(x.resyncs : Int), (x.lastResync : Int)]) ∧
      (∃ w : Nat, Does (.health a n) s (returns u 0 [(w : Int)]) ∧ w < 32 ∧ bit w 0 = s.degraded (unit / 4) ∧
        bit w 1 = s.grantedFallback n ∧
        bit w 2 = decide (s.pair.role = .lead) ∧ bit w 3 = s.partnerHealthy ∧
        bit w 4 = (u.partSuppressed n || u.pairSuppresses)) ∧
      Does (.watchdogKick a n) s (returns (u.modPart n fun y => { y with watchdog := 0 }) 0 []) ∧
      Does (.restartSelf a n) s ((returns u 0 []).modPart n fun y =>
        { y with run := .restarting, window := none, restartDue := some 2, restartFrom := s.workTick + 1 }) ∧
      (x.migrateTo = none → Does (.migrateReady a n) s (returns (u.modPart n fun y => y) 0 [])) ∧
      (∀ l, x.migrateTo = some l → Yields (.migrateReady a n) s fun t =>
        (t.part n).migrateTo = none ∧ (t.part n).windowsNext = some l ∧ (t.part n).regs.head? = some 0) ∧
      (15 < number → Does (.invalidMonitorCall a n number) s (returns u (-1) [])) ∧
      (number ≤ 15 → Does (.invalidMonitorCall a n number) s u))

/-- R232, R233, R235. What a buffer outside RAM or too short gets is the model's choice (assumption log 54). -/
def Obligations.CallsThatMoveOctets : Prop :=
  ∀ (s u : State) (a : Instant) (n dest addr len index sub : Nat), s.powered 10 = true → n < 96 → u = s.arrive a →
    (s.part n).window.isSome = true → (s.part n).runs = true → (s.part n).runsFrom ≤ u.now →
    let x := s.part n
    let ram (len : Nat) : Prop :=
      0x80000000 ≤ addr ∧ addr + len ≤ 0x80000000 + s.reg (Od.partMemory n) * 2 ^ 20 ∧ s.cut 1 = false
    let fails (c : Instr) (status : Int) : Prop := Does c s (u.modPart n fun y => { y with regs := (status :: y.regs.drop 1).take 4 })
    let load (len : Nat) : List Byte := (List.range len).map fun i => s.memByte n (addr + i)
    (dest ∉ s.portsOf n → fails (.portSend a n dest addr len) (-2)) ∧
    (dest ∈ s.portsOf n → len = 0 ∨ 256 < len ∨ ¬ram len → fails (.portSend a n dest addr len) (-1)) ∧
    (dest ∈ s.portsOf n → 1 ≤ len → len ≤ 256 → ram len →
      (8 ≤ (s.part dest).inbox.length + (s.part dest).sent.length → fails (.portSend a n dest addr len) (-5)) ∧
      ((s.part dest).inbox.length + (s.part dest).sent.length < 8 → Yields (.portSend a n dest addr len) s fun t =>
        (t.part dest).sent = (s.part dest).sent ++ [⟨n, load len⟩] ∧ (t.part n).regs = ((0 : Int) :: x.regs.drop 1).take 4 ∧
        t.mem = s.mem ∧ ∀ m, m ≠ n → m ≠ dest → t.part m = s.part m)) ∧
    (x.inbox = [] → fails (.portRecv a n addr len) (-5)) ∧
    (∀ m rest, x.inbox = m :: rest →
      (len < m.data.length ∨ ¬ram m.data.length → fails (.portRecv a n addr len) (-1)) ∧
      (m.data.length ≤ len → ram m.data.length → s.reg (Od.partMemory n) < 2 ^ 32 → Yields (.portRecv a n addr len) s fun t =>
        (t.part n).inbox = rest ∧ (t.part n).regs.take 3 = [0, (m.data.length : Int), (m.sender : Int)] ∧
        (∀ i, i < m.data.length → t.memByte n (addr + i) = m.data.getD i 0) ∧
        (∀ o b, b < 2 ^ 64 → o ≠ n ∨ b < addr ∨ addr + m.data.length ≤ b → t.memByte o b = s.memByte o b))) ∧
    (¬ram 64 → fails (.log a n addr) (-1)) ∧
    (ram 64 → Yields (.log a n addr) s fun t => t.mem = s.mem ∧ (t.part n).regs.head? = some 0 ∧
      (t.part n).logRing = (x.logRing ++ [load 64]).drop (x.logRing.length + 1 - 256)) ∧
    (∀ r, s.regionOk n r addr len = false → fails (.stateDeclare a n r addr len) (-1)) ∧
    (∀ r, s.regionOk n r addr len = true → Yields (.stateDeclare a n r addr len) s fun t => t.mem = s.mem ∧
      (t.part n).regions = x.regions ∧ ∃ next, (t.part n).regionsNext = some next ∧ (len = 0 → Tab.find next r = none) ∧
        (len ≠ 0 → Tab.find next r = some ⟨addr, len⟩) ∧
        ∀ q, q ≠ r → Tab.find next q = Tab.find (x.regionsNext.getD x.regions) q) ∧
    (u.entry? index sub = none → fails (.configRead a n index sub addr len) (-4)) ∧
    (∀ r, u.entry? index sub = some r → (r.rd ≠ 0 → fails (.configRead a n index sub addr len) (-2)) ∧
      (r.rd = 0 → let v := u.entryBytes index sub r
        (len < v.length ∨ ¬ram v.length → fails (.configRead a n index sub addr len) (-1)) ∧
        (v.length ≤ len → ram v.length → s.reg (Od.partMemory n) < 2 ^ 32 → Yields (.configRead a n index sub addr len) s fun t =>
          (t.part n).regs.take 2 = [0, (v.length : Int)] ∧ (∀ i, i < v.length → t.memByte n (addr + i) = v.getD i 0) ∧
          (∀ o b, b < 2 ^ 64 → o ≠ n ∨ b < addr ∨ addr + v.length ≤ b → t.memByte o b = s.memByte o b))))

/-- R226, R229, R232 and R236. -/
def Obligations.WindowsAndTickDone : Prop :=
  ∀ (s u : State) (a : Instant) (n w word : Nat), s.powered 10 = true → n < 96 → w < 64 → u = s.arrive a →
    let x := s.part n
    let r := winRec word
    let at_ (o : Nat) : Nat := s.tickAt s.workTick + o * (s.tickAt (s.workTick + 1) - s.tickAt s.workTick) / 256
    let inTick := bit r.mask (s.workTick % max 1 s.majorFrame) = true
    (x.windows[w]? = none → Does (.windowStart a n w) s u ∧ Does (.windowEnd a n w) s u) ∧
    (x.windows[w]? = some word →
      (x.runs = false ∨ x.done = true ∨ x.displaced = true ∨ x.window.isSome = true ∨ ¬inTick ∨ u.now < at_ r.start ∨
        at_ (r.start + r.length) ≤ u.now ∨ (s.herd (r.unit / 4)).pending = some (r.unit % 4) ∨ s.cut 1 = true →
        Does (.windowStart a n w) s u) ∧
      (x.runs = true → x.done = false → x.displaced = false → x.window = none → inTick → at_ r.start ≤ u.now →
        u.now < at_ (r.start + r.length) → (s.herd (r.unit / 4)).pending ≠ some (r.unit % 4) → s.cut 1 = false →
        Yields (.windowStart a n w) s fun t =>
        (t.part n).window = some w ∧ (t.part n).runsFrom = at_ r.start + ofUs 2 ∧ (t.part n).windowEndsAt = at_ (r.start + r.length) ∧ (t.part n).regs = x.regs ∧
        (t.part n).checkpoint = x.regs ∧ (t.part n).extPending = false ∧ ∀ m, m ≠ n → t.part m = s.part m) ∧
      (x.runs = false ∨ ¬inTick ∨ u.now < at_ (r.start + r.length) → Does (.windowEnd a n w) s u) ∧
      (x.runs = true → inTick → at_ (r.start + r.length) ≤ u.now → Yields (.windowEnd a n w) s fun t =>
        (t.part n).window ≠ some w ∧ (t.part n).captured = x.captured ∧ t.pubs = s.pubs ∧
        (x.done = true ∨ x.overran = true ∨
          (∃ v ∈ x.windows, bit (winRec v).mask (s.workTick % max 1 s.majorFrame) = true ∧ r.start < (winRec v).start) →
          t.reg (Od.partOverruns n) = s.reg (Od.partOverruns n)) ∧
        (x.done = false → x.overran = false →
          (∀ v ∈ x.windows, bit (winRec v).mask (s.workTick % max 1 s.majorFrame) = true → (winRec v).start ≤ r.start) →
          t.reg (Od.partOverruns n) = (s.reg (Od.partOverruns n) + 1) % 2 ^ 32))) ∧
    (x.window.isSome = true → x.runs = true → x.runsFrom ≤ u.now → Yields (.tickDone a n) s fun t =>
      (t.part n).done = true ∧ (t.part n).window = none ∧ (t.part n).regs.head? = some 0 ∧ t.mem = s.mem ∧
      (t.part n).captured = x.regions.map (fun e => (e.1, s.loadBytes n e.2.addr e.2.len)) ∧
      (∀ p, s.partPail n = some p → (s.pail p).state = .active → (t.pail p).committed = (s.pail p).committed ||| 0xFFFF) ∧
      (s.partPail n = none → t.pails = s.pails ∧ t.pubs = s.pubs)) ∧
    (x.timer = none ∨ x.window = none ∨ x.runs = false ∨ u.now < x.runsFrom → Does (.vsTimerInterrupt a n) s u) ∧
    (∀ v, x.timer = some v → x.window.isSome = true → x.runs = true → x.runsFrom ≤ u.now →
      (u.now / 1024 % 2 ^ 64 < v → Does (.vsTimerInterrupt a n) s u) ∧
      (v ≤ u.now / 1024 % 2 ^ 64 →
        Does (.vsTimerInterrupt a n) s (u.modPart n fun y => { y with timer := none, timerPending := true })))

/-- R234, and the stops and starts of R231. -/
def Obligations.FaultsAndRestartsOfPartitions : Prop :=
  ∀ (s u : State) (a : Instant) (n code : Nat), s.powered 10 = true → n < 96 → u = s.arrive a →
    let x := s.part n
    let prog := s.blob (Od.partProgram n)
    (x.window = none ∨ x.runs = false ∨ u.now < x.runsFrom ∨ code ∉ [20, 21, 23] → Does (.partitionException a ⟨n, code⟩) s u) ∧
    (x.window.isSome = true → x.runs = true → x.runsFrom ≤ u.now → code ∈ [20, 21, 23] →
      Yields (.partitionException a ⟨n, code⟩) s fun t =>
      t.reg (Od.partFaults n) = (s.reg (Od.partFaults n) + 1) % 2 ^ 32 ∧ (t.part n).run = .restarting ∧ (t.part n).window = none ∧
      (t.part n).restartDue = some 3 ∧ (t.part n).restartFrom = s.workTick + 1) ∧
    (s.reg (Od.partWatchdogTicks n) = 0 ∨ x.watchdog < s.reg (Od.partWatchdogTicks n) ∨ x.runs = false →
      Does (.partitionWatchdogExpiry a n) s u) ∧
    (s.reg (Od.partWatchdogTicks n) ≠ 0 → s.reg (Od.partWatchdogTicks n) ≤ x.watchdog → x.runs = true →
      Does (.partitionWatchdogExpiry a n) s
        (u.modPart n fun y => { y with run := .restarting, window := none, restartDue := some 1, restartFrom := s.workTick })) ∧
    (x.restartDue = none ∨ s.workTick < x.restartFrom ∨ s.on (Od.partEnable n) = false ∨ x.unplaced = true ∨
      s.cut 1 = true → Does (.partitionRestart a n) s u) ∧
    (∀ cause, x.restartDue = some cause → x.restartFrom ≤ s.workTick → s.on (Od.partEnable n) = true → x.unplaced = false → s.cut 1 = false →
      s.reg (Od.partMemory n) < 2 ^ 32 → Yields (.partitionRestart a n) s fun t =>
        (t.part n).run = .running ∧ (t.part n).restartDue = none ∧ (t.part n).window = none ∧ (t.part n).timer = none ∧
        (t.part n).pc = leAt prog 24 8 ∧ (t.part n).vsatp = 0 ∧ (t.part n).priv = .vs ∧
        (t.part n).regs.take 3 = [(n : Int), ((s.partPail n).getD 0xFF : Nat), (cause : Int)] ∧
        (∀ b, b < 2 ^ 64 → (∀ g ∈ elfSegments prog, s.inRam n g.1 g.2.length = true → b < g.1 ∨ g.1 + g.2.length ≤ b) →
          t.memByte n b = 0) ∧
        (∀ g, elfSegments prog = [g] → s.inRam n g.1 g.2.length = true →
          ∀ i, i < g.2.length → t.memByte n (g.1 + i) = g.2.getD i 0) ∧
        (∀ o b, o ≠ n → t.memByte o b = s.memByte o b) ∧
        (∀ p, s.partPail n = some p → (s.pail p).state = .active → (t.pail p).state = .resetting) ∧
        t.reg (Od.partRestarts n) = if cause = 0 then s.reg (Od.partRestarts n) else (s.reg (Od.partRestarts n) + 1) % 2 ^ 32)

/-- R256, R257 and R260. -/
def Obligations.PailResetAndFreeze : Prop :=
  ∀ (s u : State) (a : Instant) (p : Nat), s.powered 10 = true → p < 64 → u = s.arrive a →
    let x := s.pail p
    (x.state = .disabled ∨ (x.state = .resetting ∧ u.completesNow p = false) → Does (.pailReset a p) s u) ∧
    (x.state = .resetting → u.completesNow p = true → Does (.pailReset a p) s (u.setPail p { x with again := true })) ∧
    (x.state = .active ∨ x.state = .frozen → Does (.pailReset a p) s (u.setPail p { x with
      state := .resetting, epoch := (x.epoch + 1) % 256, resetAt := s.workTick, again := false
      queues := x.queues.map fun e => (e.1, { e.2 with ctrl := setBit e.2.ctrl 0 false }) })) ∧
    (x.state ≠ .resetting → Does (.pailResetComplete a p) s u) ∧
    (x.state = .resetting → Yields (.pailResetComplete a p) s fun t =>
      (x.again = false → (t.pail p).state = .active ∧ (t.pail p).epoch = x.epoch) ∧
      (x.again = true → (t.pail p).state = .resetting ∧ (t.pail p).epoch = (x.epoch + 1) % 256) ∧
      (t.pail p).resetCount = (x.resetCount + 1) % 256 ∧ (t.pail p).freeze = x.freeze ∧ (t.pail p).late = x.late ∧
      (t.pail p).pendingTx = [] ∧ (t.pail p).ev = {} ∧ (t.pail p).dirty = {} ∧ (t.pail p).staged = [] ∧ (t.pail p).dcFreeze = 0 ∧
      (∀ q, ((t.pail p).queue q).enabled = false ∧ ((t.pail p).queue q).sqHead = 0 ∧ ((t.pail p).queue q).sqTail = 0 ∧
        ((t.pail p).queue q).cqHead = 0 ∧ ((t.pail p).queue q).cqTail = 0 ∧ ((t.pail p).queue q).error = 0 ∧
        ((t.pail p).queue q).sqBase = (x.queue q).sqBase ∧ ((t.pail p).queue q).cqBase = (x.queue q).cqBase ∧
        ((t.pail p).queue q).kind = (x.queue q).kind) ∧
      t.reg (Od.pailStaleDrops p) = (s.reg (Od.pailStaleDrops p) + x.pendingTx.length) % 2 ^ 32 ∧
      t.pubs = s.pubs ∧ t.mem = s.mem ∧ ∀ q, q ≠ p → t.pail q = s.pail q) ∧
    (x.freeze = true ∨ x.state = .disabled ∨ x.state = .frozen → Does (.freeze a p) s u) ∧
    (x.freeze = false → x.state = .active ∨ x.state = .resetting →
      Does (.freeze a p) s (u.setPail p { x with freeze := true, freezeAt := s.workTick })) ∧
    (x.state ≠ .active ∨ x.freeze = false ∨ x.pendingTx ≠ [] → Does (.pailFrozen a p) s u) ∧
    (x.state = .active → x.freeze = true → x.pendingTx = [] →
      Does (.pailFrozen a p) s (u.setPail p { x with state := .frozen })) ∧
    (x.state = .frozen → Does (.freezeRelease a p) s (u.setPail p { x with state := .active, freeze := false })) ∧
    (x.state ≠ .frozen → Does (.freezeRelease a p) s (u.setPail p { x with freeze := false })) ∧
    (∀ r : List Byte,
      (x.state ≠ .frozen → Does (.stateRecordWrite a p r) s (u.emit (.status 7 []))) ∧
      (x.state = .frozen → r.length ≠ 256 ∨ beAt r 0 1 ≠ 1 ∨ beAt r 252 4 ≠ crc32 (r.take 252) ∨
        sameCounts r (s.reg (Od.pailQueuePairs p)) = false → Does (.stateRecordWrite a p r) s (u.emit (.status 3 []))) ∧
      (x.state = .frozen → r.length = 256 → beAt r 0 1 = 1 → beAt r 252 4 = crc32 (r.take 252) →
        sameCounts r (s.reg (Od.pailQueuePairs p)) = true → Yields (.stateRecordWrite a p r) s fun t =>
        t.out.head? = some (.status 0 []) ∧ (t.pail p).epoch = x.epoch ∧ (t.pail p).state = .frozen ∧
        (t.pail p).dcFreeze = beAt r 8 8 ∧ (t.pail p).dirty.inUse = beAt r 176 8 ∧ (t.pail p).ev.tail = beAt r 156 2 ∧
        (∀ q, q < s.reg (Od.pailQueuePairs p) → ((t.pail p).queue q).sqHead = beAt r (16 + 32 * q + 20) 2 ∧
          ((t.pail p).queue q).cqTail = beAt r (16 + 32 * q + 24) 2 ∧ ((t.pail p).queue q).enabled = bit (beAt r 3 1) q) ∧
        ∀ q, q ≠ p → t.pail q = s.pail q))

/-- R240, the errors of R239, the opcodes of R242. -/
def Obligations.DoorbellsAndDescriptorFetch : Prop :=
  (∀ (s u : State) (a : Instant) (p q v : Nat), s.powered 10 = true → p < 64 → q < 4 → u = s.arrive a →
    let x := s.pail p
    let y := x.queue q
    let hears := x.state = .active ∧ q < s.reg (Od.pailQueuePairs p) ∧ bit y.ctrl 0 = true
    let size := 2 ^ field y.ctrl 4 4
    (¬hears → Does (.txDbWrite a p q v) s u ∧ Does (.rxDbWrite a p q v) s u) ∧
    (hears → size < (v % 2 ^ 16 + 2 ^ 16 - y.sqHead) % 2 ^ 16 →
      Does (.txDbWrite a p q v) s (u.setPail p (x.setQueue q { y with ctrl := setBit y.ctrl 0 false, error := 1 }))) ∧
    (hears → (v % 2 ^ 16 + 2 ^ 16 - y.sqHead) % 2 ^ 16 ≤ size →
      Does (.txDbWrite a p q v) s (u.setPail p (x.setQueue q { y with sqTail := v % 2 ^ 16 }))) ∧
    (hears → Does (.rxDbWrite a p q v) s (u.setPail p (x.setQueue q { y with cqHead := v % 2 ^ 16 }))) ∧
    (bit y.ctrl 0 = true → field v 1 3 ≠ field y.ctrl 1 3 ∨ field v 4 4 ≠ field y.ctrl 4 4 ∨ field v 8 4 ≠ field y.ctrl 8 4 →
      Does (.qCtrlWrite a p q v) s u) ∧
    (x.state ≠ .disabled → q < s.reg (Od.pailQueuePairs p) → bit y.ctrl 0 = false → field v 1 3 ≤ 2 →
      4 ≤ field v 4 4 → field v 4 4 ≤ 12 → 4 ≤ field v 8 4 → field v 8 4 ≤ 12 → Yields (.qCtrlWrite a p q v) s fun t =>
      ((t.pail p).queue q).kind = field v 1 3 ∧ ((t.pail p).queue q).sqSize = 2 ^ field v 4 4 ∧
      ((t.pail p).queue q).cqSize = 2 ^ field v 8 4 ∧
      (((t.pail p).queue q).enabled = true ↔ bit v 0 = true ∧ (field v 1 3 = 0 ∨
        (((field v 1 3 = 1 ∧ s.reg (Od.pailRxQueue p) ≠ 0xFF) ∨ (field v 1 3 = 2 ∧ s.reg (Od.pailTxQueue p) ≠ 0xFF)) ∧
          ∀ r, r < 4 → r ≠ q → bit (x.queue r).ctrl 0 = true → field (x.queue r).ctrl 1 3 ≠ field v 1 3))) ∧
      (((t.pail p).queue q).enabled = true → ((t.pail p).queue q).cqPhase = true))) ∧
  (∀ (s u : State) (a : Instant) (p q : Nat) (ans : Bool), s.powered 10 = true → p < 64 → q < 4 → u = s.arrive a →
    let y := (s.pail p).queue q
    let d := s.descAt p q
    let kind := some (field y.ctrl 1 3)
    let stops (error : Nat) : State :=
      u.setPail p ((s.pail p).setQueue q { y with ctrl := setBit y.ctrl 0 false, error := error })
    let reach := s.pailReach p (y.sqBase + y.sqHead % 2 ^ field y.ctrl 4 4 * 32) 32
    -- a command, the opcode of its descriptors, and whether such a one is another command's
    let fetches (i : Instr) (opcode : Nat) (other : Bool) : Prop :=
      (s.mayFetch p q = false ∨ other = true ∨ (d.opcode ≠ opcode ∧ opcodeKind d.opcode = kind) → Does i s u) ∧
      (s.mayFetch p q = true → other = false → d.opcode = opcode ∨ opcodeKind d.opcode ≠ kind →
        (reach = false → Does i s (stops 3)) ∧ (reach = true → opcodeKind d.opcode ≠ kind → Does i s (stops 2)))
    let named := (s.paramsAt p d).op
    let others (op : Nat) : Bool := s.pailReads p d.addr 64 ans && decide (1 ≤ named ∧ named ≤ 4 ∧ named ≠ op)
    (∀ i ∈ [(Instr.imageCopy a p q, 0x01), (.phasorCopy a p q, 0x02), (.freqCopy a p q, 0x03), (.rxBuffer a p q, 0x10),
        (.txFrame a p q ans, 0x11)], fetches i.1 i.2 false) ∧
    (∀ i ∈ [(Instr.cryptoSeal a p q ans, 1), (.cryptoOpen a p q ans, 2), (.hmacGenerate a p q ans, 3), (.hmacVerify a p q ans, 4)],
      fetches i.1 0x20 (others i.2)) ∧
    (s.mayFetch p q = false ∨ opcodeKind d.opcode = kind → Does (.badOpcode a p q) s u) ∧
    (s.mayFetch p q = true → opcodeKind d.opcode ≠ kind → reach = false → Does (.badOpcode a p q) s (stops 3)) ∧
    (s.mayFetch p q = true → opcodeKind d.opcode ≠ kind → reach = true → Does (.badOpcode a p q) s (stops 2)))

/-- R242, R244 and R245, with the availability of R171 and R199 and the grants of R241. -/
def Obligations.CopiesAndFramesComplete : Prop :=
  ∀ (s u : State) (a : Instant) (p q : Nat) (ans : Bool), s.powered 10 = true → p < 64 → q < 4 → u = s.arrive a →
    let x := s.pail p
    let y := x.queue q
    let d := s.descAt p q
    let own := s.pailOwner p
    let slot := y.cqBase + y.cqTail % y.cqSize * 32
    let fetched (opcode kind : Nat) : Prop := s.mayFetch p q = true ∧ d.opcode = opcode ∧ field y.ctrl 1 3 = kind ∧
      s.pailReach p (y.sqBase + y.sqHead % y.sqSize * 32) 32 = true
    let quiet := bit x.dirty.ctrl 0 = false ∧ (bit d.flags 0 = false ∨ bit y.ctrl 12 = false) ∧ s.pailReach p slot 32 = true ∧
      slot + 32 ≤ 2 ^ 64
    -- the completion, after `bs` octets written at ADDR
    let completes (c : Instr) (opcode status len : Nat) (bs : List Byte) : Prop := Yields c s fun t =>
      ((t.pail p).queue q).sqHead = (y.sqHead + 1) % 2 ^ 16 ∧ ((t.pail p).queue q).cqTail = (y.cqTail + 1) % 2 ^ 16 ∧
      (∀ i, i < 32 → t.memByte own (slot + i) = (completionBytes ⟨opcode, status, d.tag, len, 0, 0, 0⟩ x.epoch q
        (b2n y.cqPhase) s.workTick).getD i 0) ∧
      (d.addr + bs.length ≤ slot ∨ slot + 32 ≤ d.addr → ∀ i, i < bs.length → t.memByte own (d.addr + i) = bs.getD i 0) ∧
      ∀ o b, b < 2 ^ 64 → o ≠ own ∨ ((b < slot ∨ slot + 32 ≤ b) ∧ (b < d.addr ∨ d.addr + bs.length ≤ b)) →
        t.memByte o b = s.memByte o b
    (fetched 0x01 0 → quiet →
      (d.addr % 8 ≠ 0 ∨ 8192 < d.first + d.length → completes (.imageCopy a p q) 0x01 4 0 []) ∧
      (d.addr % 8 = 0 → d.first + d.length ≤ 8192 →
        (s.imageOf d.tick = none → completes (.imageCopy a p q) 0x01 1 0 []) ∧
        (∀ x, s.imageOf d.tick = some x → u.overtaken d.tick = true → completes (.imageCopy a p q) 0x01 2 0 []) ∧
        (∀ x, s.imageOf d.tick = some x → u.overtaken d.tick = false →
          let bs := (if bit d.flags 3 then descriptorBytes x ++ aliveBytes x else []) ++
            ((List.range d.length).map fun i => leBytes 8 (s.slotWord p x (d.first + i))).flatten
          (s.pailReach p d.addr bs.length = false → completes (.imageCopy a p q) 0x01 3 0 []) ∧
          (s.pailReach p d.addr bs.length = true → d.addr + bs.length ≤ 2 ^ 64 →
            completes (.imageCopy a p q) 0x01 0 bs.length bs)))) ∧
    (fetched 0x02 0 → quiet →
      (d.addr % 8 ≠ 0 ∨ 8192 < d.first + d.length → completes (.phasorCopy a p q) 0x02 4 0 []) ∧
      (d.addr % 8 = 0 → d.first + d.length ≤ 8192 →
        (s.phasorsOf d.tick = false → completes (.phasorCopy a p q) 0x02 1 0 []) ∧
        (s.phasorsOf d.tick = true → u.phasorsOvertaken d.tick = true → completes (.phasorCopy a p q) 0x02 2 0 []) ∧
        (s.phasorsOf d.tick = true → u.phasorsOvertaken d.tick = false →
          let bs := ((List.range d.length).map fun i => s.phasorSeen p (d.first + i) d.tick).flatten
          (s.pailReach p d.addr bs.length = false → completes (.phasorCopy a p q) 0x02 3 0 []) ∧
          (s.pailReach p d.addr bs.length = true → d.addr + bs.length ≤ 2 ^ 64 →
            completes (.phasorCopy a p q) 0x02 0 bs.length bs)))) ∧
    (fetched 0x03 0 → quiet →
      (d.addr % 8 ≠ 0 → completes (.freqCopy a p q) 0x03 4 0 []) ∧
      (d.addr % 8 = 0 → s.phasorsOf d.tick = false → completes (.freqCopy a p q) 0x03 1 0 []) ∧
      (d.addr % 8 = 0 → s.phasorsOf d.tick = true → u.phasorsOvertaken d.tick = true → completes (.freqCopy a p q) 0x03 2 0 []) ∧
      (d.addr % 8 = 0 → s.phasorsOf d.tick = true → u.phasorsOvertaken d.tick = false →
        s.pailReach p d.addr 1024 = true → d.addr + 1024 ≤ 2 ^ 64 →
        ∃ bs : List Byte, bs.length = 1024 ∧ completes (.freqCopy a p q) 0x03 0 1024 bs ∧
          ∀ g r, g < 64 → Tab.find s.dp.freqRecs (d.tick % 64 * 64 + g) = some r → (bs.drop (16 * g)).take 16 = freqBytes r)) ∧
    (fetched 0x10 1 → quiet → d.length < 2048 → completes (.rxBuffer a p q) 0x10 4 0 []) ∧
    (fetched 0x10 1 → 2048 ≤ d.length → Yields (.rxBuffer a p q) s fun t => t.mem = s.mem ∧
      ((t.pail p).queue q).buffers = y.buffers ++ [(d.addr, d.length, d.flags)] ∧
      ((t.pail p).queue q).sqHead = (y.sqHead + 1) % 2 ^ 16 ∧ ((t.pail p).queue q).cqTail = y.cqTail) ∧
    (fetched 0x11 2 → quiet → d.length < 60 → completes (.txFrame a p q ans) 0x11 4 0 []) ∧
    (fetched 0x11 2 → quiet → 60 ≤ d.length → s.pailReads p d.addr d.length ans = false → completes (.txFrame a p q ans) 0x11 3 0 []) ∧
    (fetched 0x11 2 → 60 ≤ d.length → s.pailReads p d.addr d.length ans = true → Yields (.txFrame a p q ans) s fun t =>
      ((t.pail p).queue q).sqHead = (y.sqHead + 1) % 2 ^ 16 ∧
      (bit d.flags 1 = false → ((t.pail p).queue q).cqTail = (y.cqTail + 1) % 2 ^ 16 ∧ (t.pail p).pendingTx = x.pendingTx) ∧
      (bit d.flags 1 = true → ((t.pail p).queue q).cqTail = y.cqTail →
        ∃ w : PendingTx, (t.pail p).pendingTx = x.pendingTx ++ [w] ∧ w.queue = q ∧ w.tag = d.tag ∧ w.epoch = x.epoch)) ∧
    (x.state ≠ .active ∨ x.freeze = true ∨ s.reg (Od.pailRxQueue p) = 0xFF ∨ s.cut 0 = true → Does (.rxFrameCompletion a p) s u) ∧
    (∀ g rest b len fl more, Tab.look s.sw.localQs (s.reg (Od.pailRxQueue p)) [] = g :: rest → y.buffers = (b, len, fl) :: more →
      (List.range (s.reg (Od.pailQueuePairs p))).find? (fun q => bit (x.queue q).ctrl 0 && decide (field (x.queue q).ctrl 1 3 = 1)) =
        some q → x.state = .active → x.freeze = false → s.cut 0 = false → s.reg (Od.pailRxQueue p) ≠ 0xFF → y.cqFull = false →
      g.complete = true → Yields (.rxFrameCompletion a p) s fun t =>
        Tab.look t.sw.localQs (s.reg (Od.pailRxQueue p)) [] = rest ∧ ((t.pail p).queue q).buffers = more ∧
        ((t.pail p).queue q).cqTail = (y.cqTail + 1) % 2 ^ 16) ∧
    (x.state ≠ .active ∨ (∀ e ∈ x.pendingTx, e.epoch ≠ x.epoch ∨ s.txOutcome e = none ∨ (x.queue e.queue).cqFull = true) →
      Does (.txTimestampCompletion a p) s u) ∧
    (∀ e, x.state = .active → x.pendingTx = [e] → e.epoch = x.epoch → (s.txOutcome e).isSome = true → (x.queue e.queue).cqFull = false →
      Yields (.txTimestampCompletion a p) s fun t => (t.pail p).pendingTx = [] ∧
        ((t.pail p).queue e.queue).cqTail = ((x.queue e.queue).cqTail + 1) % 2 ^ 16 ∧
        ∀ q, q < 32 → ∀ z ∈ (t.port q).tsQueue, z.frameId ≠ e.frameId ∨ z.ptp.isSome = true)

/-- R243 (with the limits and addresses of R242); log 110 for an OP that R243 does not list and a block that cannot be reached. -/
def Obligations.CryptoDescriptors : Prop :=
  (∀ (key iv data : List Byte), gcmCrypt key iv (gcmCrypt key iv data) = data ∧ (gcmCrypt key iv data).length = data.length) ∧
  ∀ (s u : State) (a : Instant) (p q : Nat) (ans : Bool), s.powered 10 = true → p < 64 → q < 4 → u = s.arrive a →
    let x := s.pail p
    let y := x.queue q
    let d := s.descAt p q
    let c := s.paramsAt p d
    let own := s.pailOwner p
    let slot := y.cqBase + y.cqTail % y.cqSize * 32
    s.mayFetch p q = true → d.opcode = 0x20 → field y.ctrl 1 3 = 0 → s.pailReach p (y.sqBase + y.sqHead % y.sqSize * 32) 32 = true →
    bit x.dirty.ctrl 0 = false → bit d.flags 0 = false ∨ bit y.ctrl 12 = false → s.pailReach p slot 32 = true →
    slot + 32 ≤ 2 ^ 64 →
    -- one completion entry, after stores at given places
    let completes (i : Instr) (status len : Nat) (stores : List (Nat × List Byte)) : Prop := Yields i s fun t =>
      ((t.pail p).queue q).cqTail = (y.cqTail + 1) % 2 ^ 16 ∧
      (∀ i, i < 32 → t.memByte own (slot + i) = (completionBytes ⟨0x20, status, d.tag, len, 0, 0, 0⟩ x.epoch q
        (b2n y.cqPhase) s.workTick).getD i 0) ∧
      (stores.Pairwise (fun w z => w.1 + w.2.length ≤ z.1 ∨ z.1 + z.2.length ≤ w.1) →
        ∀ w ∈ stores, w.1 + w.2.length ≤ slot ∨ slot + 32 ≤ w.1 →
          ∀ i, i < w.2.length → t.memByte own (w.1 + i) = w.2.getD i 0) ∧
      ∀ o b, b < 2 ^ 64 → o ≠ own ∨ ((b < slot ∨ slot + 32 ≤ b) ∧ ∀ w ∈ stores, b < w.1 ∨ w.1 + w.2.length ≤ b) →
        t.memByte o b = s.memByte o b
    -- each command with the OP it serves and what its slot has to allow
    let all : List (Instr × Nat × Consumer) := [(.cryptoSeal a p q ans, 1, .pailSeal p), (.cryptoOpen a p q ans, 2, .pailOpen p),
      (.hmacGenerate a p q ans, 3, .pailMac p), (.hmacVerify a p q ans, 4, .pailMacVerify p)]
    (s.pailReads p d.addr 64 ans = false → ∀ i ∈ all, completes i.1 3 0 []) ∧
    (s.pailReads p d.addr 64 ans = true → c.op = 0 ∨ 4 < c.op → ∀ i ∈ all, completes i.1 4 0 []) ∧
    (s.pailReads p d.addr 64 ans = true → ∀ i ∈ all, c.op = i.2.1 →
      (65536 < c.dataLen ∨ 4096 < c.aadLen → completes i.1 4 0 []) ∧
      (c.dataLen ≤ 65536 → c.aadLen ≤ 4096 →
        (s.pailCrypto p d.context = none → completes i.1 5 0 []) ∧
        (∀ k, s.pailCrypto p d.context = some k →
          (s.usable k i.2.2 = .denied → completes i.1 5 0 []) ∧
          (s.usable k i.2.2 = .orphaned → s.reg (Od.evEnableMask 96) = 0 → completes i.1 5 0 []) ∧
          (s.usable k i.2.2 = .orphaned → Yields i.1 s fun t => ((t.pail p).queue q).cqTail = (y.cqTail + 1) % 2 ^ 16 ∧
            t.reg Od.keysOrphanDenials = (s.reg Od.keysOrphanDenials + 1) % 2 ^ 32) ∧
          (s.usable k i.2.2 = .ok → s.cryptoReach p c (if c.op ≤ 2 then c.dataLen else 32) = false → completes i.1 3 0 [])))) ∧
    (s.pailReads p d.addr 64 ans = true → c.dataLen ≤ 65536 → c.aadLen ≤ 4096 → ∀ k, s.pailCrypto p d.context = some k →
      let key := s.slotKey k
      let data := s.loadBytes own c.inAddr c.dataLen
      let aad := s.loadBytes own c.aadAddr c.aadLen
      let reach (out : Nat) : Prop := s.cryptoReach p c out = true ∧ d.addr + 64 ≤ 2 ^ 64 ∧ c.outAddr + out ≤ 2 ^ 64
      (c.op = 1 → s.usable k (.pailSeal p) = .ok → reach c.dataLen → completes (.cryptoSeal a p q ans) 0 c.dataLen
        [(c.outAddr, gcmCrypt key c.iv data), (d.addr + 48, gcmTag key c.iv aad (gcmCrypt key c.iv data))]) ∧
      (c.op = 2 → s.usable k (.pailOpen p) = .ok → reach c.dataLen →
        (gcmTag key c.iv aad data = c.tag → completes (.cryptoOpen a p q ans) 0 c.dataLen [(c.outAddr, gcmCrypt key c.iv data)]) ∧
        (gcmTag key c.iv aad data ≠ c.tag → completes (.cryptoOpen a p q ans) 6 0 [])) ∧
      (c.op = 3 → s.usable k (.pailMac p) = .ok → reach 32 →
        completes (.hmacGenerate a p q ans) 0 32 [(c.outAddr, hmacSha256 key data)]) ∧
      (c.op = 4 → s.usable k (.pailMacVerify p) = .ok → reach 32 → completes (.hmacVerify a p q ans)
        (if s.loadBytes own c.outAddr 32 = hmacSha256 key data then 0 else 6) 0 []))

/-- R247 (with R246), and R212, R239, R252, R259. -/
def Obligations.PailCommitsTriggersAndSwaps : Prop :=
  ∀ (s u : State) (a : Instant) (p v : Nat), s.powered 10 = true → p < 64 → u = s.arrive a →
    let x := s.pail p
    (u.tickNow = s.workTick → x.state ≠ .active → Does (.pubCommit a p v) s u) ∧
    (u.tickNow ≠ s.workTick → x.state = .disabled → Does (.pubCommit a p v) s u) ∧
    (u.tickNow ≠ s.workTick → x.state ≠ .disabled →
      Does (.pubCommit a p v) s (u.setPail p { x with commits := x.commits ++ [v] })) ∧
    (u.tickNow = s.workTick → x.state = .active → v % 2 ^ 16 ≠ s.workTick % 2 ^ 16 → Yields (.pubCommit a p v) s fun t =>
      t.reg (Od.pailPubLate p) = (s.reg (Od.pailPubLate p) + 1) % 2 ^ 32 ∧ (t.pail p).late = true ∧ t.pubs = s.pubs ∧
      (t.pail p).staged = x.staged ∧ (t.pail p).committed = x.committed ∧
      (bit x.ev.ctrl 0 = true → 2 ≤ x.ev.free → x.ev.lostSince = 0 → bit x.dirty.ctrl 0 = false →
        (t.pail p).ev.tail = (x.ev.tail + 1) % 2 ^ 16)) ∧
    (u.tickNow = s.workTick → x.state = .active → v % 2 ^ 16 = s.workTick % 2 ^ 16 → Yields (.pubCommit a p v) s fun t =>
      (t.pail p).committed = x.committed ||| field v 16 16 ∧ (t.pail p).staged = x.staged ∧ t.mem = s.mem ∧
      (∀ q, q ≠ p → t.pail q = s.pail q) ∧
      (∀ j, (∀ i, i < 16 → bit v (16 + i) = true → s.pailPub p i ≠ some j) → t.pub j = s.pub j) ∧
      (∀ i j m, i < 16 → bit v (16 + i) = true → s.pailPub p i = some j → (∀ i', i' ≠ i → s.pailPub p i' ≠ some j) →
        m < 32 → (s.pubTypes j).getD m 0 ≠ 6 → Tab.look (t.pub j).cells m 0 =
          if (s.pubTypes j).getD m 0 = 0 then 0 else
          cell ((s.pubTypes j).getD m 0) (cellValue (Tab.look x.staged (i * 32 + m) 0)) (cellQuality (Tab.look x.staged (i * 32 + m) 0)))) ∧
    (bit v 0 = false ∨ s.on (Od.pailHistTriggerEnable p) = false ∨ x.state = .disabled → Does (.histTrigger a p v) s u) ∧
    (bit v 0 = true → s.on (Od.pailHistTriggerEnable p) = true → x.state ≠ .disabled →
      Does (.histTrigger a p v) s (u.trigger (s.workTick - s.lag))) ∧
    (s.on (Od.pailDcFreezeEnable p) = false ∨ x.state = .disabled → Does (.dcFreezeWrite a p v) s u) ∧
    (s.on (Od.pailDcFreezeEnable p) = true → x.state ≠ .disabled →
      Does (.dcFreezeWrite a p v) s (u.setPail p { x with dcFreeze := v % 2 ^ 64 })) ∧
    (x.state = .disabled → Does (.evqHeadWrite a p v) s u ∧ Does (.dirtySwap a p) s u) ∧
    (x.state ≠ .disabled → x.ev.lostSince = 0 →
      Does (.evqHeadWrite a p v) s (u.setPail p { x with ev := { x.ev with head := v % 2 ^ 16 } })) ∧
    (bit x.dirty.ctrl 2 = true → Does (.dirtySwap a p) s u) ∧
    (x.state ≠ .disabled → bit x.dirty.ctrl 2 = false → Does (.dirtySwap a p) s (u.setPail p { x with dirty := { x.dirty with
      prev := x.dirty.inUse, inUse := x.dirty.next, ctrl := setBit x.dirty.ctrl 2 true } })) ∧
    Does (.dirtySwapComplete a p) s (u.setPail p { x with dirty := { x.dirty with ctrl := setBit x.dirty.ctrl 2 false } })

/-- R239, R253, R255, R434. Space 3 of REGISTER_WRITE is the model's choice (assumption log 112). -/
def Obligations.HostPortWrites : Prop :=
  ∀ (s u : State) (a : Instant) (p o v : Nat), u = s.arrive a → p < 64 → v < 2 ^ 32 →
    (s.powered 11 = true → Yields (.functionLevelReset a) s fun t =>
      t.edp.mbxReq = [] ∧ t.edp.mbxResp = [] ∧ t.edp.mbxBusy = false ∧ t.edp.mbxReady = false ∧ t.edp.msixMasked = [] ∧
      (∀ n x, t.session? n = some x → x.transport ≠ .mailbox) ∧
      ((∀ e ∈ s.edp.sessions, e.2.transport ≠ .mailbox) → t.mem = s.mem ∧ t.parts = s.parts ∧ t.regs = s.regs) ∧
      ∀ q, q < 64 → (s.reg (Od.pailBindKind q) ≠ 2 → (t.pail q).state = (s.pail q).state ∧ (t.pail q).epoch = (s.pail q).epoch ∧
          (t.pail q).queues = (s.pail q).queues) ∧
        (s.reg (Od.pailBindKind q) = 2 → s.cut 1 = false → (s.pail q).state = .active ∨ (s.pail q).state = .frozen →
          (t.pail q).state = .resetting ∧ (t.pail q).epoch = ((s.pail q).epoch + 1) % 256)) ∧
    (s.powered 11 = true →
      (bit v 0 = false ∨ s.edp.mbxBusy = true → Does (.mbxDoorbell a v) s u) ∧
      (bit v 0 = true → s.edp.mbxBusy = false → s.power.state ≠ .tamperHold →
        (24 ≤ s.edp.mbxReqLen → s.edp.mbxReqLen ≤ 12288 →
          Does (.mbxDoorbell a v) s { u with edp := { s.edp with mbxBusy := true } }) ∧
        (12288 < s.edp.mbxReqLen → Yields (.mbxDoorbell a v) s fun t => t.edp.mbxBusy = false ∧
          ∃ r, Out.reply r ∈ t.out ∧ r.status = 0x0E)) ∧
      (0x1000 ≤ o → o < 0x4000 → o % 4 = 0 → Does (.registerWrite a 1 o v) s
        { u with edp := { s.edp with mbxReq := Tab.put s.edp.mbxReq ((o - 0x1000) / 4) v 0 } }) ∧
      Does (.registerWrite a 1 0x00C v) s { u with edp := { s.edp with mbxReqLen := v % 2 ^ 16 } } ∧
      (0x4000 ≤ o → o < 0xE000 → Does (.registerWrite a 1 o v) s u)) ∧
    (∀ n b, s.powered 10 = true → n < 96 → b % 4 = 0 → s.inRam n b 4 = true → s.reg (Od.partMemory n) < 2 ^ 32 →
      Yields (.registerWrite a 3 (n * 2 ^ 64 + b) v) s fun t => (∀ i, i < 4 → t.memByte n (b + i) = (leBytes 4 v).getD i 0) ∧
        ∀ o c, c < 2 ^ 64 → o ≠ n ∨ c < b ∨ b + 4 ≤ c → t.memByte o c = s.memByte o c) ∧
    (s.powered 10 = true → s.windowReach p = false → o < 0x4000 → Does (.registerWrite a 0 (p * 0x4000 + o) v) s u) ∧
    (s.powered 10 = true → s.windowReach p = true →
      let at_ (o : Nat) : Instr := .registerWrite a 0 (p * 0x4000 + o) v
      (o < 0x4000 → (s.pail p).state = .disabled → Does (at_ o) s u) ∧
      ((s.pail p).state ≠ .disabled →
        (∀ q, q < 4 → exec (at_ (0x100 + 0x10 * q)) s = exec (.txDbWrite a p q v) s ∧
          exec (at_ (0x104 + 0x10 * q)) s = exec (.rxDbWrite a p q v) s ∧
          exec (at_ (0x210 + 0x20 * q)) s = exec (.qCtrlWrite a p q v) s) ∧
        exec (at_ 0x600) s = exec (.pubCommit a p v) s ∧ exec (at_ 0x028) s = exec (.histTrigger a p v) s ∧
        exec (at_ 0x03C) s = exec (.evqHeadWrite a p v) s ∧
        (bit v 0 = true → (s.pail p).state = .active → bit v 1 = false → Yields (at_ 0x00C) s fun t =>
          (t.pail p).state = .resetting ∧ (t.pail p).epoch = ((s.pail p).epoch + 1) % 256) ∧
        (bit v 0 = false → bit v 1 = true → exec (at_ 0x00C) s = exec (.freeze a p) s) ∧
        (v = 0 → exec (at_ 0x00C) s = exec (.freezeRelease a p) s) ∧
        Does (at_ 0x070) s (u.setPail p { s.pail p with dirty := { (s.pail p).dirty with span := v } }) ∧
        (∀ o ∈ [0x000, 0x004, 0x008, 0x010, 0x014, 0x018, 0x01C, 0x02C, 0x040, 0x044, 0x078, 0x07C, 0x214, 0x218, 0x21C, 0x400, 0x608,
          0x2000], Does (at_ o) s u)))

/-- R281, R296 and R297. -/
def Obligations.ChurnCycleCommitsOrSkips : Prop :=
  ∀ (s u : State) (a : Instant), s.powered 10 = true → u = s.arrive a →
    let c := s.churn
    let program (v : Vars) : Tab Bool × Tab Nat × Tab BlockState × Tab Int :=
      (v.bits.filter (fun e => decide (0x1000 ≤ e.1)), v.words.filter (fun e => decide (0x1000 ≤ e.1)), v.states, v.q)
    let starts (t : State) : Prop := t.churn.state = .running ∧ t.churn.evaluating = true ∧ t.churn.evalDone = false ∧
      t.churn.snapTick = s.workTick ∧ t.churn.snapAt = s.tickAt s.workTick ∧ t.churn.working = t.churn.committed ∧
      t.churn.boundaryAt = some s.workTick
    (s.churnDue = false → Does (.churnCycleBoundary a) s u) ∧
    (s.churnDue = true → c.startDue = false → c.state = .running → c.adopt = none → c.batch = none → c.evaluating = true →
      (∀ r ∈ inRecords c.inputs, r.variable_ < 0x1000) → (∀ e ∈ s.subs, e.1 < 0x400) →
      (∀ i x, Tab.find s.dp.images i = some x → ∀ n ∈ x.alive, n < 0x200) →
      (c.evalDone = true → Yields (.churnCycleBoundary a) s fun t => starts t ∧ program t.churn.committed = program c.working ∧
        t.churn.overrunRun = 0 ∧ t.churn.lastSkipped = false ∧ t.churn.firstCycle = false ∧ t.churn.doneAt = some c.snapAt ∧
        t.churn.cycleCount = (c.cycleCount + 1) % 2 ^ 32 ∧ t.reg Od.churnCycles = (s.reg Od.churnCycles + 1) % 2 ^ 32) ∧
      (c.evalDone = false → c.overrunRun + 1 < s.reg Od.churnOverrunLimit → Yields (.churnCycleBoundary a) s fun t =>
        starts t ∧ program t.churn.committed = program c.committed ∧ t.churn.overrunRun = c.overrunRun + 1 ∧
        t.churn.lastSkipped = true ∧ t.churn.doneAt = c.doneAt ∧ t.churn.cycleCount = c.cycleCount ∧
        t.churn.inputsDone = c.inputsDone ∧ t.reg Od.churnOverruns = (s.reg Od.churnOverruns + 1) % 2 ^ 32) ∧
      (c.evalDone = false → s.reg Od.churnOverrunLimit ≤ c.overrunRun + 1 → Yields (.churnCycleBoundary a) s fun t =>
        t.churn.state = .safeStop ∧ t.churn.evaluating = false ∧ t.churn.committed = c.committed ∧ t.reg Od.churnEngineState = 2 ∧
        t.reg Od.churnOverruns = (s.reg Od.churnOverruns + 1) % 2 ^ 32)) ∧
    (c.state ≠ .running ∨ c.evaluating = false ∨ c.evalDone = true → Does (.churnEvalDone a) s u) ∧
    (c.state = .running → c.evaluating = true → c.evalDone = false →
      (u.now ≤ s.tickAt (c.snapTick + c.cycleTicks) - ofUs 5 → Yields (.churnEvalDone a) s fun t =>
        t.churn.evalDone = true ∧ t.churn.working = c.evaluated ∧ t.churn.committed = c.committed ∧
        (u.now - c.snapAt) * 1000000000 / 2 ^ 36 ≤ t.reg Od.churnLastEvalNs + 10000 ∧
        t.reg Od.churnLastEvalNs ≤ (u.now - c.snapAt) * 1000000000 / 2 ^ 36 ∧
        t.reg Od.churnMaxEvalNs = max (t.reg Od.churnLastEvalNs) (s.reg Od.churnMaxEvalNs)) ∧
      (s.tickAt (c.snapTick + c.cycleTicks) - ofUs 5 < u.now → Yields (.churnEvalDone a) s fun t => t.churn = c))

/-- R286, R291, R293, R295, R298 and R346, on a module without a follower to tell. -/
def Obligations.ChurnWrites : Prop :=
  ∀ (s u : State) (a : Instant) (bs : List Byte) (f v : Nat), s.powered 10 = true → u = s.arrive a →
    (s.churn.state ≠ .running ∨ s.churn.batch.isSome = true → Does (.onlineBatch a bs) s (u.emit (.status 7 []))) ∧
    (s.paired = true → s.pair.role = .follow ∨ s.pair.role = .syncing → f < 1024 →
      Does (.onlineBatch a bs) s (u.emit (.status 7 [])) ∧ Does (.forceWrite a f v) s (u.emit (.status 7 [])) ∧
      (v < 2 → Does (.releaseAll a v) s (u.emit (.status 7 [])))) ∧
    (s.paired = false →
      (s.churn.state = .running → s.batchPending = false →
        (∀ code, s.batchCheck bs = some code → Does (.onlineBatch a bs) s (u.emit (.status code []))) ∧
        (s.batchCheck bs = none → Does (.onlineBatch a bs) s ({ u with churn := { s.churn with
          batch := some ⟨(batchEntries bs).map fun (e : BatchEntry) => (e.kind, e.target, e.value), u.now⟩ } }.emit (.status 0 [])))) ∧
      (bs.length < 8 ∨ beAt bs 0 1 = 0 ∨ 64 < beAt bs 0 1 ∨ bs.length ≠ 8 + 8 * beAt bs 0 1 ∨ beAt bs 4 4 ≠ programId s.churn.program →
        s.batchCheck bs = some 3) ∧
      (f < 1024 →
        (bit v 63 = true → (∃ g, g < 1024 ∧ g ≠ f ∧ bit (s.reg (Od.force g)) 63 = true ∧
          field (s.reg (Od.force g)) 32 17 = field v 32 17) → Does (.forceWrite a f v) s (u.emit (.status 3 []))) ∧
        (bit v 63 = false ∨ (∀ g, g < 1024 → g ≠ f → bit (s.reg (Od.force g)) 63 = true →
          field (s.reg (Od.force g)) 32 17 ≠ field v 32 17) → Does (.forceWrite a f v) s
            ((u.setReg (Od.force f) (field v 0 49 + 2 ^ 63 * b2n (bit v 63))).emit (.status 0 [])))) ∧
      (2 ≤ v → Does (.releaseAll a v) s (u.emit (.status 2 []))) ∧
      (v = 0 → Does (.releaseAll a v) s (u.emit (.status 0 []))) ∧
      (v = 1 → Yields (.releaseAll a v) s fun t => t.out.head? = some (.status 0 []) ∧ t.churn = s.churn ∧ t.mem = s.mem ∧
        ∀ g, g < 1024 → bit (t.reg (Od.force g)) 63 = false ∧ ∀ i, i ≠ 63 → bit (t.reg (Od.force g)) i = bit (s.reg (Od.force g)) i)) ∧
    (2 ≤ v → Does (.restart a v) s (u.emit (.status 2 []))) ∧
    (v = 0 → Does (.restart a v) s (u.emit (.status 0 []))) ∧
    (v = 1 → Does (.restart a v) s
      ({ u.setReg Od.churnMaxEvalNs 0 with churn := { s.churn with
        startDue := s.churn.startDue || s.on Od.churnEnable } }.emit (.status 0 []))) ∧
    (s.powered 11 = true → Yields (.gpioSample a v) s fun t => t.churn.gpioOut = s.churn.gpioOut ∧ t.regs = s.regs ∧
      ∀ g, g < 16 →
        let w := s.reg (Od.gpioConfig g)
        let level := b2n (bit v g != bit w 1)
        let run := match Tab.find s.churn.gpioRun g with
          | some (l, n) => if l = level then n + 1 else 1
          | none => 1
        (bit w 0 = true → Tab.find t.churn.gpioRun g = Tab.find s.churn.gpioRun g ∧ bit t.churn.gpio g = bit s.churn.gpio g) ∧
        (bit w 0 = false → Tab.find t.churn.gpioRun g = some (level, min run 10000) ∧
          bit t.churn.gpio g = if max 1 (field w 8 14) ≤ run then level = 1 else bit s.churn.gpio g))

/-- R343 and R465 to R467. The order of the checks where several fail is the model's choice (assumption log 80). -/
def Obligations.GooseChecksAndIntervals : Prop :=
  (∀ (s u : State) (a : Instant) (m : GooseMsg), s.powered 3 = true → m.port < 32 → u = s.arrive a →
    (u.gsMatch m = none ∨ s.cut 0 = true → Does (.gooseMessageReceived a m) s u) ∧
    (∀ n, u.gsMatch m = some n → s.cut 0 = false →
      let x := s.sub n
      let fails (k : Nat) : Prop := Yields (.gooseMessageReceived a m) s fun t => t.reg k = (s.reg k + 1) % 2 ^ 32 ∧
        (t.sub n).cells = x.cells ∧ (t.sub n).stNum = x.stNum ∧ (t.sub n).sqNum = x.sqNum ∧ (t.sub n).lastRx = x.lastRx ∧
        ∀ k, k ≠ n → t.sub k = s.sub k
      let port := bit (s.reg (Od.gsIngressMask n)) m.port = true
      let conf := (s.reg (Od.gsConfRev n) = 0 ∨ s.reg (Od.gsConfRev n) = m.confRev) ∧
        (s.blob (Od.gsDatset n) = [] ∨ s.blob (Od.gsDatset n) = m.datSet)
      let form := m.members.map (·.type) = s.subTypes n
      let sim := m.sim = s.on (Od.gsSimAccept n) ∧ (m.test = true → s.on (Od.gsTestAccept n) = true)
      let auth := s.on (Od.gsAuthMode n) = false ∨
        (u.verifyAuth (s.reg (Od.gsKeySlotA n)) (s.reg (Od.gsKeySlotB n)) .gooseVerify m.auth).1 = true
      (¬port → fails (Od.gsWrongPort n)) ∧ (port → ¬conf → fails (Od.gsConfRevMismatch n)) ∧
      (port → conf → ¬form → fails (Od.gsMalformed n)) ∧ (port → conf → form → ¬sim → fails (Od.gsTestSimDiscard n)) ∧
      (port → conf → form → sim → ¬auth → fails (Od.gsAuthFail n)) ∧
      (port → conf → form → sim → auth →
        (x.inSequence u.now m = true → Yields (.gooseMessageReceived a m) s fun t =>
          t.reg (Od.gsFrames n) = (s.reg (Od.gsFrames n) + 1) % 2 ^ 32 ∧ (t.sub n).cells = memberCells m.members ∧
          (t.sub n).stNum = m.stNum ∧ (t.sub n).sqNum = m.sqNum ∧ (t.sub n).ttl = m.ttl ∧ (t.sub n).lastRx = some u.now ∧
          (t.sub n).snapCells = x.snapCells ∧ (t.sub n).alive = x.alive ∧ (∀ k, k ≠ n → t.sub k = s.sub k)) ∧
        (x.inSequence u.now m = false → m.stNum = x.stNum → m.sqNum = x.sqNum → fails (Od.gsDuplicate n)) ∧
        (x.inSequence u.now m = false → m.stNum ≠ x.stNum ∨ m.sqNum ≠ x.sqNum → fails (Od.gsStale n))))) ∧
  (∀ (s : State) (j : Nat), (s.pub j).fresh = false →
    let x := s.pub j
    let r := s.pubStep j
    (s.pubChanged j = true → r.2 = true ∧ r.1.stNum = nextNum x.stNum ∧ r.1.sqNum = 0 ∧ r.1.interval = s.reg (Od.gpMinTime j) ∧
      r.1.lastSent = x.cells ∧ r.1.changedAt = s.tickAt s.workTick) ∧
    (s.pubChanged j = false → x.ticksLeft ≤ 1 → r.2 = true ∧ r.1.stNum = x.stNum ∧ r.1.sqNum = nextNum x.sqNum ∧
      r.1.interval = min (2 * x.interval) (s.reg (Od.gpMaxTime j)) ∧ r.1.changedAt = x.changedAt) ∧
    (s.pubChanged j = false → 1 < x.ticksLeft → r.2 = false ∧ r.1.stNum = x.stNum ∧ r.1.sqNum = x.sqNum ∧
      r.1.ticksLeft + 1 = x.ticksLeft) ∧
    r.1.cells = x.cells)

/-- R302, R307, R308, R313, R316, R317. -/
def Obligations.UnitsComputeHoldOrAbandon : Prop :=
  (∀ (c : Candidate) (cs : List Candidate), ∃ best, lowest (c :: cs) = some best ∧
    ∃ before after, c :: cs = before ++ best :: after ∧ (∀ d ∈ before, f64Val best.c < f64Val d.c) ∧
      ∀ d ∈ after, f64Val best.c ≤ f64Val d.c) ∧
  ∀ (s u : State) (a : Instant) (h g : Nat), s.powered 10 = true → h < 32 → g < 32 → u = s.arrive a →
    let x := s.unitAt h
    let loopsKept (t : State) : Prop := ∀ l, (t.loopAt l).iState = (s.loopAt l).iState ∧ (t.loopAt l).dState = (s.loopAt l).dState ∧
      (t.loopAt l).yPrev = (s.loopAt l).yPrev
    (s.unitWaits h = false → Does (.unitComputation a h) s u ∧ Does (.loopOverrun a h) s u) ∧
    (s.gensDone = false ∨ (∃ k, k < h ∧ s.unitWaits k = true) ∨ s.loopDeadline < u.now → Does (.unitComputation a h) s u) ∧
    (s.unitWaits h = true → s.gensDone = true → (∀ k, k < h → s.unitWaits k = false) → u.now ≤ s.loopDeadline → Yields (.unitComputation a h) s fun t =>
      (t.unitAt h).computedAt = some s.workTick ∧ (t.unitAt h).outBefore = x.out ∧ (∀ k, k ≠ h → t.unitAt k = s.unitAt k) ∧
      (x.latch = true → (t.unitAt h).out = x.out ∧ (t.unitAt h).latch = true ∧ loopsKept t) ∧
      (x.latch = false → s.requestedMode h = 3 → (t.unitAt h).out = x.out ∧ (t.unitAt h).mode = 3 ∧ loopsKept t) ∧
      (∀ l ∈ s.membersOf h, x.latch = false → s.requestedMode h ≠ 3 → (∀ k ∈ s.membersOf h, (u.memberIn k).valid = true) →
        (s.requestedMode h = 0 ∨ (u.unitTarget h (s.requestedMode h)).valid = true) → (u.memberIn l).y = none →
        (t.unitAt h).numeric = true ∧ (t.unitAt h).latch = true ∧
        (t.unitAt h).out = x.out ∧ (t.unitAt h).overrunRun = x.overrunRun ∧ loopsKept t ∧
        t.reg Od.clOverruns = s.reg Od.clOverruns)) ∧
    (u.now < s.loopDeadline → Does (.loopOverrun a h) s u) ∧
    (s.unitWaits h = true → s.loopDeadline ≤ u.now → Yields (.loopOverrun a h) s fun t => (t.unitAt h).computedAt = some s.workTick ∧
      (t.unitAt h).outBefore = x.out ∧ (t.unitAt h).out = x.out ∧ (t.unitAt h).overran = true ∧
      (t.unitAt h).overrunRun = x.overrunRun + 1 ∧ loopsKept t ∧ t.reg Od.clOverruns = (s.reg Od.clOverruns + 1) % 2 ^ 32 ∧
      (t.unitAt h).latch = (x.latch || decide (3 ≤ x.overrunRun + 1))) ∧
    (s.genWaits g = false ∨ (∃ k, k < g ∧ s.genWaits k = true) → Does (.generatorComputation a g) s u) ∧
    (s.loopsOn = true → s.genDue g = true → (s.genAt g).computedAt ≠ some s.workTick → (∀ k, k < g → s.genWaits k = false) →
      let y := s.genAt g
      let tgt := u.source (s.reg (Od.genTargetSource g)) (s.reg (Od.genTarget g))
      Yields (.generatorComputation a g) s fun t => (t.genAt g).computedAt = some s.workTick ∧
        (∀ k, k ≠ g → t.genAt k = s.genAt k) ∧ (∀ l, t.unitAt l = s.unitAt l) ∧ loopsKept t ∧
        (y.started = false → tgt.valid = false → (t.genAt g).started = false ∧ (t.genAt g).held = true ∧ (t.genAt g).x = y.x) ∧
        (tgt.valid = true → (t.genAt g).started = true ∧ (t.genAt g).lastTarget = tgt.value ∧ (t.genAt g).held = false) ∧
        (y.started = true → tgt.valid = false → (t.genAt g).lastTarget = y.lastTarget ∧ (t.genAt g).held = true)) ∧
    (∀ (y z : Gen) (tgt : Nat), s.genStep g y tgt = some z →
      (z.moving = false → z.x = y.x ∧ z.acc = f64Zero ∧ z.vel = y.vel ∧ f64Val y.vel = f64Val f64Zero) ∧
      (z.moving = true → (z.x = tgt ∧ z.vel = f64Zero ∧ z.acc = f64Zero) ∨
        (f64Val z.vel ≤ f64Val (s.reg (Od.genVmax g)) ∧
          (0 ≤ f64Val (s.reg (Od.genVmax g)) → -(f64Val (s.reg (Od.genVmax g))) ≤ f64Val z.vel))))

/-- R311, R312, R317, R321, R322, R346. -/
def Obligations.LoopWritesAndReleases : Prop :=
  ∀ (s u : State) (a : Instant) (l g sub v : Nat), s.powered 10 = true → l < 32 → g < 8 → u = s.arrive a →
    let tells (t : State) (code : Nat) : State := t.emit (.status code [])
    let finite := field v 52 11 ≠ 2047 ∧ v < 2 ^ 64
    (s.paired = true → s.pair.role = .follow ∨ s.pair.role = .syncing →
      (v < 2 → Does (.loopRelease a l v) s (tells u 7) ∧ Does (.groupRelease a g v) s (tells u 7)) ∧ Does (.modeRequest a l v) s (tells u 7) ∧
      Does (.manualValue a l v) s (tells u 7) ∧ Does (.valueEntryWrite a (0x6000 + l) 0x19 v) s (tells u 7) ∧
      (tuningSub sub = true → Does (.tuningWrite a l sub v) s (tells u 7))) ∧
    (s.paired = false →
      (2 ≤ v → Does (.loopRelease a l v) s (tells u 2) ∧ Does (.groupRelease a g v) s (tells u 2)) ∧
      (v = 0 → Does (.loopRelease a l v) s (tells u 0) ∧ Does (.groupRelease a g v) s (tells u 0)) ∧
      (v = 1 → l ∈ s.heads → (s.unitAt l).latch = true → (s.unitAt l).latchedAt ≠ u.now → Yields (.loopRelease a l v) s fun t =>
        t.unitAt l = { s.unitAt l with latch := false, numeric := false, overrunRun := 0, tuned := true } ∧ t.out.head? = some (.status 0 []) ∧
        ∀ k, k ≠ l → t.unitAt k = s.unitAt k) ∧
      (v = 1 → l ∉ s.heads ∨ (s.unitAt l).latch = false ∨ (s.unitAt l).latchedAt = u.now → Does (.loopRelease a l v) s (tells u 0)) ∧
      (v = 1 → s.groupLoops g = [] → Does (.groupRelease a g v) s (tells u 0)) ∧
      (v = 1 → ∀ h rest, s.groupLoops g = h :: rest → Does (.groupRelease a g v) s (tells (u.releaseLatch h) 0)) ∧
      (s.churnGoverns l = true → Does (.modeRequest a l v) s (tells u 7)) ∧
      (s.churnGoverns l = false → (4 ≤ v → Does (.modeRequest a l v) s (tells u 3)) ∧
        (v < 4 → Does (.modeRequest a l v) s (tells (u.setReg (Od.loopModeRequest l) v) 0))) ∧
      (s.manualTracks l = true → Does (.manualValue a l v) s (tells u 7)) ∧
      (s.manualTracks l = false → (¬finite → Does (.manualValue a l v) s (tells u 3)) ∧
        (finite → Does (.manualValue a l v) s (tells (u.setReg (Od.loopManualValue l) v) 0))) ∧
      (¬finite → Does (.valueEntryWrite a (0x6000 + l) 0x19 v) s (tells u 3) ∧ Does (.valueEntryWrite a (0x6000 + l) 0x1A v) s (tells u 3) ∧
        Does (.valueEntryWrite a (0x6100 + l) 5 v) s (tells u 3) ∧ Does (.valueEntryWrite a (0x6100 + l) 6 v) s (tells u 3)) ∧
      (finite → Does (.valueEntryWrite a (0x6000 + l) 0x19 v) s (tells (u.setReg ((0x6000 + l) * 256 + 0x19) v) 0) ∧
        Does (.valueEntryWrite a (0x6000 + l) 0x1A v) s (tells (u.setReg ((0x6000 + l) * 256 + 0x1A) v) 0) ∧
        Does (.valueEntryWrite a (0x6100 + l) 5 v) s (tells (u.setReg ((0x6100 + l) * 256 + 5) v) 0)) ∧
      (finite → 6 ≤ sub → sub ≤ 8 →
        (0 < f64Val v → Does (.valueEntryWrite a (0x6100 + l) sub v) s (tells (u.setReg ((0x6100 + l) * 256 + sub) v) 0)) ∧
        (f64Val v ≤ 0 → Does (.valueEntryWrite a (0x6100 + l) sub v) s (tells u 3))) ∧
      (tuningSub sub = true →
        (¬finite → Does (.tuningWrite a l sub v) s (tells u 3)) ∧
        (sub = 0x0D → f64Val v < 0 → Does (.tuningWrite a l sub v) s (tells u 3)) ∧
        (sub = 0x11 → f64Val (s.reg (Od.loopOutMax l)) ≤ f64Val v → Does (.tuningWrite a l sub v) s (tells u 3)) ∧
        (finite → s.tuningCheck l sub v = none → Yields (.tuningWrite a l sub v) s fun t =>
          t.reg ((0x6000 + l) * 256 + sub) = v ∧ t.out.head? = some (.status 0 []) ∧ t.loops.loops = s.loops.loops ∧
          (∀ k, (t.unitAt k).out = (s.unitAt k).out) ∧ (s.loopOn l = true → (t.unitAt (s.headOf l)).tuned = true) ∧
          (s.loopOn l = false → t.loops = s.loops))))

/-- R328, R332, R333, R337, R349, R359, R399. -/
def Obligations.HeartbeatsDigestsAndLanes : Prop :=
  ∀ (s u : State) (a : Instant) (hdr : PairHdr) (hb : Heartbeat) (d : Digest), s.powered 11 = true → u = s.arrive a →
    let onlyPair (t : State) : Prop := t.calm = { u.calm with pair := t.pair, pins := t.pins }
    let slot := s.reg Od.pairHbKeySlot
    let tag := mac62351 4 (s.slotKey slot) (heartbeatOctets hdr hb)
    (s.paired = false ∨ s.power.withdrawn = true ∨ s.pair.role = .withdrawn → Does (.heartbeatSend a) s u) ∧
    (s.paired = true → s.power.withdrawn = false → s.pair.role ≠ .withdrawn → Yields (.heartbeatSend a) s fun t =>
      t.pair.seq = (s.pair.seq + 1) % 2 ^ 32 ∧ t.pair.role = s.pair.role ∧ t.pair.swap = s.pair.swap ∧
      (s.linkUp = true → .heartbeat none s.workTick u.ownHeartbeat ∈ t.out) ∧
      (slot = 0xFF → s.cut 0 = false → ∀ p ∈ s.hbPorts, .heartbeat (some p) s.workTick u.ownHeartbeat ∈ t.out) ∧
      (slot ≠ 0xFF → s.usable slot .heartbeat = .ok → s.cut 0 = false → ∀ p ∈ s.hbPorts, ∃ x,
        .heartbeat (some p) s.workTick { u.ownHeartbeat with auth := some x } ∈ t.out) ∧
      ((slot ≠ 0xFF ∧ s.usable slot .heartbeat ≠ .ok) ∨ s.cut 0 = true → ∀ p k h, .heartbeat (some p) k h ∈ t.out → .heartbeat (some p) k h ∈ s.out)) ∧
    (s.paired = false ∨ s.linkUp = false ∨ s.power.withdrawn = true → Does (.digestSend a) s u) ∧
    (s.paired = true → s.linkUp = true → s.power.withdrawn = false →
      Does (.digestSend a) s (u.nextSeq.emit (.digest s.workTick u.ownDigest))) ∧
    (let since := if s.pair.partner.isSome then max s.pair.bootAt s.pair.partnerAt else s.pair.bootAt
     (s.paired = true ∧ s.pair.role = .init ∧ since + ofMs (s.reg Od.pairHbWait) ≤ u.now →
      Does (.hbWaitExpiry a) s (u.setPair fun p => { p with hbWaited := true })) ∧
     (¬(s.paired = true ∧ s.pair.role = .init ∧ since + ofMs (s.reg Od.pairHbWait) ≤ u.now) → Does (.hbWaitExpiry a) s u)) ∧
    (s.paired = false ∨ (hdr.station = true ∧ s.cut 0 = true) ∨ (hdr.station = false ∧ (s.linkUp = false ∨ hdr.seq ∈ s.pair.seenSeqs)) → Does (.heartbeat a hdr hb) s u) ∧
    (s.paired = true → hdr.station = true → s.cut 0 = false → slot ≠ 0xFF → s.usable slot .heartbeat ≠ .ok ∨ (∀ x, hb.auth = some x → x.tag ≠ tag) →
      Yields (.heartbeat a hdr hb) s fun t => t.pair = s.pair ∧ onlyPair t) ∧
    (s.paired = true → hdr.station = true ∧ s.cut 0 = false ∧ slot = 0xFF ∨
        hdr.station = true ∧ s.cut 0 = false ∧ s.usable slot .heartbeat = .ok ∧ (∃ x, hb.auth = some x ∧ x.tag = tag) ∨ hdr.station = false ∧ s.linkUp = true ∧ hdr.seq ∉ s.pair.seenSeqs →
      let timely := u.now < u.tickAt (hdr.tick + 1)
      (hb.pairId ≠ s.reg Od.pairId → Yields (.heartbeat a hdr hb) s fun t => onlyPair t ∧
        t.pair.mismatches = s.pair.mismatches + 1 ∧ t.pair.partner = s.pair.partner ∧ t.pair.link = s.pair.link ∧
        t.pair.station = s.pair.station ∧ (s.sourceUp 80 = true → bit (t.reg (Od.evStatus 80)) 5 = true)) ∧
      (hb.pairId = s.reg Od.pairId → Yields (.heartbeat a hdr hb) s fun t => onlyPair t ∧
        t.pair.partner = some hb ∧ t.pair.partnerAt = u.now ∧ t.pair.hbWaited = false ∧ t.pair.role = s.pair.role ∧
        t.reg Od.pairPartnerSerial = hb.serial % 2 ^ 64 ∧ t.pair.sideClash = (hdr.sideB == s.sideB) ∧
        (timely → hdr.station = false → hdr.tick ∈ t.pair.link.ticks ∧ t.pair.station = s.pair.station) ∧
        (timely → hdr.station = true → hdr.tick ∈ t.pair.station.ticks ∧ t.pair.link = s.pair.link) ∧
        (timely → t.pair.partnerFailed = false) ∧
        (¬timely → t.pair.partnerFailed = s.pair.partnerFailed ∧ t.pair.link = s.pair.link ∧ t.pair.station = s.pair.station) ∧
        ∀ i < 4, bit hb.slices i = true → 3 * 4096 + i ∉ s.health.out → Tab.look s.dp.fb i [] = [] →
          (∀ q ∈ s.pair.plans, q.slice ≠ i) → ⟨i, s.workTick + 16, true⟩ ∈ t.pair.plans)) ∧
    (s.paired = true → s.linkUp = true → hdr.station = false → hdr.seq ∉ s.pair.seenSeqs → s.pair.linkPairId = some (s.reg Od.pairId) →
      Yields (.digest a hdr d) s fun t => onlyPair t ∧ hdr.seq ∈ t.pair.seenSeqs ∧
        (hdr.tick ≠ s.workTick ∨ u.lastArrival s.workTick < u.now →
          t.pair.partnerDigest = s.pair.partnerDigest ∧ t.pair.partnerDigestTick = s.pair.partnerDigestTick) ∧
        (hdr.tick = s.workTick → u.now ≤ u.lastArrival s.workTick →
          t.pair.partnerDigest = some d ∧ t.pair.partnerDigestTick = s.workTick ∧
          t.pair.lastDiverged = if s.pair.role = .lead ∧ u.digestDiffers d = true then u.now else s.pair.lastDiverged)) ∧
    ∀ l < 2, s.pair.lanesUp.length = 2 →
      let other := s.laneUp (1 - l)
      let n := ((Tab.look s.health.errors (unitId 5 l) []).filter fun e => u.now ≤ e + 600 * second).length + 1
      (s.laneUp l = false → Does (.laneLost a l) s u) ∧
      (s.laneUp l = true → Yields (.laneLost a l) s fun t => onlyPair t ∧ t.laneUp l = false ∧ t.laneUp (1 - l) = other ∧
        (n < 3 → t.pair.lanesRetired = s.pair.lanesRetired) ∧
        (3 ≤ n → l ∈ t.pair.lanesRetired ∧ unitId 5 l ∈ t.health.out) ∧
        (s.sourceUp 81 = true → bit (t.reg (Od.evStatus 81)) 0 = true ∧ bit (t.reg (Od.evStatus 81)) 1 = !other)) ∧
      (s.laneUp l = true ∨ l ∈ s.pair.lanesRetired → Does (.laneRestored a l) s u) ∧
      (s.laneUp l = false → l ∉ s.pair.lanesRetired → Yields (.laneRestored a l) s fun t => onlyPair t ∧ t.laneUp l = true ∧
        t.laneUp (1 - l) = other ∧ (s.sourceUp 81 = true → bit (t.reg (Od.evStatus 81)) 1 = false))

/-- R328, R342, R346, R349, R352, R355, R357, R358. -/
def Obligations.LinkFramesActOnce : Prop :=
  ∀ (s u : State) (a : Instant) (hdr : PairHdr) (m : RoleMsg) (f : StateFrag), s.powered 11 = true → u = s.arrive a →
    let onlyPair (t : State) : Prop := t.calm = { u.calm with pair := t.pair, pins := t.pins }
    let acked (t : State) : Prop := s.sendsRole 5 = true → .role 5 s.workTick ⟨0, m.opId, m.atTick, m.arg⟩ ∈ t.out
    let frames : List Instr := [.state a hdr f, .relinquish a hdr m, .swapRequest a hdr m, .swapAccept a hdr m, .swapRefuse a hdr m,
      .ack a hdr m, .selftest a hdr m, .regions a hdr m, .changeAck a hdr m]
    (s.paired = false ∨ s.linkUp = false ∨ hdr.station = true ∨ hdr.seq ∈ s.pair.seenSeqs → ∀ c ∈ frames, Does c s u) ∧
    (s.paired = true → s.linkUp = true → hdr.station = false → hdr.seq ∉ s.pair.seenSeqs →
      (s.pair.linkPairId ≠ some (s.reg Od.pairId) → ∀ c ∈ frames, Yields c s fun t => onlyPair t ∧
        t.pair.mismatches = s.pair.mismatches + 1 ∧ t.pair.swap = s.pair.swap ∧ t.pair.sections = s.pair.sections ∧
        t.pair.roleOut = s.pair.roleOut ∧ t.pair.plans = s.pair.plans ∧ t.pair.relinquished = s.pair.relinquished ∧
        t.pair.changes = s.pair.changes ∧ t.pair.changesIn = s.pair.changesIn) ∧
      (s.pair.linkPairId = some (s.reg Od.pairId) →
        (Yields (.relinquish a hdr m) s fun t => onlyPair t ∧ acked t ∧
          (m.opId ∉ s.pair.seenOps → t.pair.relinquished = decide (s.pair.role = .syncing ∨ s.pair.role = .follow)) ∧
          (m.opId ∈ s.pair.seenOps → t.pair.relinquished = s.pair.relinquished)) ∧
        (Yields (.swapRequest a hdr m) s fun t => onlyPair t ∧
          (m.opId ∉ s.pair.seenOps → s.pair.role = .follow → 16 ≤ s.pair.followClean →
            .role 3 s.workTick ⟨0, m.opId, m.atTick, 0⟩ ∈ t.out ∧ t.pair.swap = some ⟨m.atTick, m.opId, false, none, none, false⟩) ∧
          (m.opId ∉ s.pair.seenOps → s.pair.role ≠ .follow ∨ s.pair.followClean < 16 →
            (s.sendsRole 4 = true → .role 4 s.workTick ⟨0, m.opId, m.atTick, 0⟩ ∈ t.out) ∧ t.pair.swap = s.pair.swap) ∧
          (m.opId ∈ s.pair.seenOps → t.pair.swap = s.pair.swap ∧ t.pair.roleOut = s.pair.roleOut)) ∧
        (Yields (.swapAccept a hdr m) s fun t => onlyPair t ∧ acked t ∧
          (∀ r ∈ t.pair.roleOut, r.msg.opId = m.opId → r.op ≠ 2) ∧
          (∀ w, s.pair.swap = some w → w.lead = true → w.opId = m.opId →
            t.pair.swap = some { w with accepted := some (w.accepted.getD u.now) }) ∧
          (∀ w, s.pair.swap = some w → w.lead = false ∨ w.opId ≠ m.opId → t.pair.swap = s.pair.swap)) ∧
        (Yields (.swapRefuse a hdr m) s fun t => onlyPair t ∧ acked t ∧
          (∀ r ∈ t.pair.roleOut, r.msg.opId = m.opId → r.op ≠ 2) ∧
          (∀ w, s.pair.swap = some w → w.lead = true → w.opId = m.opId →
            t.pair.swap = none ∧ t.pair.swapFrom = s.tickAt w.atTick ∧ (s.sourceUp 80 = true → bit (t.reg (Od.evStatus 80)) 8 = true)) ∧
          (∀ w, s.pair.swap = some w → w.lead = false ∨ w.opId ≠ m.opId → t.pair.swap = s.pair.swap)) ∧
        (Yields (.ack a hdr m) s fun t => onlyPair t ∧
          (∀ r ∈ t.pair.roleOut, r.msg.opId = m.opId → r.op ∉ [1, 3, 4, 6, 7]) ∧
          (∀ r ∈ s.pair.roleOut, r.msg.opId ≠ m.opId → r ∈ t.pair.roleOut) ∧
          ∀ w, s.pair.swap = some w → w.lead = false → w.opId = m.opId →
            t.pair.swap = some { w with acked := some (w.acked.getD u.now) }) ∧
        (Yields (.selftest a hdr m) s fun t => onlyPair t ∧
          (m.arg < 4 → acked t ∧
            (m.opId ∉ s.pair.seenOps → t.pair.plans = (s.pair.plans.filter fun q => q.slice ≠ m.arg) ++ [⟨m.arg, m.atTick, false⟩]) ∧
            (m.opId ∈ s.pair.seenOps → t.pair.plans = s.pair.plans)) ∧
          (4 ≤ m.arg → t.pair.plans = s.pair.plans)) ∧
        (Yields (.regions a hdr m) s fun t => onlyPair t ∧
          (m.arg < 96 → acked t ∧
            (m.opId ∉ s.pair.seenOps → m.arg ∈ t.pair.regionsWanted ∧
              ((s.part m.arg).done = true → s.pair.role ≠ .lead → ∀ r bs, (r, bs) ∈ (s.part m.arg).captured → ∃ x ∈ t.pair.kept,
                x.tick = s.workTick ∧ x.frag.kind = 4 ∧ x.frag.id = 4 * m.arg + r)) ∧
            (m.opId ∈ s.pair.seenOps → t.pair.regionsWanted = s.pair.regionsWanted)) ∧
          (96 ≤ m.arg → t.pair.regionsWanted = s.pair.regionsWanted)) ∧
        (Yields (.changeAck a hdr m) s fun t => onlyPair t ∧ t.pair.changes = s.pair.changes.map fun c =>
          if c.id = m.opId ∧ c.applyTick = m.atTick then { c with acked := true } else c) ∧
        (s.takesSection f.kind f.id = false → Yields (.state a hdr f) s fun t => onlyPair t ∧ t.pair.sections = s.pair.sections ∧
          t.pair.changesIn = s.pair.changesIn) ∧
        (s.takesSection f.kind f.id = true → (∀ x ∈ s.pair.sections, ¬(x.kind = f.kind ∧ x.id = f.id ∧ x.tick = hdr.tick)) →
          let c : Change := ⟨f.id, beAt f.data 0 8, beAt f.data 8 2, beAt f.data 10 1, slice f.data 16 (beAt f.data 12 4), true⟩
          Yields (.state a hdr f) s fun t => onlyPair t ∧
            t.pair.sections = s.pair.sections ++ [⟨f.kind, f.id, hdr.tick, f.sectionLength, f.configTag, [(f.offset, f.data)], u.now⟩] ∧
            (f.kind ≠ 5 ∨ f.data.length ≠ f.sectionLength → t.pair.changesIn = s.pair.changesIn) ∧
            (f.kind = 5 → f.data.length = f.sectionLength → .role 8 s.workTick ⟨0, f.id, c.applyTick, 0⟩ ∈ t.out ∧
              (c.applyTick ≤ s.workTick ∨ (∃ e ∈ s.pair.changesIn, e.id = f.id ∧ e.applyTick = c.applyTick) →
                t.pair.changesIn = s.pair.changesIn) ∧
              (s.workTick < c.applyTick → (∀ e ∈ s.pair.changesIn, ¬(e.id = f.id ∧ e.applyTick = c.applyTick)) →
                t.pair.changesIn = s.pair.changesIn ++ [c]))))) ∧
    (s.paired = false → Does (.roleRepeat a) s u) ∧
    (s.paired = true → Yields (.roleRepeat a) s fun t =>
      t.pair.roleOut = (s.pair.roleOut.filter fun r => r.repeats < 8).map (fun r => { r with repeats := r.repeats + 1 }) ∧
      (∀ r ∈ s.pair.roleOut, r.repeats < 8 → s.sendsRole r.op = true → .role r.op s.workTick r.msg ∈ t.out) ∧
      t.regs = s.regs ∧ t.pair.swap = s.pair.swap)

/-- R350 to R352, R358, R360. -/
def Obligations.SwapsAndPailMoves : Prop :=
  ∀ (s u : State) (a : Instant) (hdr : PairHdr) (m : MigrateMsg) (v : Nat), s.powered 11 = true → u = s.arrive a →
    let tells (t : State) (code : Nat) : State := t.emit (.status code [])
    let can := s.paired = true ∧ s.pair.role = .lead ∧ s.pair.swap = none ∧ s.pair.partnerFailed = false ∧ s.linkUp = true ∧
      s.pair.partner.isSome = true
    let started (t : State) (reason : Nat) : Prop :=
      .role 2 s.workTick ⟨reason, s.pair.opId, s.workTick + 16, 0⟩ ∈ t.out ∧
        t.pair.swap = some ⟨s.workTick + 16, s.pair.opId, true, none, none, false⟩ ∧
        t.pair.roleOut = s.pair.roleOut ++ [⟨2, ⟨reason, s.pair.opId, s.workTick + 16, 0⟩, 0⟩] ∧ t.pair.role = .lead ∧ t.regs = s.regs
    (u.revertDue = true ∧ can → Yields (.revertDelayExpiry a) s fun t => started t 0) ∧
    (¬(u.revertDue = true ∧ can) → Does (.revertDelayExpiry a) s u) ∧
    (s.reg Od.pairSwapInterval = 0 ∨ u.now < s.pair.swapFrom + s.reg Od.pairSwapInterval * second ∨ ¬can →
      Does (.swapIntervalExpiry a) s u) ∧
    (s.reg Od.pairSwapInterval ≠ 0 → s.pair.swapFrom + s.reg Od.pairSwapInterval * second ≤ u.now → can →
      Yields (.swapIntervalExpiry a) s fun t => started t 0) ∧
    (s.power.bootStopped = true → Does (.swapNow a v) s (tells u 7)) ∧
    (s.power.bootStopped = false → 2 ≤ v → Does (.swapNow a v) s (tells u 2)) ∧
    (s.power.bootStopped = false → v = 0 ∨ (v = 1 ∧ ¬can) → Does (.swapNow a v) s (tells u 0)) ∧
    (s.power.bootStopped = false → v = 1 → can → Yields (.swapNow a v) s fun t => started t 3 ∧ t.out.head? = some (.status 0 [])) ∧
    (s.paired = false ∨ s.linkUp = false ∨ s.pair.transferOut.isSome = true ∨ (s.pail (field v 0 6)).state ≠ .frozen →
      Does (.pailMove a v) s (tells u 7)) ∧
    (s.paired = true → s.linkUp = true → s.pair.transferOut = none → (s.pail (field v 0 6)).state = .frozen →
      let bs := u.stateRecord (field v 0 6)
      Yields (.pailMove a v) s fun t => t.out.head? = some (.status 0 []) ∧ t.pails = s.pails ∧ t.mem = s.mem ∧
        t.pair.transferOut = some ⟨v % 2 ^ 16, bs.length, bs, 0, u.now, 0⟩ ∧
        .migrate 1 ⟨1, v % 2 ^ 16, 0, bs.length, bs.take 4084⟩ ∈ t.out) ∧
    (s.pair.transferOut = none → Does (.migrateResend a) s u) ∧
    (∀ x, s.pair.transferOut = some x →
      (u.now < x.sentAt + ofUs 200 → Does (.migrateResend a) s u) ∧
      (x.sentAt + ofUs 200 ≤ u.now → x.resends < 16 → Yields (.migrateResend a) s fun t =>
        t.pair.transferOut = some { x with sentAt := u.now, resends := x.resends + 1 } ∧
        (x.acked < x.total → .migrate 1 ⟨1, x.id, x.acked, x.total, (x.data.drop x.acked).take 4084⟩ ∈ t.out)) ∧
      (x.sentAt + ofUs 200 ≤ u.now → 16 ≤ x.resends → Yields (.migrateResend a) s fun t => t.pair.transferOut = none ∧
        .migrate 3 ⟨1, x.id, 0, x.total, []⟩ ∈ t.out ∧ (s.sourceUp 81 = true → bit (t.reg (Od.evStatus 81)) 4 = true))) ∧
    (s.paired = false ∨ s.linkUp = false ∨ hdr.station = true ∨ hdr.seq ∈ s.pair.seenSeqs →
      Does (.migrateData a hdr m) s u ∧ Does (.migrateAck a hdr m) s u ∧ Does (.migrateAbort a hdr m) s u) ∧
    (s.paired = true → s.linkUp = true → hdr.station = false → hdr.seq ∉ s.pair.seenSeqs → s.pair.linkPairId = some (s.reg Od.pairId) →
      (∀ x, s.pair.transferOut = some x →
        (Yields (.migrateAck a hdr m) s fun t =>
          (x.id ≠ m.transferId ∨ m.offset ≤ x.acked → t.pair.transferOut = some x) ∧
          (x.id = m.transferId → x.acked < m.offset → x.total ≤ m.offset → t.pair.transferOut = none) ∧
          (x.id = m.transferId → x.acked < m.offset → m.offset < x.total →
            t.pair.transferOut = some { x with acked := m.offset, sentAt := u.now, resends := 0 })) ∧
        (Yields (.migrateAbort a hdr m) s fun t =>
          (x.id = m.transferId → t.pair.transferOut = none ∧ (s.sourceUp 81 = true → bit (t.reg (Od.evStatus 81)) 4 = true)) ∧
          (x.id ≠ m.transferId → t.pair.transferOut = some x))) ∧
      (s.pair.transferIn = none → m.offset = 0 →
        (m.data.length < m.total → Yields (.migrateData a hdr m) s fun t =>
          t.pair.transferIn = some ⟨m.transferId, m.total, m.data, 0, u.now, 0⟩ ∧
          .migrate 2 ⟨m.kind, m.transferId, m.data.length, m.total, []⟩ ∈ t.out) ∧
        (m.total ≤ m.data.length → (s.pail (field m.transferId 8 6)).state ≠ .frozen ∨ m.data.length ≠ 256 →
          Yields (.migrateData a hdr m) s fun t => t.pair.transferIn = none ∧
            .migrate 3 ⟨m.kind, m.transferId, 0, m.total, []⟩ ∈ t.out)) ∧
      ∀ x, s.pair.transferIn = some x → x.id = m.transferId → x.data.length + m.data.length < m.total → m.offset = x.data.length →
        Yields (.migrateData a hdr m) s fun t => t.pair.transferIn = some { x with data := x.data ++ m.data } ∧
          .migrate 2 ⟨m.kind, m.transferId, x.data.length + m.data.length, m.total, []⟩ ∈ t.out)

/-- R369, R371, R375 to R378, R382, R383. -/
def Obligations.KeyCommandsAndTheJournal : Prop :=
  ∀ (s u : State) (a : Instant) (sid : Nat) (c : KeyCmd), s.powered 2 = true → u = s.arrive a → c.slot < 256 → c.parent < 256 →
    let tells (t : State) (code : Nat) : State := t.emit (.status code [])
    let fills : List Instr := [.derive a sid c, .load a sid c, .generate a sid c, .keyImport a sid c]
    let all : List Instr := fills ++ [.destroy a sid c, .bump a sid c, .keyExport a sid c]
    let r := u.filledRecord c
    let others (t : State) : Prop := ∀ n, n < 256 → n ≠ c.slot → t.reg (Od.keySlot n) = s.reg (Od.keySlot n) ∧
      Tab.find t.sec.cells n = Tab.find s.sec.cells n
    let holds (t : State) (w : SlotRec) (key : Option (List Byte)) : Prop := t.reg (Od.keySlot c.slot) = w.word ∧
      Tab.find t.sec.cells c.slot = key ∧ others t ∧ t.sec.update = s.sec.update ∧ t.sec.phase = s.sec.phase ∧ t.sec.lc = s.sec.lc
    let journals (t : State) (w : SlotRec) (key : List Byte) : Prop := t.sec = { s.sec with update := some (.slot c.slot w.word key), phase := 1 } ∧
      t.reg Od.keysUpdateState = 1 ∧ (∀ n, n < 256 → t.reg (Od.keySlot n) = s.reg (Od.keySlot n))
    (s.power.bootStopped = true → ∀ i ∈ all, Does i s (tells u stBusy)) ∧
    (s.power.bootStopped = false → s.session? sid = none → ∀ i ∈ all, Does i s (tells u stNoSession)) ∧
    (s.power.bootStopped = false → ∀ x, s.session? sid = some x →
      (x.opened = false → ∀ i ∈ all, Does i s (tells u stNoSession)) ∧
      (x.opened = true → x.role < 3 → ∀ i ∈ all, Does i s (tells u stDenied)) ∧
      (x.opened = true → (∀ op, u.commandRole op c ≤ x.role) → s.sec.secLost = true ∨ s.sec.phase ≠ 0 → ∀ i ∈ all, Does i s (tells u stBusy)) ∧
      (x.opened = true → (∀ op, u.commandRole op c ≤ x.role) → s.sec.secLost = false → s.sec.phase = 0 → s.power.pwrFail = false →
        (c.slot < 2 → ∀ i ∈ all, Does i s (tells u stInvalidValue)) ∧
        (c.slot = 2 → ∀ i ∈ [Instr.derive a sid c, .generate a sid c, .keyImport a sid c, .bump a sid c, .keyExport a sid c],
          Does i s (tells u stInvalidValue)) ∧
        (3 ≤ c.slot →
          ((s.slot c.slot).valid = true → ∀ i ∈ fills, Does i s (tells u stInvalidValue)) ∧
          (u.fillRefused .load c.slot r c.key.length (keyLenOk r.alg c.key.length) = false →
            Yields (.load a sid c) s fun t => t.out.head? = some (.status 0 []) ∧
              (bit c.attr 10 = false → holds t r (some c.key)) ∧ (bit c.attr 10 = true → journals t r c.key)) ∧
          (c.label.length ≤ 32 → c.context.length ≤ 64 → r.alg ≠ 6 →
            u.fillRefused .derive c.slot r (madeLen r.alg c.key.length) (madeLenOk r.alg c.key.length) = false →
            let key := deriveKey (if c.rooted then s.rootKey else s.slotKey c.parent) c.label c.context r (c.key.length = 16)
            Yields (.derive a sid c) s fun t => t.out.head? = some (.status 0 []) ∧
              (bit c.attr 10 = false → holds t r (some key)) ∧ (bit c.attr 10 = true → journals t r key)) ∧
          (r.alg ≠ 5 → u.fillRefused .generate c.slot r (madeLen r.alg c.key.length) (madeLenOk r.alg c.key.length) = false →
            Yields (.generate a sid c) s fun t => t.out.head? = some (.status 0 []) ∧
              (bit c.attr 10 = false → holds t r (some (u.madeKey r.alg c.key.length).1)) ∧
              (bit c.attr 10 = true → journals t r (u.madeKey r.alg c.key.length).1)) ∧
          (∀ w key, s.usable c.parent .wrap = .ok → s.importBlob c.parent c.key = some (w, key) →
            u.fillRefused .import_ c.slot (u.renewed c.slot w) key.length (keyLenOk w.alg key.length) = false →
            Yields (.keyImport a sid c) s fun t => t.out.head? = some (.status 0 []) ∧
              (bit (beAt c.key 0 4) 10 = false → holds t (u.renewed c.slot w) (some key)) ∧
              (bit (beAt c.key 0 4) 10 = true → journals t (u.renewed c.slot w) key)) ∧
          (s.usable c.parent .wrap ≠ .ok ∨ s.importBlob c.parent c.key = none → Does (.keyImport a sid c) s (tells u stInvalidValue)) ∧
          (let w := { u.renewed c.slot (s.slot c.slot) with valid := false }
           Yields (.destroy a sid c) s fun t => t.out.head? = some (.status 0 []) ∧
            ((s.slot c.slot).persist = false → holds t w none) ∧ ((s.slot c.slot).persist = true → journals t w [])) ∧
          ((s.slot c.slot).valid = true → s.keyHolds c.slot = false → Does (.bump a sid c) s (tells u stInvalidValue)) ∧
          ((s.slot c.slot).valid = true → s.keyHolds c.slot = true →
            let w := u.renewed c.slot (s.slot c.slot)
            Yields (.bump a sid c) s fun t => t.out.head? = some (.status 0 []) ∧
              w.ownGen = (if (s.slot c.slot).ownGen = 0xFFFF then 1 else (s.slot c.slot).ownGen + 1) ∧
              ((s.slot c.slot).persist = false → holds t w (some (s.slotKey c.slot))) ∧
              ((s.slot c.slot).persist = true → journals t w (s.slotKey c.slot))) ∧
          (s.usable c.parent .wrap ≠ .ok ∨ (s.slot c.slot).exportable = false ∨ s.keyHolds c.slot = false →
            Does (.keyExport a sid c) s (tells u stInvalidValue)) ∧
          (s.usable c.parent .wrap = .ok → (s.slot c.slot).exportable = true → s.keyHolds c.slot = true →
            Yields (.keyExport a sid c) s fun t => t.sec = s.sec ∧ t.out.head? = some (.status 0 []) ∧
              t.blob Od.keyCmdKeyResult = u.exportBlob c.slot c.parent (u.randomBytes 12).1)))) ∧
    (s.sec.update = none → Does (.journalCommit a) s u) ∧
    ∀ n w key, n < 256 → s.sec.update = some (.slot n w key) → Yields (.journalCommit a) s fun t =>
      t.sec.update = none ∧ t.sec.phase = 0 ∧ t.sec.seq = (s.sec.seq + 1) % 2 ^ 64 ∧ t.reg Od.keysUpdateState = 0 ∧
        t.reg (Od.keySlot n) = (slotRec w).word ∧ (∀ k, k < 256 → k ≠ n → t.reg (Od.keySlot k) = s.reg (Od.keySlot k)) ∧
        Tab.find t.sec.cells n = (if bit w 9 then some key else none)

/-- R365 to R368, R382, R392 to R395. -/
def Obligations.LifeCycleAndTamper : Prop :=
  ∀ (s u : State) (a : Instant) (sid : Nat) (q : LcReq) (v f : Nat), u = s.arrive a →
    let tells (t : State) (code : Nat) : State := t.emit (.status code [])
    let all : List Instr := [.lcToShipped a sid q, .lcToReturn a sid q, .lcDecommission a sid q, .lcRevoke a sid q]
    let starts (c : Instr) (to_ : LifeCycle) (r : LcReq) : Prop := Yields c s fun t => t.out.head? = some (.status 0 []) ∧
      t.sec = { s.sec with update := some (.transition to_ r r.revoke), phase := 1 } ∧ t.reg Od.keysUpdateState = 1 ∧
      t.power = s.power ∧ t.pair = s.pair
    (s.powered 2 = true → s.power.bootStopped = true → (∀ c ∈ all, Does c s (tells u stBusy)) ∧
      Does (.lcToOwned a sid q) s (tells u stBusy) ∧ Does (.lcReown a sid q) s (tells u stBusy) ∧
      Does (.tamperClear a sid v) s (tells u stBusy)) ∧
    (s.powered 2 = true → s.power.bootStopped = false →
      (s.sec.lc ≠ .shipped → Does (.lcToOwned a sid q) s (tells u stInvalidValue)) ∧
      (s.sec.lc ≠ .owned → Does (.lcReown a sid q) s (tells u stInvalidValue)) ∧
      (s.session? sid = none → (∀ c ∈ all, Does c s (tells u stNoSession)) ∧ Does (.tamperClear a sid v) s (tells u stNoSession)) ∧
      (∀ x, s.session? sid = some x → x.opened = true →
        (x.role < 3 → (∀ c ∈ all, Does c s (tells u stDenied)) ∧ Does (.tamperClear a sid v) s (tells u stDenied)) ∧
        (x.role = 4 → x.slot = 0 → s.outEnabled = true → ∀ c ∈ all, Does c s (tells u stBusy)) ∧
        (3 ≤ x.role → u.outEnabled = false → s.sec.secLost = false → s.sec.phase = 0 → s.power.pwrFail = false →
          (q.revoke = false → x.slot = 0 → ownerAlgOk q = true →
            (s.sec.lc = .shipped → starts (.lcToOwned a sid q) .owned q) ∧
            (s.sec.lc = .owned → s.sec.reprovision = true → starts (.lcReown a sid q) .owned q)) ∧
          (q.revoke = false → x.slot = 0 → ownerAlgOk q = false → s.sec.lc = .shipped →
            Does (.lcToOwned a sid q) s (tells u stInvalidValue)) ∧
          (q.revoke = false → x.slot ≠ 0 → s.sec.lc = .shipped → Does (.lcToOwned a sid q) s (tells u stDenied)) ∧
          (s.sec.lc = .owned → s.sec.reprovision = false → q.revoke = false → Does (.lcReown a sid q) s (tells u stInvalidValue)) ∧
          (q.revoke = false → s.sec.lc = .owned → starts (.lcToShipped a sid q) .shipped q ∧ starts (.lcToReturn a sid q) .return_ q) ∧
          (q.revoke = false → s.sec.lc = .owned ∨ s.sec.lc = .shipped → starts (.lcDecommission a sid q) .decommissioned q) ∧
          (s.sec.lc = .decommissioned → ∀ c ∈ all, Does c s (tells u stInvalidValue)) ∧
          (s.sec.lc = .owned ∨ s.sec.lc = .shipped ∨ x.role = 4 → s.sec.lc ≠ .decommissioned → ∀ k, q.token = some k →
            (u.tokenOk k (lcCode s.sec.lc) true = true → starts (.lcRevoke a sid q) s.sec.lc { q with revoke := true }) ∧
            (u.tokenOk k (lcCode s.sec.lc) true = false → Yields (.lcRevoke a sid q) s fun t => t.sec = s.sec ∧
              t.out.head? = some (.status stInvalidValue []) ∧ t.freeUsed = s.freeUsed + 32 ∧
              (s.sourceUp 98 = true → bit (t.reg (Od.evStatus 98)) 1 = true)))) ∧
        (3 ≤ x.role → x.slot = 0 →
          (2 ≤ v → Does (.tamperClear a sid v) s (tells u stTypeMismatch)) ∧
          (v < 2 → s.sec.firing ≠ 0 → Does (.tamperClear a sid v) s (tells u stBusy)) ∧
          (v < 2 → s.sec.firing = 0 → s.power.state ≠ .tamperHold → Does (.tamperClear a sid v) s (tells u stInvalidValue)) ∧
          (v = 0 → s.sec.firing = 0 → s.power.state = .tamperHold → Does (.tamperClear a sid v) s (tells u 0)) ∧
          (v = 1 → s.sec.firing = 0 → s.power.state = .tamperHold → Yields (.tamperClear a sid v) s fun t =>
            t.sec.tamperKey = true ∧ t.sec.tamperHold = false ∧ t.sec.ownerSeed = none ∧ t.sec.lc = s.sec.lc ∧
              t.sec.reprovision = decide (s.sec.lc = .owned) ∧ t.power.heldReset = true ∧
              ∀ n, 2 ≤ n → n < 256 → (s.slot n).persist = true → (t.slot n).valid = false))) ∧
      ∀ to_ r rv, s.sec.update = some (.transition to_ r rv) → Yields (.journalCommit a) s fun t =>
        t.sec.update = none ∧ t.sec.phase = 0 ∧ t.power.heldReset = true ∧ t.power.nextCause = 4 ∧ t.power.withdrawn = true ∧
          t.sec.vendorRevoked = (s.sec.vendorRevoked || rv) ∧ (to_ = s.sec.lc → rv = true → t.sec.lc = s.sec.lc) ∧
          (to_ = .owned → rv = false → t.sec.lc = .owned ∧ t.sec.rootGen = (s.sec.rootGen + 1) % 2 ^ 16 ∧ t.sec.ownerSeed.isSome = true ∧
            Tab.find t.sec.cells 2 = some r.officerKey ∧ t.reg (0x900200 + 4) = 2 ∧ t.sec.reprovision = false) ∧
          (to_ = .shipped ∨ to_ = .return_ → rv = false → t.sec.lc = to_ ∧
            (s.sec.lc = .owned → t.sec.ownerSeed = none ∧ (t.slot 2).valid = false ∧ Tab.find t.sec.cells 2 = none)) ∧
          (to_ = .decommissioned → rv = false → t.sec.lc = .decommissioned ∧ t.sec.decom = true ∧ t.sec.ownerSeed = none ∧
            t.sec.tamperKey = false ∧ ∀ n, 2 ≤ n → n < 256 → (s.slot n).persist = true → t.reg (Od.keySlot n) = 0)) ∧
    (s.powered 0 = true →
      (v &&& s.tamperEnabled = 0 → Does (.tamperAlarm a v) s ((u.setSec fun x => { x with firing := 0 }).setReg Od.tamperStatus 0)) ∧
      (v &&& s.tamperEnabled ≠ 0 → Yields (.tamperAlarm a v) s fun t =>
        t.sec.cells = [] ∧ t.sec.tamperKey = false ∧ t.sec.ownerSeed = none ∧ t.sec.tamperHold = true ∧ t.sec.update = none ∧
          t.sec.firing = v &&& s.tamperEnabled ∧ t.reg Od.tamperStatus = v &&& s.tamperEnabled ∧ t.sec.lc = s.sec.lc ∧
          t.sec.tamperLog.length = min 16 (s.sec.tamperLog.length + 1) ∧ (∃ e, t.sec.tamperLog.head? = some e ∧
            e.sources = v &&& s.tamperEnabled ∧ e.lc = lcCode s.sec.lc ∧ e.time = u.now / 2 ^ 21 * 2 ^ 21) ∧
          (s.power.state = .run ∨ s.power.state = .hold → t.power.heldReset = true ∧ t.power.nextCause = 3 ∧ t.pins.outEnable = false ∧
            t.pins.tamperN = true) ∧
          (s.power.state = .battery → t.power = s.power ∧ t.pins.tamperN = false)) ∧
      ((∀ i < 2, bit f i = false ∨ bit (s.reg Od.tamperEnable) (i + 1) = false) →
        Yields (.tamperLoopCheck a f) s fun t => t.sec.loopFaults = [0, 0] ∧ t.sec.cells = s.sec.cells ∧
          t.sec.tamperHold = s.sec.tamperHold ∧ t.sec.firing = s.sec.firing &&& 0xFFF9 ∧ t.reg Od.tamperStatus = s.sec.firing &&& 0xFFF9) ∧
      ((∃ i < 2, bit f i = true ∧ bit (s.reg Od.tamperEnable) (i + 1) = true ∧ 1 ≤ s.sec.loopFaults.getD i 0) →
        Yields (.tamperLoopCheck a f) s fun t => t.sec.cells = [] ∧ t.sec.tamperKey = false ∧ t.sec.tamperHold = true ∧
          t.sec.ownerSeed = none))

/-- R20 to R24, R26, R399, R404, R409, R410, R412, R427. -/
def Obligations.UnitsRetireAndSparesTake : Prop :=
  ∀ (s u : State) (a : Instant) (n h r i v : Nat) (e : TestEnd), u = s.arrive a → (∀ d, 1 ≤ d → d ≤ 10 → s.powered d = true) →
    n < 60 → h < 12 → r < 4 → i < 4 →
    let x := s.herd (n / 5)
    let y := s.herd h
    let errs := ((Tab.look s.health.errors (unitId 1 n) []).filter fun t => u.now ≤ t + 10 * second).length + 1
    let tells (t : State) (code : Nat) : State := t.emit (.status code [])
    (x.runs (n % 5) = none ∨ x.pending.isSome = true ∨ unitId 1 n ∈ s.health.out → Does (.lockstepMismatch a n) s u) ∧
    (∀ l, x.runs (n % 5) = some l → x.pending = none → unitId 1 n ∉ s.health.out → Yields (.lockstepMismatch a n) s fun t =>
      (errs < 3 → t.herd (n / 5) = x ∧ t.out = s.out ∧ (∀ p ∈ s.runningOn (4 * (n / 5) + l), (t.part p).regs = (s.part p).checkpoint) ∧
        ∀ p ∉ s.runningOn (4 * (n / 5) + l), t.part p = s.part p) ∧
      (3 ≤ errs → (t.herd (n / 5)).pending = some l ∧ (t.herd (n / 5)).pendingAt = u.tickNow ∧ (t.herd (n / 5)).pendingCause = 1 ∧
        (∀ p ∈ s.partsOn (4 * (n / 5) + l), s.worksOn p (4 * (n / 5) + l) = true → (t.part p).window = none ∧
          (t.part p).regs = (s.part p).checkpoint ∧ s.workTick + 1 ≤ (t.part p).suppressedTo) ∧
        (t.degraded (n / 5) = true → ∀ p ∈ s.partsOn (4 * (n / 5) + l), (t.part p).displaced = true ∧ (t.part p).window = none))) ∧
    (u.retires h = none ∨ s.degraded h = true → Does (.spareTakeover a h) s u) ∧
    (∀ l q, u.retires h = some l → y.spare = some q → Yields (.spareTakeover a h) s fun t =>
      (t.herd h).units = y.units.set l q ∧ (t.herd h).spare = none ∧ (t.herd h).pending = none ∧
        coreId h (y.units.getD l 0) ∈ t.health.out ∧ t.reg Od.stCoverageDegraded = maskOf ((List.range 12).filter t.degraded)) ∧
    (∀ l q, u.retires h = some l → y.spare = none → s.testSpare h = some q → Yields (.spareTakeover a h) s fun t =>
      (t.herd h).units = y.units.set l q ∧ (t.herd h).testing = none ∧ (t.herd h).pending = none ∧
        coreId h (y.units.getD l 0) ∈ t.health.out ∧ t.health.results.head?.any (fun w => w.unit_ = coreId h q && w.result = 3) = true) ∧
    (u.retires h = none ∨ s.degraded h = false → (∀ p ∈ s.parts.map (·.1), (s.part p).displaced = false) →
      Does (.partitionRelocate a h) s u) ∧
    (∀ l, u.retires h = some l → s.degraded h = true → Yields (.partitionRelocate a h) s fun t =>
      (t.herd h).pending = none ∧ coreId h (y.units.getD l 0) ∈ t.health.out ∧ ∀ p ∈ s.partsOn (4 * h + l), (t.part p).window = none ∧
        ((t.part p).displaced = true ∨ noClash s.majorSet ((t.part p).windows.map winRec) = true)) ∧
    (r ∈ s.health.lostRegions → Does (.regionLost a r) s u) ∧
    (r ∉ s.health.lostRegions → Yields (.regionLost a r) s fun t => t.health.lostRegions = s.health.lostRegions ++ [r] ∧
      (s.sourceUp 112 = true → bit (t.reg (Od.evStatus 112)) 4 = true) ∧
      ∀ j < 12, ∀ p ∈ s.partsOn (12 * r + j), (t.part p).displaced = true ∧ (t.part p).window = none ∧
        s.workTick + 1 ≤ (t.part p).suppressedTo) ∧
    (0 ∉ s.health.lostRegions ∨ s.health.managerHerd ≠ 0 → Does (.managerMoved a) s u) ∧
    (0 ∈ s.health.lostRegions → s.health.managerHerd = 0 →
      (∀ k, s.managerLender = some k → Yields (.managerMoved a) s fun t => t.health.managerHerd = k ∧ t.health.managerLent = true ∧
        t.reg Od.mgrManagerHerd = k ∧ 3 ≤ k ∧ k < 12 ∧ (s.sourceUp 112 = true → bit (t.reg (Od.evStatus 112)) 10 = true)) ∧
      (s.managerLender = none → Yields (.managerMoved a) s fun t => t.health.managerHerd = 3 ∧ t.health.managerLent = false ∧
        t.reg Od.mgrManagerHerd = 3 ∧ ∀ p ∈ s.partsOn 12, (t.part p).displaced = true)) ∧
    (s.testsOn = false ∨ unitId 1 n ∈ s.health.out ∨ x.testing.isSome = true ∨ x.pending.isSome = true →
      Does (.selfTestSlotStart a n) s u) ∧
    (s.testsOn = true → unitId 1 n ∉ s.health.out → x.testing = none → x.pending = none → ∀ l, x.runs (n % 5) = some l →
      (∀ q, x.spare = some q → Does (.selfTestSlotStart a n) s
        (u.setHerd (n / 5) { x with units := x.units.set l q, spare := none, testing := some (n % 5) })) ∧
      (x.spare = none → Yields (.selfTestSlotStart a n) s fun t => t.herd (n / 5) = x ∧
        t.reg Od.stDeferred = (s.reg Od.stDeferred + 1) % 2 ^ 32 ∧ (s.sourceUp 113 = true → bit (t.reg (Od.evStatus 113)) 1 = true))) ∧
    (s.underTest (unitId 1 n) = false → Does (.selfTestEnd a (unitId 1 n) e) s u) ∧
    (s.underTest (unitId 3 i) = false → Does (.selfTestEnd a (unitId 3 i) e) s u) ∧
    (s.underTest (unitId 1 n) = true → Yields (.selfTestEnd a (unitId 1 n) e) s fun t =>
      let w := u.testResult (unitId 1 n) e
      let again := unitId 1 n ∈ s.health.retest
      t.health.results.head?.any (fun z => z.unit_ = unitId 1 n && z.result = w && z.tick = u.tickNow) = true ∧
        (t.herd (n / 5)).testing = none ∧
        (w = 3 → t.reg Od.stPasses = s.reg Od.stPasses ∧ t.reg Od.stFails = s.reg Od.stFails ∧ t.health.retest = s.health.retest) ∧
        (w = 0 → t.reg Od.stPasses = (s.reg Od.stPasses + 1) % 2 ^ 32 ∧ (t.herd (n / 5)).spare = some (n % 5) ∧
          unitId 1 n ∉ t.health.retest ∧ Tab.find t.health.lastPass (unitId 1 n) = some u.now) ∧
        (w = 1 ∨ w = 2 → t.reg Od.stFails = (s.reg Od.stFails + 1) % 2 ^ 32 ∧
          (s.sourceUp 113 = true → bit (t.reg (Od.evStatus 113)) 0 = true) ∧
          (¬again → unitId 1 n ∈ t.health.retest ∧ t.health.out = s.health.out) ∧
          (again → x.runs (n % 5) = none → unitId 1 n ∈ t.health.out))) ∧
    (s.underTest (unitId 3 i) = true → Yields (.selfTestEnd a (unitId 3 i) e) s fun t =>
      let w := u.testResult (unitId 3 i) e
      t.health.sliceTest = none ∧ (w = 0 → t.reg Od.stPasses = (s.reg Od.stPasses + 1) % 2 ^ 32) ∧
        (w = 1 ∨ w = 2 → t.reg Od.stFails = (s.reg Od.stFails + 1) % 2 ^ 32 ∧
          (unitId 3 i ∈ s.health.retest → unitId 3 i ∈ t.health.out))) ∧
    (s.testsOn = false ∨ s.sliceOut i = true ∨ s.health.sliceTest.isSome = true → Does (.sliceSelfTestStart a i) s u) ∧
    (s.testsOn = true → s.sliceOut i = false → s.health.sliceTest = none →
      (∀ f, s.fbService i = some f → f.kind = .test → f.from_ ≤ u.tickNow →
        Does (.sliceSelfTestStart a i) s (u.setHealth fun z => { z with sliceTest := some i })) ∧
      (s.paired = false → (∀ k < 4, s.fbService k = none ∧ s.sliceOut k = false) → s.pair.plans = [] →
        Does (.sliceSelfTestStart a i) s (u.setPair fun p => { p with plans := [⟨i, s.workTick + 16, false⟩] })) ∧
      (s.fbService i = none → (∃ k < 4, s.sliceOut k = true) → Yields (.sliceSelfTestStart a i) s fun t =>
        t.reg Od.stDeferred = (s.reg Od.stDeferred + 1) % 2 ^ 32 ∧ t.health.sliceTest = none ∧ t.pair = s.pair)) ∧
    (Yields (.testOverdue a) s fun t => t.reg Od.stOldestTestAge = u.oldestAge % 2 ^ 32 ∧
      (s.sourceUp 113 = true → bit (t.reg (Od.evStatus 113)) 3 = decide (s.reg Od.stPeriod * 60 < u.oldestAge))) ∧
    (s.power.bootStopped = true → Does (.clearRetirement a v) s (tells u stBusy) ∧ Does (.hardRepair a v) s (tells u stBusy)) ∧
    (s.power.bootStopped = false → (∃ w ∈ s.health.retired, w.unit_ = v) → Does (.clearRetirement a v) s
      (tells (u.setHealth fun z => { z with retired := z.retired.filter fun w => w.unit_ ≠ v }) 0)) ∧
    (s.power.bootStopped = false → (∀ w ∈ s.health.retired, w.unit_ ≠ v) → Does (.clearRetirement a v) s (tells u stInvalidValue)) ∧
    (s.testAccess = false → (s.power.bootStopped = false → Does (.hardRepair a v) s (tells u stNoEntry)) ∧ Does (.manualRun a v) s (tells u stNoEntry)) ∧
    (s.testAccess = true →
      (s.power.bootStopped = false → ∀ w, s.health.repairs[v]? = some w → w.repair = 1 → Does (.hardRepair a v) s
        (tells (u.setHealth fun z => { z with repairs := z.repairs.set v { w with repair := 2 } }) 0)) ∧
      (s.power.bootStopped = false → (∀ w, s.health.repairs[v]? = some w → w.repair ≠ 1) → Does (.hardRepair a v) s (tells u stInvalidValue)) ∧
      (2 ≤ v → Does (.manualRun a v) s (tells u stTypeMismatch)) ∧ (v = 0 → Does (.manualRun a v) s (tells u 0)) ∧
      (v = 1 → s.health.manual.isSome = true → Does (.manualRun a v) s (tells u stBusy)) ∧
      (v = 1 → s.health.manual = none → s.reg Od.manualUnit = unitId 1 n →
        (s.slotFree n = false → Does (.manualRun a v) s (tells u stBusy)) ∧
        (s.slotFree n = true → Yields (.manualRun a v) s fun t => t.health.manual = some (unitId 1 n) ∧
          (t.herd (n / 5)).testing = some (n % 5) ∧ t.out.head? = some (.status 0 []))))

/-- R27, R29, R30, R378, R399, R402, R414 to R416; which links cut off which die: the model's reading (log 51). -/
def Obligations.MemoryErrorsAndDieLinks : Prop :=
  ∀ (s u : State) (a : Instant) (m row b e n id tick c l : Nat), u = s.arrive a → (∀ d, 1 ≤ d → d ≤ 11 → s.powered d = true) →
    memOk m = true → row < 2 ^ 32 → n < 96 → c < 8192 → l < 6 →
    let k := rowKey m row
    let errs := ((Tab.look s.health.rowErrors k []).filter fun t => u.now ≤ t + 86400 * second).length + 1
    let used := Tab.look s.health.spareRows (rowBankKey m row) 0
    let counted (t : State) : Prop := t.reg Od.healthCorrectedErrors = (s.reg Od.healthCorrectedErrors + 1) % 2 ^ 32 ∧
      (s.sourceUp 112 = true → bit (t.reg (Od.evStatus 112)) 6 = true)
    let lost (t : State) : Prop := t.reg Od.healthUncorrectedErrors = (s.reg Od.healthUncorrectedErrors + 1) % 2 ^ 32 ∧
      (s.sourceUp 112 = true → bit (t.reg (Od.evStatus 112)) 7 = true)
    let at_ (place : MemPlace) : Instr := .doubleBitError a m row place
    (s.holderOut m = true ∨ k ∈ s.health.lockedRows → Yields (.eccCorrected a m row b) s fun t => counted t ∧
      t.health.rowErrors = s.health.rowErrors ∧ t.health.repairs = s.health.repairs ∧ t.health.out = s.health.out) ∧
    (s.holderOut m = false → k ∉ s.health.lockedRows → Yields (.eccCorrected a m row b) s fun t => counted t ∧
      (errs < 4 → (Tab.look t.health.rowErrors k []).length = errs ∧ t.health.repairs = s.health.repairs ∧ t.health.out = s.health.out ∧
        t.health.spareRows = s.health.spareRows) ∧
      (4 ≤ errs → used < memSpares (memClass m) → Tab.look t.health.spareRows (rowBankKey m row) 0 = used + 1 ∧
        t.health.out = s.health.out ∧ Tab.look t.health.rowErrors k [] = [] ∧
        (s.health.repairs.length < 512 → t.health.repairs = s.health.repairs ++ [⟨m, row, b, 7, 1, used, u.tickNow % 2 ^ 32⟩])) ∧
      (4 ≤ errs → memSpares (memClass m) ≤ used → t.health.spareRows = s.health.spareRows ∧
        (memClass m = 5 → (t.port (memIndex m)).retired = true) ∧ (memClass m = 6 → sliceId (memIndex m) ∈ t.health.out) ∧
        (memClass m ∈ [2, 3, 4, 7] → k ∈ t.health.lockedRows ∧ unitId 7 m ∈ t.health.out))) ∧
    (memClass m ≠ 3 ∧ memClass m ≠ 7 ∨ e = 0 → Does (.patrolScrub a m row e) s u) ∧
    (memClass m = 3 ∨ memClass m = 7 → Yields (.patrolScrub a m row e) s fun t =>
      t.reg Od.healthCorrectedErrors = (s.reg Od.healthCorrectedErrors + e) % 2 ^ 32 ∨ e = 0) ∧
    (Yields (at_ .manager) s fun t => lost t ∧ t.calm = { u.calm with pins := t.pins }) ∧
    (Yields (at_ (.partition n)) s fun t => lost t ∧
      ((s.part n).run = .stopped → t.calm = { u.calm with pins := t.pins }) ∧
      ((s.part n).run ≠ .stopped → (t.part n).run = .restarting ∧ (t.part n).held = true ∧ (t.part n).window = none ∧
        (t.part n).restartDue = some 3 ∧ s.workTick + 1 ≤ (t.part n).suppressedTo)) ∧
    (∀ im, Tab.find s.dp.images (tick % 64) = some im → im.tick = tick → Yields (at_ (.imageSlot tick c)) s fun t => lost t ∧
      (t.chan c).restartDue = true ∧ ∃ z, Tab.find t.dp.images (tick % 64) = some { im with slots := Tab.insert im.slots c ⟨0, z⟩ } ∧
        z = missingStatus (Tab.look im.slots c unmappedSlot).status ∧ field z 0 2 = 1 ∧ field z 8 3 = 2) ∧
    ((∀ j, s.dp.lastReleased = some j → j < tick) → Yields (at_ (.rawRing tick c)) s fun t => lost t ∧
      t.dp = { s.dp with damaged := s.dp.damaged ++ [(tick, c)] }) ∧
    (∀ w, Tab.find s.dp.phasors (tick % 64 * 8192 + c) = some w → w.tickLow = tick % 2 ^ 32 → Yields (at_ (.phasorRecord tick c)) s fun t =>
      lost t ∧ Tab.find t.dp.phasors (tick % 64 * 8192 + c) =
        some { w with real := 0, imag := 0, mag := 0, angle := 0, status := missingStatus w.status }) ∧
    (n < 256 → Yields (at_ (.keyCell n)) s fun t => lost t ∧ n ∈ t.sec.brokenCells ∧ t.sec.cells = s.sec.cells ∧
      (2 ≤ n → t.keyHolds n = false)) ∧
    (Tab.find s.sw.frames id = none → Yields (at_ (.switchFrame id)) s fun t => lost t ∧ t.sw = s.sw) ∧
    ((Tab.find s.sw.frames id).isSome = true → Yields (at_ (.switchFrame id)) s fun t => lost t ∧
      t.reg Od.healthMemDiscard = (s.reg Od.healthMemDiscard + 1) % 2 ^ 32) ∧
    (s.hasPartner = true →
      (Yields (at_ .churn) s fun t => lost t ∧ t.churn = { s.churn with poisoned := true } ∧ t.loops = s.loops ∧
        t.pair.relinquishSent = (s.pair.relinquishSent || decide (s.pair.role = .lead))) ∧
      Yields (at_ .loops) s fun t => lost t ∧ t.loops = { s.loops with poisoned := true } ∧ t.churn = s.churn ∧
        t.pair.relinquishSent = (s.pair.relinquishSent || decide (s.pair.role = .lead))) ∧
    (s.hasPartner = false →
      (Yields (at_ .churn) s fun t => lost t ∧ t.pair = s.pair ∧ (s.churn.state = .stopped → t.churn = s.churn)) ∧
      Yields (at_ .loops) s fun t => lost t ∧ t.pair = s.pair ∧ ∀ g ∈ s.heads, (t.unitAt g).out = s.reg (Od.loopInitOutput g)) ∧
    (l ∈ s.health.linksFailed → Does (.dieLinkFailed a l) s u) ∧
    (l ∉ s.health.linksFailed → Yields (.dieLinkFailed a l) s fun t => t.health.linksFailed = s.health.linksFailed ++ [l] ∧
      t.cut l = true ∧ unitId 6 l ∈ t.health.out ∧ (s.sourceUp 112 = true → bit (t.reg (Od.evStatus 112)) 5 = true) ∧
      (l ∈ [0, 1, 3] → t.power.withdrawn = true ∧ t.pins.outEnable = false ∧ t.pins.modOk = false ∧
        (s.power.withdrawn = false → t.power.nextCause = 8)) ∧
      (l = 1 → t.hist.frames = [] ∧ t.linkUp = false ∧ ∀ p ∈ t.parts.map (·.1), (t.part p).window = none ∧ t.partSuppressed p = true) ∧
      (l ∈ [2, 4, 5] → t.sec.secLost = true ∧ t.power = s.power ∧ (s.sourceUp 96 = true → bit (t.reg (Od.evStatus 96)) 0 = true)))

/-- R420, R482, R484 to R488, R490, R492, R497, R501, R507. -/
def Obligations.PowerStatesAndRails : Prop :=
  ∀ (s u : State) (a : Instant) (r w code : Nat) (st : StartUp) (env : Env), u = s.arrive a → s.powered 0 = true → s.powered 1 = true →
    r < 8 →
    let tells (t : State) (c : Nat) : State := t.emit (.status c [])
    let resets (t : State) (cause : Nat) : Prop := t.power.heldReset = true ∧ t.power.secHeld = true ∧ t.power.withdrawn = true ∧
      t.power.nextCause = cause ∧ t.pins.outEnable = false ∧ t.pins.modOk = false
    let judged := r = 6 ∨ r = 7 ∨ ∃ d ∈ railFeeds r, bit s.power.domains d = true
    (s.power.bootStopped = true → Does (.powerRequestRun a st) s (tells u stBusy) ∧ Does (.powerRequestHold a) s (tells u stBusy) ∧
      Does (.powerRequestOff a) s (tells u stBusy)) ∧
    (s.power.bootStopped = false →
      (s.power.state = .run → Does (.powerRequestRun a st) s (tells u 0)) ∧
      (s.power.state = .hold → Does (.powerRequestHold a) s (tells u 0)) ∧
      (s.power.state = .off → Does (.powerRequestOff a) s (tells u 0)) ∧
      (s.power.state ∈ [.tamperHold, .off, .battery] → Does (.powerRequestRun a st) s (tells u stBusy) ∧
        Does (.powerRequestHold a) s (tells u stBusy)) ∧
      (s.power.state ∈ [.tamperHold, .battery] → Does (.powerRequestOff a) s (tells u stBusy)) ∧
      (s.power.state = .hold → (∃ x ∈ runRails, x ∈ s.power.badRails) ∨ s.warm = true → Does (.powerRequestRun a st) s (tells u stBusy)) ∧
      (s.power.state = .hold → (∀ x ∈ runRails, x ∉ s.power.badRails) → s.warm = false → Yields (.powerRequestRun a st) s fun t =>
        t.power.state = .hold ∧ t.health.lostRegions.length = 4 ∨ t.power.state = .run ∧ t.power.step = 8 ∧ t.power.domains = t.runDomains ∧
          t.power.withdrawn = decide (s.power.nextCause = 8) ∧ t.reg Od.healthStartCount = s.reg Od.healthStartCount) ∧
      (s.power.state = .run → u.rises = false → Yields (.powerRequestHold a) s fun t => t.power.state = .hold ∧ t.power.domains = 0x003F ∧
        t.power.nextCause = s.power.nextCause ∧ t.pair.role = .withdrawn ∧ t.ports = s.ports ∧ t.sw = s.sw ∧ t.edp.stage = s.edp.stage ∧
        t.churn = {} ∧ t.loops = {} ∧ t.hist = {} ∧ t.dp.images = [] ∧ t.pins.modOk = false ∧ t.pins.outEnable = false) ∧
      (s.power.state = .run → u.rises = true → Yields (.powerRequestHold a) s fun t => t.power.state = .hold ∨ t.power = s.power ∧ .status stBusy [] ∈ t.out) ∧
      (s.power.state = .run ∨ s.power.state = .hold → u.rises = false → Yields (.powerRequestOff a) s fun t => t.power.state = .off ∧
        t.power.domains = 0x0003 ∧ t.edp.sessions = [] ∧ t.ports = [] ∧ t.sw = {} ∧ t.churn = {} ∧ t.loops = {} ∧ t.pins.modOk = false ∧
        t.pins.outEnable = false ∧ t.sec.cells = s.sec.cells)) ∧
    (Yields (.vddAonLoss a) s fun t => t.power.state = .battery ∧ t.power.domains = 0x0001 ∧ t.edp = {} ∧ t.ports = [] ∧ t.sec.update = none ∧
      t.sec.tamperKey = (s.sec.tamperKey && decide (2000 ≤ s.reg Od.vbat)) ∧ t.pins.bootSpi = false ∧ t.pins.modOk = false ∧
      t.pins.tamperN = false) ∧
    (¬judged → u.rises = false → Yields (.railOutOfRange a r) s fun t => r ∈ t.power.badRails ∧ t.power.heldReset = s.power.heldReset ∧
      t.power.withdrawn = s.power.withdrawn ∧ t.power.state = s.power.state) ∧
    (u.rises = true → r ∈ [0, 3, 4] → Yields (.railOutOfRange a r) s fun t => r ∈ t.power.badRails ∧
      (t.power.state = .hold ∧ t.power.domains = 0x003F ∧ t.power.heldReset = s.power.heldReset ∨ judged ∧ t.power.heldReset = true ∨
        ¬judged ∧ t.power.state = .run)) ∧
    (judged → u.rises = false → Yields (.railOutOfRange a r) s fun t => r ∈ t.power.badRails ∧ resets t (if s.power.pwrFail then 0 else 6)) ∧
    (s.power.pwrFail = true → Does (.pwrFail a) s u) ∧
    (s.power.pwrFail = false → Yields (.pwrFail a) s fun t => t.power.pwrFail = true ∧ t.power.pwrFailSince = u.now ∧
      (u.rises = false → t.power = { s.power with pwrFail := true, pwrFailSince := u.now }) ∧
      (u.rises = true → t.power.state = .run ∨ t.power.state = .hold ∧ t.power.domains = 0x003F) ∧
      t.reg Od.pfPwrFailCount = (s.reg Od.pfPwrFailCount + 1) % 2 ^ 32 ∧ (s.sourceUp 114 = true → bit (t.reg (Od.evStatus 114)) 1 = true)) ∧
    (s.power.pwrFail = false ∨ u.now < s.power.pwrFailSince + ofMs 2 ∨ s.power.state = .off → Does (.pwrFailSustained a) s u) ∧
    (s.power.pwrFail = true → s.power.pwrFailSince + ofMs 2 ≤ u.now → s.power.state ≠ .off → Yields (.pwrFailSustained a) s fun t =>
      t.power.heldReset = true ∧ t.power.secHeld = s.sec.update.isNone ∧ t.power.nextCause = 7 ∧ t.pins.outEnable = false) ∧
    Does (.pwrFailReleased a) s (u.setPower fun p => { p with
      pwrFail := false, nextCause := if s.power.heldReset = true ∧ s.power.nextCause = 7 ∧ s.power.badRails ≠ [] then 0 else p.nextCause }) ∧
    (w < ofUs 1 ∨ (s.power.state = .battery ∧ ofUs 10 ≤ w) → Does (.porst a w) s u) ∧
    (ofUs 10 ≤ w → s.power.state ≠ .battery → Yields (.porst a w) s fun t => resets t 1) ∧
    (ofUs 1 ≤ w → w < ofUs 10 → s.power.state ≠ .battery → Yields (.porst a w) s fun t => resets t 1 ∨ t.power = s.power) ∧
    (u.watchdogDue = false → Does (.supWatchdogExpiry a) s u) ∧
    (u.watchdogDue = true → Yields (.supWatchdogExpiry a) s fun t => resets t 2) ∧
    (s.powered 3 = true → Does (.supWatchdogKick a false) s (u.setHealth fun h => { h with kickNetwork := u.now })) ∧
    (s.powered 10 = true → Does (.supWatchdogKick a true) s (u.setHealth fun h => { h with kickManager := u.now })) ∧
    (Yields (.refclk25mLost a) s fun t => t.health.refclkLost = true ∧ t.power.withdrawn = true ∧ t.power.nextCause = 8 ∧
      t.pins.outEnable = false ∧ t.pins.modOk = false) ∧
    Does (.refclk25mRestored a) s (u.setHealth fun h => { h with refclkLost := false }) ∧
    (Yields (.osc10mLost a) s fun t => t.time.frozen = true ∧ t.power.osc10Lost = true ∧ t.power.withdrawn = true ∧ t.power.nextCause = 8 ∧
      t.now = u.now) ∧
    (Yields (.osc10mRestored a) s fun t => t.time.frozen = false ∧ t.power.osc10Lost = false ∧ t.power.withdrawn = s.power.withdrawn) ∧
    (Yields (.environmentRefresh a env) s fun t =>
      t.reg Od.vbat = env.vbat % 2 ^ 16 ∧ t.reg Od.powerModulePower = env.power % 2 ^ 32 ∧
        t.reg Od.powerPeakPower = max (s.reg Od.powerPeakPower) (env.power % 2 ^ 32) ∧
        (∀ d < 4, t.power.temps[d]? = some (env.temps.getD d 0)) ∧
        (∀ x ∈ t.power.badRails, x ∈ s.power.badRails ∧ railGood x (env.supplies.getD x 0) = false) ∧
        ((∃ d < 4, 2000 < env.temps.getD d 0) → s.power.state = .run → 5 ≤ s.power.step → t.power.state = .hold) ∧
        ((∀ d < 4, env.temps.getD d 0 ≤ 2000) → t.power.state = s.power.state ∧ t.power.withdrawn = s.power.withdrawn)) ∧
    (code < 2 ∨ s.testAccess = false → Does (.tapInstruction a code) s
      (u.setPower fun p => { p with tapRegister := if code = 1 then 0x1096155B else 0 }))

/-- R328, R364, R386, R394, R422 to R424, R426. -/
def Obligations.StartsAndRestarts : Prop :=
  ∀ (s u : State) (a : Instant) (st : StartUp) (v : Nat), u = s.arrive a →
    let tells (t : State) (c : Nat) : State := t.emit (.status c [])
    let cold := ((u.setPower fun p => { p with badRails := [], pwrFail := false }).coldState).stepOne s.power.nextCause st
    let kept (t : State) (cause : Nat) : Prop := t.reg Od.healthResetCause = cause ∧ t.power.heldReset = false ∧
      t.reg Od.healthStartCount = (s.reg Od.healthStartCount + 1) % 2 ^ 32 ∧ t.reg Od.pairId = s.reg Od.pairId ∧
      t.reg Od.pairEnable = s.reg Od.pairEnable ∧ t.pending = s.pending ∧ t.now = u.now ∧ t.edp.sessions = [] ∧ t.ports.all (fun e => e.2.rx.isNone) = true
    (s.mayStart = false → Does (.powerGood a st) s u) ∧
    (s.mayStart = true →
      (cold.bootBank = none → Yields (.powerGood a st) s fun t => kept t 9 ∧ t.power.step = 1 ∧ t.power.domains = 0x0807 ∧
        t.power.bootStopped = true ∧ t.pins.modOk = false) ∧
      (∀ b, cold.bootBank = some b →
        (st.networkFailed = true → Yields (.powerGood a st) s fun t => kept t s.power.nextCause ∧ t.power.step = 3 ∧
          t.power.domains = 0x0007 ∧ t.pins.modOk = false) ∧
        (st.networkFailed = false → s.sec.tamperHold = true → Yields (.powerGood a st) s fun t => kept t s.power.nextCause ∧
          t.power.state = .tamperHold ∧ t.power.step = 4 ∧ t.power.domains = 0x083F ∧ t.pins.tamperN = true ∧ t.pins.modOk = false) ∧
        (st.networkFailed = false → Yields (.powerGood a st) s fun t => kept t s.power.nextCause ∧
          (t.sec.tamperHold = true ∧ t.power.state = .tamperHold ∧ t.power.step = 4 ∨
            t.power.state = .hold ∧ t.health.lostRegions.length = 4 ∧ t.power.domains = 0x003F ∨
            t.power.state = .run ∧ t.power.step = 8 ∧ t.power.domains = t.runDomains ∧ t.pair.enabled = s.on Od.pairEnable ∧
              t.pair.role = (if s.on Od.pairEnable then .init else .lead) ∧ t.health.lostRegions.length ≠ 4)))) ∧
    (s.powered 1 = true →
      (v < 2 → s.power.bootStopped = true → Does (.restartModule a v) s (tells u stBusy)) ∧
      (2 ≤ v → Does (.restartModule a v) s (tells u stTypeMismatch)) ∧
      (s.power.bootStopped = false → v = 0 → Does (.restartModule a v) s (tells u 0)) ∧
      (s.power.bootStopped = false → v = 1 → Yields (.restartModule a v) s fun t => t.power.heldReset = true ∧ t.power.secHeld = true ∧
        t.power.withdrawn = true ∧ t.power.nextCause = 5 ∧ t.pins.outEnable = false ∧ t.out.head? = some (.status 0 []) ∧
        t.sec = s.sec ∧ t.ports = s.ports))

/-- R430, R431, R435, R437 to R439, R441 to R443, R445, R446, R469. -/
def Obligations.RequestsAreCheckedAndAnsweredOnce : Prop :=
  ∀ (s u : State) (a : Instant) (q : Req) (k : Nat), u = s.arrive a → s.powered 1 = true →
    let reqs : List (Nat × Instr) := [(1, .read a q), (2, .write a q), (3, .readBlock a q), (4, .writeBlock a q), (5, .stage a q),
      (6, .commit a q), (7, .discard a q), (0x10, .attestSign a q), (0x10, .keygenSlhdsa a q), (0x10, .firmwareInstall a q),
      (0x10, .fullSelfTest a q), (0x10, .historyExport a q), (0x10, .partitionMigrate a q), (0x10, .configApply a q),
      (0x10, .memoryScrub a q), (0x11, .opSuspend a q), (0x12, .opResume a q), (0x13, .opCancel a q), (0x14, .opStatus a q),
      (0x20, .subscribeEvents a q), (0x31, .sessionClose a q), (0x3F, .keepalive a q)]
    let old := (s.session? q.session).filter fun x => x.transport = q.transport
    ((∀ e ∈ reqs, s.transportUp q.transport = false ∨ s.carried e.1 q = false → Does e.2 s u) ∧
      (s.transportUp q.transport = false ∨ s.carried 0x30 q = false → Does (.sessionOpen a q) s u)) ∧
    (s.transportUp q.transport = true →
      (q.version ≠ 1 → (∀ e ∈ reqs, s.carried e.1 q = true → Does e.2 s (u.discardReq q.transport)) ∧
        (s.carried 0x30 q = true → Does (.sessionOpen a q) s (u.discardReq q.transport))) ∧
      (q.version = 1 → old = none → ∀ e ∈ reqs, s.carried e.1 q = true → Does e.2 s (u.answerClear q e.1 stNoSession)) ∧
      (q.version = 1 → ∀ x, old = some x →
        (∀ e ∈ reqs, s.carried e.1 q = true → reqVerifies q e.1 x.clientKey = false → Yields e.2 s fun t => t.reg Od.mgmtAuthFailures = (s.reg Od.mgmtAuthFailures + 1) % 2 ^ 32 ∧
          ∃ y, t.session? q.session = some y ∧ y.highest = x.highest ∧ y.opened = x.opened ∧ y.lastAt = x.lastAt) ∧
        (q.seq < x.highest → ∀ e ∈ reqs, Serves q e.1 e.2 s fun t =>
          t.reg Od.mgmtReplays = (s.reg Od.mgmtReplays + 1) % 2 ^ 32 ∧ t.edp.stage = s.edp.stage ∧ t.edp.ops = s.edp.ops ∧
          ∃ y, t.session? q.session = some y ∧ y.highest = x.highest ∧ y.lastAt = u.now) ∧
        (q.seq = x.highest → ∀ p, x.lastReply = some p → p.seq = q.seq → ∀ e ∈ reqs, Serves q e.1 e.2 s fun t =>
          .reply p ∈ t.out ∧ t.reg Od.mgmtReplays = s.reg Od.mgmtReplays ∧ t.edp.stage = s.edp.stage ∧ t.edp.ops = s.edp.ops) ∧
        (x.opened = true → x.highest < q.seq →
          let y : Session := { x with lastAt := u.now, highest := q.seq }
          let w := u.setSession q.session y
          let says_ (t : State) (op status : Nat) (payload : List Byte) : Prop := .reply (replyTo q op status payload) ∈ t.out
          let row (write : Bool) := (w.reach x q write).2
          (Serves q 0x3F (.keepalive a q) s fun t => says_ t 0x3F 0 []) ∧
          (k ∉ clientOpcodes → k < 256 → Serves q k (.unsupportedOpcode a k q) s fun t => says_ t k stUnsupported []) ∧
          (vendorRange q.index = true → x.role = 4 →
            (Serves q 2 (.write a q) s fun t => says_ t 2 0 []) ∧ Serves q 1 (.read a q) s fun t => ∃ p, .reply p ∈ t.out ∧ p.status = 0) ∧
          (¬(vendorRange q.index = true ∧ x.role = 4) →
            (row false = none → Serves q 1 (.read a q) s fun t => says_ t 1 (w.reach x q false).1 []) ∧
            (∀ r, row false = some r → bit q.flags 4 = false → r.ty ≠ .domain →
              (w.viewed q.flags q.index q.sub r).length ≤ payloadLimit x.transport →
              Serves q 1 (.read a q) s fun t => says_ t 1 0 (w.viewed q.flags q.index q.sub r) ∧ t.regs = s.regs ∧ t.edp.stage = s.edp.stage) ∧
            (row true = none → Serves q 2 (.write a q) s fun t => says_ t 2 (w.reach x q true).1 [] ∧ t.regs = s.regs) ∧
            (∀ r, row true = some r → r.ty ≠ .domain → q.payload.length ≤ payloadLimit x.transport →
              (typeFits r.ty q.payload = false → Serves q 2 (.write a q) s fun t => says_ t 2 stTypeMismatch [] ∧ t.regs = s.regs) ∧
              (typeFits r.ty q.payload = true → Serves q 2 (.write a q) s fun t =>
                let v := w.writeEntry q.session y q.index q.sub r q.payload
                v.payload.length ≤ payloadLimit x.transport → ∃ p, .reply p ∈ t.out ∧ p.status = v.code ∧ p.seq = q.seq)) ∧
            (∀ r, row true = some r → r.ty ≠ .domain → payloadLimit x.transport < q.payload.length →
              Serves q 2 (.write a q) s fun t => says_ t 2 stTooLarge [] ∧ t.regs = s.regs)) ∧
          (∀ r, row false = some r → q.payload.length = 8 →
            let data := w.viewed q.flags q.index q.sub r
            let piece := data.take (min (beAt q.payload 4 4) (payloadLimit x.transport - 8))
            (beAt q.payload 0 4 = 0 → Serves q 3 (.readBlock a q) s fun t =>
              .reply { replyTo q 3 0 (beBytes 4 0 ++ beBytes 4 data.length ++ piece) with
                flags := if data.length ≤ piece.length then 5 else 1 } ∈ t.out) ∧
            (beAt q.payload 0 4 ≠ 0 → x.reads = none → Serves q 3 (.readBlock a q) s fun t => says_ t 3 stSegmentError (beBytes 4 0))) ∧
          (∀ r, row true = some r → 8 ≤ q.payload.length → q.payload.length ≤ payloadLimit x.transport → segOffset q.payload = 0 →
            segTotal q.payload ≤ 2 ^ 26 → q.payload.length - 8 ≤ segTotal q.payload → bit q.flags 2 = false →
            Serves q 4 (.writeBlock a q) s fun t => says_ t 4 0 (beBytes 4 (q.payload.length - 8)) ∧
              ∃ z, t.session? q.session = some z ∧
                z.write = some ⟨q.index * 256 + q.sub, segTotal q.payload, q.payload.drop 8, u.now⟩) ∧
          (∀ r, row true = some r → r.ty ≠ .domain → q.payload.length ≤ payloadLimit x.transport → typeFits r.ty q.payload = true →
            (r.ap = .staged → s.power.bootStopped = false → s.opOf opConfig = none → windowsEntry q.index q.sub = true → windowsOk q.payload = false →
              Serves q 5 (.stage a q) s fun t => t.edp.stage = s.edp.stage ∧
                says_ t 5 (if 64 * 16 < q.payload.length then stTooLarge else stTypeMismatch) [])) ∧
          (∀ r, row true = some r → r.ty ≠ .domain → q.payload.length ≤ payloadLimit x.transport → typeFits r.ty q.payload = true →
            windowsEntry q.index q.sub = false ∨ windowsOk q.payload = true →
            (r.ap ≠ .staged → Serves q 5 (.stage a q) s fun t => says_ t 5 stInvalidValue [] ∧ t.edp.stage = s.edp.stage) ∧
            (r.ap = .staged → s.power.bootStopped = false → s.opOf opConfig = none → s.edp.commit.isSome = true →
              Serves q 5 (.stage a q) s fun t => says_ t 5 stCommitting [] ∧ t.edp.stage = s.edp.stage) ∧
            (r.ap = .staged → s.power.bootStopped = false → s.opOf opConfig = none → s.edp.commit = none → s.edp.owner.any (· ≠ q.session) = true →
              Serves q 5 (.stage a q) s fun t => says_ t 5 stBusy [] ∧ t.edp.stage = s.edp.stage) ∧
            (r.ap = .staged → s.power.bootStopped = false → s.opOf opConfig = none → s.edp.commit = none → s.edp.owner.any (· ≠ q.session) = false →
              refusedAtOnce q.index q.payload = false → stageSize (putStaged ⟨q.index * 256 + q.sub, q.payload⟩ s.edp.stage) ≤ 2 ^ 24 →
              Serves q 5 (.stage a q) s fun t => says_ t 5 0 [] ∧ t.regs = s.regs ∧ t.edp.owner = some q.session ∧
                t.edp.stage = putStaged ⟨q.index * 256 + q.sub, q.payload⟩ s.edp.stage)) ∧
          (w.stageTurn q.session ≠ 0 → (Serves q 6 (.commit a q) s fun t => says_ t 6 (w.stageTurn q.session) [] ∧ t.edp.commit = s.edp.commit) ∧
            Serves q 7 (.discard a q) s fun t => says_ t 7 (w.stageTurn q.session) [] ∧ t.edp.stage = s.edp.stage) ∧
          (w.stageTurn q.session = 0 →
            (Serves q 7 (.discard a q) s fun t => says_ t 7 0 [] ∧ t.edp.stage = [] ∧ t.edp.owner = none ∧ t.regs = s.regs) ∧
            (∀ e c, w.commitCheck = some (e, c) → Serves q 6 (.commit a q) s fun t => t.edp.stage = s.edp.stage ∧ t.edp.commit = none ∧
              .reply { replyTo q 6 c [] with index := e / 256, sub := e % 256 } ∈ t.out) ∧
            (w.commitCheck = none → s.rate ∈ [4000, 4800, 12800, 14400] → Serves q 6 (.commit a q) s fun t => t.edp.stage = s.edp.stage ∧
              t.regs = s.regs ∧ ∃ c, t.edp.commit = some c ∧ c.session = q.session ∧ c.seq = q.seq ∧ c.acceptedAt = u.now ∧
                c.applyAt = s.tickAt c.applyTick ∧ u.now + ofUs 100 ≤ c.applyAt ∧ s.tickAt (c.applyTick - 1) < u.now + ofUs 100)) ∧
          (x.transport = .mailbox → Serves q 0x20 (.subscribeEvents a q) s fun t => says_ t 0x20 stUnsupported []) ∧
          (x.transport ≠ .mailbox → q.payload.length = 16 → Serves q 0x20 (.subscribeEvents a q) s fun t => says_ t 0x20 0 [] ∧
            ∃ z, t.session? q.session = some z ∧ z.mask = ofLe q.payload) ∧
          Serves q 0x31 (.sessionClose a q) s fun t => says_ t 0x31 0 [] ∧ t.session? q.session = none)) ∧
      (q.version = 1 → s.carried 0x30 q = true → q.payload.length = 36 →
        let role := beAt q.payload 0 1
        let slot := s.roleSlot role
        (s.openDenied q.transport role slot = true → Does (.sessionOpen a q) s (u.answerClear q 0x30 stDenied)) ∧
        (s.openDenied q.transport role slot = false → s.sec.secLost = true → Does (.sessionOpen a q) s (u.answerClear q 0x30 stBusy)) ∧
        (s.openDenied q.transport role slot = false → s.sec.secLost = false → s.usable slot .edpRole = .ok →
          let n := (s.edp.sessions.filter fun e => decide (e.2.transport = q.transport)).length
          (sessionLimit q.transport ≤ n → Does (.sessionOpen a q) s (u.answerClear q 0x30 stBusy)) ∧
          (n < sessionLimit q.transport → Yields (.sessionOpen a q) s fun t => ∃ z, t.session? s.edp.nextSession = some z ∧ z.role = role ∧
            z.slot = slot ∧ z.opened = false ∧ z.highest = 0 ∧ z.transport = q.transport ∧
            .reply { replyTo q 0x30 0 (u.randomBytes 32).1 with session := s.edp.nextSession } ∈ t.out)))) ∧
    (k ∈ clientOpcodes ∨ 256 ≤ k → Does (.unsupportedOpcode a k q) s u) ∧
    (s.session? k = none → Does (.sessionTimeout a k) s u ∧ Does (.sessionOpenTimeout a k) s u ∧ Does (.blockTransferTimeout a k) s u ∧
      Does (.readSnapshotTimeout a k) s u) ∧
    ∀ x, s.session? k = some x →
      (x.opened = true → x.lastAt + s.reg Od.mgmtSessionTimeout * second ≤ u.now → Does (.sessionTimeout a k) s (u.closeSession k)) ∧
      (x.opened = false ∨ u.now < x.lastAt + s.reg Od.mgmtSessionTimeout * second → Does (.sessionTimeout a k) s u) ∧
      (x.opened = false → x.createdAt + 5 * second ≤ u.now → Does (.sessionOpenTimeout a k) s (u.closeSession k)) ∧
      (x.opened = true ∨ u.now < x.createdAt + 5 * second → Does (.sessionOpenTimeout a k) s u) ∧
      (∀ w, x.write = some w → w.lastAt + 10 * second ≤ u.now → Does (.blockTransferTimeout a k) s (u.setSession k { x with write := none })) ∧
      (∀ w, x.reads = some w → w.lastAt + 10 * second ≤ u.now → Does (.readSnapshotTimeout a k) s (u.setSession k { x with reads := none })) ∧
      (x.write = none → Does (.blockTransferTimeout a k) s u) ∧ (x.reads = none → Does (.readSnapshotTimeout a k) s u)

/-- R213, R215, R262, R391, R414, R448 to R451. -/
def Obligations.LongOperationsOpen : Prop :=
  ∀ (s u : State) (a : Instant) (q : Req) (x : Session), u = s.arrive a → s.powered 1 = true →
    s.transportUp q.transport = true → q.version = 1 → s.session? q.session = some x → x.transport = q.transport →
    x.opened = true → x.highest < q.seq → q.payload.length ≤ payloadLimit x.transport → bit q.flags 1 = false →
    let says_ (t : State) (status : Nat) : Prop := .reply (replyTo q 0x10 status []) ∈ t.out
    let p := q.payload.drop 4
    let runs (t : State) (type : Nat) (params : List Byte) : Prop := ∃ j < 16,
      (s.op j).state = .idle ∧ (t.op j).state = .running ∧ (t.op j).type = type ∧ (t.op j).params = params ∧ (t.op j).started = u.now ∧
      (t.op j).handle % 16 = j ∧ .reply { replyTo q 0x10 0 (t.op j).record with handle := (t.op j).handle } ∈ t.out
    let starts : List (Nat × Instr) := [(1, .firmwareInstall a q), (2, .attestSign a q), (3, .keygenSlhdsa a q), (4, .fullSelfTest a q),
      (5, .historyExport a q), (6, .partitionMigrate a q), (7, .configApply a q), (8, .memoryScrub a q)]
    let range := (exportTicks s.exportParams)
    (∀ e ∈ starts, x.role < opRole e.1 → Serves q 0x10 e.2 s fun t => says_ t stDenied ∧ t.edp.ops = s.edp.ops) ∧
    (∀ e ∈ starts, opRole e.1 ≤ x.role → s.power.bootStopped = false → q.payload.length < 4 →
      Serves q 0x10 e.2 s fun t => says_ t stTypeMismatch ∧ t.edp.ops = s.edp.ops) ∧
    (4 ≤ q.payload.length → 2 ≤ x.role → s.power.bootStopped = false → s.powered 10 = true → (s.opOf opScrub).isSome = true →
      Serves q 0x10 (.memoryScrub a q) s fun t => says_ t stBusy ∧ t.edp.ops = s.edp.ops) ∧
    (4 ≤ q.payload.length → (∃ j < 16, (s.op j).state = .idle) →
      (3 ≤ x.role → s.opOf opFirmware = none → s.sec.secLost = false →
        Serves q 0x10 (.firmwareInstall a q) s fun t => runs t opFirmware (s.blob Od.fwImages) ∧ Tab.find t.sec.banks s.idleBank = some []) ∧
      (s.power.bootStopped = false →
        (1 ≤ x.role → s.opOf opAttest = none → s.sec.secLost = false → p.length = 32 →
          Serves q 0x10 (.attestSign a q) s fun t => runs t opAttest p ∧ t.reg Od.attNonce = ofBe p) ∧
        (4 ≤ x.role → s.opOf opSelfTest = none → s.testAccess = true → u.outEnabled = false →
          Serves q 0x10 (.fullSelfTest a q) s fun t => runs t opSelfTest [] ∧ t.health = s.health) ∧
        (2 ≤ x.role → s.opOf opConfig = none → s.edp.commit = none → s.edp.owner.any (· ≠ q.session) = false → (configRecords p).isSome = true →
          Serves q 0x10 (.configApply a q) s fun t => runs t opConfig p ∧ t.edp.owner = some q.session) ∧
        (∀ c, keyCmdOf p = some (3, c) → (u.filledRecord c).alg = 5 → 3 ≤ c.slot → c.slot < 256 →
          u.commandRole .generate c ≤ x.role → 3 ≤ x.role → s.sec.secLost = false → s.sec.phase = 0 → s.power.pwrFail = false →
          u.fillRefused .generate c.slot (u.filledRecord c) (madeLen 5 c.key.length) (madeLenOk 5 c.key.length) = false →
          s.opOf opKeygen = none → Serves q 0x10 (.keygenSlhdsa a q) s fun t => runs t opKeygen (keyCmdBytes 3 c) ∧ t.sec = s.sec) ∧
        (s.powered 10 = true →
          (2 ≤ x.role → s.opOf opScrub = none → Serves q 0x10 (.memoryScrub a q) s fun t => runs t opScrub [] ∧ t.regs = s.regs) ∧
          (2 ≤ x.role → s.opOf opExport = none → s.exportable = true → s.mayProtect (range.1 / 8 * 8) (range.2 / 8 * 8 + 7) = true →
            Serves q 0x10 (.historyExport a q) s fun t => runs t opExport s.exportParams ∧
              t.hist.exportRange = some (range.1 / 8 * 8, range.2 / 8 * 8 + 7)) ∧
          (2 ≤ x.role → s.opOf opMigrate = none → s.migrateOk p = true →
            Serves q 0x10 (.partitionMigrate a q) s fun t => runs t opMigrate p ∧ (t.part (migratePart p)).run = .migrating ∧
              (t.part (migratePart p)).migrateTo = some (migrateList p) ∧ (t.part (migratePart p)).migrateSince = s.workTick))))

/-- R213, R215, R216, R391, R414, R451 to R453. -/
def Obligations.OperationsSuspendResumeAndEnd : Prop :=
  ∀ (s u : State) (a : Instant) (q : Req) (x : Session) (n : Nat), u = s.arrive a → s.powered 1 = true →
    (s.transportUp q.transport = true → q.version = 1 → s.session? q.session = some x → x.transport = q.transport →
      x.opened = true → x.highest < q.seq →
      let says_ (t : State) (op status : Nat) (payload : List Byte) : Prop := .reply (replyTo q op status payload) ∈ t.out
      (s.opByHandle q.handle = none →
        (Serves q 0x11 (.opSuspend a q) s fun t => says_ t 0x11 stUnknownHandle []) ∧ (Serves q 0x12 (.opResume a q) s fun t => says_ t 0x12 stUnknownHandle []) ∧
        (Serves q 0x13 (.opCancel a q) s fun t => says_ t 0x13 stUnknownHandle []) ∧ Serves q 0x14 (.opStatus a q) s fun t => says_ t 0x14 stUnknownHandle []) ∧
      ∀ j, s.opByHandle q.handle = some j →
        let o := s.op j
        (Serves q 0x14 (.opStatus a q) s fun t => says_ t 0x14 0 o.record ∧ (o.active = true → t.op j = o) ∧ (o.active = false → t.op j = {})) ∧
        (x.role < opRole o.type → (Serves q 0x11 (.opSuspend a q) s fun t => says_ t 0x11 stDenied o.record ∧ t.op j = o) ∧
          (Serves q 0x12 (.opResume a q) s fun t => says_ t 0x12 stDenied o.record ∧ t.op j = o) ∧
          Serves q 0x13 (.opCancel a q) s fun t => says_ t 0x13 stDenied o.record ∧ t.op j = o) ∧
        (opRole o.type ≤ x.role → s.inCommitPhase j = true → (Serves q 0x11 (.opSuspend a q) s fun t => says_ t 0x11 stCommitting o.record ∧ t.op j = o) ∧
          (Serves q 0x12 (.opResume a q) s fun t => says_ t 0x12 stCommitting o.record ∧ t.op j = o) ∧
          Serves q 0x13 (.opCancel a q) s fun t => says_ t 0x13 stCommitting o.record ∧ t.op j = o) ∧
        (opRole o.type ≤ x.role → s.inCommitPhase j = false →
          (o.state = .running → (Serves q 0x11 (.opSuspend a q) s fun t => t.op j = { o with state := .suspending } ∧ says_ t 0x11 0 (t.op j).record) ∧
            (Serves q 0x13 (.opCancel a q) s fun t => t.op j = { o with state := .cancelling } ∧ says_ t 0x13 0 (t.op j).record) ∧
            Serves q 0x12 (.opResume a q) s fun t => t.op j = o ∧ says_ t 0x12 stBadState o.record) ∧
          (o.state = .suspending → (Serves q 0x13 (.opCancel a q) s fun t => t.op j = { o with cancelDeferred := true } ∧ says_ t 0x13 0 (t.op j).record) ∧
            (Serves q 0x11 (.opSuspend a q) s fun t => t.op j = o ∧ says_ t 0x11 stBadState o.record) ∧
            Serves q 0x12 (.opResume a q) s fun t => t.op j = o ∧ says_ t 0x12 stBadState o.record) ∧
          (o.state = .suspended → (Serves q 0x12 (.opResume a q) s fun t => t.op j = { o with state := .resuming } ∧ says_ t 0x12 0 (t.op j).record) ∧
            (Serves q 0x13 (.opCancel a q) s fun t => t.op j = { o with state := .cancelling } ∧ says_ t 0x13 0 (t.op j).record) ∧
            Serves q 0x11 (.opSuspend a q) s fun t => t.op j = o ∧ says_ t 0x11 stBadState o.record) ∧
          (o.state = .resuming → (Serves q 0x11 (.opSuspend a q) s fun t => t.op j = { o with suspendDeferred := true } ∧ says_ t 0x11 0 (t.op j).record) ∧
            (Serves q 0x12 (.opResume a q) s fun t => t.op j = o ∧ says_ t 0x12 stBadState o.record) ∧
            Serves q 0x13 (.opCancel a q) s fun t => t.op j = o ∧ says_ t 0x13 stBadState o.record) ∧
          (o.state ∈ [.done, .failed, .cancelled, .cancelling] → (Serves q 0x11 (.opSuspend a q) s fun t => t.op j = o ∧ says_ t 0x11 stBadState o.record) ∧
            (Serves q 0x12 (.opResume a q) s fun t => t.op j = o ∧ says_ t 0x12 stBadState o.record) ∧
            Serves q 0x13 (.opCancel a q) s fun t => t.op j = o ∧ says_ t 0x13 stBadState o.record))) ∧
    (n < 16 →
      let o := s.op n
      (s.inCommitPhase n = true ∨ o.state ∈ [.idle, .suspended, .cancelling, .done, .failed, .cancelled] → Does (.opSafePoint a n) s u) ∧
      (s.inCommitPhase n = false → o.state = .suspending → o.type = opScrub → Yields (.opSafePoint a n) s fun t =>
        (t.op n).state = (if o.cancelDeferred then .cancelling else .suspended) ∧ (t.op n).suspendedAt = u.now ∧ (t.op n).pos = o.pos + 1) ∧
      (s.inCommitPhase n = false → o.state = .running → o.type = opScrub → Yields (.opSafePoint a n) s fun t =>
        (t.op n).state = .running ∧ (t.op n).pos = o.pos + 1) ∧
      (s.inCommitPhase n = false → o.state = .resuming → Yields (.opSafePoint a n) s fun t =>
        (t.op n).state = (if o.suspendDeferred then .suspending else .running)) ∧
      (o.state ∈ [.idle, .suspending, .suspended, .done, .failed, .cancelled] → Does (.opComplete a n) s u) ∧
      (o.state = .cancelling → Yields (.opComplete a n) s fun t => (t.op n).state = .cancelled ∧ (t.op n).ended = u.now ∧
        (o.type = opConfig → t.edp.stage = [] ∧ t.edp.owner = none) ∧
        (o.type = opExport → t.hist.exportRange = none ∧ t.blob Od.histExportFiles = [])) ∧
      (o.state = .running → o.type = opScrub → Yields (.opComplete a n) s fun t => (t.op n).state = .done ∧ (t.op n).progress = 1000 ∧
        (t.op n).ended = u.now) ∧
      (o.state = .running → o.type = opAttest → s.sec.secLost = false → s.usable 1 .attest = .ok →
        let body := s.statementBody o.started o.params
        Yields (.opComplete a n) s fun t => (t.op n).state = .done ∧ t.blob Od.attStatement = body ++ slhSign (s.slotKey 1) body) ∧
      (o.state = .running → o.type = opAttest → s.sec.secLost = true ∨ s.usable 1 .attest ≠ .ok →
        Yields (.opComplete a n) s fun t => (t.op n).state = .failed ∧ t.blob Od.attStatement = s.blob Od.attStatement) ∧
      (o.state = .running → o.type = opExport → s.piecesLeft n = 0 →
        let files := u.exportCfg o.params ++ u.exportDat o.params
        Yields (.opComplete a n) s fun t => t.hist.exportRange = none ∧ (t.op n).ended = u.now ∧
          (files.length ≤ 2 ^ 26 → (t.op n).state = .done ∧ t.blob Od.histExportFiles = files) ∧
          (2 ^ 26 < files.length → (t.op n).state = .failed ∧ t.blob Od.histExportFiles = s.blob Od.histExportFiles)) ∧
      (o.active = false → o.state ≠ .idle → o.ended + 600 * second ≤ u.now → Does (.opResultExpiry a n) s (u.setOp n {})) ∧
      (o.active = true ∨ o.state = .idle ∨ u.now < o.ended + 600 * second → Does (.opResultExpiry a n) s u) ∧
      (o.state = .suspended → o.suspendedAt + 3600 * second ≤ u.now → Yields (.opSuspendExpiry a n) s fun t =>
        (t.op n).state = .cancelled ∧ (t.op n).ended = u.now) ∧
      (o.state ≠ .suspended ∨ u.now < o.suspendedAt + 3600 * second → Does (.opSuspendExpiry a n) s u))

/-- R446, R471, R473, R474. -/
def Obligations.EventsAndTheCommit : Prop :=
  ∀ (s u : State) (a : Instant) (n v m : Nat), u = s.arrive a → s.powered 1 = true →
    (s.edp.commit = none → Does (.commitApply a) s u) ∧
    (∀ c, s.edp.commit = some c →
      (u.now < c.applyAt → Does (.commitApply a) s u) ∧
      (c.applyAt ≤ u.now → Yields (.commitApply a) s fun t => t.edp.commit = none ∧ t.edp.stage = [] ∧ t.edp.owner = none ∧
        (∀ w, s.edp.stage = [⟨Od.pairId, w⟩] → t.reg Od.pairId = ofBe w ∧ t.pair.enabled = s.pair.enabled))) ∧
    (n < 128 →
      let st := Od.evStatus n
      (Yields (.eventStatusWrite a n v 0) s fun t => (∀ f, bit (t.reg st) f = (bit (s.reg st) f && !(decide (f < 16) && bit v f && !standing n f))) ∧
        t.reg (Od.evEnableMask n) = s.reg (Od.evEnableMask n)) ∧
      (s.sourceUp n = true → ∀ f < 16, bit m f = true → Yields (.eventStatusWrite a n v m) s fun t => bit (t.reg st) f = true) ∧
      (Yields (.enableMaskWrite a n v) s fun t => t.reg (Od.evEnableMask n) = v % 2 ^ 32 ∧ t.reg st = s.reg st) ∧
      ((∀ f < 16, ¬(bit (s.reg st) f = true ∧ bit (v % 2 ^ 32) f = true ∧ bit (s.reg (Od.evEnableMask n)) f = false)) →
        Does (.enableMaskWrite a n v) s (u.setReg (Od.evEnableMask n) (v % 2 ^ 32))) ∧
      (s.session? m = none → Does (.eventHoldExpiry a m n) s u) ∧
      ∀ y, s.session? m = some y →
        (n ∉ y.evHeld ∨ (∃ t, Tab.find y.evSent n = some t ∧ u.now < t + ofMs 10) → Does (.eventHoldExpiry a m n) s u) ∧
        (n ∈ y.evHeld → (∀ t, Tab.find y.evSent n = some t → t + ofMs 10 ≤ u.now) → Yields (.eventHoldExpiry a m n) s fun t =>
          .event m n (s.reg st) (s.reg (Od.evResets n)) (s.reg (Od.evLastSet n)) y.evSeq ∈ t.out ∧
          ∃ z, t.session? m = some z ∧ n ∉ z.evHeld ∧ z.evSeq = y.evSeq + 1 ∧ Tab.find z.evSent n = some u.now))
end

