-- ==== Sys2Proof/Laws/State.lean ====
section
/-!
SUPPORT. What each update of the state leaves in each field: one lemma per update and field, true by computation.
-/

namespace Sys2Proof.Machine

open Sys2Proof

/-! ### `setReg` -/

@[simp] theorem State.setReg_regs (s : State) (k v : Nat) : (s.setReg k v).regs = Tab.put s.regs k v (odDefault k) := rfl
@[simp] theorem State.setReg_blobs (s : State) (k v : Nat) : (s.setReg k v).blobs = s.blobs := rfl
@[simp] theorem State.setReg_time (s : State) (k v : Nat) : (s.setReg k v).time = s.time := rfl
@[simp] theorem State.setReg_befores (s : State) (k v : Nat) : (s.setReg k v).befores = s.befores := rfl
@[simp] theorem State.setReg_workTick (s : State) (k v : Nat) : (s.setReg k v).workTick = s.workTick := rfl
@[simp] theorem State.setReg_ports (s : State) (k v : Nat) : (s.setReg k v).ports = s.ports := rfl
@[simp] theorem State.setReg_sw (s : State) (k v : Nat) : (s.setReg k v).sw = s.sw := rfl
@[simp] theorem State.setReg_dp (s : State) (k v : Nat) : (s.setReg k v).dp = s.dp := rfl
@[simp] theorem State.setReg_hist (s : State) (k v : Nat) : (s.setReg k v).hist = s.hist := rfl
@[simp] theorem State.setReg_parts (s : State) (k v : Nat) : (s.setReg k v).parts = s.parts := rfl
@[simp] theorem State.setReg_majorFrame (s : State) (k v : Nat) : (s.setReg k v).majorFrame = s.majorFrame := rfl
@[simp] theorem State.setReg_cores (s : State) (k v : Nat) : (s.setReg k v).cores = s.cores := rfl
@[simp] theorem State.setReg_pails (s : State) (k v : Nat) : (s.setReg k v).pails = s.pails := rfl
@[simp] theorem State.setReg_churn (s : State) (k v : Nat) : (s.setReg k v).churn = s.churn := rfl
@[simp] theorem State.setReg_loops (s : State) (k v : Nat) : (s.setReg k v).loops = s.loops := rfl
@[simp] theorem State.setReg_subs (s : State) (k v : Nat) : (s.setReg k v).subs = s.subs := rfl
@[simp] theorem State.setReg_pubs (s : State) (k v : Nat) : (s.setReg k v).pubs = s.pubs := rfl
@[simp] theorem State.setReg_pair (s : State) (k v : Nat) : (s.setReg k v).pair = s.pair := rfl
@[simp] theorem State.setReg_sec (s : State) (k v : Nat) : (s.setReg k v).sec = s.sec := rfl
@[simp] theorem State.setReg_health (s : State) (k v : Nat) : (s.setReg k v).health = s.health := rfl
@[simp] theorem State.setReg_edp (s : State) (k v : Nat) : (s.setReg k v).edp = s.edp := rfl
@[simp] theorem State.setReg_power (s : State) (k v : Nat) : (s.setReg k v).power = s.power := rfl
@[simp] theorem State.setReg_pins (s : State) (k v : Nat) : (s.setReg k v).pins = s.pins := rfl
@[simp] theorem State.setReg_mem (s : State) (k v : Nat) : (s.setReg k v).mem = s.mem := rfl
@[simp] theorem State.setReg_out (s : State) (k v : Nat) : (s.setReg k v).out = s.out := rfl
@[simp] theorem State.setReg_freeUsed (s : State) (k v : Nat) : (s.setReg k v).freeUsed = s.freeUsed := rfl
@[simp] theorem State.setReg_pending (s : State) (k v : Nat) : (s.setReg k v).pending = s.pending := rfl

/-! ### `setBlob` -/

@[simp] theorem State.setBlob_regs (s : State) (k : Nat) (v : List Byte) : (s.setBlob k v).regs = s.regs := rfl
@[simp] theorem State.setBlob_blobs (s : State) (k : Nat) (v : List Byte) : (s.setBlob k v).blobs = Tab.put s.blobs k v (blobDefault k) := rfl
@[simp] theorem State.setBlob_time (s : State) (k : Nat) (v : List Byte) : (s.setBlob k v).time = s.time := rfl
@[simp] theorem State.setBlob_befores (s : State) (k : Nat) (v : List Byte) : (s.setBlob k v).befores = s.befores := rfl
@[simp] theorem State.setBlob_workTick (s : State) (k : Nat) (v : List Byte) : (s.setBlob k v).workTick = s.workTick := rfl
@[simp] theorem State.setBlob_ports (s : State) (k : Nat) (v : List Byte) : (s.setBlob k v).ports = s.ports := rfl
@[simp] theorem State.setBlob_sw (s : State) (k : Nat) (v : List Byte) : (s.setBlob k v).sw = s.sw := rfl
@[simp] theorem State.setBlob_dp (s : State) (k : Nat) (v : List Byte) : (s.setBlob k v).dp = s.dp := rfl
@[simp] theorem State.setBlob_hist (s : State) (k : Nat) (v : List Byte) : (s.setBlob k v).hist = s.hist := rfl
@[simp] theorem State.setBlob_parts (s : State) (k : Nat) (v : List Byte) : (s.setBlob k v).parts = s.parts := rfl
@[simp] theorem State.setBlob_majorFrame (s : State) (k : Nat) (v : List Byte) : (s.setBlob k v).majorFrame = s.majorFrame := rfl
@[simp] theorem State.setBlob_cores (s : State) (k : Nat) (v : List Byte) : (s.setBlob k v).cores = s.cores := rfl
@[simp] theorem State.setBlob_pails (s : State) (k : Nat) (v : List Byte) : (s.setBlob k v).pails = s.pails := rfl
@[simp] theorem State.setBlob_churn (s : State) (k : Nat) (v : List Byte) : (s.setBlob k v).churn = s.churn := rfl
@[simp] theorem State.setBlob_loops (s : State) (k : Nat) (v : List Byte) : (s.setBlob k v).loops = s.loops := rfl
@[simp] theorem State.setBlob_subs (s : State) (k : Nat) (v : List Byte) : (s.setBlob k v).subs = s.subs := rfl
@[simp] theorem State.setBlob_pubs (s : State) (k : Nat) (v : List Byte) : (s.setBlob k v).pubs = s.pubs := rfl
@[simp] theorem State.setBlob_pair (s : State) (k : Nat) (v : List Byte) : (s.setBlob k v).pair = s.pair := rfl
@[simp] theorem State.setBlob_sec (s : State) (k : Nat) (v : List Byte) : (s.setBlob k v).sec = s.sec := rfl
@[simp] theorem State.setBlob_health (s : State) (k : Nat) (v : List Byte) : (s.setBlob k v).health = s.health := rfl
@[simp] theorem State.setBlob_edp (s : State) (k : Nat) (v : List Byte) : (s.setBlob k v).edp = s.edp := rfl
@[simp] theorem State.setBlob_power (s : State) (k : Nat) (v : List Byte) : (s.setBlob k v).power = s.power := rfl
@[simp] theorem State.setBlob_pins (s : State) (k : Nat) (v : List Byte) : (s.setBlob k v).pins = s.pins := rfl
@[simp] theorem State.setBlob_mem (s : State) (k : Nat) (v : List Byte) : (s.setBlob k v).mem = s.mem := rfl
@[simp] theorem State.setBlob_out (s : State) (k : Nat) (v : List Byte) : (s.setBlob k v).out = s.out := rfl
@[simp] theorem State.setBlob_freeUsed (s : State) (k : Nat) (v : List Byte) : (s.setBlob k v).freeUsed = s.freeUsed := rfl
@[simp] theorem State.setBlob_pending (s : State) (k : Nat) (v : List Byte) : (s.setBlob k v).pending = s.pending := rfl

/-! ### `setPort` -/

@[simp] theorem State.setPort_regs (s : State) (p : Nat) (x : Port) : (s.setPort p x).regs = s.regs := rfl
@[simp] theorem State.setPort_blobs (s : State) (p : Nat) (x : Port) : (s.setPort p x).blobs = s.blobs := rfl
@[simp] theorem State.setPort_time (s : State) (p : Nat) (x : Port) : (s.setPort p x).time = s.time := rfl
@[simp] theorem State.setPort_befores (s : State) (p : Nat) (x : Port) : (s.setPort p x).befores = s.befores := rfl
@[simp] theorem State.setPort_workTick (s : State) (p : Nat) (x : Port) : (s.setPort p x).workTick = s.workTick := rfl
@[simp] theorem State.setPort_ports (s : State) (p : Nat) (x : Port) : (s.setPort p x).ports = Tab.put s.ports p x {} := rfl
@[simp] theorem State.setPort_sw (s : State) (p : Nat) (x : Port) : (s.setPort p x).sw = s.sw := rfl
@[simp] theorem State.setPort_dp (s : State) (p : Nat) (x : Port) : (s.setPort p x).dp = s.dp := rfl
@[simp] theorem State.setPort_hist (s : State) (p : Nat) (x : Port) : (s.setPort p x).hist = s.hist := rfl
@[simp] theorem State.setPort_parts (s : State) (p : Nat) (x : Port) : (s.setPort p x).parts = s.parts := rfl
@[simp] theorem State.setPort_majorFrame (s : State) (p : Nat) (x : Port) : (s.setPort p x).majorFrame = s.majorFrame := rfl
@[simp] theorem State.setPort_cores (s : State) (p : Nat) (x : Port) : (s.setPort p x).cores = s.cores := rfl
@[simp] theorem State.setPort_pails (s : State) (p : Nat) (x : Port) : (s.setPort p x).pails = s.pails := rfl
@[simp] theorem State.setPort_churn (s : State) (p : Nat) (x : Port) : (s.setPort p x).churn = s.churn := rfl
@[simp] theorem State.setPort_loops (s : State) (p : Nat) (x : Port) : (s.setPort p x).loops = s.loops := rfl
@[simp] theorem State.setPort_subs (s : State) (p : Nat) (x : Port) : (s.setPort p x).subs = s.subs := rfl
@[simp] theorem State.setPort_pubs (s : State) (p : Nat) (x : Port) : (s.setPort p x).pubs = s.pubs := rfl
@[simp] theorem State.setPort_pair (s : State) (p : Nat) (x : Port) : (s.setPort p x).pair = s.pair := rfl
@[simp] theorem State.setPort_sec (s : State) (p : Nat) (x : Port) : (s.setPort p x).sec = s.sec := rfl
@[simp] theorem State.setPort_health (s : State) (p : Nat) (x : Port) : (s.setPort p x).health = s.health := rfl
@[simp] theorem State.setPort_edp (s : State) (p : Nat) (x : Port) : (s.setPort p x).edp = s.edp := rfl
@[simp] theorem State.setPort_power (s : State) (p : Nat) (x : Port) : (s.setPort p x).power = s.power := rfl
@[simp] theorem State.setPort_pins (s : State) (p : Nat) (x : Port) : (s.setPort p x).pins = s.pins := rfl
@[simp] theorem State.setPort_mem (s : State) (p : Nat) (x : Port) : (s.setPort p x).mem = s.mem := rfl
@[simp] theorem State.setPort_out (s : State) (p : Nat) (x : Port) : (s.setPort p x).out = s.out := rfl
@[simp] theorem State.setPort_freeUsed (s : State) (p : Nat) (x : Port) : (s.setPort p x).freeUsed = s.freeUsed := rfl
@[simp] theorem State.setPort_pending (s : State) (p : Nat) (x : Port) : (s.setPort p x).pending = s.pending := rfl

/-! ### `setPtpPort` -/

@[simp] theorem State.setPtpPort_regs (s : State) (p : Nat) (x : PtpPort) : (s.setPtpPort p x).regs = s.regs := rfl
@[simp] theorem State.setPtpPort_blobs (s : State) (p : Nat) (x : PtpPort) : (s.setPtpPort p x).blobs = s.blobs := rfl
@[simp] theorem State.setPtpPort_time (s : State) (p : Nat) (x : PtpPort) : (s.setPtpPort p x).time = { s.time with ptp := Tab.put s.time.ptp p x {} } := rfl
@[simp] theorem State.setPtpPort_befores (s : State) (p : Nat) (x : PtpPort) : (s.setPtpPort p x).befores = s.befores := rfl
@[simp] theorem State.setPtpPort_workTick (s : State) (p : Nat) (x : PtpPort) : (s.setPtpPort p x).workTick = s.workTick := rfl
@[simp] theorem State.setPtpPort_ports (s : State) (p : Nat) (x : PtpPort) : (s.setPtpPort p x).ports = s.ports := rfl
@[simp] theorem State.setPtpPort_sw (s : State) (p : Nat) (x : PtpPort) : (s.setPtpPort p x).sw = s.sw := rfl
@[simp] theorem State.setPtpPort_dp (s : State) (p : Nat) (x : PtpPort) : (s.setPtpPort p x).dp = s.dp := rfl
@[simp] theorem State.setPtpPort_hist (s : State) (p : Nat) (x : PtpPort) : (s.setPtpPort p x).hist = s.hist := rfl
@[simp] theorem State.setPtpPort_parts (s : State) (p : Nat) (x : PtpPort) : (s.setPtpPort p x).parts = s.parts := rfl
@[simp] theorem State.setPtpPort_majorFrame (s : State) (p : Nat) (x : PtpPort) : (s.setPtpPort p x).majorFrame = s.majorFrame := rfl
@[simp] theorem State.setPtpPort_cores (s : State) (p : Nat) (x : PtpPort) : (s.setPtpPort p x).cores = s.cores := rfl
@[simp] theorem State.setPtpPort_pails (s : State) (p : Nat) (x : PtpPort) : (s.setPtpPort p x).pails = s.pails := rfl
@[simp] theorem State.setPtpPort_churn (s : State) (p : Nat) (x : PtpPort) : (s.setPtpPort p x).churn = s.churn := rfl
@[simp] theorem State.setPtpPort_loops (s : State) (p : Nat) (x : PtpPort) : (s.setPtpPort p x).loops = s.loops := rfl
@[simp] theorem State.setPtpPort_subs (s : State) (p : Nat) (x : PtpPort) : (s.setPtpPort p x).subs = s.subs := rfl
@[simp] theorem State.setPtpPort_pubs (s : State) (p : Nat) (x : PtpPort) : (s.setPtpPort p x).pubs = s.pubs := rfl
@[simp] theorem State.setPtpPort_pair (s : State) (p : Nat) (x : PtpPort) : (s.setPtpPort p x).pair = s.pair := rfl
@[simp] theorem State.setPtpPort_sec (s : State) (p : Nat) (x : PtpPort) : (s.setPtpPort p x).sec = s.sec := rfl
@[simp] theorem State.setPtpPort_health (s : State) (p : Nat) (x : PtpPort) : (s.setPtpPort p x).health = s.health := rfl
@[simp] theorem State.setPtpPort_edp (s : State) (p : Nat) (x : PtpPort) : (s.setPtpPort p x).edp = s.edp := rfl
@[simp] theorem State.setPtpPort_power (s : State) (p : Nat) (x : PtpPort) : (s.setPtpPort p x).power = s.power := rfl
@[simp] theorem State.setPtpPort_pins (s : State) (p : Nat) (x : PtpPort) : (s.setPtpPort p x).pins = s.pins := rfl
@[simp] theorem State.setPtpPort_mem (s : State) (p : Nat) (x : PtpPort) : (s.setPtpPort p x).mem = s.mem := rfl
@[simp] theorem State.setPtpPort_out (s : State) (p : Nat) (x : PtpPort) : (s.setPtpPort p x).out = s.out := rfl
@[simp] theorem State.setPtpPort_freeUsed (s : State) (p : Nat) (x : PtpPort) : (s.setPtpPort p x).freeUsed = s.freeUsed := rfl
@[simp] theorem State.setPtpPort_pending (s : State) (p : Nat) (x : PtpPort) : (s.setPtpPort p x).pending = s.pending := rfl

/-! ### `setStream` -/

@[simp] theorem State.setStream_regs (s : State) (n : Nat) (x : Stream) : (s.setStream n x).regs = s.regs := rfl
@[simp] theorem State.setStream_blobs (s : State) (n : Nat) (x : Stream) : (s.setStream n x).blobs = s.blobs := rfl
@[simp] theorem State.setStream_time (s : State) (n : Nat) (x : Stream) : (s.setStream n x).time = s.time := rfl
@[simp] theorem State.setStream_befores (s : State) (n : Nat) (x : Stream) : (s.setStream n x).befores = s.befores := rfl
@[simp] theorem State.setStream_workTick (s : State) (n : Nat) (x : Stream) : (s.setStream n x).workTick = s.workTick := rfl
@[simp] theorem State.setStream_ports (s : State) (n : Nat) (x : Stream) : (s.setStream n x).ports = s.ports := rfl
@[simp] theorem State.setStream_sw (s : State) (n : Nat) (x : Stream) : (s.setStream n x).sw = s.sw := rfl
@[simp] theorem State.setStream_dp (s : State) (n : Nat) (x : Stream) : (s.setStream n x).dp = { s.dp with streams := Tab.put s.dp.streams n x {} } := rfl
@[simp] theorem State.setStream_hist (s : State) (n : Nat) (x : Stream) : (s.setStream n x).hist = s.hist := rfl
@[simp] theorem State.setStream_parts (s : State) (n : Nat) (x : Stream) : (s.setStream n x).parts = s.parts := rfl
@[simp] theorem State.setStream_majorFrame (s : State) (n : Nat) (x : Stream) : (s.setStream n x).majorFrame = s.majorFrame := rfl
@[simp] theorem State.setStream_cores (s : State) (n : Nat) (x : Stream) : (s.setStream n x).cores = s.cores := rfl
@[simp] theorem State.setStream_pails (s : State) (n : Nat) (x : Stream) : (s.setStream n x).pails = s.pails := rfl
@[simp] theorem State.setStream_churn (s : State) (n : Nat) (x : Stream) : (s.setStream n x).churn = s.churn := rfl
@[simp] theorem State.setStream_loops (s : State) (n : Nat) (x : Stream) : (s.setStream n x).loops = s.loops := rfl
@[simp] theorem State.setStream_subs (s : State) (n : Nat) (x : Stream) : (s.setStream n x).subs = s.subs := rfl
@[simp] theorem State.setStream_pubs (s : State) (n : Nat) (x : Stream) : (s.setStream n x).pubs = s.pubs := rfl
@[simp] theorem State.setStream_pair (s : State) (n : Nat) (x : Stream) : (s.setStream n x).pair = s.pair := rfl
@[simp] theorem State.setStream_sec (s : State) (n : Nat) (x : Stream) : (s.setStream n x).sec = s.sec := rfl
@[simp] theorem State.setStream_health (s : State) (n : Nat) (x : Stream) : (s.setStream n x).health = s.health := rfl
@[simp] theorem State.setStream_edp (s : State) (n : Nat) (x : Stream) : (s.setStream n x).edp = s.edp := rfl
@[simp] theorem State.setStream_power (s : State) (n : Nat) (x : Stream) : (s.setStream n x).power = s.power := rfl
@[simp] theorem State.setStream_pins (s : State) (n : Nat) (x : Stream) : (s.setStream n x).pins = s.pins := rfl
@[simp] theorem State.setStream_mem (s : State) (n : Nat) (x : Stream) : (s.setStream n x).mem = s.mem := rfl
@[simp] theorem State.setStream_out (s : State) (n : Nat) (x : Stream) : (s.setStream n x).out = s.out := rfl
@[simp] theorem State.setStream_freeUsed (s : State) (n : Nat) (x : Stream) : (s.setStream n x).freeUsed = s.freeUsed := rfl
@[simp] theorem State.setStream_pending (s : State) (n : Nat) (x : Stream) : (s.setStream n x).pending = s.pending := rfl

/-! ### `setChan` -/

@[simp] theorem State.setChan_regs (s : State) (c : Nat) (x : Channel) : (s.setChan c x).regs = s.regs := rfl
@[simp] theorem State.setChan_blobs (s : State) (c : Nat) (x : Channel) : (s.setChan c x).blobs = s.blobs := rfl
@[simp] theorem State.setChan_time (s : State) (c : Nat) (x : Channel) : (s.setChan c x).time = s.time := rfl
@[simp] theorem State.setChan_befores (s : State) (c : Nat) (x : Channel) : (s.setChan c x).befores = s.befores := rfl
@[simp] theorem State.setChan_workTick (s : State) (c : Nat) (x : Channel) : (s.setChan c x).workTick = s.workTick := rfl
@[simp] theorem State.setChan_ports (s : State) (c : Nat) (x : Channel) : (s.setChan c x).ports = s.ports := rfl
@[simp] theorem State.setChan_sw (s : State) (c : Nat) (x : Channel) : (s.setChan c x).sw = s.sw := rfl
@[simp] theorem State.setChan_dp (s : State) (c : Nat) (x : Channel) : (s.setChan c x).dp = { s.dp with channels := Tab.put s.dp.channels c x {} } := rfl
@[simp] theorem State.setChan_hist (s : State) (c : Nat) (x : Channel) : (s.setChan c x).hist = s.hist := rfl
@[simp] theorem State.setChan_parts (s : State) (c : Nat) (x : Channel) : (s.setChan c x).parts = s.parts := rfl
@[simp] theorem State.setChan_majorFrame (s : State) (c : Nat) (x : Channel) : (s.setChan c x).majorFrame = s.majorFrame := rfl
@[simp] theorem State.setChan_cores (s : State) (c : Nat) (x : Channel) : (s.setChan c x).cores = s.cores := rfl
@[simp] theorem State.setChan_pails (s : State) (c : Nat) (x : Channel) : (s.setChan c x).pails = s.pails := rfl
@[simp] theorem State.setChan_churn (s : State) (c : Nat) (x : Channel) : (s.setChan c x).churn = s.churn := rfl
@[simp] theorem State.setChan_loops (s : State) (c : Nat) (x : Channel) : (s.setChan c x).loops = s.loops := rfl
@[simp] theorem State.setChan_subs (s : State) (c : Nat) (x : Channel) : (s.setChan c x).subs = s.subs := rfl
@[simp] theorem State.setChan_pubs (s : State) (c : Nat) (x : Channel) : (s.setChan c x).pubs = s.pubs := rfl
@[simp] theorem State.setChan_pair (s : State) (c : Nat) (x : Channel) : (s.setChan c x).pair = s.pair := rfl
@[simp] theorem State.setChan_sec (s : State) (c : Nat) (x : Channel) : (s.setChan c x).sec = s.sec := rfl
@[simp] theorem State.setChan_health (s : State) (c : Nat) (x : Channel) : (s.setChan c x).health = s.health := rfl
@[simp] theorem State.setChan_edp (s : State) (c : Nat) (x : Channel) : (s.setChan c x).edp = s.edp := rfl
@[simp] theorem State.setChan_power (s : State) (c : Nat) (x : Channel) : (s.setChan c x).power = s.power := rfl
@[simp] theorem State.setChan_pins (s : State) (c : Nat) (x : Channel) : (s.setChan c x).pins = s.pins := rfl
@[simp] theorem State.setChan_mem (s : State) (c : Nat) (x : Channel) : (s.setChan c x).mem = s.mem := rfl
@[simp] theorem State.setChan_out (s : State) (c : Nat) (x : Channel) : (s.setChan c x).out = s.out := rfl
@[simp] theorem State.setChan_freeUsed (s : State) (c : Nat) (x : Channel) : (s.setChan c x).freeUsed = s.freeUsed := rfl
@[simp] theorem State.setChan_pending (s : State) (c : Nat) (x : Channel) : (s.setChan c x).pending = s.pending := rfl

/-! ### `setFgroup` -/

@[simp] theorem State.setFgroup_regs (s : State) (g : Nat) (x : FreqGroup) : (s.setFgroup g x).regs = s.regs := rfl
@[simp] theorem State.setFgroup_blobs (s : State) (g : Nat) (x : FreqGroup) : (s.setFgroup g x).blobs = s.blobs := rfl
@[simp] theorem State.setFgroup_time (s : State) (g : Nat) (x : FreqGroup) : (s.setFgroup g x).time = s.time := rfl
@[simp] theorem State.setFgroup_befores (s : State) (g : Nat) (x : FreqGroup) : (s.setFgroup g x).befores = s.befores := rfl
@[simp] theorem State.setFgroup_workTick (s : State) (g : Nat) (x : FreqGroup) : (s.setFgroup g x).workTick = s.workTick := rfl
@[simp] theorem State.setFgroup_ports (s : State) (g : Nat) (x : FreqGroup) : (s.setFgroup g x).ports = s.ports := rfl
@[simp] theorem State.setFgroup_sw (s : State) (g : Nat) (x : FreqGroup) : (s.setFgroup g x).sw = s.sw := rfl
@[simp] theorem State.setFgroup_dp (s : State) (g : Nat) (x : FreqGroup) : (s.setFgroup g x).dp = { s.dp with groups := Tab.put s.dp.groups g x {} } := rfl
@[simp] theorem State.setFgroup_hist (s : State) (g : Nat) (x : FreqGroup) : (s.setFgroup g x).hist = s.hist := rfl
@[simp] theorem State.setFgroup_parts (s : State) (g : Nat) (x : FreqGroup) : (s.setFgroup g x).parts = s.parts := rfl
@[simp] theorem State.setFgroup_majorFrame (s : State) (g : Nat) (x : FreqGroup) : (s.setFgroup g x).majorFrame = s.majorFrame := rfl
@[simp] theorem State.setFgroup_cores (s : State) (g : Nat) (x : FreqGroup) : (s.setFgroup g x).cores = s.cores := rfl
@[simp] theorem State.setFgroup_pails (s : State) (g : Nat) (x : FreqGroup) : (s.setFgroup g x).pails = s.pails := rfl
@[simp] theorem State.setFgroup_churn (s : State) (g : Nat) (x : FreqGroup) : (s.setFgroup g x).churn = s.churn := rfl
@[simp] theorem State.setFgroup_loops (s : State) (g : Nat) (x : FreqGroup) : (s.setFgroup g x).loops = s.loops := rfl
@[simp] theorem State.setFgroup_subs (s : State) (g : Nat) (x : FreqGroup) : (s.setFgroup g x).subs = s.subs := rfl
@[simp] theorem State.setFgroup_pubs (s : State) (g : Nat) (x : FreqGroup) : (s.setFgroup g x).pubs = s.pubs := rfl
@[simp] theorem State.setFgroup_pair (s : State) (g : Nat) (x : FreqGroup) : (s.setFgroup g x).pair = s.pair := rfl
@[simp] theorem State.setFgroup_sec (s : State) (g : Nat) (x : FreqGroup) : (s.setFgroup g x).sec = s.sec := rfl
@[simp] theorem State.setFgroup_health (s : State) (g : Nat) (x : FreqGroup) : (s.setFgroup g x).health = s.health := rfl
@[simp] theorem State.setFgroup_edp (s : State) (g : Nat) (x : FreqGroup) : (s.setFgroup g x).edp = s.edp := rfl
@[simp] theorem State.setFgroup_power (s : State) (g : Nat) (x : FreqGroup) : (s.setFgroup g x).power = s.power := rfl
@[simp] theorem State.setFgroup_pins (s : State) (g : Nat) (x : FreqGroup) : (s.setFgroup g x).pins = s.pins := rfl
@[simp] theorem State.setFgroup_mem (s : State) (g : Nat) (x : FreqGroup) : (s.setFgroup g x).mem = s.mem := rfl
@[simp] theorem State.setFgroup_out (s : State) (g : Nat) (x : FreqGroup) : (s.setFgroup g x).out = s.out := rfl
@[simp] theorem State.setFgroup_freeUsed (s : State) (g : Nat) (x : FreqGroup) : (s.setFgroup g x).freeUsed = s.freeUsed := rfl
@[simp] theorem State.setFgroup_pending (s : State) (g : Nat) (x : FreqGroup) : (s.setFgroup g x).pending = s.pending := rfl

/-! ### `setWindow` -/

@[simp] theorem State.setWindow_regs (s : State) (w : Nat) (x : Window) : (s.setWindow w x).regs = s.regs := rfl
@[simp] theorem State.setWindow_blobs (s : State) (w : Nat) (x : Window) : (s.setWindow w x).blobs = s.blobs := rfl
@[simp] theorem State.setWindow_time (s : State) (w : Nat) (x : Window) : (s.setWindow w x).time = s.time := rfl
@[simp] theorem State.setWindow_befores (s : State) (w : Nat) (x : Window) : (s.setWindow w x).befores = s.befores := rfl
@[simp] theorem State.setWindow_workTick (s : State) (w : Nat) (x : Window) : (s.setWindow w x).workTick = s.workTick := rfl
@[simp] theorem State.setWindow_ports (s : State) (w : Nat) (x : Window) : (s.setWindow w x).ports = s.ports := rfl
@[simp] theorem State.setWindow_sw (s : State) (w : Nat) (x : Window) : (s.setWindow w x).sw = s.sw := rfl
@[simp] theorem State.setWindow_dp (s : State) (w : Nat) (x : Window) : (s.setWindow w x).dp = s.dp := rfl
@[simp] theorem State.setWindow_hist (s : State) (w : Nat) (x : Window) : (s.setWindow w x).hist = { s.hist with windows := Tab.put s.hist.windows w x {} } := rfl
@[simp] theorem State.setWindow_parts (s : State) (w : Nat) (x : Window) : (s.setWindow w x).parts = s.parts := rfl
@[simp] theorem State.setWindow_majorFrame (s : State) (w : Nat) (x : Window) : (s.setWindow w x).majorFrame = s.majorFrame := rfl
@[simp] theorem State.setWindow_cores (s : State) (w : Nat) (x : Window) : (s.setWindow w x).cores = s.cores := rfl
@[simp] theorem State.setWindow_pails (s : State) (w : Nat) (x : Window) : (s.setWindow w x).pails = s.pails := rfl
@[simp] theorem State.setWindow_churn (s : State) (w : Nat) (x : Window) : (s.setWindow w x).churn = s.churn := rfl
@[simp] theorem State.setWindow_loops (s : State) (w : Nat) (x : Window) : (s.setWindow w x).loops = s.loops := rfl
@[simp] theorem State.setWindow_subs (s : State) (w : Nat) (x : Window) : (s.setWindow w x).subs = s.subs := rfl
@[simp] theorem State.setWindow_pubs (s : State) (w : Nat) (x : Window) : (s.setWindow w x).pubs = s.pubs := rfl
@[simp] theorem State.setWindow_pair (s : State) (w : Nat) (x : Window) : (s.setWindow w x).pair = s.pair := rfl
@[simp] theorem State.setWindow_sec (s : State) (w : Nat) (x : Window) : (s.setWindow w x).sec = s.sec := rfl
@[simp] theorem State.setWindow_health (s : State) (w : Nat) (x : Window) : (s.setWindow w x).health = s.health := rfl
@[simp] theorem State.setWindow_edp (s : State) (w : Nat) (x : Window) : (s.setWindow w x).edp = s.edp := rfl
@[simp] theorem State.setWindow_power (s : State) (w : Nat) (x : Window) : (s.setWindow w x).power = s.power := rfl
@[simp] theorem State.setWindow_pins (s : State) (w : Nat) (x : Window) : (s.setWindow w x).pins = s.pins := rfl
@[simp] theorem State.setWindow_mem (s : State) (w : Nat) (x : Window) : (s.setWindow w x).mem = s.mem := rfl
@[simp] theorem State.setWindow_out (s : State) (w : Nat) (x : Window) : (s.setWindow w x).out = s.out := rfl
@[simp] theorem State.setWindow_freeUsed (s : State) (w : Nat) (x : Window) : (s.setWindow w x).freeUsed = s.freeUsed := rfl
@[simp] theorem State.setWindow_pending (s : State) (w : Nat) (x : Window) : (s.setWindow w x).pending = s.pending := rfl

/-! ### `setPart` -/

@[simp] theorem State.setPart_regs (s : State) (n : Nat) (x : Partition) : (s.setPart n x).regs = s.regs := rfl
@[simp] theorem State.setPart_blobs (s : State) (n : Nat) (x : Partition) : (s.setPart n x).blobs = s.blobs := rfl
@[simp] theorem State.setPart_time (s : State) (n : Nat) (x : Partition) : (s.setPart n x).time = s.time := rfl
@[simp] theorem State.setPart_befores (s : State) (n : Nat) (x : Partition) : (s.setPart n x).befores = s.befores := rfl
@[simp] theorem State.setPart_workTick (s : State) (n : Nat) (x : Partition) : (s.setPart n x).workTick = s.workTick := rfl
@[simp] theorem State.setPart_ports (s : State) (n : Nat) (x : Partition) : (s.setPart n x).ports = s.ports := rfl
@[simp] theorem State.setPart_sw (s : State) (n : Nat) (x : Partition) : (s.setPart n x).sw = s.sw := rfl
@[simp] theorem State.setPart_dp (s : State) (n : Nat) (x : Partition) : (s.setPart n x).dp = s.dp := rfl
@[simp] theorem State.setPart_hist (s : State) (n : Nat) (x : Partition) : (s.setPart n x).hist = s.hist := rfl
@[simp] theorem State.setPart_parts (s : State) (n : Nat) (x : Partition) : (s.setPart n x).parts = Tab.put s.parts n x {} := rfl
@[simp] theorem State.setPart_majorFrame (s : State) (n : Nat) (x : Partition) : (s.setPart n x).majorFrame = s.majorFrame := rfl
@[simp] theorem State.setPart_cores (s : State) (n : Nat) (x : Partition) : (s.setPart n x).cores = s.cores := rfl
@[simp] theorem State.setPart_pails (s : State) (n : Nat) (x : Partition) : (s.setPart n x).pails = s.pails := rfl
@[simp] theorem State.setPart_churn (s : State) (n : Nat) (x : Partition) : (s.setPart n x).churn = s.churn := rfl
@[simp] theorem State.setPart_loops (s : State) (n : Nat) (x : Partition) : (s.setPart n x).loops = s.loops := rfl
@[simp] theorem State.setPart_subs (s : State) (n : Nat) (x : Partition) : (s.setPart n x).subs = s.subs := rfl
@[simp] theorem State.setPart_pubs (s : State) (n : Nat) (x : Partition) : (s.setPart n x).pubs = s.pubs := rfl
@[simp] theorem State.setPart_pair (s : State) (n : Nat) (x : Partition) : (s.setPart n x).pair = s.pair := rfl
@[simp] theorem State.setPart_sec (s : State) (n : Nat) (x : Partition) : (s.setPart n x).sec = s.sec := rfl
@[simp] theorem State.setPart_health (s : State) (n : Nat) (x : Partition) : (s.setPart n x).health = s.health := rfl
@[simp] theorem State.setPart_edp (s : State) (n : Nat) (x : Partition) : (s.setPart n x).edp = s.edp := rfl
@[simp] theorem State.setPart_power (s : State) (n : Nat) (x : Partition) : (s.setPart n x).power = s.power := rfl
@[simp] theorem State.setPart_pins (s : State) (n : Nat) (x : Partition) : (s.setPart n x).pins = s.pins := rfl
@[simp] theorem State.setPart_mem (s : State) (n : Nat) (x : Partition) : (s.setPart n x).mem = s.mem := rfl
@[simp] theorem State.setPart_out (s : State) (n : Nat) (x : Partition) : (s.setPart n x).out = s.out := rfl
@[simp] theorem State.setPart_freeUsed (s : State) (n : Nat) (x : Partition) : (s.setPart n x).freeUsed = s.freeUsed := rfl
@[simp] theorem State.setPart_pending (s : State) (n : Nat) (x : Partition) : (s.setPart n x).pending = s.pending := rfl

/-! ### `setPail` -/

@[simp] theorem State.setPail_regs (s : State) (p : Nat) (x : Pail) : (s.setPail p x).regs = s.regs := rfl
@[simp] theorem State.setPail_blobs (s : State) (p : Nat) (x : Pail) : (s.setPail p x).blobs = s.blobs := rfl
@[simp] theorem State.setPail_time (s : State) (p : Nat) (x : Pail) : (s.setPail p x).time = s.time := rfl
@[simp] theorem State.setPail_befores (s : State) (p : Nat) (x : Pail) : (s.setPail p x).befores = s.befores := rfl
@[simp] theorem State.setPail_workTick (s : State) (p : Nat) (x : Pail) : (s.setPail p x).workTick = s.workTick := rfl
@[simp] theorem State.setPail_ports (s : State) (p : Nat) (x : Pail) : (s.setPail p x).ports = s.ports := rfl
@[simp] theorem State.setPail_sw (s : State) (p : Nat) (x : Pail) : (s.setPail p x).sw = s.sw := rfl
@[simp] theorem State.setPail_dp (s : State) (p : Nat) (x : Pail) : (s.setPail p x).dp = s.dp := rfl
@[simp] theorem State.setPail_hist (s : State) (p : Nat) (x : Pail) : (s.setPail p x).hist = s.hist := rfl
@[simp] theorem State.setPail_parts (s : State) (p : Nat) (x : Pail) : (s.setPail p x).parts = s.parts := rfl
@[simp] theorem State.setPail_majorFrame (s : State) (p : Nat) (x : Pail) : (s.setPail p x).majorFrame = s.majorFrame := rfl
@[simp] theorem State.setPail_cores (s : State) (p : Nat) (x : Pail) : (s.setPail p x).cores = s.cores := rfl
@[simp] theorem State.setPail_pails (s : State) (p : Nat) (x : Pail) : (s.setPail p x).pails = Tab.put s.pails p x {} := rfl
@[simp] theorem State.setPail_churn (s : State) (p : Nat) (x : Pail) : (s.setPail p x).churn = s.churn := rfl
@[simp] theorem State.setPail_loops (s : State) (p : Nat) (x : Pail) : (s.setPail p x).loops = s.loops := rfl
@[simp] theorem State.setPail_subs (s : State) (p : Nat) (x : Pail) : (s.setPail p x).subs = s.subs := rfl
@[simp] theorem State.setPail_pubs (s : State) (p : Nat) (x : Pail) : (s.setPail p x).pubs = s.pubs := rfl
@[simp] theorem State.setPail_pair (s : State) (p : Nat) (x : Pail) : (s.setPail p x).pair = s.pair := rfl
@[simp] theorem State.setPail_sec (s : State) (p : Nat) (x : Pail) : (s.setPail p x).sec = s.sec := rfl
@[simp] theorem State.setPail_health (s : State) (p : Nat) (x : Pail) : (s.setPail p x).health = s.health := rfl
@[simp] theorem State.setPail_edp (s : State) (p : Nat) (x : Pail) : (s.setPail p x).edp = s.edp := rfl
@[simp] theorem State.setPail_power (s : State) (p : Nat) (x : Pail) : (s.setPail p x).power = s.power := rfl
@[simp] theorem State.setPail_pins (s : State) (p : Nat) (x : Pail) : (s.setPail p x).pins = s.pins := rfl
@[simp] theorem State.setPail_mem (s : State) (p : Nat) (x : Pail) : (s.setPail p x).mem = s.mem := rfl
@[simp] theorem State.setPail_out (s : State) (p : Nat) (x : Pail) : (s.setPail p x).out = s.out := rfl
@[simp] theorem State.setPail_freeUsed (s : State) (p : Nat) (x : Pail) : (s.setPail p x).freeUsed = s.freeUsed := rfl
@[simp] theorem State.setPail_pending (s : State) (p : Nat) (x : Pail) : (s.setPail p x).pending = s.pending := rfl

/-! ### `setLoop` -/

@[simp] theorem State.setLoop_regs (s : State) (l : Nat) (x : Loop) : (s.setLoop l x).regs = s.regs := rfl
@[simp] theorem State.setLoop_blobs (s : State) (l : Nat) (x : Loop) : (s.setLoop l x).blobs = s.blobs := rfl
@[simp] theorem State.setLoop_time (s : State) (l : Nat) (x : Loop) : (s.setLoop l x).time = s.time := rfl
@[simp] theorem State.setLoop_befores (s : State) (l : Nat) (x : Loop) : (s.setLoop l x).befores = s.befores := rfl
@[simp] theorem State.setLoop_workTick (s : State) (l : Nat) (x : Loop) : (s.setLoop l x).workTick = s.workTick := rfl
@[simp] theorem State.setLoop_ports (s : State) (l : Nat) (x : Loop) : (s.setLoop l x).ports = s.ports := rfl
@[simp] theorem State.setLoop_sw (s : State) (l : Nat) (x : Loop) : (s.setLoop l x).sw = s.sw := rfl
@[simp] theorem State.setLoop_dp (s : State) (l : Nat) (x : Loop) : (s.setLoop l x).dp = s.dp := rfl
@[simp] theorem State.setLoop_hist (s : State) (l : Nat) (x : Loop) : (s.setLoop l x).hist = s.hist := rfl
@[simp] theorem State.setLoop_parts (s : State) (l : Nat) (x : Loop) : (s.setLoop l x).parts = s.parts := rfl
@[simp] theorem State.setLoop_majorFrame (s : State) (l : Nat) (x : Loop) : (s.setLoop l x).majorFrame = s.majorFrame := rfl
@[simp] theorem State.setLoop_cores (s : State) (l : Nat) (x : Loop) : (s.setLoop l x).cores = s.cores := rfl
@[simp] theorem State.setLoop_pails (s : State) (l : Nat) (x : Loop) : (s.setLoop l x).pails = s.pails := rfl
@[simp] theorem State.setLoop_churn (s : State) (l : Nat) (x : Loop) : (s.setLoop l x).churn = s.churn := rfl
@[simp] theorem State.setLoop_loops (s : State) (l : Nat) (x : Loop) : (s.setLoop l x).loops = { s.loops with loops := Tab.put s.loops.loops l x {} } := rfl
@[simp] theorem State.setLoop_subs (s : State) (l : Nat) (x : Loop) : (s.setLoop l x).subs = s.subs := rfl
@[simp] theorem State.setLoop_pubs (s : State) (l : Nat) (x : Loop) : (s.setLoop l x).pubs = s.pubs := rfl
@[simp] theorem State.setLoop_pair (s : State) (l : Nat) (x : Loop) : (s.setLoop l x).pair = s.pair := rfl
@[simp] theorem State.setLoop_sec (s : State) (l : Nat) (x : Loop) : (s.setLoop l x).sec = s.sec := rfl
@[simp] theorem State.setLoop_health (s : State) (l : Nat) (x : Loop) : (s.setLoop l x).health = s.health := rfl
@[simp] theorem State.setLoop_edp (s : State) (l : Nat) (x : Loop) : (s.setLoop l x).edp = s.edp := rfl
@[simp] theorem State.setLoop_power (s : State) (l : Nat) (x : Loop) : (s.setLoop l x).power = s.power := rfl
@[simp] theorem State.setLoop_pins (s : State) (l : Nat) (x : Loop) : (s.setLoop l x).pins = s.pins := rfl
@[simp] theorem State.setLoop_mem (s : State) (l : Nat) (x : Loop) : (s.setLoop l x).mem = s.mem := rfl
@[simp] theorem State.setLoop_out (s : State) (l : Nat) (x : Loop) : (s.setLoop l x).out = s.out := rfl
@[simp] theorem State.setLoop_freeUsed (s : State) (l : Nat) (x : Loop) : (s.setLoop l x).freeUsed = s.freeUsed := rfl
@[simp] theorem State.setLoop_pending (s : State) (l : Nat) (x : Loop) : (s.setLoop l x).pending = s.pending := rfl

/-! ### `setUnit` -/

@[simp] theorem State.setUnit_regs (s : State) (l : Nat) (x : Unit_) : (s.setUnit l x).regs = s.regs := rfl
@[simp] theorem State.setUnit_blobs (s : State) (l : Nat) (x : Unit_) : (s.setUnit l x).blobs = s.blobs := rfl
@[simp] theorem State.setUnit_time (s : State) (l : Nat) (x : Unit_) : (s.setUnit l x).time = s.time := rfl
@[simp] theorem State.setUnit_befores (s : State) (l : Nat) (x : Unit_) : (s.setUnit l x).befores = s.befores := rfl
@[simp] theorem State.setUnit_workTick (s : State) (l : Nat) (x : Unit_) : (s.setUnit l x).workTick = s.workTick := rfl
@[simp] theorem State.setUnit_ports (s : State) (l : Nat) (x : Unit_) : (s.setUnit l x).ports = s.ports := rfl
@[simp] theorem State.setUnit_sw (s : State) (l : Nat) (x : Unit_) : (s.setUnit l x).sw = s.sw := rfl
@[simp] theorem State.setUnit_dp (s : State) (l : Nat) (x : Unit_) : (s.setUnit l x).dp = s.dp := rfl
@[simp] theorem State.setUnit_hist (s : State) (l : Nat) (x : Unit_) : (s.setUnit l x).hist = s.hist := rfl
@[simp] theorem State.setUnit_parts (s : State) (l : Nat) (x : Unit_) : (s.setUnit l x).parts = s.parts := rfl
@[simp] theorem State.setUnit_majorFrame (s : State) (l : Nat) (x : Unit_) : (s.setUnit l x).majorFrame = s.majorFrame := rfl
@[simp] theorem State.setUnit_cores (s : State) (l : Nat) (x : Unit_) : (s.setUnit l x).cores = s.cores := rfl
@[simp] theorem State.setUnit_pails (s : State) (l : Nat) (x : Unit_) : (s.setUnit l x).pails = s.pails := rfl
@[simp] theorem State.setUnit_churn (s : State) (l : Nat) (x : Unit_) : (s.setUnit l x).churn = s.churn := rfl
@[simp] theorem State.setUnit_loops (s : State) (l : Nat) (x : Unit_) : (s.setUnit l x).loops = { s.loops with units := Tab.put s.loops.units l x {} } := rfl
@[simp] theorem State.setUnit_subs (s : State) (l : Nat) (x : Unit_) : (s.setUnit l x).subs = s.subs := rfl
@[simp] theorem State.setUnit_pubs (s : State) (l : Nat) (x : Unit_) : (s.setUnit l x).pubs = s.pubs := rfl
@[simp] theorem State.setUnit_pair (s : State) (l : Nat) (x : Unit_) : (s.setUnit l x).pair = s.pair := rfl
@[simp] theorem State.setUnit_sec (s : State) (l : Nat) (x : Unit_) : (s.setUnit l x).sec = s.sec := rfl
@[simp] theorem State.setUnit_health (s : State) (l : Nat) (x : Unit_) : (s.setUnit l x).health = s.health := rfl
@[simp] theorem State.setUnit_edp (s : State) (l : Nat) (x : Unit_) : (s.setUnit l x).edp = s.edp := rfl
@[simp] theorem State.setUnit_power (s : State) (l : Nat) (x : Unit_) : (s.setUnit l x).power = s.power := rfl
@[simp] theorem State.setUnit_pins (s : State) (l : Nat) (x : Unit_) : (s.setUnit l x).pins = s.pins := rfl
@[simp] theorem State.setUnit_mem (s : State) (l : Nat) (x : Unit_) : (s.setUnit l x).mem = s.mem := rfl
@[simp] theorem State.setUnit_out (s : State) (l : Nat) (x : Unit_) : (s.setUnit l x).out = s.out := rfl
@[simp] theorem State.setUnit_freeUsed (s : State) (l : Nat) (x : Unit_) : (s.setUnit l x).freeUsed = s.freeUsed := rfl
@[simp] theorem State.setUnit_pending (s : State) (l : Nat) (x : Unit_) : (s.setUnit l x).pending = s.pending := rfl

/-! ### `setGen` -/

@[simp] theorem State.setGen_regs (s : State) (g : Nat) (x : Gen) : (s.setGen g x).regs = s.regs := rfl
@[simp] theorem State.setGen_blobs (s : State) (g : Nat) (x : Gen) : (s.setGen g x).blobs = s.blobs := rfl
@[simp] theorem State.setGen_time (s : State) (g : Nat) (x : Gen) : (s.setGen g x).time = s.time := rfl
@[simp] theorem State.setGen_befores (s : State) (g : Nat) (x : Gen) : (s.setGen g x).befores = s.befores := rfl
@[simp] theorem State.setGen_workTick (s : State) (g : Nat) (x : Gen) : (s.setGen g x).workTick = s.workTick := rfl
@[simp] theorem State.setGen_ports (s : State) (g : Nat) (x : Gen) : (s.setGen g x).ports = s.ports := rfl
@[simp] theorem State.setGen_sw (s : State) (g : Nat) (x : Gen) : (s.setGen g x).sw = s.sw := rfl
@[simp] theorem State.setGen_dp (s : State) (g : Nat) (x : Gen) : (s.setGen g x).dp = s.dp := rfl
@[simp] theorem State.setGen_hist (s : State) (g : Nat) (x : Gen) : (s.setGen g x).hist = s.hist := rfl
@[simp] theorem State.setGen_parts (s : State) (g : Nat) (x : Gen) : (s.setGen g x).parts = s.parts := rfl
@[simp] theorem State.setGen_majorFrame (s : State) (g : Nat) (x : Gen) : (s.setGen g x).majorFrame = s.majorFrame := rfl
@[simp] theorem State.setGen_cores (s : State) (g : Nat) (x : Gen) : (s.setGen g x).cores = s.cores := rfl
@[simp] theorem State.setGen_pails (s : State) (g : Nat) (x : Gen) : (s.setGen g x).pails = s.pails := rfl
@[simp] theorem State.setGen_churn (s : State) (g : Nat) (x : Gen) : (s.setGen g x).churn = s.churn := rfl
@[simp] theorem State.setGen_loops (s : State) (g : Nat) (x : Gen) : (s.setGen g x).loops = { s.loops with gens := Tab.put s.loops.gens g x {} } := rfl
@[simp] theorem State.setGen_subs (s : State) (g : Nat) (x : Gen) : (s.setGen g x).subs = s.subs := rfl
@[simp] theorem State.setGen_pubs (s : State) (g : Nat) (x : Gen) : (s.setGen g x).pubs = s.pubs := rfl
@[simp] theorem State.setGen_pair (s : State) (g : Nat) (x : Gen) : (s.setGen g x).pair = s.pair := rfl
@[simp] theorem State.setGen_sec (s : State) (g : Nat) (x : Gen) : (s.setGen g x).sec = s.sec := rfl
@[simp] theorem State.setGen_health (s : State) (g : Nat) (x : Gen) : (s.setGen g x).health = s.health := rfl
@[simp] theorem State.setGen_edp (s : State) (g : Nat) (x : Gen) : (s.setGen g x).edp = s.edp := rfl
@[simp] theorem State.setGen_power (s : State) (g : Nat) (x : Gen) : (s.setGen g x).power = s.power := rfl
@[simp] theorem State.setGen_pins (s : State) (g : Nat) (x : Gen) : (s.setGen g x).pins = s.pins := rfl
@[simp] theorem State.setGen_mem (s : State) (g : Nat) (x : Gen) : (s.setGen g x).mem = s.mem := rfl
@[simp] theorem State.setGen_out (s : State) (g : Nat) (x : Gen) : (s.setGen g x).out = s.out := rfl
@[simp] theorem State.setGen_freeUsed (s : State) (g : Nat) (x : Gen) : (s.setGen g x).freeUsed = s.freeUsed := rfl
@[simp] theorem State.setGen_pending (s : State) (g : Nat) (x : Gen) : (s.setGen g x).pending = s.pending := rfl

/-! ### `setSub` -/

@[simp] theorem State.setSub_regs (s : State) (n : Nat) (x : Sub) : (s.setSub n x).regs = s.regs := rfl
@[simp] theorem State.setSub_blobs (s : State) (n : Nat) (x : Sub) : (s.setSub n x).blobs = s.blobs := rfl
@[simp] theorem State.setSub_time (s : State) (n : Nat) (x : Sub) : (s.setSub n x).time = s.time := rfl
@[simp] theorem State.setSub_befores (s : State) (n : Nat) (x : Sub) : (s.setSub n x).befores = s.befores := rfl
@[simp] theorem State.setSub_workTick (s : State) (n : Nat) (x : Sub) : (s.setSub n x).workTick = s.workTick := rfl
@[simp] theorem State.setSub_ports (s : State) (n : Nat) (x : Sub) : (s.setSub n x).ports = s.ports := rfl
@[simp] theorem State.setSub_sw (s : State) (n : Nat) (x : Sub) : (s.setSub n x).sw = s.sw := rfl
@[simp] theorem State.setSub_dp (s : State) (n : Nat) (x : Sub) : (s.setSub n x).dp = s.dp := rfl
@[simp] theorem State.setSub_hist (s : State) (n : Nat) (x : Sub) : (s.setSub n x).hist = s.hist := rfl
@[simp] theorem State.setSub_parts (s : State) (n : Nat) (x : Sub) : (s.setSub n x).parts = s.parts := rfl
@[simp] theorem State.setSub_majorFrame (s : State) (n : Nat) (x : Sub) : (s.setSub n x).majorFrame = s.majorFrame := rfl
@[simp] theorem State.setSub_cores (s : State) (n : Nat) (x : Sub) : (s.setSub n x).cores = s.cores := rfl
@[simp] theorem State.setSub_pails (s : State) (n : Nat) (x : Sub) : (s.setSub n x).pails = s.pails := rfl
@[simp] theorem State.setSub_churn (s : State) (n : Nat) (x : Sub) : (s.setSub n x).churn = s.churn := rfl
@[simp] theorem State.setSub_loops (s : State) (n : Nat) (x : Sub) : (s.setSub n x).loops = s.loops := rfl
@[simp] theorem State.setSub_subs (s : State) (n : Nat) (x : Sub) : (s.setSub n x).subs = Tab.put s.subs n x {} := rfl
@[simp] theorem State.setSub_pubs (s : State) (n : Nat) (x : Sub) : (s.setSub n x).pubs = s.pubs := rfl
@[simp] theorem State.setSub_pair (s : State) (n : Nat) (x : Sub) : (s.setSub n x).pair = s.pair := rfl
@[simp] theorem State.setSub_sec (s : State) (n : Nat) (x : Sub) : (s.setSub n x).sec = s.sec := rfl
@[simp] theorem State.setSub_health (s : State) (n : Nat) (x : Sub) : (s.setSub n x).health = s.health := rfl
@[simp] theorem State.setSub_edp (s : State) (n : Nat) (x : Sub) : (s.setSub n x).edp = s.edp := rfl
@[simp] theorem State.setSub_power (s : State) (n : Nat) (x : Sub) : (s.setSub n x).power = s.power := rfl
@[simp] theorem State.setSub_pins (s : State) (n : Nat) (x : Sub) : (s.setSub n x).pins = s.pins := rfl
@[simp] theorem State.setSub_mem (s : State) (n : Nat) (x : Sub) : (s.setSub n x).mem = s.mem := rfl
@[simp] theorem State.setSub_out (s : State) (n : Nat) (x : Sub) : (s.setSub n x).out = s.out := rfl
@[simp] theorem State.setSub_freeUsed (s : State) (n : Nat) (x : Sub) : (s.setSub n x).freeUsed = s.freeUsed := rfl
@[simp] theorem State.setSub_pending (s : State) (n : Nat) (x : Sub) : (s.setSub n x).pending = s.pending := rfl

/-! ### `setPub` -/

@[simp] theorem State.setPub_regs (s : State) (n : Nat) (x : Pub) : (s.setPub n x).regs = s.regs := rfl
@[simp] theorem State.setPub_blobs (s : State) (n : Nat) (x : Pub) : (s.setPub n x).blobs = s.blobs := rfl
@[simp] theorem State.setPub_time (s : State) (n : Nat) (x : Pub) : (s.setPub n x).time = s.time := rfl
@[simp] theorem State.setPub_befores (s : State) (n : Nat) (x : Pub) : (s.setPub n x).befores = s.befores := rfl
@[simp] theorem State.setPub_workTick (s : State) (n : Nat) (x : Pub) : (s.setPub n x).workTick = s.workTick := rfl
@[simp] theorem State.setPub_ports (s : State) (n : Nat) (x : Pub) : (s.setPub n x).ports = s.ports := rfl
@[simp] theorem State.setPub_sw (s : State) (n : Nat) (x : Pub) : (s.setPub n x).sw = s.sw := rfl
@[simp] theorem State.setPub_dp (s : State) (n : Nat) (x : Pub) : (s.setPub n x).dp = s.dp := rfl
@[simp] theorem State.setPub_hist (s : State) (n : Nat) (x : Pub) : (s.setPub n x).hist = s.hist := rfl
@[simp] theorem State.setPub_parts (s : State) (n : Nat) (x : Pub) : (s.setPub n x).parts = s.parts := rfl
@[simp] theorem State.setPub_majorFrame (s : State) (n : Nat) (x : Pub) : (s.setPub n x).majorFrame = s.majorFrame := rfl
@[simp] theorem State.setPub_cores (s : State) (n : Nat) (x : Pub) : (s.setPub n x).cores = s.cores := rfl
@[simp] theorem State.setPub_pails (s : State) (n : Nat) (x : Pub) : (s.setPub n x).pails = s.pails := rfl
@[simp] theorem State.setPub_churn (s : State) (n : Nat) (x : Pub) : (s.setPub n x).churn = s.churn := rfl
@[simp] theorem State.setPub_loops (s : State) (n : Nat) (x : Pub) : (s.setPub n x).loops = s.loops := rfl
@[simp] theorem State.setPub_subs (s : State) (n : Nat) (x : Pub) : (s.setPub n x).subs = s.subs := rfl
@[simp] theorem State.setPub_pubs (s : State) (n : Nat) (x : Pub) : (s.setPub n x).pubs = Tab.put s.pubs n x {} := rfl
@[simp] theorem State.setPub_pair (s : State) (n : Nat) (x : Pub) : (s.setPub n x).pair = s.pair := rfl
@[simp] theorem State.setPub_sec (s : State) (n : Nat) (x : Pub) : (s.setPub n x).sec = s.sec := rfl
@[simp] theorem State.setPub_health (s : State) (n : Nat) (x : Pub) : (s.setPub n x).health = s.health := rfl
@[simp] theorem State.setPub_edp (s : State) (n : Nat) (x : Pub) : (s.setPub n x).edp = s.edp := rfl
@[simp] theorem State.setPub_power (s : State) (n : Nat) (x : Pub) : (s.setPub n x).power = s.power := rfl
@[simp] theorem State.setPub_pins (s : State) (n : Nat) (x : Pub) : (s.setPub n x).pins = s.pins := rfl
@[simp] theorem State.setPub_mem (s : State) (n : Nat) (x : Pub) : (s.setPub n x).mem = s.mem := rfl
@[simp] theorem State.setPub_out (s : State) (n : Nat) (x : Pub) : (s.setPub n x).out = s.out := rfl
@[simp] theorem State.setPub_freeUsed (s : State) (n : Nat) (x : Pub) : (s.setPub n x).freeUsed = s.freeUsed := rfl
@[simp] theorem State.setPub_pending (s : State) (n : Nat) (x : Pub) : (s.setPub n x).pending = s.pending := rfl

/-! ### `setHerd` -/

@[simp] theorem State.setHerd_regs (s : State) (h : Nat) (x : Herd) : (s.setHerd h x).regs = s.regs := rfl
@[simp] theorem State.setHerd_blobs (s : State) (h : Nat) (x : Herd) : (s.setHerd h x).blobs = s.blobs := rfl
@[simp] theorem State.setHerd_time (s : State) (h : Nat) (x : Herd) : (s.setHerd h x).time = s.time := rfl
@[simp] theorem State.setHerd_befores (s : State) (h : Nat) (x : Herd) : (s.setHerd h x).befores = s.befores := rfl
@[simp] theorem State.setHerd_workTick (s : State) (h : Nat) (x : Herd) : (s.setHerd h x).workTick = s.workTick := rfl
@[simp] theorem State.setHerd_ports (s : State) (h : Nat) (x : Herd) : (s.setHerd h x).ports = s.ports := rfl
@[simp] theorem State.setHerd_sw (s : State) (h : Nat) (x : Herd) : (s.setHerd h x).sw = s.sw := rfl
@[simp] theorem State.setHerd_dp (s : State) (h : Nat) (x : Herd) : (s.setHerd h x).dp = s.dp := rfl
@[simp] theorem State.setHerd_hist (s : State) (h : Nat) (x : Herd) : (s.setHerd h x).hist = s.hist := rfl
@[simp] theorem State.setHerd_parts (s : State) (h : Nat) (x : Herd) : (s.setHerd h x).parts = s.parts := rfl
@[simp] theorem State.setHerd_majorFrame (s : State) (h : Nat) (x : Herd) : (s.setHerd h x).majorFrame = s.majorFrame := rfl
@[simp] theorem State.setHerd_cores (s : State) (h : Nat) (x : Herd) : (s.setHerd h x).cores = s.cores := rfl
@[simp] theorem State.setHerd_pails (s : State) (h : Nat) (x : Herd) : (s.setHerd h x).pails = s.pails := rfl
@[simp] theorem State.setHerd_churn (s : State) (h : Nat) (x : Herd) : (s.setHerd h x).churn = s.churn := rfl
@[simp] theorem State.setHerd_loops (s : State) (h : Nat) (x : Herd) : (s.setHerd h x).loops = s.loops := rfl
@[simp] theorem State.setHerd_subs (s : State) (h : Nat) (x : Herd) : (s.setHerd h x).subs = s.subs := rfl
@[simp] theorem State.setHerd_pubs (s : State) (h : Nat) (x : Herd) : (s.setHerd h x).pubs = s.pubs := rfl
@[simp] theorem State.setHerd_pair (s : State) (h : Nat) (x : Herd) : (s.setHerd h x).pair = s.pair := rfl
@[simp] theorem State.setHerd_sec (s : State) (h : Nat) (x : Herd) : (s.setHerd h x).sec = s.sec := rfl
@[simp] theorem State.setHerd_health (s : State) (h : Nat) (x : Herd) : (s.setHerd h x).health = { s.health with herds := Tab.put s.health.herds h x {} } := rfl
@[simp] theorem State.setHerd_edp (s : State) (h : Nat) (x : Herd) : (s.setHerd h x).edp = s.edp := rfl
@[simp] theorem State.setHerd_power (s : State) (h : Nat) (x : Herd) : (s.setHerd h x).power = s.power := rfl
@[simp] theorem State.setHerd_pins (s : State) (h : Nat) (x : Herd) : (s.setHerd h x).pins = s.pins := rfl
@[simp] theorem State.setHerd_mem (s : State) (h : Nat) (x : Herd) : (s.setHerd h x).mem = s.mem := rfl
@[simp] theorem State.setHerd_out (s : State) (h : Nat) (x : Herd) : (s.setHerd h x).out = s.out := rfl
@[simp] theorem State.setHerd_freeUsed (s : State) (h : Nat) (x : Herd) : (s.setHerd h x).freeUsed = s.freeUsed := rfl
@[simp] theorem State.setHerd_pending (s : State) (h : Nat) (x : Herd) : (s.setHerd h x).pending = s.pending := rfl

/-! ### `setOp` -/

@[simp] theorem State.setOp_regs (s : State) (n : Nat) (x : Op) : (s.setOp n x).regs = s.regs := rfl
@[simp] theorem State.setOp_blobs (s : State) (n : Nat) (x : Op) : (s.setOp n x).blobs = s.blobs := rfl
@[simp] theorem State.setOp_time (s : State) (n : Nat) (x : Op) : (s.setOp n x).time = s.time := rfl
@[simp] theorem State.setOp_befores (s : State) (n : Nat) (x : Op) : (s.setOp n x).befores = s.befores := rfl
@[simp] theorem State.setOp_workTick (s : State) (n : Nat) (x : Op) : (s.setOp n x).workTick = s.workTick := rfl
@[simp] theorem State.setOp_ports (s : State) (n : Nat) (x : Op) : (s.setOp n x).ports = s.ports := rfl
@[simp] theorem State.setOp_sw (s : State) (n : Nat) (x : Op) : (s.setOp n x).sw = s.sw := rfl
@[simp] theorem State.setOp_dp (s : State) (n : Nat) (x : Op) : (s.setOp n x).dp = s.dp := rfl
@[simp] theorem State.setOp_hist (s : State) (n : Nat) (x : Op) : (s.setOp n x).hist = s.hist := rfl
@[simp] theorem State.setOp_parts (s : State) (n : Nat) (x : Op) : (s.setOp n x).parts = s.parts := rfl
@[simp] theorem State.setOp_majorFrame (s : State) (n : Nat) (x : Op) : (s.setOp n x).majorFrame = s.majorFrame := rfl
@[simp] theorem State.setOp_cores (s : State) (n : Nat) (x : Op) : (s.setOp n x).cores = s.cores := rfl
@[simp] theorem State.setOp_pails (s : State) (n : Nat) (x : Op) : (s.setOp n x).pails = s.pails := rfl
@[simp] theorem State.setOp_churn (s : State) (n : Nat) (x : Op) : (s.setOp n x).churn = s.churn := rfl
@[simp] theorem State.setOp_loops (s : State) (n : Nat) (x : Op) : (s.setOp n x).loops = s.loops := rfl
@[simp] theorem State.setOp_subs (s : State) (n : Nat) (x : Op) : (s.setOp n x).subs = s.subs := rfl
@[simp] theorem State.setOp_pubs (s : State) (n : Nat) (x : Op) : (s.setOp n x).pubs = s.pubs := rfl
@[simp] theorem State.setOp_pair (s : State) (n : Nat) (x : Op) : (s.setOp n x).pair = s.pair := rfl
@[simp] theorem State.setOp_sec (s : State) (n : Nat) (x : Op) : (s.setOp n x).sec = s.sec := rfl
@[simp] theorem State.setOp_health (s : State) (n : Nat) (x : Op) : (s.setOp n x).health = s.health := rfl
@[simp] theorem State.setOp_edp (s : State) (n : Nat) (x : Op) : (s.setOp n x).edp = { s.edp with ops := Tab.put s.edp.ops n x {} } := rfl
@[simp] theorem State.setOp_power (s : State) (n : Nat) (x : Op) : (s.setOp n x).power = s.power := rfl
@[simp] theorem State.setOp_pins (s : State) (n : Nat) (x : Op) : (s.setOp n x).pins = s.pins := rfl
@[simp] theorem State.setOp_mem (s : State) (n : Nat) (x : Op) : (s.setOp n x).mem = s.mem := rfl
@[simp] theorem State.setOp_out (s : State) (n : Nat) (x : Op) : (s.setOp n x).out = s.out := rfl
@[simp] theorem State.setOp_freeUsed (s : State) (n : Nat) (x : Op) : (s.setOp n x).freeUsed = s.freeUsed := rfl
@[simp] theorem State.setOp_pending (s : State) (n : Nat) (x : Op) : (s.setOp n x).pending = s.pending := rfl

/-! ### `setSession` -/

@[simp] theorem State.setSession_regs (s : State) (n : Nat) (x : Session) : (s.setSession n x).regs = s.regs := rfl
@[simp] theorem State.setSession_blobs (s : State) (n : Nat) (x : Session) : (s.setSession n x).blobs = s.blobs := rfl
@[simp] theorem State.setSession_time (s : State) (n : Nat) (x : Session) : (s.setSession n x).time = s.time := rfl
@[simp] theorem State.setSession_befores (s : State) (n : Nat) (x : Session) : (s.setSession n x).befores = s.befores := rfl
@[simp] theorem State.setSession_workTick (s : State) (n : Nat) (x : Session) : (s.setSession n x).workTick = s.workTick := rfl
@[simp] theorem State.setSession_ports (s : State) (n : Nat) (x : Session) : (s.setSession n x).ports = s.ports := rfl
@[simp] theorem State.setSession_sw (s : State) (n : Nat) (x : Session) : (s.setSession n x).sw = s.sw := rfl
@[simp] theorem State.setSession_dp (s : State) (n : Nat) (x : Session) : (s.setSession n x).dp = s.dp := rfl
@[simp] theorem State.setSession_hist (s : State) (n : Nat) (x : Session) : (s.setSession n x).hist = s.hist := rfl
@[simp] theorem State.setSession_parts (s : State) (n : Nat) (x : Session) : (s.setSession n x).parts = s.parts := rfl
@[simp] theorem State.setSession_majorFrame (s : State) (n : Nat) (x : Session) : (s.setSession n x).majorFrame = s.majorFrame := rfl
@[simp] theorem State.setSession_cores (s : State) (n : Nat) (x : Session) : (s.setSession n x).cores = s.cores := rfl
@[simp] theorem State.setSession_pails (s : State) (n : Nat) (x : Session) : (s.setSession n x).pails = s.pails := rfl
@[simp] theorem State.setSession_churn (s : State) (n : Nat) (x : Session) : (s.setSession n x).churn = s.churn := rfl
@[simp] theorem State.setSession_loops (s : State) (n : Nat) (x : Session) : (s.setSession n x).loops = s.loops := rfl
@[simp] theorem State.setSession_subs (s : State) (n : Nat) (x : Session) : (s.setSession n x).subs = s.subs := rfl
@[simp] theorem State.setSession_pubs (s : State) (n : Nat) (x : Session) : (s.setSession n x).pubs = s.pubs := rfl
@[simp] theorem State.setSession_pair (s : State) (n : Nat) (x : Session) : (s.setSession n x).pair = s.pair := rfl
@[simp] theorem State.setSession_sec (s : State) (n : Nat) (x : Session) : (s.setSession n x).sec = s.sec := rfl
@[simp] theorem State.setSession_health (s : State) (n : Nat) (x : Session) : (s.setSession n x).health = s.health := rfl
@[simp] theorem State.setSession_edp (s : State) (n : Nat) (x : Session) : (s.setSession n x).edp = { s.edp with sessions := Tab.insert s.edp.sessions n x } := rfl
@[simp] theorem State.setSession_power (s : State) (n : Nat) (x : Session) : (s.setSession n x).power = s.power := rfl
@[simp] theorem State.setSession_pins (s : State) (n : Nat) (x : Session) : (s.setSession n x).pins = s.pins := rfl
@[simp] theorem State.setSession_mem (s : State) (n : Nat) (x : Session) : (s.setSession n x).mem = s.mem := rfl
@[simp] theorem State.setSession_out (s : State) (n : Nat) (x : Session) : (s.setSession n x).out = s.out := rfl
@[simp] theorem State.setSession_freeUsed (s : State) (n : Nat) (x : Session) : (s.setSession n x).freeUsed = s.freeUsed := rfl
@[simp] theorem State.setSession_pending (s : State) (n : Nat) (x : Session) : (s.setSession n x).pending = s.pending := rfl

/-! ### `setNow` -/

@[simp] theorem State.setNow_regs (s : State) (t : Nat) : (s.setNow t).regs = s.regs := rfl
@[simp] theorem State.setNow_blobs (s : State) (t : Nat) : (s.setNow t).blobs = s.blobs := rfl
@[simp] theorem State.setNow_time (s : State) (t : Nat) : (s.setNow t).time = { s.time with now := t } := rfl
@[simp] theorem State.setNow_befores (s : State) (t : Nat) : (s.setNow t).befores = s.befores := rfl
@[simp] theorem State.setNow_workTick (s : State) (t : Nat) : (s.setNow t).workTick = s.workTick := rfl
@[simp] theorem State.setNow_ports (s : State) (t : Nat) : (s.setNow t).ports = s.ports := rfl
@[simp] theorem State.setNow_sw (s : State) (t : Nat) : (s.setNow t).sw = s.sw := rfl
@[simp] theorem State.setNow_dp (s : State) (t : Nat) : (s.setNow t).dp = s.dp := rfl
@[simp] theorem State.setNow_hist (s : State) (t : Nat) : (s.setNow t).hist = s.hist := rfl
@[simp] theorem State.setNow_parts (s : State) (t : Nat) : (s.setNow t).parts = s.parts := rfl
@[simp] theorem State.setNow_majorFrame (s : State) (t : Nat) : (s.setNow t).majorFrame = s.majorFrame := rfl
@[simp] theorem State.setNow_cores (s : State) (t : Nat) : (s.setNow t).cores = s.cores := rfl
@[simp] theorem State.setNow_pails (s : State) (t : Nat) : (s.setNow t).pails = s.pails := rfl
@[simp] theorem State.setNow_churn (s : State) (t : Nat) : (s.setNow t).churn = s.churn := rfl
@[simp] theorem State.setNow_loops (s : State) (t : Nat) : (s.setNow t).loops = s.loops := rfl
@[simp] theorem State.setNow_subs (s : State) (t : Nat) : (s.setNow t).subs = s.subs := rfl
@[simp] theorem State.setNow_pubs (s : State) (t : Nat) : (s.setNow t).pubs = s.pubs := rfl
@[simp] theorem State.setNow_pair (s : State) (t : Nat) : (s.setNow t).pair = s.pair := rfl
@[simp] theorem State.setNow_sec (s : State) (t : Nat) : (s.setNow t).sec = s.sec := rfl
@[simp] theorem State.setNow_health (s : State) (t : Nat) : (s.setNow t).health = s.health := rfl
@[simp] theorem State.setNow_edp (s : State) (t : Nat) : (s.setNow t).edp = s.edp := rfl
@[simp] theorem State.setNow_power (s : State) (t : Nat) : (s.setNow t).power = s.power := rfl
@[simp] theorem State.setNow_pins (s : State) (t : Nat) : (s.setNow t).pins = s.pins := rfl
@[simp] theorem State.setNow_mem (s : State) (t : Nat) : (s.setNow t).mem = s.mem := rfl
@[simp] theorem State.setNow_out (s : State) (t : Nat) : (s.setNow t).out = s.out := rfl
@[simp] theorem State.setNow_freeUsed (s : State) (t : Nat) : (s.setNow t).freeUsed = s.freeUsed := rfl
@[simp] theorem State.setNow_pending (s : State) (t : Nat) : (s.setNow t).pending = s.pending := rfl

/-! ### `emit` -/

@[simp] theorem State.emit_regs (s : State) (o : Out) : (s.emit o).regs = s.regs := rfl
@[simp] theorem State.emit_blobs (s : State) (o : Out) : (s.emit o).blobs = s.blobs := rfl
@[simp] theorem State.emit_time (s : State) (o : Out) : (s.emit o).time = s.time := rfl
@[simp] theorem State.emit_befores (s : State) (o : Out) : (s.emit o).befores = s.befores := rfl
@[simp] theorem State.emit_workTick (s : State) (o : Out) : (s.emit o).workTick = s.workTick := rfl
@[simp] theorem State.emit_ports (s : State) (o : Out) : (s.emit o).ports = s.ports := rfl
@[simp] theorem State.emit_sw (s : State) (o : Out) : (s.emit o).sw = s.sw := rfl
@[simp] theorem State.emit_dp (s : State) (o : Out) : (s.emit o).dp = s.dp := rfl
@[simp] theorem State.emit_hist (s : State) (o : Out) : (s.emit o).hist = s.hist := rfl
@[simp] theorem State.emit_parts (s : State) (o : Out) : (s.emit o).parts = s.parts := rfl
@[simp] theorem State.emit_majorFrame (s : State) (o : Out) : (s.emit o).majorFrame = s.majorFrame := rfl
@[simp] theorem State.emit_cores (s : State) (o : Out) : (s.emit o).cores = s.cores := rfl
@[simp] theorem State.emit_pails (s : State) (o : Out) : (s.emit o).pails = s.pails := rfl
@[simp] theorem State.emit_churn (s : State) (o : Out) : (s.emit o).churn = s.churn := rfl
@[simp] theorem State.emit_loops (s : State) (o : Out) : (s.emit o).loops = s.loops := rfl
@[simp] theorem State.emit_subs (s : State) (o : Out) : (s.emit o).subs = s.subs := rfl
@[simp] theorem State.emit_pubs (s : State) (o : Out) : (s.emit o).pubs = s.pubs := rfl
@[simp] theorem State.emit_pair (s : State) (o : Out) : (s.emit o).pair = s.pair := rfl
@[simp] theorem State.emit_sec (s : State) (o : Out) : (s.emit o).sec = s.sec := rfl
@[simp] theorem State.emit_health (s : State) (o : Out) : (s.emit o).health = s.health := rfl
@[simp] theorem State.emit_edp (s : State) (o : Out) : (s.emit o).edp = s.edp := rfl
@[simp] theorem State.emit_power (s : State) (o : Out) : (s.emit o).power = s.power := rfl
@[simp] theorem State.emit_pins (s : State) (o : Out) : (s.emit o).pins = s.pins := rfl
@[simp] theorem State.emit_mem (s : State) (o : Out) : (s.emit o).mem = s.mem := rfl
@[simp] theorem State.emit_out (s : State) (o : Out) : (s.emit o).out = o :: s.out := rfl
@[simp] theorem State.emit_freeUsed (s : State) (o : Out) : (s.emit o).freeUsed = s.freeUsed := rfl
@[simp] theorem State.emit_pending (s : State) (o : Out) : (s.emit o).pending = s.pending := rfl

/-! ### `drew` -/

@[simp] theorem State.drew_regs (s : State) : (s.drew).regs = s.regs := rfl
@[simp] theorem State.drew_blobs (s : State) : (s.drew).blobs = s.blobs := rfl
@[simp] theorem State.drew_time (s : State) : (s.drew).time = s.time := rfl
@[simp] theorem State.drew_befores (s : State) : (s.drew).befores = s.befores := rfl
@[simp] theorem State.drew_workTick (s : State) : (s.drew).workTick = s.workTick := rfl
@[simp] theorem State.drew_ports (s : State) : (s.drew).ports = s.ports := rfl
@[simp] theorem State.drew_sw (s : State) : (s.drew).sw = s.sw := rfl
@[simp] theorem State.drew_dp (s : State) : (s.drew).dp = s.dp := rfl
@[simp] theorem State.drew_hist (s : State) : (s.drew).hist = s.hist := rfl
@[simp] theorem State.drew_parts (s : State) : (s.drew).parts = s.parts := rfl
@[simp] theorem State.drew_majorFrame (s : State) : (s.drew).majorFrame = s.majorFrame := rfl
@[simp] theorem State.drew_cores (s : State) : (s.drew).cores = s.cores := rfl
@[simp] theorem State.drew_pails (s : State) : (s.drew).pails = s.pails := rfl
@[simp] theorem State.drew_churn (s : State) : (s.drew).churn = s.churn := rfl
@[simp] theorem State.drew_loops (s : State) : (s.drew).loops = s.loops := rfl
@[simp] theorem State.drew_subs (s : State) : (s.drew).subs = s.subs := rfl
@[simp] theorem State.drew_pubs (s : State) : (s.drew).pubs = s.pubs := rfl
@[simp] theorem State.drew_pair (s : State) : (s.drew).pair = s.pair := rfl
@[simp] theorem State.drew_sec (s : State) : (s.drew).sec = s.sec := rfl
@[simp] theorem State.drew_health (s : State) : (s.drew).health = s.health := rfl
@[simp] theorem State.drew_edp (s : State) : (s.drew).edp = s.edp := rfl
@[simp] theorem State.drew_power (s : State) : (s.drew).power = s.power := rfl
@[simp] theorem State.drew_pins (s : State) : (s.drew).pins = s.pins := rfl
@[simp] theorem State.drew_mem (s : State) : (s.drew).mem = s.mem := rfl
@[simp] theorem State.drew_out (s : State) : (s.drew).out = s.out := rfl
@[simp] theorem State.drew_freeUsed (s : State) : (s.drew).freeUsed = s.freeUsed + 1 := rfl
@[simp] theorem State.drew_pending (s : State) : (s.drew).pending = s.pending := rfl

/-! ### `storeByte` -/

@[simp] theorem State.storeByte_regs (s : State) (w a : Nat) (b : Byte) : (s.storeByte w a b).regs = s.regs := rfl
@[simp] theorem State.storeByte_blobs (s : State) (w a : Nat) (b : Byte) : (s.storeByte w a b).blobs = s.blobs := rfl
@[simp] theorem State.storeByte_time (s : State) (w a : Nat) (b : Byte) : (s.storeByte w a b).time = s.time := rfl
@[simp] theorem State.storeByte_befores (s : State) (w a : Nat) (b : Byte) : (s.storeByte w a b).befores = s.befores := rfl
@[simp] theorem State.storeByte_workTick (s : State) (w a : Nat) (b : Byte) : (s.storeByte w a b).workTick = s.workTick := rfl
@[simp] theorem State.storeByte_ports (s : State) (w a : Nat) (b : Byte) : (s.storeByte w a b).ports = s.ports := rfl
@[simp] theorem State.storeByte_sw (s : State) (w a : Nat) (b : Byte) : (s.storeByte w a b).sw = s.sw := rfl
@[simp] theorem State.storeByte_dp (s : State) (w a : Nat) (b : Byte) : (s.storeByte w a b).dp = s.dp := rfl
@[simp] theorem State.storeByte_hist (s : State) (w a : Nat) (b : Byte) : (s.storeByte w a b).hist = s.hist := rfl
@[simp] theorem State.storeByte_parts (s : State) (w a : Nat) (b : Byte) : (s.storeByte w a b).parts = s.parts := rfl
@[simp] theorem State.storeByte_majorFrame (s : State) (w a : Nat) (b : Byte) : (s.storeByte w a b).majorFrame = s.majorFrame := rfl
@[simp] theorem State.storeByte_cores (s : State) (w a : Nat) (b : Byte) : (s.storeByte w a b).cores = s.cores := rfl
@[simp] theorem State.storeByte_pails (s : State) (w a : Nat) (b : Byte) : (s.storeByte w a b).pails = s.pails := rfl
@[simp] theorem State.storeByte_churn (s : State) (w a : Nat) (b : Byte) : (s.storeByte w a b).churn = s.churn := rfl
@[simp] theorem State.storeByte_loops (s : State) (w a : Nat) (b : Byte) : (s.storeByte w a b).loops = s.loops := rfl
@[simp] theorem State.storeByte_subs (s : State) (w a : Nat) (b : Byte) : (s.storeByte w a b).subs = s.subs := rfl
@[simp] theorem State.storeByte_pubs (s : State) (w a : Nat) (b : Byte) : (s.storeByte w a b).pubs = s.pubs := rfl
@[simp] theorem State.storeByte_pair (s : State) (w a : Nat) (b : Byte) : (s.storeByte w a b).pair = s.pair := rfl
@[simp] theorem State.storeByte_sec (s : State) (w a : Nat) (b : Byte) : (s.storeByte w a b).sec = s.sec := rfl
@[simp] theorem State.storeByte_health (s : State) (w a : Nat) (b : Byte) : (s.storeByte w a b).health = s.health := rfl
@[simp] theorem State.storeByte_edp (s : State) (w a : Nat) (b : Byte) : (s.storeByte w a b).edp = s.edp := rfl
@[simp] theorem State.storeByte_power (s : State) (w a : Nat) (b : Byte) : (s.storeByte w a b).power = s.power := rfl
@[simp] theorem State.storeByte_pins (s : State) (w a : Nat) (b : Byte) : (s.storeByte w a b).pins = s.pins := rfl
@[simp] theorem State.storeByte_mem (s : State) (w a : Nat) (b : Byte) : (s.storeByte w a b).mem = Tab.put s.mem (2 ^ 64 * w + a % 2 ^ 64) b 0 := rfl
@[simp] theorem State.storeByte_out (s : State) (w a : Nat) (b : Byte) : (s.storeByte w a b).out = s.out := rfl
@[simp] theorem State.storeByte_freeUsed (s : State) (w a : Nat) (b : Byte) : (s.storeByte w a b).freeUsed = s.freeUsed := rfl
@[simp] theorem State.storeByte_pending (s : State) (w a : Nat) (b : Byte) : (s.storeByte w a b).pending = s.pending := rfl

/-! ### `settle` -/

@[simp] theorem State.settle_regs (s : State) : (s.settle).regs = s.regs := rfl
@[simp] theorem State.settle_blobs (s : State) : (s.settle).blobs = s.blobs := rfl
@[simp] theorem State.settle_time (s : State) : (s.settle).time = s.time := rfl
@[simp] theorem State.settle_befores (s : State) : (s.settle).befores = s.befores := rfl
@[simp] theorem State.settle_workTick (s : State) : (s.settle).workTick = s.workTick := rfl
@[simp] theorem State.settle_ports (s : State) : (s.settle).ports = s.ports := rfl
@[simp] theorem State.settle_sw (s : State) : (s.settle).sw = s.sw := rfl
@[simp] theorem State.settle_dp (s : State) : (s.settle).dp = s.dp := rfl
@[simp] theorem State.settle_hist (s : State) : (s.settle).hist = s.hist := rfl
@[simp] theorem State.settle_parts (s : State) : (s.settle).parts = s.parts := rfl
@[simp] theorem State.settle_majorFrame (s : State) : (s.settle).majorFrame = s.majorFrame := rfl
@[simp] theorem State.settle_cores (s : State) : (s.settle).cores = s.cores := rfl
@[simp] theorem State.settle_pails (s : State) : (s.settle).pails = s.pails := rfl
@[simp] theorem State.settle_churn (s : State) : (s.settle).churn = s.churn := rfl
@[simp] theorem State.settle_loops (s : State) : (s.settle).loops = s.loops := rfl
@[simp] theorem State.settle_subs (s : State) : (s.settle).subs = s.subs := rfl
@[simp] theorem State.settle_pubs (s : State) : (s.settle).pubs = s.pubs := rfl
@[simp] theorem State.settle_pair (s : State) : (s.settle).pair = s.pair := rfl
@[simp] theorem State.settle_sec (s : State) : (s.settle).sec = s.sec := rfl
@[simp] theorem State.settle_health (s : State) : (s.settle).health = s.health := rfl
@[simp] theorem State.settle_edp (s : State) : (s.settle).edp = s.edp := rfl
@[simp] theorem State.settle_power (s : State) : (s.settle).power = s.power := rfl
@[simp] theorem State.settle_pins (s : State) : (s.settle).pins = s.pinsOf := rfl
@[simp] theorem State.settle_mem (s : State) : (s.settle).mem = s.mem := rfl
@[simp] theorem State.settle_out (s : State) : (s.settle).out = s.out := rfl
@[simp] theorem State.settle_freeUsed (s : State) : (s.settle).freeUsed = s.freeUsed := rfl
@[simp] theorem State.settle_pending (s : State) : (s.settle).pending = s.pending := rfl

/-! ### `setTimeUnit` -/

@[simp] theorem State.setTimeUnit_regs (s : State) (f : TimeUnit → TimeUnit) : (s.setTimeUnit f).regs = s.regs := rfl
@[simp] theorem State.setTimeUnit_blobs (s : State) (f : TimeUnit → TimeUnit) : (s.setTimeUnit f).blobs = s.blobs := rfl
@[simp] theorem State.setTimeUnit_time (s : State) (f : TimeUnit → TimeUnit) : (s.setTimeUnit f).time = f s.time := rfl
@[simp] theorem State.setTimeUnit_befores (s : State) (f : TimeUnit → TimeUnit) : (s.setTimeUnit f).befores = s.befores := rfl
@[simp] theorem State.setTimeUnit_workTick (s : State) (f : TimeUnit → TimeUnit) : (s.setTimeUnit f).workTick = s.workTick := rfl
@[simp] theorem State.setTimeUnit_ports (s : State) (f : TimeUnit → TimeUnit) : (s.setTimeUnit f).ports = s.ports := rfl
@[simp] theorem State.setTimeUnit_sw (s : State) (f : TimeUnit → TimeUnit) : (s.setTimeUnit f).sw = s.sw := rfl
@[simp] theorem State.setTimeUnit_dp (s : State) (f : TimeUnit → TimeUnit) : (s.setTimeUnit f).dp = s.dp := rfl
@[simp] theorem State.setTimeUnit_hist (s : State) (f : TimeUnit → TimeUnit) : (s.setTimeUnit f).hist = s.hist := rfl
@[simp] theorem State.setTimeUnit_parts (s : State) (f : TimeUnit → TimeUnit) : (s.setTimeUnit f).parts = s.parts := rfl
@[simp] theorem State.setTimeUnit_majorFrame (s : State) (f : TimeUnit → TimeUnit) : (s.setTimeUnit f).majorFrame = s.majorFrame := rfl
@[simp] theorem State.setTimeUnit_cores (s : State) (f : TimeUnit → TimeUnit) : (s.setTimeUnit f).cores = s.cores := rfl
@[simp] theorem State.setTimeUnit_pails (s : State) (f : TimeUnit → TimeUnit) : (s.setTimeUnit f).pails = s.pails := rfl
@[simp] theorem State.setTimeUnit_churn (s : State) (f : TimeUnit → TimeUnit) : (s.setTimeUnit f).churn = s.churn := rfl
@[simp] theorem State.setTimeUnit_loops (s : State) (f : TimeUnit → TimeUnit) : (s.setTimeUnit f).loops = s.loops := rfl
@[simp] theorem State.setTimeUnit_subs (s : State) (f : TimeUnit → TimeUnit) : (s.setTimeUnit f).subs = s.subs := rfl
@[simp] theorem State.setTimeUnit_pubs (s : State) (f : TimeUnit → TimeUnit) : (s.setTimeUnit f).pubs = s.pubs := rfl
@[simp] theorem State.setTimeUnit_pair (s : State) (f : TimeUnit → TimeUnit) : (s.setTimeUnit f).pair = s.pair := rfl
@[simp] theorem State.setTimeUnit_sec (s : State) (f : TimeUnit → TimeUnit) : (s.setTimeUnit f).sec = s.sec := rfl
@[simp] theorem State.setTimeUnit_health (s : State) (f : TimeUnit → TimeUnit) : (s.setTimeUnit f).health = s.health := rfl
@[simp] theorem State.setTimeUnit_edp (s : State) (f : TimeUnit → TimeUnit) : (s.setTimeUnit f).edp = s.edp := rfl
@[simp] theorem State.setTimeUnit_power (s : State) (f : TimeUnit → TimeUnit) : (s.setTimeUnit f).power = s.power := rfl
@[simp] theorem State.setTimeUnit_pins (s : State) (f : TimeUnit → TimeUnit) : (s.setTimeUnit f).pins = s.pins := rfl
@[simp] theorem State.setTimeUnit_mem (s : State) (f : TimeUnit → TimeUnit) : (s.setTimeUnit f).mem = s.mem := rfl
@[simp] theorem State.setTimeUnit_out (s : State) (f : TimeUnit → TimeUnit) : (s.setTimeUnit f).out = s.out := rfl
@[simp] theorem State.setTimeUnit_freeUsed (s : State) (f : TimeUnit → TimeUnit) : (s.setTimeUnit f).freeUsed = s.freeUsed := rfl
@[simp] theorem State.setTimeUnit_pending (s : State) (f : TimeUnit → TimeUnit) : (s.setTimeUnit f).pending = s.pending := rfl

/-! ### `setDp` -/

@[simp] theorem State.setDp_regs (s : State) (f : DataPath → DataPath) : (s.setDp f).regs = s.regs := rfl
@[simp] theorem State.setDp_blobs (s : State) (f : DataPath → DataPath) : (s.setDp f).blobs = s.blobs := rfl
@[simp] theorem State.setDp_time (s : State) (f : DataPath → DataPath) : (s.setDp f).time = s.time := rfl
@[simp] theorem State.setDp_befores (s : State) (f : DataPath → DataPath) : (s.setDp f).befores = s.befores := rfl
@[simp] theorem State.setDp_workTick (s : State) (f : DataPath → DataPath) : (s.setDp f).workTick = s.workTick := rfl
@[simp] theorem State.setDp_ports (s : State) (f : DataPath → DataPath) : (s.setDp f).ports = s.ports := rfl
@[simp] theorem State.setDp_sw (s : State) (f : DataPath → DataPath) : (s.setDp f).sw = s.sw := rfl
@[simp] theorem State.setDp_dp (s : State) (f : DataPath → DataPath) : (s.setDp f).dp = f s.dp := rfl
@[simp] theorem State.setDp_hist (s : State) (f : DataPath → DataPath) : (s.setDp f).hist = s.hist := rfl
@[simp] theorem State.setDp_parts (s : State) (f : DataPath → DataPath) : (s.setDp f).parts = s.parts := rfl
@[simp] theorem State.setDp_majorFrame (s : State) (f : DataPath → DataPath) : (s.setDp f).majorFrame = s.majorFrame := rfl
@[simp] theorem State.setDp_cores (s : State) (f : DataPath → DataPath) : (s.setDp f).cores = s.cores := rfl
@[simp] theorem State.setDp_pails (s : State) (f : DataPath → DataPath) : (s.setDp f).pails = s.pails := rfl
@[simp] theorem State.setDp_churn (s : State) (f : DataPath → DataPath) : (s.setDp f).churn = s.churn := rfl
@[simp] theorem State.setDp_loops (s : State) (f : DataPath → DataPath) : (s.setDp f).loops = s.loops := rfl
@[simp] theorem State.setDp_subs (s : State) (f : DataPath → DataPath) : (s.setDp f).subs = s.subs := rfl
@[simp] theorem State.setDp_pubs (s : State) (f : DataPath → DataPath) : (s.setDp f).pubs = s.pubs := rfl
@[simp] theorem State.setDp_pair (s : State) (f : DataPath → DataPath) : (s.setDp f).pair = s.pair := rfl
@[simp] theorem State.setDp_sec (s : State) (f : DataPath → DataPath) : (s.setDp f).sec = s.sec := rfl
@[simp] theorem State.setDp_health (s : State) (f : DataPath → DataPath) : (s.setDp f).health = s.health := rfl
@[simp] theorem State.setDp_edp (s : State) (f : DataPath → DataPath) : (s.setDp f).edp = s.edp := rfl
@[simp] theorem State.setDp_power (s : State) (f : DataPath → DataPath) : (s.setDp f).power = s.power := rfl
@[simp] theorem State.setDp_pins (s : State) (f : DataPath → DataPath) : (s.setDp f).pins = s.pins := rfl
@[simp] theorem State.setDp_mem (s : State) (f : DataPath → DataPath) : (s.setDp f).mem = s.mem := rfl
@[simp] theorem State.setDp_out (s : State) (f : DataPath → DataPath) : (s.setDp f).out = s.out := rfl
@[simp] theorem State.setDp_freeUsed (s : State) (f : DataPath → DataPath) : (s.setDp f).freeUsed = s.freeUsed := rfl
@[simp] theorem State.setDp_pending (s : State) (f : DataPath → DataPath) : (s.setDp f).pending = s.pending := rfl

/-! ### `setHist` -/

@[simp] theorem State.setHist_regs (s : State) (f : History → History) : (s.setHist f).regs = s.regs := rfl
@[simp] theorem State.setHist_blobs (s : State) (f : History → History) : (s.setHist f).blobs = s.blobs := rfl
@[simp] theorem State.setHist_time (s : State) (f : History → History) : (s.setHist f).time = s.time := rfl
@[simp] theorem State.setHist_befores (s : State) (f : History → History) : (s.setHist f).befores = s.befores := rfl
@[simp] theorem State.setHist_workTick (s : State) (f : History → History) : (s.setHist f).workTick = s.workTick := rfl
@[simp] theorem State.setHist_ports (s : State) (f : History → History) : (s.setHist f).ports = s.ports := rfl
@[simp] theorem State.setHist_sw (s : State) (f : History → History) : (s.setHist f).sw = s.sw := rfl
@[simp] theorem State.setHist_dp (s : State) (f : History → History) : (s.setHist f).dp = s.dp := rfl
@[simp] theorem State.setHist_hist (s : State) (f : History → History) : (s.setHist f).hist = f s.hist := rfl
@[simp] theorem State.setHist_parts (s : State) (f : History → History) : (s.setHist f).parts = s.parts := rfl
@[simp] theorem State.setHist_majorFrame (s : State) (f : History → History) : (s.setHist f).majorFrame = s.majorFrame := rfl
@[simp] theorem State.setHist_cores (s : State) (f : History → History) : (s.setHist f).cores = s.cores := rfl
@[simp] theorem State.setHist_pails (s : State) (f : History → History) : (s.setHist f).pails = s.pails := rfl
@[simp] theorem State.setHist_churn (s : State) (f : History → History) : (s.setHist f).churn = s.churn := rfl
@[simp] theorem State.setHist_loops (s : State) (f : History → History) : (s.setHist f).loops = s.loops := rfl
@[simp] theorem State.setHist_subs (s : State) (f : History → History) : (s.setHist f).subs = s.subs := rfl
@[simp] theorem State.setHist_pubs (s : State) (f : History → History) : (s.setHist f).pubs = s.pubs := rfl
@[simp] theorem State.setHist_pair (s : State) (f : History → History) : (s.setHist f).pair = s.pair := rfl
@[simp] theorem State.setHist_sec (s : State) (f : History → History) : (s.setHist f).sec = s.sec := rfl
@[simp] theorem State.setHist_health (s : State) (f : History → History) : (s.setHist f).health = s.health := rfl
@[simp] theorem State.setHist_edp (s : State) (f : History → History) : (s.setHist f).edp = s.edp := rfl
@[simp] theorem State.setHist_power (s : State) (f : History → History) : (s.setHist f).power = s.power := rfl
@[simp] theorem State.setHist_pins (s : State) (f : History → History) : (s.setHist f).pins = s.pins := rfl
@[simp] theorem State.setHist_mem (s : State) (f : History → History) : (s.setHist f).mem = s.mem := rfl
@[simp] theorem State.setHist_out (s : State) (f : History → History) : (s.setHist f).out = s.out := rfl
@[simp] theorem State.setHist_freeUsed (s : State) (f : History → History) : (s.setHist f).freeUsed = s.freeUsed := rfl
@[simp] theorem State.setHist_pending (s : State) (f : History → History) : (s.setHist f).pending = s.pending := rfl

/-! ### `setSw` -/

@[simp] theorem State.setSw_regs (s : State) (f : Switch → Switch) : (s.setSw f).regs = s.regs := rfl
@[simp] theorem State.setSw_blobs (s : State) (f : Switch → Switch) : (s.setSw f).blobs = s.blobs := rfl
@[simp] theorem State.setSw_time (s : State) (f : Switch → Switch) : (s.setSw f).time = s.time := rfl
@[simp] theorem State.setSw_befores (s : State) (f : Switch → Switch) : (s.setSw f).befores = s.befores := rfl
@[simp] theorem State.setSw_workTick (s : State) (f : Switch → Switch) : (s.setSw f).workTick = s.workTick := rfl
@[simp] theorem State.setSw_ports (s : State) (f : Switch → Switch) : (s.setSw f).ports = s.ports := rfl
@[simp] theorem State.setSw_sw (s : State) (f : Switch → Switch) : (s.setSw f).sw = f s.sw := rfl
@[simp] theorem State.setSw_dp (s : State) (f : Switch → Switch) : (s.setSw f).dp = s.dp := rfl
@[simp] theorem State.setSw_hist (s : State) (f : Switch → Switch) : (s.setSw f).hist = s.hist := rfl
@[simp] theorem State.setSw_parts (s : State) (f : Switch → Switch) : (s.setSw f).parts = s.parts := rfl
@[simp] theorem State.setSw_majorFrame (s : State) (f : Switch → Switch) : (s.setSw f).majorFrame = s.majorFrame := rfl
@[simp] theorem State.setSw_cores (s : State) (f : Switch → Switch) : (s.setSw f).cores = s.cores := rfl
@[simp] theorem State.setSw_pails (s : State) (f : Switch → Switch) : (s.setSw f).pails = s.pails := rfl
@[simp] theorem State.setSw_churn (s : State) (f : Switch → Switch) : (s.setSw f).churn = s.churn := rfl
@[simp] theorem State.setSw_loops (s : State) (f : Switch → Switch) : (s.setSw f).loops = s.loops := rfl
@[simp] theorem State.setSw_subs (s : State) (f : Switch → Switch) : (s.setSw f).subs = s.subs := rfl
@[simp] theorem State.setSw_pubs (s : State) (f : Switch → Switch) : (s.setSw f).pubs = s.pubs := rfl
@[simp] theorem State.setSw_pair (s : State) (f : Switch → Switch) : (s.setSw f).pair = s.pair := rfl
@[simp] theorem State.setSw_sec (s : State) (f : Switch → Switch) : (s.setSw f).sec = s.sec := rfl
@[simp] theorem State.setSw_health (s : State) (f : Switch → Switch) : (s.setSw f).health = s.health := rfl
@[simp] theorem State.setSw_edp (s : State) (f : Switch → Switch) : (s.setSw f).edp = s.edp := rfl
@[simp] theorem State.setSw_power (s : State) (f : Switch → Switch) : (s.setSw f).power = s.power := rfl
@[simp] theorem State.setSw_pins (s : State) (f : Switch → Switch) : (s.setSw f).pins = s.pins := rfl
@[simp] theorem State.setSw_mem (s : State) (f : Switch → Switch) : (s.setSw f).mem = s.mem := rfl
@[simp] theorem State.setSw_out (s : State) (f : Switch → Switch) : (s.setSw f).out = s.out := rfl
@[simp] theorem State.setSw_freeUsed (s : State) (f : Switch → Switch) : (s.setSw f).freeUsed = s.freeUsed := rfl
@[simp] theorem State.setSw_pending (s : State) (f : Switch → Switch) : (s.setSw f).pending = s.pending := rfl

/-! ### `setChurn` -/

@[simp] theorem State.setChurn_regs (s : State) (f : Churn → Churn) : (s.setChurn f).regs = s.regs := rfl
@[simp] theorem State.setChurn_blobs (s : State) (f : Churn → Churn) : (s.setChurn f).blobs = s.blobs := rfl
@[simp] theorem State.setChurn_time (s : State) (f : Churn → Churn) : (s.setChurn f).time = s.time := rfl
@[simp] theorem State.setChurn_befores (s : State) (f : Churn → Churn) : (s.setChurn f).befores = s.befores := rfl
@[simp] theorem State.setChurn_workTick (s : State) (f : Churn → Churn) : (s.setChurn f).workTick = s.workTick := rfl
@[simp] theorem State.setChurn_ports (s : State) (f : Churn → Churn) : (s.setChurn f).ports = s.ports := rfl
@[simp] theorem State.setChurn_sw (s : State) (f : Churn → Churn) : (s.setChurn f).sw = s.sw := rfl
@[simp] theorem State.setChurn_dp (s : State) (f : Churn → Churn) : (s.setChurn f).dp = s.dp := rfl
@[simp] theorem State.setChurn_hist (s : State) (f : Churn → Churn) : (s.setChurn f).hist = s.hist := rfl
@[simp] theorem State.setChurn_parts (s : State) (f : Churn → Churn) : (s.setChurn f).parts = s.parts := rfl
@[simp] theorem State.setChurn_majorFrame (s : State) (f : Churn → Churn) : (s.setChurn f).majorFrame = s.majorFrame := rfl
@[simp] theorem State.setChurn_cores (s : State) (f : Churn → Churn) : (s.setChurn f).cores = s.cores := rfl
@[simp] theorem State.setChurn_pails (s : State) (f : Churn → Churn) : (s.setChurn f).pails = s.pails := rfl
@[simp] theorem State.setChurn_churn (s : State) (f : Churn → Churn) : (s.setChurn f).churn = f s.churn := rfl
@[simp] theorem State.setChurn_loops (s : State) (f : Churn → Churn) : (s.setChurn f).loops = s.loops := rfl
@[simp] theorem State.setChurn_subs (s : State) (f : Churn → Churn) : (s.setChurn f).subs = s.subs := rfl
@[simp] theorem State.setChurn_pubs (s : State) (f : Churn → Churn) : (s.setChurn f).pubs = s.pubs := rfl
@[simp] theorem State.setChurn_pair (s : State) (f : Churn → Churn) : (s.setChurn f).pair = s.pair := rfl
@[simp] theorem State.setChurn_sec (s : State) (f : Churn → Churn) : (s.setChurn f).sec = s.sec := rfl
@[simp] theorem State.setChurn_health (s : State) (f : Churn → Churn) : (s.setChurn f).health = s.health := rfl
@[simp] theorem State.setChurn_edp (s : State) (f : Churn → Churn) : (s.setChurn f).edp = s.edp := rfl
@[simp] theorem State.setChurn_power (s : State) (f : Churn → Churn) : (s.setChurn f).power = s.power := rfl
@[simp] theorem State.setChurn_pins (s : State) (f : Churn → Churn) : (s.setChurn f).pins = s.pins := rfl
@[simp] theorem State.setChurn_mem (s : State) (f : Churn → Churn) : (s.setChurn f).mem = s.mem := rfl
@[simp] theorem State.setChurn_out (s : State) (f : Churn → Churn) : (s.setChurn f).out = s.out := rfl
@[simp] theorem State.setChurn_freeUsed (s : State) (f : Churn → Churn) : (s.setChurn f).freeUsed = s.freeUsed := rfl
@[simp] theorem State.setChurn_pending (s : State) (f : Churn → Churn) : (s.setChurn f).pending = s.pending := rfl

/-! ### `setLoops` -/

@[simp] theorem State.setLoops_regs (s : State) (f : Loops → Loops) : (s.setLoops f).regs = s.regs := rfl
@[simp] theorem State.setLoops_blobs (s : State) (f : Loops → Loops) : (s.setLoops f).blobs = s.blobs := rfl
@[simp] theorem State.setLoops_time (s : State) (f : Loops → Loops) : (s.setLoops f).time = s.time := rfl
@[simp] theorem State.setLoops_befores (s : State) (f : Loops → Loops) : (s.setLoops f).befores = s.befores := rfl
@[simp] theorem State.setLoops_workTick (s : State) (f : Loops → Loops) : (s.setLoops f).workTick = s.workTick := rfl
@[simp] theorem State.setLoops_ports (s : State) (f : Loops → Loops) : (s.setLoops f).ports = s.ports := rfl
@[simp] theorem State.setLoops_sw (s : State) (f : Loops → Loops) : (s.setLoops f).sw = s.sw := rfl
@[simp] theorem State.setLoops_dp (s : State) (f : Loops → Loops) : (s.setLoops f).dp = s.dp := rfl
@[simp] theorem State.setLoops_hist (s : State) (f : Loops → Loops) : (s.setLoops f).hist = s.hist := rfl
@[simp] theorem State.setLoops_parts (s : State) (f : Loops → Loops) : (s.setLoops f).parts = s.parts := rfl
@[simp] theorem State.setLoops_majorFrame (s : State) (f : Loops → Loops) : (s.setLoops f).majorFrame = s.majorFrame := rfl
@[simp] theorem State.setLoops_cores (s : State) (f : Loops → Loops) : (s.setLoops f).cores = s.cores := rfl
@[simp] theorem State.setLoops_pails (s : State) (f : Loops → Loops) : (s.setLoops f).pails = s.pails := rfl
@[simp] theorem State.setLoops_churn (s : State) (f : Loops → Loops) : (s.setLoops f).churn = s.churn := rfl
@[simp] theorem State.setLoops_loops (s : State) (f : Loops → Loops) : (s.setLoops f).loops = f s.loops := rfl
@[simp] theorem State.setLoops_subs (s : State) (f : Loops → Loops) : (s.setLoops f).subs = s.subs := rfl
@[simp] theorem State.setLoops_pubs (s : State) (f : Loops → Loops) : (s.setLoops f).pubs = s.pubs := rfl
@[simp] theorem State.setLoops_pair (s : State) (f : Loops → Loops) : (s.setLoops f).pair = s.pair := rfl
@[simp] theorem State.setLoops_sec (s : State) (f : Loops → Loops) : (s.setLoops f).sec = s.sec := rfl
@[simp] theorem State.setLoops_health (s : State) (f : Loops → Loops) : (s.setLoops f).health = s.health := rfl
@[simp] theorem State.setLoops_edp (s : State) (f : Loops → Loops) : (s.setLoops f).edp = s.edp := rfl
@[simp] theorem State.setLoops_power (s : State) (f : Loops → Loops) : (s.setLoops f).power = s.power := rfl
@[simp] theorem State.setLoops_pins (s : State) (f : Loops → Loops) : (s.setLoops f).pins = s.pins := rfl
@[simp] theorem State.setLoops_mem (s : State) (f : Loops → Loops) : (s.setLoops f).mem = s.mem := rfl
@[simp] theorem State.setLoops_out (s : State) (f : Loops → Loops) : (s.setLoops f).out = s.out := rfl
@[simp] theorem State.setLoops_freeUsed (s : State) (f : Loops → Loops) : (s.setLoops f).freeUsed = s.freeUsed := rfl
@[simp] theorem State.setLoops_pending (s : State) (f : Loops → Loops) : (s.setLoops f).pending = s.pending := rfl

/-! ### `setPair` -/

@[simp] theorem State.setPair_regs (s : State) (f : Pair → Pair) : (s.setPair f).regs = s.regs := rfl
@[simp] theorem State.setPair_blobs (s : State) (f : Pair → Pair) : (s.setPair f).blobs = s.blobs := rfl
@[simp] theorem State.setPair_time (s : State) (f : Pair → Pair) : (s.setPair f).time = s.time := rfl
@[simp] theorem State.setPair_befores (s : State) (f : Pair → Pair) : (s.setPair f).befores = s.befores := rfl
@[simp] theorem State.setPair_workTick (s : State) (f : Pair → Pair) : (s.setPair f).workTick = s.workTick := rfl
@[simp] theorem State.setPair_ports (s : State) (f : Pair → Pair) : (s.setPair f).ports = s.ports := rfl
@[simp] theorem State.setPair_sw (s : State) (f : Pair → Pair) : (s.setPair f).sw = s.sw := rfl
@[simp] theorem State.setPair_dp (s : State) (f : Pair → Pair) : (s.setPair f).dp = s.dp := rfl
@[simp] theorem State.setPair_hist (s : State) (f : Pair → Pair) : (s.setPair f).hist = s.hist := rfl
@[simp] theorem State.setPair_parts (s : State) (f : Pair → Pair) : (s.setPair f).parts = s.parts := rfl
@[simp] theorem State.setPair_majorFrame (s : State) (f : Pair → Pair) : (s.setPair f).majorFrame = s.majorFrame := rfl
@[simp] theorem State.setPair_cores (s : State) (f : Pair → Pair) : (s.setPair f).cores = s.cores := rfl
@[simp] theorem State.setPair_pails (s : State) (f : Pair → Pair) : (s.setPair f).pails = s.pails := rfl
@[simp] theorem State.setPair_churn (s : State) (f : Pair → Pair) : (s.setPair f).churn = s.churn := rfl
@[simp] theorem State.setPair_loops (s : State) (f : Pair → Pair) : (s.setPair f).loops = s.loops := rfl
@[simp] theorem State.setPair_subs (s : State) (f : Pair → Pair) : (s.setPair f).subs = s.subs := rfl
@[simp] theorem State.setPair_pubs (s : State) (f : Pair → Pair) : (s.setPair f).pubs = s.pubs := rfl
@[simp] theorem State.setPair_pair (s : State) (f : Pair → Pair) : (s.setPair f).pair = f s.pair := rfl
@[simp] theorem State.setPair_sec (s : State) (f : Pair → Pair) : (s.setPair f).sec = s.sec := rfl
@[simp] theorem State.setPair_health (s : State) (f : Pair → Pair) : (s.setPair f).health = s.health := rfl
@[simp] theorem State.setPair_edp (s : State) (f : Pair → Pair) : (s.setPair f).edp = s.edp := rfl
@[simp] theorem State.setPair_power (s : State) (f : Pair → Pair) : (s.setPair f).power = s.power := rfl
@[simp] theorem State.setPair_pins (s : State) (f : Pair → Pair) : (s.setPair f).pins = s.pins := rfl
@[simp] theorem State.setPair_mem (s : State) (f : Pair → Pair) : (s.setPair f).mem = s.mem := rfl
@[simp] theorem State.setPair_out (s : State) (f : Pair → Pair) : (s.setPair f).out = s.out := rfl
@[simp] theorem State.setPair_freeUsed (s : State) (f : Pair → Pair) : (s.setPair f).freeUsed = s.freeUsed := rfl
@[simp] theorem State.setPair_pending (s : State) (f : Pair → Pair) : (s.setPair f).pending = s.pending := rfl

/-! ### `setSec` -/

@[simp] theorem State.setSec_regs (s : State) (f : Security → Security) : (s.setSec f).regs = s.regs := rfl
@[simp] theorem State.setSec_blobs (s : State) (f : Security → Security) : (s.setSec f).blobs = s.blobs := rfl
@[simp] theorem State.setSec_time (s : State) (f : Security → Security) : (s.setSec f).time = s.time := rfl
@[simp] theorem State.setSec_befores (s : State) (f : Security → Security) : (s.setSec f).befores = s.befores := rfl
@[simp] theorem State.setSec_workTick (s : State) (f : Security → Security) : (s.setSec f).workTick = s.workTick := rfl
@[simp] theorem State.setSec_ports (s : State) (f : Security → Security) : (s.setSec f).ports = s.ports := rfl
@[simp] theorem State.setSec_sw (s : State) (f : Security → Security) : (s.setSec f).sw = s.sw := rfl
@[simp] theorem State.setSec_dp (s : State) (f : Security → Security) : (s.setSec f).dp = s.dp := rfl
@[simp] theorem State.setSec_hist (s : State) (f : Security → Security) : (s.setSec f).hist = s.hist := rfl
@[simp] theorem State.setSec_parts (s : State) (f : Security → Security) : (s.setSec f).parts = s.parts := rfl
@[simp] theorem State.setSec_majorFrame (s : State) (f : Security → Security) : (s.setSec f).majorFrame = s.majorFrame := rfl
@[simp] theorem State.setSec_cores (s : State) (f : Security → Security) : (s.setSec f).cores = s.cores := rfl
@[simp] theorem State.setSec_pails (s : State) (f : Security → Security) : (s.setSec f).pails = s.pails := rfl
@[simp] theorem State.setSec_churn (s : State) (f : Security → Security) : (s.setSec f).churn = s.churn := rfl
@[simp] theorem State.setSec_loops (s : State) (f : Security → Security) : (s.setSec f).loops = s.loops := rfl
@[simp] theorem State.setSec_subs (s : State) (f : Security → Security) : (s.setSec f).subs = s.subs := rfl
@[simp] theorem State.setSec_pubs (s : State) (f : Security → Security) : (s.setSec f).pubs = s.pubs := rfl
@[simp] theorem State.setSec_pair (s : State) (f : Security → Security) : (s.setSec f).pair = s.pair := rfl
@[simp] theorem State.setSec_sec (s : State) (f : Security → Security) : (s.setSec f).sec = f s.sec := rfl
@[simp] theorem State.setSec_health (s : State) (f : Security → Security) : (s.setSec f).health = s.health := rfl
@[simp] theorem State.setSec_edp (s : State) (f : Security → Security) : (s.setSec f).edp = s.edp := rfl
@[simp] theorem State.setSec_power (s : State) (f : Security → Security) : (s.setSec f).power = s.power := rfl
@[simp] theorem State.setSec_pins (s : State) (f : Security → Security) : (s.setSec f).pins = s.pins := rfl
@[simp] theorem State.setSec_mem (s : State) (f : Security → Security) : (s.setSec f).mem = s.mem := rfl
@[simp] theorem State.setSec_out (s : State) (f : Security → Security) : (s.setSec f).out = s.out := rfl
@[simp] theorem State.setSec_freeUsed (s : State) (f : Security → Security) : (s.setSec f).freeUsed = s.freeUsed := rfl
@[simp] theorem State.setSec_pending (s : State) (f : Security → Security) : (s.setSec f).pending = s.pending := rfl

/-! ### `setHealth` -/

@[simp] theorem State.setHealth_regs (s : State) (f : Health → Health) : (s.setHealth f).regs = s.regs := rfl
@[simp] theorem State.setHealth_blobs (s : State) (f : Health → Health) : (s.setHealth f).blobs = s.blobs := rfl
@[simp] theorem State.setHealth_time (s : State) (f : Health → Health) : (s.setHealth f).time = s.time := rfl
@[simp] theorem State.setHealth_befores (s : State) (f : Health → Health) : (s.setHealth f).befores = s.befores := rfl
@[simp] theorem State.setHealth_workTick (s : State) (f : Health → Health) : (s.setHealth f).workTick = s.workTick := rfl
@[simp] theorem State.setHealth_ports (s : State) (f : Health → Health) : (s.setHealth f).ports = s.ports := rfl
@[simp] theorem State.setHealth_sw (s : State) (f : Health → Health) : (s.setHealth f).sw = s.sw := rfl
@[simp] theorem State.setHealth_dp (s : State) (f : Health → Health) : (s.setHealth f).dp = s.dp := rfl
@[simp] theorem State.setHealth_hist (s : State) (f : Health → Health) : (s.setHealth f).hist = s.hist := rfl
@[simp] theorem State.setHealth_parts (s : State) (f : Health → Health) : (s.setHealth f).parts = s.parts := rfl
@[simp] theorem State.setHealth_majorFrame (s : State) (f : Health → Health) : (s.setHealth f).majorFrame = s.majorFrame := rfl
@[simp] theorem State.setHealth_cores (s : State) (f : Health → Health) : (s.setHealth f).cores = s.cores := rfl
@[simp] theorem State.setHealth_pails (s : State) (f : Health → Health) : (s.setHealth f).pails = s.pails := rfl
@[simp] theorem State.setHealth_churn (s : State) (f : Health → Health) : (s.setHealth f).churn = s.churn := rfl
@[simp] theorem State.setHealth_loops (s : State) (f : Health → Health) : (s.setHealth f).loops = s.loops := rfl
@[simp] theorem State.setHealth_subs (s : State) (f : Health → Health) : (s.setHealth f).subs = s.subs := rfl
@[simp] theorem State.setHealth_pubs (s : State) (f : Health → Health) : (s.setHealth f).pubs = s.pubs := rfl
@[simp] theorem State.setHealth_pair (s : State) (f : Health → Health) : (s.setHealth f).pair = s.pair := rfl
@[simp] theorem State.setHealth_sec (s : State) (f : Health → Health) : (s.setHealth f).sec = s.sec := rfl
@[simp] theorem State.setHealth_health (s : State) (f : Health → Health) : (s.setHealth f).health = f s.health := rfl
@[simp] theorem State.setHealth_edp (s : State) (f : Health → Health) : (s.setHealth f).edp = s.edp := rfl
@[simp] theorem State.setHealth_power (s : State) (f : Health → Health) : (s.setHealth f).power = s.power := rfl
@[simp] theorem State.setHealth_pins (s : State) (f : Health → Health) : (s.setHealth f).pins = s.pins := rfl
@[simp] theorem State.setHealth_mem (s : State) (f : Health → Health) : (s.setHealth f).mem = s.mem := rfl
@[simp] theorem State.setHealth_out (s : State) (f : Health → Health) : (s.setHealth f).out = s.out := rfl
@[simp] theorem State.setHealth_freeUsed (s : State) (f : Health → Health) : (s.setHealth f).freeUsed = s.freeUsed := rfl
@[simp] theorem State.setHealth_pending (s : State) (f : Health → Health) : (s.setHealth f).pending = s.pending := rfl

/-! ### `setEdp` -/

@[simp] theorem State.setEdp_regs (s : State) (f : Edp → Edp) : (s.setEdp f).regs = s.regs := rfl
@[simp] theorem State.setEdp_blobs (s : State) (f : Edp → Edp) : (s.setEdp f).blobs = s.blobs := rfl
@[simp] theorem State.setEdp_time (s : State) (f : Edp → Edp) : (s.setEdp f).time = s.time := rfl
@[simp] theorem State.setEdp_befores (s : State) (f : Edp → Edp) : (s.setEdp f).befores = s.befores := rfl
@[simp] theorem State.setEdp_workTick (s : State) (f : Edp → Edp) : (s.setEdp f).workTick = s.workTick := rfl
@[simp] theorem State.setEdp_ports (s : State) (f : Edp → Edp) : (s.setEdp f).ports = s.ports := rfl
@[simp] theorem State.setEdp_sw (s : State) (f : Edp → Edp) : (s.setEdp f).sw = s.sw := rfl
@[simp] theorem State.setEdp_dp (s : State) (f : Edp → Edp) : (s.setEdp f).dp = s.dp := rfl
@[simp] theorem State.setEdp_hist (s : State) (f : Edp → Edp) : (s.setEdp f).hist = s.hist := rfl
@[simp] theorem State.setEdp_parts (s : State) (f : Edp → Edp) : (s.setEdp f).parts = s.parts := rfl
@[simp] theorem State.setEdp_majorFrame (s : State) (f : Edp → Edp) : (s.setEdp f).majorFrame = s.majorFrame := rfl
@[simp] theorem State.setEdp_cores (s : State) (f : Edp → Edp) : (s.setEdp f).cores = s.cores := rfl
@[simp] theorem State.setEdp_pails (s : State) (f : Edp → Edp) : (s.setEdp f).pails = s.pails := rfl
@[simp] theorem State.setEdp_churn (s : State) (f : Edp → Edp) : (s.setEdp f).churn = s.churn := rfl
@[simp] theorem State.setEdp_loops (s : State) (f : Edp → Edp) : (s.setEdp f).loops = s.loops := rfl
@[simp] theorem State.setEdp_subs (s : State) (f : Edp → Edp) : (s.setEdp f).subs = s.subs := rfl
@[simp] theorem State.setEdp_pubs (s : State) (f : Edp → Edp) : (s.setEdp f).pubs = s.pubs := rfl
@[simp] theorem State.setEdp_pair (s : State) (f : Edp → Edp) : (s.setEdp f).pair = s.pair := rfl
@[simp] theorem State.setEdp_sec (s : State) (f : Edp → Edp) : (s.setEdp f).sec = s.sec := rfl
@[simp] theorem State.setEdp_health (s : State) (f : Edp → Edp) : (s.setEdp f).health = s.health := rfl
@[simp] theorem State.setEdp_edp (s : State) (f : Edp → Edp) : (s.setEdp f).edp = f s.edp := rfl
@[simp] theorem State.setEdp_power (s : State) (f : Edp → Edp) : (s.setEdp f).power = s.power := rfl
@[simp] theorem State.setEdp_pins (s : State) (f : Edp → Edp) : (s.setEdp f).pins = s.pins := rfl
@[simp] theorem State.setEdp_mem (s : State) (f : Edp → Edp) : (s.setEdp f).mem = s.mem := rfl
@[simp] theorem State.setEdp_out (s : State) (f : Edp → Edp) : (s.setEdp f).out = s.out := rfl
@[simp] theorem State.setEdp_freeUsed (s : State) (f : Edp → Edp) : (s.setEdp f).freeUsed = s.freeUsed := rfl
@[simp] theorem State.setEdp_pending (s : State) (f : Edp → Edp) : (s.setEdp f).pending = s.pending := rfl

/-! ### `setPower` -/

@[simp] theorem State.setPower_regs (s : State) (f : Power → Power) : (s.setPower f).regs = s.regs := rfl
@[simp] theorem State.setPower_blobs (s : State) (f : Power → Power) : (s.setPower f).blobs = s.blobs := rfl
@[simp] theorem State.setPower_time (s : State) (f : Power → Power) : (s.setPower f).time = s.time := rfl
@[simp] theorem State.setPower_befores (s : State) (f : Power → Power) : (s.setPower f).befores = s.befores := rfl
@[simp] theorem State.setPower_workTick (s : State) (f : Power → Power) : (s.setPower f).workTick = s.workTick := rfl
@[simp] theorem State.setPower_ports (s : State) (f : Power → Power) : (s.setPower f).ports = s.ports := rfl
@[simp] theorem State.setPower_sw (s : State) (f : Power → Power) : (s.setPower f).sw = s.sw := rfl
@[simp] theorem State.setPower_dp (s : State) (f : Power → Power) : (s.setPower f).dp = s.dp := rfl
@[simp] theorem State.setPower_hist (s : State) (f : Power → Power) : (s.setPower f).hist = s.hist := rfl
@[simp] theorem State.setPower_parts (s : State) (f : Power → Power) : (s.setPower f).parts = s.parts := rfl
@[simp] theorem State.setPower_majorFrame (s : State) (f : Power → Power) : (s.setPower f).majorFrame = s.majorFrame := rfl
@[simp] theorem State.setPower_cores (s : State) (f : Power → Power) : (s.setPower f).cores = s.cores := rfl
@[simp] theorem State.setPower_pails (s : State) (f : Power → Power) : (s.setPower f).pails = s.pails := rfl
@[simp] theorem State.setPower_churn (s : State) (f : Power → Power) : (s.setPower f).churn = s.churn := rfl
@[simp] theorem State.setPower_loops (s : State) (f : Power → Power) : (s.setPower f).loops = s.loops := rfl
@[simp] theorem State.setPower_subs (s : State) (f : Power → Power) : (s.setPower f).subs = s.subs := rfl
@[simp] theorem State.setPower_pubs (s : State) (f : Power → Power) : (s.setPower f).pubs = s.pubs := rfl
@[simp] theorem State.setPower_pair (s : State) (f : Power → Power) : (s.setPower f).pair = s.pair := rfl
@[simp] theorem State.setPower_sec (s : State) (f : Power → Power) : (s.setPower f).sec = s.sec := rfl
@[simp] theorem State.setPower_health (s : State) (f : Power → Power) : (s.setPower f).health = s.health := rfl
@[simp] theorem State.setPower_edp (s : State) (f : Power → Power) : (s.setPower f).edp = s.edp := rfl
@[simp] theorem State.setPower_power (s : State) (f : Power → Power) : (s.setPower f).power = f s.power := rfl
@[simp] theorem State.setPower_pins (s : State) (f : Power → Power) : (s.setPower f).pins = s.pins := rfl
@[simp] theorem State.setPower_mem (s : State) (f : Power → Power) : (s.setPower f).mem = s.mem := rfl
@[simp] theorem State.setPower_out (s : State) (f : Power → Power) : (s.setPower f).out = s.out := rfl
@[simp] theorem State.setPower_freeUsed (s : State) (f : Power → Power) : (s.setPower f).freeUsed = s.freeUsed := rfl
@[simp] theorem State.setPower_pending (s : State) (f : Power → Power) : (s.setPower f).pending = s.pending := rfl

@[simp] theorem State.modPort_eq (s : State) (p : Nat) (f : Port → Port) : s.modPort p f = s.setPort p (f (s.port p)) := rfl
@[simp] theorem State.modPart_eq (s : State) (n : Nat) (f : Partition → Partition) : s.modPart n f = s.setPart n (f (s.part n)) := rfl
@[simp] theorem State.modPail_eq (s : State) (p : Nat) (f : Pail → Pail) : s.modPail p f = s.setPail p (f (s.pail p)) := rfl

end Sys2Proof.Machine
end

