-- ==== Sys2Proof/Laws/Tab.lean ====
section
/-!
SUPPORT. Tables: what a lookup gives after an update, and that updates keep the canonical form.
-/

namespace Sys2Proof.Machine

open Sys2Proof

variable {α : Type}

@[simp] theorem Tab.find_nil (j : Nat) : Tab.find ([] : Tab α) j = none := rfl

@[simp] theorem Tab.find_insert_self (t : Tab α) (j : Nat) (x : α) : Tab.find (Tab.insert t j x) j = some x := by
  induction t with
  | nil => simp [Tab.insert, Tab.find]
  | cons e t ih =>
    obtain ⟨k, v⟩ := e
    simp only [Tab.insert]
    split
    · simp [Tab.find]
    · split
      · simp [Tab.find]
      · rw [Tab.find, if_neg (by omega), ih]

theorem Tab.find_insert_ne (t : Tab α) {i j : Nat} (x : α) (h : i ≠ j) :
    Tab.find (Tab.insert t j x) i = Tab.find t i := by
  induction t with
  | nil => simp [Tab.insert, Tab.find, h.symm]
  | cons e t ih =>
    obtain ⟨k, v⟩ := e
    simp only [Tab.insert]
    split
    · simp [Tab.find, h.symm]
    · split
      · subst_vars; simp [Tab.find, h.symm]
      · simp only [Tab.find, ih]

@[simp] theorem Tab.find_del_self (t : Tab α) (j : Nat) : Tab.find (Tab.del t j) j = none := by
  induction t with
  | nil => rfl
  | cons e t ih =>
    obtain ⟨k, v⟩ := e
    simp only [Tab.del] at ih
    by_cases h : k = j
    · simpa [Tab.del, h] using ih
    · simpa [Tab.del, h, Tab.find] using ih

theorem Tab.find_del_ne (t : Tab α) {i j : Nat} (h : i ≠ j) : Tab.find (Tab.del t j) i = Tab.find t i := by
  induction t with
  | nil => rfl
  | cons e t ih =>
    obtain ⟨k, v⟩ := e
    simp only [Tab.del] at ih
    by_cases hk : k = j
    · subst hk
      simpa [Tab.del, Tab.find, h.symm] using ih
    · simp only [Tab.del, hk, ne_eq, not_false_eq_true, decide_true, List.filter_cons_of_pos, Tab.find]
      simpa [Tab.find] using congrArg (fun r => if k = i then some v else r) ih

/-- A value put at a key is found there. -/
@[simp] theorem Tab.look_put_self [DecidableEq α] (t : Tab α) (j : Nat) (x d : α) : Tab.look (Tab.put t j x d) j d = x := by
  unfold Tab.look Tab.put
  split <;> simp_all

/-- Every other key keeps its value. -/
theorem Tab.look_put_ne [DecidableEq α] (t : Tab α) {i j : Nat} (x d : α) (h : i ≠ j) :
    Tab.look (Tab.put t j x d) i d = Tab.look t i d := by
  unfold Tab.look Tab.put
  split
  · rw [Tab.find_del_ne t h]
  · rw [Tab.find_insert_ne t x h]

/-- The value found under a default of its own, which the table's default stands for. -/
theorem Tab.find_put_self [DecidableEq α] (t : Tab α) (j : Nat) (x d : α) : (Tab.find (Tab.put t j x d) j).getD d = x :=
  Tab.look_put_self t j x d

theorem Tab.find_put_ne [DecidableEq α] (t : Tab α) {i j : Nat} (x d : α) (h : i ≠ j) :
    Tab.find (Tab.put t j x d) i = Tab.find t i := by
  unfold Tab.put
  split
  · exact Tab.find_del_ne t h
  · exact Tab.find_insert_ne t x h

/-! ### The canonical form -/

/-- The form as a statement: no entry equal to the default, keys strictly rising. -/
theorem Tab.wf_iff [DecidableEq α] (t : Tab α) (d : α) : Tab.wf t d = true ↔ (∀ e ∈ t, e.2 ≠ d) ∧ t.Pairwise (fun a b => a.1 < b.1) := by
  induction t with
  | nil => simp [Tab.wf]
  | cons e t ih =>
    obtain ⟨k, v⟩ := e
    rw [Tab.wf.eq_def]
    simp only [Bool.and_eq_true, decide_eq_true_eq, ih, List.mem_cons, forall_eq_or_imp, List.pairwise_cons]
    constructor
    · rintro ⟨⟨hv, hk⟩, hd, hp⟩
      refine ⟨⟨hv, hd⟩, ?_, hp⟩
      cases t with
      | nil => simp
      | cons e' u =>
        obtain ⟨k', v'⟩ := e'
        have hk' : k < k' := by simpa using hk
        intro a ha
        rcases List.mem_cons.mp ha with rfl | ha'
        · exact hk'
        · exact lt_trans hk' ((List.pairwise_cons.mp hp).1 a ha')
    · rintro ⟨⟨hv, hd⟩, hk, hp⟩
      refine ⟨⟨hv, ?_⟩, hd, hp⟩
      cases t with
      | nil => rfl
      | cons e' u => simpa using hk e' (by simp)

theorem Tab.mem_insert (t : Tab α) (j : Nat) (x : α) {e : Nat × α} (h : e ∈ Tab.insert t j x) : e = (j, x) ∨ e ∈ t := by
  induction t with
  | nil => simpa [Tab.insert] using h
  | cons c t ih =>
    obtain ⟨k, v⟩ := c
    simp only [Tab.insert] at h
    split at h
    · simpa using h
    · split at h
      · rcases List.mem_cons.mp h with h | h
        · exact .inl h
        · exact .inr (List.mem_cons_of_mem _ h)
      · rcases List.mem_cons.mp h with h | h
        · exact .inr (by simp [h])
        · exact (ih h).imp id (List.mem_cons_of_mem _)

theorem Tab.pairwise_insert (t : Tab α) (j : Nat) (x : α) (h : t.Pairwise (fun a b => a.1 < b.1)) :
    (Tab.insert t j x).Pairwise (fun a b => a.1 < b.1) := by
  induction t with
  | nil => simp [Tab.insert]
  | cons c t ih =>
    obtain ⟨k, v⟩ := c
    have hp := List.pairwise_cons.mp h
    simp only [Tab.insert]
    split
    · rename_i hj
      refine List.pairwise_cons.mpr ⟨fun a ha => ?_, h⟩
      rcases List.mem_cons.mp ha with rfl | ha
      · exact hj
      · exact lt_trans hj (hp.1 a ha)
    · split
      · rename_i hj
        exact List.pairwise_cons.mpr ⟨fun a ha => hj ▸ hp.1 a ha, hp.2⟩
      · refine List.pairwise_cons.mpr ⟨fun a ha => ?_, ih hp.2⟩
        rcases Tab.mem_insert t j x ha with rfl | ha
        · show k < j
          omega
        · exact hp.1 a ha

/-- An update keeps the canonical form. -/
theorem Tab.wf_put [DecidableEq α] (t : Tab α) (j : Nat) (x d : α) (h : Tab.wf t d = true) : Tab.wf (Tab.put t j x d) d = true := by
  rw [Tab.wf_iff] at h ⊢
  unfold Tab.put
  split
  · exact ⟨fun e he => h.1 e (List.mem_of_mem_filter he), h.2.filter _⟩
  · rename_i hx
    exact ⟨fun e he => (Tab.mem_insert t j x he).elim (fun q => q ▸ hx) (h.1 e), Tab.pairwise_insert t j x h.2⟩

end Sys2Proof.Machine
end

