-- ==== Sys2Proof/Laws/Ops.lean ====
section
/-!
SUPPORT. What the shared operations do: dictionary values, instances, memory, the outcome of a command.
-/

namespace Sys2Proof.Machine

open Sys2Proof

/-! ### Dictionary values -/

@[simp] theorem State.reg_setReg_self (s : State) (k v : Nat) : (s.setReg k v).reg k = v := Tab.look_put_self s.regs k v (odDefault k)

theorem State.reg_setReg_ne (s : State) {i k : Nat} (v : Nat) (h : i ≠ k) : (s.setReg k v).reg i = s.reg i := by
  unfold State.reg State.setReg
  rw [Tab.find_put_ne s.regs v _ h]

@[simp] theorem State.blob_setBlob_self (s : State) (k : Nat) (v : List Byte) : (s.setBlob k v).blob k = v :=
  Tab.look_put_self s.blobs k v (blobDefault k)

/-! ### Instances -/

@[simp] theorem State.port_setPort_self (s : State) (p : Nat) (x : Port) : (s.setPort p x).port p = x := Tab.look_put_self _ _ _ _
theorem State.port_setPort_ne (s : State) {i p : Nat} (x : Port) (h : i ≠ p) : (s.setPort p x).port i = s.port i :=
  Tab.look_put_ne _ _ _ h
@[simp] theorem State.part_setPart_self (s : State) (n : Nat) (x : Partition) : (s.setPart n x).part n = x := Tab.look_put_self _ _ _ _
theorem State.part_setPart_ne (s : State) {i n : Nat} (x : Partition) (h : i ≠ n) : (s.setPart n x).part i = s.part i :=
  Tab.look_put_ne _ _ _ h
@[simp] theorem State.pail_setPail_self (s : State) (p : Nat) (x : Pail) : (s.setPail p x).pail p = x := Tab.look_put_self _ _ _ _
theorem State.pail_setPail_ne (s : State) {i p : Nat} (x : Pail) (h : i ≠ p) : (s.setPail p x).pail i = s.pail i :=
  Tab.look_put_ne _ _ _ h
@[simp] theorem Pail.queue_setQueue_self (x : Pail) (q : Nat) (y : Queue) : (x.setQueue q y).queue q = y := Tab.look_put_self _ _ _ _
theorem Pail.queue_setQueue_ne (x : Pail) {i q : Nat} (y : Queue) (h : i ≠ q) : (x.setQueue q y).queue i = x.queue i :=
  Tab.look_put_ne _ _ _ h
@[simp] theorem State.stream_setStream_self (s : State) (n : Nat) (x : Stream) : (s.setStream n x).stream n = x :=
  Tab.look_put_self _ _ _ _
@[simp] theorem State.chan_setChan_self (s : State) (c : Nat) (x : Channel) : (s.setChan c x).chan c = x := Tab.look_put_self _ _ _ _
@[simp] theorem State.fgroup_setFgroup_self (s : State) (g : Nat) (x : FreqGroup) : (s.setFgroup g x).fgroup g = x :=
  Tab.look_put_self _ _ _ _
@[simp] theorem State.window_setWindow_self (s : State) (w : Nat) (x : Window) : (s.setWindow w x).window w = x :=
  Tab.look_put_self _ _ _ _
@[simp] theorem State.loopAt_setLoop_self (s : State) (l : Nat) (x : Loop) : (s.setLoop l x).loopAt l = x := Tab.look_put_self _ _ _ _
theorem State.loopAt_setLoop_ne (s : State) {i l : Nat} (x : Loop) (h : i ≠ l) : (s.setLoop l x).loopAt i = s.loopAt i :=
  Tab.look_put_ne _ _ _ h
@[simp] theorem State.sub_setSub_self (s : State) (n : Nat) (x : Sub) : (s.setSub n x).sub n = x := Tab.look_put_self _ _ _ _
@[simp] theorem State.pub_setPub_self (s : State) (n : Nat) (x : Pub) : (s.setPub n x).pub n = x := Tab.look_put_self _ _ _ _
theorem State.pub_setPub_ne (s : State) {i n : Nat} (x : Pub) (h : i ≠ n) : (s.setPub n x).pub i = s.pub i :=
  Tab.look_put_ne _ _ _ h
@[simp] theorem State.herd_setHerd_self (s : State) (h : Nat) (x : Herd) : (s.setHerd h x).herd h = x := Tab.look_put_self _ _ _ _
@[simp] theorem State.op_setOp_self (s : State) (n : Nat) (x : Op) : (s.setOp n x).op n = x := Tab.look_put_self _ _ _ _
theorem State.op_setOp_ne (s : State) {i n : Nat} (x : Op) (h : i ≠ n) : (s.setOp n x).op i = s.op i := Tab.look_put_ne _ _ _ h
@[simp] theorem State.session?_setSession_self (s : State) (n : Nat) (x : Session) : (s.setSession n x).session? n = some x :=
  Tab.find_insert_self _ _ _
theorem State.session?_setSession_ne (s : State) {i n : Nat} (x : Session) (h : i ≠ n) :
    (s.setSession n x).session? i = s.session? i := Tab.find_insert_ne _ _ h

/-! ### Memory -/

/-- Two owners' bytes are two cells: an owner's address wraps at 64 bits. -/
theorem memKey_inj {w v a b : Nat} : 2 ^ 64 * w + a % 2 ^ 64 = 2 ^ 64 * v + b % 2 ^ 64 ↔ w = v ∧ a % 2 ^ 64 = b % 2 ^ 64 := by omega

@[simp] theorem State.memByte_storeByte_self (s : State) (w a : Nat) (b : Byte) : (s.storeByte w a b).memByte w a = b :=
  Tab.look_put_self _ _ _ _

/-- A stored byte leaves every other byte alone. -/
theorem State.memByte_storeByte_ne (s : State) {w a v c : Nat} (b : Byte) (h : ¬(v = w ∧ c % 2 ^ 64 = a % 2 ^ 64)) :
    (s.storeByte w a b).memByte v c = s.memByte v c := by
  unfold State.memByte State.storeByte
  exact Tab.look_put_ne _ _ _ (fun e => h (memKey_inj.mp e))

/-- Storing a byte keeps memory's canonical form. -/
theorem State.storeByte_wf (s : State) (w a : Nat) (b : Byte) (h : Memory.wf s.mem = true) :
    Memory.wf (s.storeByte w a b).mem = true := Tab.wf_put _ _ _ _ h

theorem State.storeBytes_wf (s : State) (w a : Nat) (bs : List Byte) (h : Memory.wf s.mem = true) :
    Memory.wf (s.storeBytes w a bs).mem = true := by
  induction bs generalizing s a with
  | nil => exact h
  | cons b bs ih => exact ih _ _ (s.storeByte_wf w a b h)

/-- Memory of which some owners' bytes are cleared keeps its canonical form. -/
theorem Memory.wf_filter (m : Tab Byte) (f : Nat × Byte → Bool) (h : Memory.wf m = true) : Memory.wf (m.filter f) = true := by
  unfold Memory.wf at h ⊢
  rw [Tab.wf_iff] at h ⊢
  exact ⟨fun e he => h.1 e (List.mem_of_mem_filter he), h.2.filter f⟩

/-- Stored octets leave every byte outside their place alone. -/
theorem State.memByte_storeBytes_other (s : State) (w a v c : Nat) (bs : List Byte)
    (h : ∀ i, i < bs.length → ¬(v = w ∧ c % 2 ^ 64 = (a + i) % 2 ^ 64)) : (s.storeBytes w a bs).memByte v c = s.memByte v c := by
  induction bs generalizing s a with
  | nil => rfl
  | cons b bs ih =>
    rw [State.storeBytes, ih _ _ (fun i hi => by have := h (i + 1) (by simpa using hi); rwa [Nat.add_assoc, Nat.add_comm 1 i])]
    exact s.memByte_storeByte_ne b (by simpa using h 0 (by simp))

theorem reset_mem_wf : Memory.wf State.reset.mem = true := rfl

/-! ### Outcomes -/

/-- The output lands do not depend on what they last showed. -/
@[simp] theorem State.settle_pinsOf (s : State) : s.settle.pinsOf = s.pinsOf := rfl

/-- What `act` answers, said once: a fault for an instance that does not exist; else a next state, changed by the effect where
the domain is powered. -/
theorem act_cases (c : Bool) (d : Nat) (s : State) (f : State → State) :
    act c d s f = if c then .next (if s.powered d then f s else s).settle else .fault .noSuchInstance := by
  cases c <;> rfl

theorem act_on {c : Bool} {d : Nat} {s : State} {f : State → State} (hc : c = true) (hd : s.powered d = true) :
    act c d s f = .next (f s).settle := by
  rw [act_cases, if_pos hc, if_pos hd]

theorem act_off {c : Bool} {d : Nat} {s : State} {f : State → State} (hc : c = true) (hd : s.powered d = false) :
    act c d s f = .next s.settle := by
  rw [act_cases, if_pos hc, hd]; rfl

/-- A step that answers leaves the lands agreeing with the state. -/
theorem act_pins {c : Bool} {d : Nat} {s t : State} {f : State → State} (h : act c d s f = .next t) : t.pins = t.pinsOf := by
  rw [act_cases] at h
  split at h
  · cases h; rfl
  · cases h

theorem done_pins {s t : State} (h : done s = .next t) : t.pins = t.pinsOf := by cases h; rfl

theorem need_pins {c : Bool} {r : Result} {t : State} (hr : ∀ u, r = .next u → u.pins = u.pinsOf) (h : need c r = .next t) :
    t.pins = t.pinsOf := by
  cases c
  · cases h
  · exact hr t h

/-! ### The arrival of a command -/

@[simp] theorem State.arrive_regs (s : State) (a : Instant) : (s.arrive a).regs = s.regs := by unfold State.arrive; split <;> rfl
@[simp] theorem State.arrive_power (s : State) (a : Instant) : (s.arrive a).power = s.power := by unfold State.arrive; split <;> rfl
@[simp] theorem State.arrive_pails (s : State) (a : Instant) : (s.arrive a).pails = s.pails := by unfold State.arrive; split <;> rfl
@[simp] theorem State.arrive_mem (s : State) (a : Instant) : (s.arrive a).mem = s.mem := by unfold State.arrive; split <;> rfl
@[simp] theorem State.arrive_reg (s : State) (a : Instant) (k : Nat) : (s.arrive a).reg k = s.reg k := by
  unfold State.arrive; split <;> rfl
@[simp] theorem State.arrive_powered (s : State) (a : Instant) (d : Nat) : (s.arrive a).powered d = s.powered d := by
  unfold State.arrive; split <;> rfl
@[simp] theorem State.arrive_pail (s : State) (a : Instant) (p : Nat) : (s.arrive a).pail p = s.pail p := by
  unfold State.arrive; split <;> rfl

/-- A command that the running oscillator times never finds time running back. -/
theorem State.arrive_now (s : State) (a : Instant) : (s.arrive a).now = if s.time.frozen then s.now else max s.now a := by
  unfold State.arrive; split <;> simp_all [State.now]

end Sys2Proof.Machine
end

