-- ==== Sys2Proof/Laws/Events.lean ====
section
/-!
SUPPORT. What a flag, its notification and a pail's write can change: memory, the rings, interrupts, sessions' event state,
what has been sent, and a source's own entries. Everything else of the state stays.
-/

namespace Sys2Proof.Machine

open Sys2Proof

theorem each_still {α : Type} (l : List α) (f : α → State → State) (h : ∀ a t, (f a t).still = t.still) (s : State) :
    (s.each l f).still = s.still := by
  unfold State.each
  induction l generalizing s with
  | nil => rfl
  | cons a l ih => rw [List.foldl_cons, ih, h]

@[simp] theorem storeByte_still (s : State) (w a : Nat) (b : Byte) : (s.storeByte w a b).still = s.still := rfl

@[simp] theorem storeBytes_still (s : State) (w a : Nat) (bs : List Byte) : (s.storeBytes w a bs).still = s.still := by
  induction bs generalizing s a with
  | nil => rfl
  | cons b bs ih => rw [State.storeBytes, ih, storeByte_still]

@[simp] theorem setPail_still (s : State) (p : Nat) (x : Pail) : (s.setPail p x).still = s.still := rfl
@[simp] theorem setPart_still (s : State) (n : Nat) (x : Partition) : (s.setPart n x).still = s.still := rfl
@[simp] theorem setSession_still (s : State) (n : Nat) (x : Session) : (s.setSession n x).still = s.still := rfl
@[simp] theorem emit_still (s : State) (o : Out) : (s.emit o).still = s.still := rfl

@[simp] theorem msix_still (s : State) (v : Nat) : (s.msix v).still = s.still := by
  unfold State.msix
  repeat' (first | rfl | split)

@[simp] theorem markPage_still (s : State) (p page : Nat) : (s.markPage p page).1.still = s.still := by
  unfold State.markPage
  simp only []
  split <;> rfl

@[simp] theorem pailStore_still (s : State) (p a : Nat) (bs : List Byte) : (s.pailStore p a bs).1.still = s.still := by
  unfold State.pailStore
  have key (l : List Nat) (acc : State × Bool) :
      ((l.foldl (fun acc page => ((acc.1.markPage p page).1, acc.2 || (acc.1.markPage p page).2)) acc).1).still = acc.1.still := by
    induction l generalizing acc with
    | nil => rfl
    | cons x l ih => rw [List.foldl_cons, ih]; simp
  simp only []
  split
  · rfl
  · split
    · rw [key]; simp
    · simp

@[simp] theorem ringEntry_still (s : State) (p t source data time : Nat) : (s.ringEntry p t source data time).1.still = s.still := by
  simp [State.ringEntry]

@[simp] theorem ringInterrupt_still (s : State) (p : Nat) : (s.ringInterrupt p).still = s.still := by
  unfold State.ringInterrupt
  split
  · split
    · simp
    · split <;> simp
  · rfl

@[simp] theorem overflowEntry_still (s : State) (p : Nat) : (s.overflowEntry p).1.still = s.still := by
  unfold State.overflowEntry
  simp only []
  split <;> simp

@[simp] theorem ringPost_still (s : State) (p t source data time : Nat) : (s.ringPost p t source data time).1.still = s.still := by
  unfold State.ringPost
  simp only []
  split
  · rfl
  · split <;> simp

@[simp] theorem ringOverflow_still (s : State) (p : Nat) : (s.ringOverflow p).still = s.still := by
  unfold State.ringOverflow
  simp only []
  split <;> simp

@[simp] theorem post_still (s : State) (p t source data time : Nat) : (s.post p t source data time).still = s.still := by
  unfold State.post
  simp only []
  split <;> simp

@[simp] theorem pailWrite_still (s : State) (p a : Nat) (bs : List Byte) : (s.pailWrite p a bs).still = s.still := by
  unfold State.pailWrite
  simp only []
  split <;> simp

@[simp] theorem runEntry_still (s : State) (p time : Nat) (e : Nat × Nat × Nat × Bool) : (s.runEntry p time e).1.still = s.still := by
  simp [State.runEntry]

@[simp] theorem moduleEntry_still (s : State) (p source data time : Nat) : (s.moduleEntry p source data time).1.still = s.still := by
  have key (l : List (Nat × Nat × Nat × Bool)) (acc : State × Bool) :
      ((l.foldl (fun acc x => ((acc.1.runEntry p time x).1, acc.2 || (acc.1.runEntry p time x).2)) acc).1).still = acc.1.still := by
    induction l generalizing acc with
    | nil => rfl
    | cons x l ih => rw [List.foldl_cons, ih]; simp
  unfold State.moduleEntry
  simp only []
  split
  · simp
  · rw [State.modPail, setPail_still, key]; simp

@[simp] theorem postModule_still (s : State) (p source data time : Nat) : (s.postModule p source data time).still = s.still := by
  unfold State.postModule
  simp only []
  split <;> simp

@[simp] theorem sendPdu_still (s : State) (t : Transport) (pdu : List Byte) : (s.sendPdu t pdu).still = s.still := by
  cases t <;> rfl

@[simp] theorem sendEvent_still (s : State) (sid n : Nat) : (s.sendEvent sid n).still = s.still := by
  unfold State.sendEvent
  split <;> simp only [sendPdu_still, emit_still, setSession_still]

@[simp] theorem notifySession_still (s : State) (sid n : Nat) : (s.notifySession sid n).still = s.still := by
  unfold State.notifySession
  repeat' (first | rfl | simp | split)

theorem foldl_still {α : Type} (l : List α) (f : State → α → State) (h : ∀ t a, (f t a).still = t.still) (s : State) :
    (l.foldl f s).still = s.still := by
  induction l generalizing s with
  | nil => rfl
  | cons a l ih => rw [List.foldl_cons, ih, h]

@[simp] theorem notify_still (s : State) (n : Nat) : (s.notify n).still = s.still := by
  unfold State.notify
  have a (t : State) : ((List.range 64).foldl (fun t p =>
      if octetBit 8 (s.reg (Od.evPailMask n)) p then t.postModule p n (s.reg (Od.evStatus n)) (s.reg (Od.evLastSet n)) else t) t).still =
      t.still := foldl_still _ _ (fun t p => by split <;> simp) t
  have b (l : List Nat) (t : State) : (l.foldl (fun t sid => t.notifySession sid n) t).still = t.still :=
    foldl_still _ _ (fun t p => by simp) t
  simp only []
  split
  · rw [b]; split
    · rw [msix_still]; split
      · exact a _
      · rfl
    · split
      · exact a _
      · rfl
  · split
    · rw [msix_still]; split
      · exact a _
      · rfl
    · split
      · exact a _
      · rfl

/-! ### Setting a flag -/

@[simp] theorem setReg_calm (s : State) (k v : Nat) : (s.setReg k v).calm = s.calm := rfl

theorem calm_of_still {s t : State} (h : s.still = t.still) : s.calm = t.calm := by unfold State.calm; rw [h]

@[simp] theorem setFlag_calm (s : State) (n f : Nat) (i : Option Nat) : (s.setFlag n f i).calm = s.calm := by
  unfold State.setFlag
  dsimp only
  split
  · rfl
  · split
    · rw [calm_of_still (notify_still _ n)]; split <;> rfl
    · split <;> rfl

@[simp] theorem stand_calm (s : State) (n f : Nat) (b : Bool) (i : Option Nat) : (s.stand n f b i).calm = s.calm := by
  unfold State.stand
  dsimp only
  split
  · split
    · rfl
    · simp
  · split <;> rfl

@[simp] theorem countEv_calm (s : State) (k n : Nat) (i : Option Nat) : (s.countEv k n i).calm = s.calm := by
  unfold State.countEv
  dsimp only
  split <;> simp

/-- A port's counter keeps all but the entries and the port's note of its half-range passages. -/
theorem countPort_calm (s : State) (p sub n : Nat) :
    (s.countPort p sub n).calm = { s.calm with ports := (s.countPort p sub n).ports } := by
  have key (t u : State) (h : t.calm = { s.calm with ports := t.ports }) (e : u.calm = t.calm) :
      u.calm = { s.calm with ports := u.ports } := by
    have hp := congrArg State.ports e
    change u.ports = t.ports at hp
    rw [e, h, hp]
  unfold State.countPort
  dsimp only
  generalize (if (decide (sub = 1) || decide (sub = 17)) = true then 48 else 32 : Nat) = w
  split
  · refine key _ _ ?_ (setFlag_calm _ _ _ _)
    rfl
  · rfl

@[simp] theorem State.notify_regs (s : State) (n : Nat) : (s.notify n).regs = s.regs := by
  have h := congrArg State.regs (notify_still s n)
  exact h
@[simp] theorem State.notify_health (s : State) (n : Nat) : (s.notify n).health = s.health := by
  have h := congrArg State.health (notify_still s n)
  exact h
@[simp] theorem State.notify_blobs (s : State) (n : Nat) : (s.notify n).blobs = s.blobs := by
  have h := congrArg State.blobs (notify_still s n)
  exact h
@[simp] theorem State.notify_time (s : State) (n : Nat) : (s.notify n).time = s.time := by
  have h := congrArg State.time (notify_still s n)
  exact h
@[simp] theorem State.notify_befores (s : State) (n : Nat) : (s.notify n).befores = s.befores := by
  have h := congrArg State.befores (notify_still s n)
  exact h
@[simp] theorem State.notify_workTick (s : State) (n : Nat) : (s.notify n).workTick = s.workTick := by
  have h := congrArg State.workTick (notify_still s n)
  exact h
@[simp] theorem State.notify_ports (s : State) (n : Nat) : (s.notify n).ports = s.ports := by
  have h := congrArg State.ports (notify_still s n)
  exact h
@[simp] theorem State.notify_sw (s : State) (n : Nat) : (s.notify n).sw = s.sw := by
  have h := congrArg State.sw (notify_still s n)
  exact h
@[simp] theorem State.notify_dp (s : State) (n : Nat) : (s.notify n).dp = s.dp := by
  have h := congrArg State.dp (notify_still s n)
  exact h
@[simp] theorem State.notify_hist (s : State) (n : Nat) : (s.notify n).hist = s.hist := by
  have h := congrArg State.hist (notify_still s n)
  exact h
@[simp] theorem State.notify_churn (s : State) (n : Nat) : (s.notify n).churn = s.churn := by
  have h := congrArg State.churn (notify_still s n)
  exact h
@[simp] theorem State.notify_loops (s : State) (n : Nat) : (s.notify n).loops = s.loops := by
  have h := congrArg State.loops (notify_still s n)
  exact h
@[simp] theorem State.notify_subs (s : State) (n : Nat) : (s.notify n).subs = s.subs := by
  have h := congrArg State.subs (notify_still s n)
  exact h
@[simp] theorem State.notify_pubs (s : State) (n : Nat) : (s.notify n).pubs = s.pubs := by
  have h := congrArg State.pubs (notify_still s n)
  exact h
@[simp] theorem State.notify_pair (s : State) (n : Nat) : (s.notify n).pair = s.pair := by
  have h := congrArg State.pair (notify_still s n)
  exact h
@[simp] theorem State.notify_sec (s : State) (n : Nat) : (s.notify n).sec = s.sec := by
  have h := congrArg State.sec (notify_still s n)
  exact h
@[simp] theorem State.notify_power (s : State) (n : Nat) : (s.notify n).power = s.power := by
  have h := congrArg State.power (notify_still s n)
  exact h
@[simp] theorem State.notify_pins (s : State) (n : Nat) : (s.notify n).pins = s.pins := by
  have h := congrArg State.pins (notify_still s n)
  exact h
@[simp] theorem State.notify_freeUsed (s : State) (n : Nat) : (s.notify n).freeUsed = s.freeUsed := by
  have h := congrArg State.freeUsed (notify_still s n)
  exact h
@[simp] theorem State.notify_pending (s : State) (n : Nat) : (s.notify n).pending = s.pending := by
  have h := congrArg State.pending (notify_still s n)
  exact h

@[simp] theorem State.post_regs (s : State) (p t source data time : Nat) : (s.post p t source data time).regs = s.regs := by
  have h := congrArg State.regs (post_still s p t source data time)
  exact h
@[simp] theorem State.post_health (s : State) (p t source data time : Nat) : (s.post p t source data time).health = s.health := by
  have h := congrArg State.health (post_still s p t source data time)
  exact h
@[simp] theorem State.post_blobs (s : State) (p t source data time : Nat) : (s.post p t source data time).blobs = s.blobs := by
  have h := congrArg State.blobs (post_still s p t source data time)
  exact h
@[simp] theorem State.post_time (s : State) (p t source data time : Nat) : (s.post p t source data time).time = s.time := by
  have h := congrArg State.time (post_still s p t source data time)
  exact h
@[simp] theorem State.post_befores (s : State) (p t source data time : Nat) : (s.post p t source data time).befores = s.befores := by
  have h := congrArg State.befores (post_still s p t source data time)
  exact h
@[simp] theorem State.post_workTick (s : State) (p t source data time : Nat) : (s.post p t source data time).workTick = s.workTick := by
  have h := congrArg State.workTick (post_still s p t source data time)
  exact h
@[simp] theorem State.post_ports (s : State) (p t source data time : Nat) : (s.post p t source data time).ports = s.ports := by
  have h := congrArg State.ports (post_still s p t source data time)
  exact h
@[simp] theorem State.post_sw (s : State) (p t source data time : Nat) : (s.post p t source data time).sw = s.sw := by
  have h := congrArg State.sw (post_still s p t source data time)
  exact h
@[simp] theorem State.post_dp (s : State) (p t source data time : Nat) : (s.post p t source data time).dp = s.dp := by
  have h := congrArg State.dp (post_still s p t source data time)
  exact h
@[simp] theorem State.post_hist (s : State) (p t source data time : Nat) : (s.post p t source data time).hist = s.hist := by
  have h := congrArg State.hist (post_still s p t source data time)
  exact h
@[simp] theorem State.post_churn (s : State) (p t source data time : Nat) : (s.post p t source data time).churn = s.churn := by
  have h := congrArg State.churn (post_still s p t source data time)
  exact h
@[simp] theorem State.post_loops (s : State) (p t source data time : Nat) : (s.post p t source data time).loops = s.loops := by
  have h := congrArg State.loops (post_still s p t source data time)
  exact h
@[simp] theorem State.post_subs (s : State) (p t source data time : Nat) : (s.post p t source data time).subs = s.subs := by
  have h := congrArg State.subs (post_still s p t source data time)
  exact h
@[simp] theorem State.post_pubs (s : State) (p t source data time : Nat) : (s.post p t source data time).pubs = s.pubs := by
  have h := congrArg State.pubs (post_still s p t source data time)
  exact h
@[simp] theorem State.post_pair (s : State) (p t source data time : Nat) : (s.post p t source data time).pair = s.pair := by
  have h := congrArg State.pair (post_still s p t source data time)
  exact h
@[simp] theorem State.post_sec (s : State) (p t source data time : Nat) : (s.post p t source data time).sec = s.sec := by
  have h := congrArg State.sec (post_still s p t source data time)
  exact h
@[simp] theorem State.post_power (s : State) (p t source data time : Nat) : (s.post p t source data time).power = s.power := by
  have h := congrArg State.power (post_still s p t source data time)
  exact h
@[simp] theorem State.post_pins (s : State) (p t source data time : Nat) : (s.post p t source data time).pins = s.pins := by
  have h := congrArg State.pins (post_still s p t source data time)
  exact h
@[simp] theorem State.post_freeUsed (s : State) (p t source data time : Nat) : (s.post p t source data time).freeUsed = s.freeUsed := by
  have h := congrArg State.freeUsed (post_still s p t source data time)
  exact h
@[simp] theorem State.post_pending (s : State) (p t source data time : Nat) : (s.post p t source data time).pending = s.pending := by
  have h := congrArg State.pending (post_still s p t source data time)
  exact h

@[simp] theorem State.pailWrite_regs (s : State) (p a : Nat) (bs : List Byte) : (s.pailWrite p a bs).regs = s.regs := by
  have h := congrArg State.regs (pailWrite_still s p a bs)
  exact h
@[simp] theorem State.pailWrite_health (s : State) (p a : Nat) (bs : List Byte) : (s.pailWrite p a bs).health = s.health := by
  have h := congrArg State.health (pailWrite_still s p a bs)
  exact h
@[simp] theorem State.pailWrite_blobs (s : State) (p a : Nat) (bs : List Byte) : (s.pailWrite p a bs).blobs = s.blobs := by
  have h := congrArg State.blobs (pailWrite_still s p a bs)
  exact h
@[simp] theorem State.pailWrite_time (s : State) (p a : Nat) (bs : List Byte) : (s.pailWrite p a bs).time = s.time := by
  have h := congrArg State.time (pailWrite_still s p a bs)
  exact h
@[simp] theorem State.pailWrite_befores (s : State) (p a : Nat) (bs : List Byte) : (s.pailWrite p a bs).befores = s.befores := by
  have h := congrArg State.befores (pailWrite_still s p a bs)
  exact h
@[simp] theorem State.pailWrite_workTick (s : State) (p a : Nat) (bs : List Byte) : (s.pailWrite p a bs).workTick = s.workTick := by
  have h := congrArg State.workTick (pailWrite_still s p a bs)
  exact h
@[simp] theorem State.pailWrite_ports (s : State) (p a : Nat) (bs : List Byte) : (s.pailWrite p a bs).ports = s.ports := by
  have h := congrArg State.ports (pailWrite_still s p a bs)
  exact h
@[simp] theorem State.pailWrite_sw (s : State) (p a : Nat) (bs : List Byte) : (s.pailWrite p a bs).sw = s.sw := by
  have h := congrArg State.sw (pailWrite_still s p a bs)
  exact h
@[simp] theorem State.pailWrite_dp (s : State) (p a : Nat) (bs : List Byte) : (s.pailWrite p a bs).dp = s.dp := by
  have h := congrArg State.dp (pailWrite_still s p a bs)
  exact h
@[simp] theorem State.pailWrite_hist (s : State) (p a : Nat) (bs : List Byte) : (s.pailWrite p a bs).hist = s.hist := by
  have h := congrArg State.hist (pailWrite_still s p a bs)
  exact h
@[simp] theorem State.pailWrite_churn (s : State) (p a : Nat) (bs : List Byte) : (s.pailWrite p a bs).churn = s.churn := by
  have h := congrArg State.churn (pailWrite_still s p a bs)
  exact h
@[simp] theorem State.pailWrite_loops (s : State) (p a : Nat) (bs : List Byte) : (s.pailWrite p a bs).loops = s.loops := by
  have h := congrArg State.loops (pailWrite_still s p a bs)
  exact h
@[simp] theorem State.pailWrite_subs (s : State) (p a : Nat) (bs : List Byte) : (s.pailWrite p a bs).subs = s.subs := by
  have h := congrArg State.subs (pailWrite_still s p a bs)
  exact h
@[simp] theorem State.pailWrite_pubs (s : State) (p a : Nat) (bs : List Byte) : (s.pailWrite p a bs).pubs = s.pubs := by
  have h := congrArg State.pubs (pailWrite_still s p a bs)
  exact h
@[simp] theorem State.pailWrite_pair (s : State) (p a : Nat) (bs : List Byte) : (s.pailWrite p a bs).pair = s.pair := by
  have h := congrArg State.pair (pailWrite_still s p a bs)
  exact h
@[simp] theorem State.pailWrite_sec (s : State) (p a : Nat) (bs : List Byte) : (s.pailWrite p a bs).sec = s.sec := by
  have h := congrArg State.sec (pailWrite_still s p a bs)
  exact h
@[simp] theorem State.pailWrite_power (s : State) (p a : Nat) (bs : List Byte) : (s.pailWrite p a bs).power = s.power := by
  have h := congrArg State.power (pailWrite_still s p a bs)
  exact h
@[simp] theorem State.pailWrite_pins (s : State) (p a : Nat) (bs : List Byte) : (s.pailWrite p a bs).pins = s.pins := by
  have h := congrArg State.pins (pailWrite_still s p a bs)
  exact h
@[simp] theorem State.pailWrite_freeUsed (s : State) (p a : Nat) (bs : List Byte) : (s.pailWrite p a bs).freeUsed = s.freeUsed := by
  have h := congrArg State.freeUsed (pailWrite_still s p a bs)
  exact h
@[simp] theorem State.pailWrite_pending (s : State) (p a : Nat) (bs : List Byte) : (s.pailWrite p a bs).pending = s.pending := by
  have h := congrArg State.pending (pailWrite_still s p a bs)
  exact h

@[simp] theorem State.msix_regs (s : State) (v : Nat) : (s.msix v).regs = s.regs := by
  have h := congrArg State.regs (msix_still s v)
  exact h
@[simp] theorem State.msix_health (s : State) (v : Nat) : (s.msix v).health = s.health := by
  have h := congrArg State.health (msix_still s v)
  exact h
@[simp] theorem State.msix_blobs (s : State) (v : Nat) : (s.msix v).blobs = s.blobs := by
  have h := congrArg State.blobs (msix_still s v)
  exact h
@[simp] theorem State.msix_time (s : State) (v : Nat) : (s.msix v).time = s.time := by
  have h := congrArg State.time (msix_still s v)
  exact h
@[simp] theorem State.msix_befores (s : State) (v : Nat) : (s.msix v).befores = s.befores := by
  have h := congrArg State.befores (msix_still s v)
  exact h
@[simp] theorem State.msix_workTick (s : State) (v : Nat) : (s.msix v).workTick = s.workTick := by
  have h := congrArg State.workTick (msix_still s v)
  exact h
@[simp] theorem State.msix_ports (s : State) (v : Nat) : (s.msix v).ports = s.ports := by
  have h := congrArg State.ports (msix_still s v)
  exact h
@[simp] theorem State.msix_sw (s : State) (v : Nat) : (s.msix v).sw = s.sw := by
  have h := congrArg State.sw (msix_still s v)
  exact h
@[simp] theorem State.msix_dp (s : State) (v : Nat) : (s.msix v).dp = s.dp := by
  have h := congrArg State.dp (msix_still s v)
  exact h
@[simp] theorem State.msix_hist (s : State) (v : Nat) : (s.msix v).hist = s.hist := by
  have h := congrArg State.hist (msix_still s v)
  exact h
@[simp] theorem State.msix_churn (s : State) (v : Nat) : (s.msix v).churn = s.churn := by
  have h := congrArg State.churn (msix_still s v)
  exact h
@[simp] theorem State.msix_loops (s : State) (v : Nat) : (s.msix v).loops = s.loops := by
  have h := congrArg State.loops (msix_still s v)
  exact h
@[simp] theorem State.msix_subs (s : State) (v : Nat) : (s.msix v).subs = s.subs := by
  have h := congrArg State.subs (msix_still s v)
  exact h
@[simp] theorem State.msix_pubs (s : State) (v : Nat) : (s.msix v).pubs = s.pubs := by
  have h := congrArg State.pubs (msix_still s v)
  exact h
@[simp] theorem State.msix_pair (s : State) (v : Nat) : (s.msix v).pair = s.pair := by
  have h := congrArg State.pair (msix_still s v)
  exact h
@[simp] theorem State.msix_sec (s : State) (v : Nat) : (s.msix v).sec = s.sec := by
  have h := congrArg State.sec (msix_still s v)
  exact h
@[simp] theorem State.msix_power (s : State) (v : Nat) : (s.msix v).power = s.power := by
  have h := congrArg State.power (msix_still s v)
  exact h
@[simp] theorem State.msix_pins (s : State) (v : Nat) : (s.msix v).pins = s.pins := by
  have h := congrArg State.pins (msix_still s v)
  exact h
@[simp] theorem State.msix_freeUsed (s : State) (v : Nat) : (s.msix v).freeUsed = s.freeUsed := by
  have h := congrArg State.freeUsed (msix_still s v)
  exact h
@[simp] theorem State.msix_pending (s : State) (v : Nat) : (s.msix v).pending = s.pending := by
  have h := congrArg State.pending (msix_still s v)
  exact h

@[simp] theorem State.setFlag_blobs (s : State) (n f : Nat) (i : Option Nat) : (s.setFlag n f i).blobs = s.blobs := by
  have h := congrArg State.blobs (setFlag_calm s n f i)
  exact h
@[simp] theorem State.setFlag_time (s : State) (n f : Nat) (i : Option Nat) : (s.setFlag n f i).time = s.time := by
  have h := congrArg State.time (setFlag_calm s n f i)
  exact h
@[simp] theorem State.setFlag_befores (s : State) (n f : Nat) (i : Option Nat) : (s.setFlag n f i).befores = s.befores := by
  have h := congrArg State.befores (setFlag_calm s n f i)
  exact h
@[simp] theorem State.setFlag_workTick (s : State) (n f : Nat) (i : Option Nat) : (s.setFlag n f i).workTick = s.workTick := by
  have h := congrArg State.workTick (setFlag_calm s n f i)
  exact h
@[simp] theorem State.setFlag_ports (s : State) (n f : Nat) (i : Option Nat) : (s.setFlag n f i).ports = s.ports := by
  have h := congrArg State.ports (setFlag_calm s n f i)
  exact h
@[simp] theorem State.setFlag_sw (s : State) (n f : Nat) (i : Option Nat) : (s.setFlag n f i).sw = s.sw := by
  have h := congrArg State.sw (setFlag_calm s n f i)
  exact h
@[simp] theorem State.setFlag_dp (s : State) (n f : Nat) (i : Option Nat) : (s.setFlag n f i).dp = s.dp := by
  have h := congrArg State.dp (setFlag_calm s n f i)
  exact h
@[simp] theorem State.setFlag_hist (s : State) (n f : Nat) (i : Option Nat) : (s.setFlag n f i).hist = s.hist := by
  have h := congrArg State.hist (setFlag_calm s n f i)
  exact h
@[simp] theorem State.setFlag_churn (s : State) (n f : Nat) (i : Option Nat) : (s.setFlag n f i).churn = s.churn := by
  have h := congrArg State.churn (setFlag_calm s n f i)
  exact h
@[simp] theorem State.setFlag_loops (s : State) (n f : Nat) (i : Option Nat) : (s.setFlag n f i).loops = s.loops := by
  have h := congrArg State.loops (setFlag_calm s n f i)
  exact h
@[simp] theorem State.setFlag_subs (s : State) (n f : Nat) (i : Option Nat) : (s.setFlag n f i).subs = s.subs := by
  have h := congrArg State.subs (setFlag_calm s n f i)
  exact h
@[simp] theorem State.setFlag_pubs (s : State) (n f : Nat) (i : Option Nat) : (s.setFlag n f i).pubs = s.pubs := by
  have h := congrArg State.pubs (setFlag_calm s n f i)
  exact h
@[simp] theorem State.setFlag_pair (s : State) (n f : Nat) (i : Option Nat) : (s.setFlag n f i).pair = s.pair := by
  have h := congrArg State.pair (setFlag_calm s n f i)
  exact h
@[simp] theorem State.setFlag_sec (s : State) (n f : Nat) (i : Option Nat) : (s.setFlag n f i).sec = s.sec := by
  have h := congrArg State.sec (setFlag_calm s n f i)
  exact h
@[simp] theorem State.setFlag_power (s : State) (n f : Nat) (i : Option Nat) : (s.setFlag n f i).power = s.power := by
  have h := congrArg State.power (setFlag_calm s n f i)
  exact h
@[simp] theorem State.setFlag_pins (s : State) (n f : Nat) (i : Option Nat) : (s.setFlag n f i).pins = s.pins := by
  have h := congrArg State.pins (setFlag_calm s n f i)
  exact h
@[simp] theorem State.setFlag_freeUsed (s : State) (n f : Nat) (i : Option Nat) : (s.setFlag n f i).freeUsed = s.freeUsed := by
  have h := congrArg State.freeUsed (setFlag_calm s n f i)
  exact h
@[simp] theorem State.setFlag_pending (s : State) (n f : Nat) (i : Option Nat) : (s.setFlag n f i).pending = s.pending := by
  have h := congrArg State.pending (setFlag_calm s n f i)
  exact h

@[simp] theorem State.stand_blobs (s : State) (n f : Nat) (b : Bool) (i : Option Nat) : (s.stand n f b i).blobs = s.blobs := by
  have h := congrArg State.blobs (stand_calm s n f b i)
  exact h
@[simp] theorem State.stand_time (s : State) (n f : Nat) (b : Bool) (i : Option Nat) : (s.stand n f b i).time = s.time := by
  have h := congrArg State.time (stand_calm s n f b i)
  exact h
@[simp] theorem State.stand_befores (s : State) (n f : Nat) (b : Bool) (i : Option Nat) : (s.stand n f b i).befores = s.befores := by
  have h := congrArg State.befores (stand_calm s n f b i)
  exact h
@[simp] theorem State.stand_workTick (s : State) (n f : Nat) (b : Bool) (i : Option Nat) : (s.stand n f b i).workTick = s.workTick := by
  have h := congrArg State.workTick (stand_calm s n f b i)
  exact h
@[simp] theorem State.stand_ports (s : State) (n f : Nat) (b : Bool) (i : Option Nat) : (s.stand n f b i).ports = s.ports := by
  have h := congrArg State.ports (stand_calm s n f b i)
  exact h
@[simp] theorem State.stand_sw (s : State) (n f : Nat) (b : Bool) (i : Option Nat) : (s.stand n f b i).sw = s.sw := by
  have h := congrArg State.sw (stand_calm s n f b i)
  exact h
@[simp] theorem State.stand_dp (s : State) (n f : Nat) (b : Bool) (i : Option Nat) : (s.stand n f b i).dp = s.dp := by
  have h := congrArg State.dp (stand_calm s n f b i)
  exact h
@[simp] theorem State.stand_hist (s : State) (n f : Nat) (b : Bool) (i : Option Nat) : (s.stand n f b i).hist = s.hist := by
  have h := congrArg State.hist (stand_calm s n f b i)
  exact h
@[simp] theorem State.stand_churn (s : State) (n f : Nat) (b : Bool) (i : Option Nat) : (s.stand n f b i).churn = s.churn := by
  have h := congrArg State.churn (stand_calm s n f b i)
  exact h
@[simp] theorem State.stand_loops (s : State) (n f : Nat) (b : Bool) (i : Option Nat) : (s.stand n f b i).loops = s.loops := by
  have h := congrArg State.loops (stand_calm s n f b i)
  exact h
@[simp] theorem State.stand_subs (s : State) (n f : Nat) (b : Bool) (i : Option Nat) : (s.stand n f b i).subs = s.subs := by
  have h := congrArg State.subs (stand_calm s n f b i)
  exact h
@[simp] theorem State.stand_pubs (s : State) (n f : Nat) (b : Bool) (i : Option Nat) : (s.stand n f b i).pubs = s.pubs := by
  have h := congrArg State.pubs (stand_calm s n f b i)
  exact h
@[simp] theorem State.stand_pair (s : State) (n f : Nat) (b : Bool) (i : Option Nat) : (s.stand n f b i).pair = s.pair := by
  have h := congrArg State.pair (stand_calm s n f b i)
  exact h
@[simp] theorem State.stand_sec (s : State) (n f : Nat) (b : Bool) (i : Option Nat) : (s.stand n f b i).sec = s.sec := by
  have h := congrArg State.sec (stand_calm s n f b i)
  exact h
@[simp] theorem State.stand_power (s : State) (n f : Nat) (b : Bool) (i : Option Nat) : (s.stand n f b i).power = s.power := by
  have h := congrArg State.power (stand_calm s n f b i)
  exact h
@[simp] theorem State.stand_pins (s : State) (n f : Nat) (b : Bool) (i : Option Nat) : (s.stand n f b i).pins = s.pins := by
  have h := congrArg State.pins (stand_calm s n f b i)
  exact h
@[simp] theorem State.stand_freeUsed (s : State) (n f : Nat) (b : Bool) (i : Option Nat) : (s.stand n f b i).freeUsed = s.freeUsed := by
  have h := congrArg State.freeUsed (stand_calm s n f b i)
  exact h
@[simp] theorem State.stand_pending (s : State) (n f : Nat) (b : Bool) (i : Option Nat) : (s.stand n f b i).pending = s.pending := by
  have h := congrArg State.pending (stand_calm s n f b i)
  exact h

@[simp] theorem State.countEv_blobs (s : State) (k n : Nat) (i : Option Nat) : (s.countEv k n i).blobs = s.blobs := by
  have h := congrArg State.blobs (countEv_calm s k n i)
  exact h
@[simp] theorem State.countEv_time (s : State) (k n : Nat) (i : Option Nat) : (s.countEv k n i).time = s.time := by
  have h := congrArg State.time (countEv_calm s k n i)
  exact h
@[simp] theorem State.countEv_befores (s : State) (k n : Nat) (i : Option Nat) : (s.countEv k n i).befores = s.befores := by
  have h := congrArg State.befores (countEv_calm s k n i)
  exact h
@[simp] theorem State.countEv_workTick (s : State) (k n : Nat) (i : Option Nat) : (s.countEv k n i).workTick = s.workTick := by
  have h := congrArg State.workTick (countEv_calm s k n i)
  exact h
@[simp] theorem State.countEv_ports (s : State) (k n : Nat) (i : Option Nat) : (s.countEv k n i).ports = s.ports := by
  have h := congrArg State.ports (countEv_calm s k n i)
  exact h
@[simp] theorem State.countEv_sw (s : State) (k n : Nat) (i : Option Nat) : (s.countEv k n i).sw = s.sw := by
  have h := congrArg State.sw (countEv_calm s k n i)
  exact h
@[simp] theorem State.countEv_dp (s : State) (k n : Nat) (i : Option Nat) : (s.countEv k n i).dp = s.dp := by
  have h := congrArg State.dp (countEv_calm s k n i)
  exact h
@[simp] theorem State.countEv_hist (s : State) (k n : Nat) (i : Option Nat) : (s.countEv k n i).hist = s.hist := by
  have h := congrArg State.hist (countEv_calm s k n i)
  exact h
@[simp] theorem State.countEv_churn (s : State) (k n : Nat) (i : Option Nat) : (s.countEv k n i).churn = s.churn := by
  have h := congrArg State.churn (countEv_calm s k n i)
  exact h
@[simp] theorem State.countEv_loops (s : State) (k n : Nat) (i : Option Nat) : (s.countEv k n i).loops = s.loops := by
  have h := congrArg State.loops (countEv_calm s k n i)
  exact h
@[simp] theorem State.countEv_subs (s : State) (k n : Nat) (i : Option Nat) : (s.countEv k n i).subs = s.subs := by
  have h := congrArg State.subs (countEv_calm s k n i)
  exact h
@[simp] theorem State.countEv_pubs (s : State) (k n : Nat) (i : Option Nat) : (s.countEv k n i).pubs = s.pubs := by
  have h := congrArg State.pubs (countEv_calm s k n i)
  exact h
@[simp] theorem State.countEv_pair (s : State) (k n : Nat) (i : Option Nat) : (s.countEv k n i).pair = s.pair := by
  have h := congrArg State.pair (countEv_calm s k n i)
  exact h
@[simp] theorem State.countEv_sec (s : State) (k n : Nat) (i : Option Nat) : (s.countEv k n i).sec = s.sec := by
  have h := congrArg State.sec (countEv_calm s k n i)
  exact h
@[simp] theorem State.countEv_power (s : State) (k n : Nat) (i : Option Nat) : (s.countEv k n i).power = s.power := by
  have h := congrArg State.power (countEv_calm s k n i)
  exact h
@[simp] theorem State.countEv_pins (s : State) (k n : Nat) (i : Option Nat) : (s.countEv k n i).pins = s.pins := by
  have h := congrArg State.pins (countEv_calm s k n i)
  exact h
@[simp] theorem State.countEv_freeUsed (s : State) (k n : Nat) (i : Option Nat) : (s.countEv k n i).freeUsed = s.freeUsed := by
  have h := congrArg State.freeUsed (countEv_calm s k n i)
  exact h
@[simp] theorem State.countEv_pending (s : State) (k n : Nat) (i : Option Nat) : (s.countEv k n i).pending = s.pending := by
  have h := congrArg State.pending (countEv_calm s k n i)
  exact h

@[simp] theorem State.countPort_blobs (s : State) (p sub n : Nat) : (s.countPort p sub n).blobs = s.blobs := by
  have h := congrArg State.blobs (countPort_calm s p sub n)
  exact h
@[simp] theorem State.countPort_time (s : State) (p sub n : Nat) : (s.countPort p sub n).time = s.time := by
  have h := congrArg State.time (countPort_calm s p sub n)
  exact h
@[simp] theorem State.countPort_befores (s : State) (p sub n : Nat) : (s.countPort p sub n).befores = s.befores := by
  have h := congrArg State.befores (countPort_calm s p sub n)
  exact h
@[simp] theorem State.countPort_workTick (s : State) (p sub n : Nat) : (s.countPort p sub n).workTick = s.workTick := by
  have h := congrArg State.workTick (countPort_calm s p sub n)
  exact h
theorem State.countPort_port_ne (s : State) {i p : Nat} (sub n : Nat) (h : i ≠ p) : (s.countPort p sub n).port i = s.port i := by
  have e (t : State) (a b : Nat) (o : Option Nat) : (t.setFlag a b o).port i = t.port i := by
    have hp := congrArg State.ports (setFlag_calm t a b o)
    change (t.setFlag a b o).ports = t.ports at hp
    unfold State.port
    rw [hp]
  unfold State.countPort
  dsimp only
  generalize (if (decide (sub = 1) || decide (sub = 17)) = true then 48 else 32 : Nat) = w
  split
  · rw [e]
    exact State.port_setPort_ne _ _ h
  · rfl
@[simp] theorem State.countPort_sw (s : State) (p sub n : Nat) : (s.countPort p sub n).sw = s.sw := by
  have h := congrArg State.sw (countPort_calm s p sub n)
  exact h
@[simp] theorem State.countPort_dp (s : State) (p sub n : Nat) : (s.countPort p sub n).dp = s.dp := by
  have h := congrArg State.dp (countPort_calm s p sub n)
  exact h
@[simp] theorem State.countPort_hist (s : State) (p sub n : Nat) : (s.countPort p sub n).hist = s.hist := by
  have h := congrArg State.hist (countPort_calm s p sub n)
  exact h
@[simp] theorem State.countPort_churn (s : State) (p sub n : Nat) : (s.countPort p sub n).churn = s.churn := by
  have h := congrArg State.churn (countPort_calm s p sub n)
  exact h
@[simp] theorem State.countPort_loops (s : State) (p sub n : Nat) : (s.countPort p sub n).loops = s.loops := by
  have h := congrArg State.loops (countPort_calm s p sub n)
  exact h
@[simp] theorem State.countPort_subs (s : State) (p sub n : Nat) : (s.countPort p sub n).subs = s.subs := by
  have h := congrArg State.subs (countPort_calm s p sub n)
  exact h
@[simp] theorem State.countPort_pubs (s : State) (p sub n : Nat) : (s.countPort p sub n).pubs = s.pubs := by
  have h := congrArg State.pubs (countPort_calm s p sub n)
  exact h
@[simp] theorem State.countPort_pair (s : State) (p sub n : Nat) : (s.countPort p sub n).pair = s.pair := by
  have h := congrArg State.pair (countPort_calm s p sub n)
  exact h
@[simp] theorem State.countPort_sec (s : State) (p sub n : Nat) : (s.countPort p sub n).sec = s.sec := by
  have h := congrArg State.sec (countPort_calm s p sub n)
  exact h
@[simp] theorem State.countPort_power (s : State) (p sub n : Nat) : (s.countPort p sub n).power = s.power := by
  have h := congrArg State.power (countPort_calm s p sub n)
  exact h
@[simp] theorem State.countPort_pins (s : State) (p sub n : Nat) : (s.countPort p sub n).pins = s.pins := by
  have h := congrArg State.pins (countPort_calm s p sub n)
  exact h
@[simp] theorem State.countPort_freeUsed (s : State) (p sub n : Nat) : (s.countPort p sub n).freeUsed = s.freeUsed := by
  have h := congrArg State.freeUsed (countPort_calm s p sub n)
  exact h
@[simp] theorem State.countPort_pending (s : State) (p sub n : Nat) : (s.countPort p sub n).pending = s.pending := by
  have h := congrArg State.pending (countPort_calm s p sub n)
  exact h

/-- Entries other than the source's STATUS, LAST_SET and RESETS keep their values. -/
theorem State.reg_setFlag (s : State) (n f : Nat) (i : Option Nat) {k : Nat} (h1 : k ≠ Od.evStatus n) (h2 : k ≠ Od.evLastSet n)
    (h3 : k ≠ Od.evResets n) : (s.setFlag n f i).reg k = s.reg k := by
  unfold State.setFlag
  split
  · rfl
  · simp only []
    repeat' split
    all_goals simp [State.reg, State.setReg, Tab.find_put_ne _ _ _ h1, Tab.find_put_ne _ _ _ h2, Tab.find_put_ne _ _ _ h3]

/-- The flag stands in STATUS where the source's block can set it. -/
theorem State.status_setFlag (s : State) (n f : Nat) (i : Option Nat) (h : s.sourceUp n = true) :
    (s.setFlag n f i).reg (Od.evStatus n) = statusSet (s.reg (Od.evStatus n)) f i := by
  have h1 : Od.evStatus n ≠ Od.evLastSet n := by simp [Od.evStatus, Od.evLastSet]
  have h2 : Od.evStatus n ≠ Od.evResets n := by simp [Od.evStatus, Od.evResets]
  unfold State.setFlag
  rw [if_neg (by simp [h])]
  simp only []
  repeat' split
  all_goals simp [State.reg, State.setReg, Tab.find_put_ne _ _ _ h1, Tab.find_put_ne _ _ _ h2, Tab.find_put_self]

end Sys2Proof.Machine
end

