-- ==== Sys2Proof/Laws/Pails.lean ====
section
/-!
SUPPORT. What the shared operations of the pails can do: fetching a descriptor, serving it, reaching and keeping memory.
-/

namespace Sys2Proof.Machine

open Sys2Proof

/-! ### Fetching (R240, R242) -/

/-- A queue whose conditions for a fetch fail is left as it is. -/
theorem State.fetched_idle {s : State} {p q : Nat} (work : Desc → State → State) (h : s.mayFetch p q = false) :
    s.fetched p q work = s := by simp [State.fetched, h]

/-- Whatever is fetched, the queue stays, stops with FETCH_FAULT or with BAD_OPCODE, or its descriptor's work is done past it. -/
theorem State.fetched_cases (s : State) (p q : Nat) (work : Desc → State → State) :
    (s.mayFetch p q = false ∧ s.fetched p q work = s) ∨
    (s.mayFetch p q = true ∧ s.pailReach p ((s.pail p).queue q).place 32 = false ∧ s.fetched p q work = s.stopQueue p q 3) ∨
    (s.mayFetch p q = true ∧ opcodeKind (s.descAt p q).opcode ≠ some ((s.pail p).queue q).kind ∧
      s.fetched p q work = s.stopQueue p q 2) ∨
    (s.mayFetch p q = true ∧ s.pailReach p ((s.pail p).queue q).place 32 = true ∧
      opcodeKind (s.descAt p q).opcode = some ((s.pail p).queue q).kind ∧
      s.fetched p q work = work (s.descAt p q)
        (s.modPail p fun x => x.setQueue q { x.queue q with sqHead := (((s.pail p).queue q).sqHead + 1) % 2 ^ 16 })) := by
  by_cases h : s.mayFetch p q = true
  · by_cases r : s.pailReach p ((s.pail p).queue q).place 32 = true
    · by_cases k : opcodeKind (s.descAt p q).opcode = some ((s.pail p).queue q).kind
      · exact .inr (.inr (.inr ⟨h, r, k, by simp [State.fetched, h, r, k]⟩))
      · exact .inr (.inr (.inl ⟨h, k, by simp [State.fetched, h, r, k]⟩))
    · exact .inr (.inl ⟨h, by simpa using r, by simp [State.fetched, h, r]⟩)
  · exact .inl ⟨by simpa using h, s.fetched_idle work (by simpa using h)⟩

/-- A descriptor of the opcode that a command serves is fetched. -/
theorem State.fetch_of_opcode {s : State} {p q opcode : Nat} (work : Desc → State → State) (h : (s.descAt p q).opcode = opcode) :
    s.fetch p q opcode work = s.fetched p q work := by simp [State.fetch, h]

/-- One that another command of its queue's kind serves is left to it. -/
theorem State.fetch_of_other {s : State} {p q opcode : Nat} (work : Desc → State → State) (h : (s.descAt p q).opcode ≠ opcode)
    (k : opcodeKind (s.descAt p q).opcode = some ((s.pail p).queue q).kind) : s.fetch p q opcode work = s := by
  simp [State.fetch, h, k]

/-! ### Memory -/

/-- An answered read needs only reach. -/
@[simp] theorem State.pailReads_answered (s : State) (p a len : Nat) : s.pailReads p a len true = s.pailReach p a len := by
  simp [State.pailReads]

/-- What an engine reads it can reach. -/
theorem State.pailReach_of_reads {s : State} {p a len : Nat} {answered : Bool} (h : s.pailReads p a len answered = true) :
    s.pailReach p a len = true := by
  simp only [State.pailReads, Bool.and_eq_true] at h; exact h.1

/-- Without the link to the I/O die no engine reaches memory (R29). -/
theorem State.pailReach_cut {s : State} (p a len : Nat) (h : s.cut 1 = true) : s.pailReach p a len = false := by
  simp [State.pailReach, State.inRam, h]

/-- A store by the owner of a memory keeps its canonical form. -/
theorem State.ownerStore_wf (s : State) (owner a value : Nat) (h : Memory.wf s.mem = true) :
    Memory.wf (s.ownerStore owner a value).mem = true := by
  unfold State.ownerStore
  split
  · exact h
  · exact s.storeBytes_wf _ _ _ h

end Sys2Proof.Machine
end

