-- ==== Sys2Proof/Machine/HostRead.lean ====
section
/-!
DEFINITION. What a read gives of the words that have no entry of their own: the pails' register windows (R239), the data aperture (R241),
BAR index 0 (R255, R434, R476). A read changes nothing. A write-only bit, a set-only bit and a reserved offset read as zero (R6).
-/

namespace Sys2Proof.Machine

open Sys2Proof

/-! ### Pail windows (R239, R240, R246 to R250, R258) -/

/-- One 32-bit half of a register. -/
def halfOf (w : Nat) (high : Bool) : Nat := field w (if high then 32 else 0) 32

/-- ID. -/
def State.pailId (s : State) (p : Nat) : Nat := p + (s.pail p).epoch * 2 ^ 8 + s.queuePairs p * 2 ^ 16

/-- BIND. -/
def State.pailBind (s : State) (p : Nat) : Nat :=
  s.reg (Od.pailBindKind p) + s.reg (Od.pailPartition p) * 2 ^ 2 + s.reg (Od.pailPasid p) * 2 ^ 9

/-- The publications of a pail are withheld in the current work tick (R248, R337). -/
def State.suppressedNow (s : State) (p : Nat) : Bool :=
  s.pairSuppresses || (s.reg (Od.pailBindKind p) = 1 && s.partSuppressed (s.reg (Od.pailPartition p)))

/-- STATE. -/
def State.pailStateWord (s : State) (p : Nat) : Nat :=
  let x := s.pail p
  pailCode x.state + b2n (x.freeze && decide (x.state ≠ PailState.frozen)) * 2 ^ 2 + b2n (s.suppressedNow p) * 2 ^ 3 +
    x.resetCount * 2 ^ 8

/-- The registers below 0x100. -/
def State.readPailCommon (s : State) (p o : Nat) : Nat :=
  let x := s.pail p
  match o with
  | 0x000 => s.pailId p
  | 0x004 => s.pailBind p
  | 0x008 => s.pailStateWord p
  | 0x00C => b2n x.freeze * 2
  | 0x010 => halfOf s.workTick false
  | 0x014 => halfOf s.workTick true
  | 0x018 => s.lag + s.rate * 2 ^ 16
  | 0x01C => halfOf s.workTick false
  | 0x020 => halfOf x.dcFreeze false
  | 0x024 => halfOf x.dcFreeze true
  | 0x02C => s.reg (Od.pailStaleDrops p)
  | 0x030 => halfOf x.ev.base false
  | 0x034 => halfOf x.ev.base true
  | 0x038 => x.ev.ctrl
  | 0x03C => x.ev.head
  | 0x040 => x.ev.tail
  | 0x044 => x.ev.lost
  | 0x060 => halfOf x.dirty.origin false
  | 0x064 => halfOf x.dirty.origin true
  | 0x068 => halfOf x.dirty.next false
  | 0x06C => halfOf x.dirty.next true
  | 0x070 => x.dirty.span
  | 0x074 => x.dirty.ctrl
  | 0x078 => halfOf x.dirty.prev false
  | 0x07C => halfOf x.dirty.prev true
  | _ => 0

/-- The registers of a queue, from 0x200 on. -/
def State.readQueueReg (s : State) (p q r : Nat) : Nat :=
  let y := (s.pail p).queue q
  if s.queuePairs p ≤ q then 0
  else
    match r with
    | 0x00 => halfOf y.sqBase false
    | 0x04 => halfOf y.sqBase true
    | 0x08 => halfOf y.cqBase false
    | 0x0C => halfOf y.cqBase true
    | 0x10 => y.ctrl
    | 0x14 => y.sqHead
    | 0x18 => y.cqTail
    | 0x1C => y.error
    | _ => 0

/-- SUB_STATUS of a subscription slot: stNum, sqNum, flags, work ticks since the last accepted message (R249). -/
def State.readSubStatus (s : State) (p slot r : Nat) : Nat :=
  match s.pailSub p slot with
  | none => 0
  | some n =>
    let x := s.sub n
    match r with
    | 0x0 => x.snapSt
    | 0x4 => x.snapSq
    | 0x8 => x.snapFlags
    | _ => x.snapAge

/-- A member cell of a publication buffer: the staged VALUE and QUALITY with the member's TYPE; a TIMESTAMP cell is the module's (R246). -/
def State.pubCell (s : State) (p slot m : Nat) : Nat :=
  match s.pailPub p slot with
  | none => 0
  | some j =>
    let ty := (s.pubTypes j).getD m 0
    let w := Tab.look (s.pail p).staged (slot * 32 + m) 0
    if ty = 0 then 0 else if ty = 6 then s.stampCell (s.pub j).stamp.1 else cell ty (cellValue w) (cellQuality w)

/-- A member cell of a subscription buffer: the snapshot of the current work tick (R249). -/
def State.subCell (s : State) (p slot m : Nat) : Nat :=
  match s.pailSub p slot with
  | none => 0
  | some n => Tab.look (s.sub n).snapCells m 0

/-- One word of a pail's window. -/
def State.readPailWindow (s : State) (p o : Nat) : Nat :=
  let x := s.pail p
  if o < 0x100 then s.readPailCommon p o
  else if o < 0x140 then
    if s.queuePairs p ≤ o / 0x10 % 4 then 0
    else if o % 0x10 = 0 then (x.queue (o / 0x10 % 4)).sqTail
    else if o % 0x10 = 4 then (x.queue (o / 0x10 % 4)).cqHead else 0
  else if 0x200 ≤ o && o < 0x280 then s.readQueueReg p ((o - 0x200) / 0x20) (o % 0x20)
  else if 0x400 ≤ o && o < 0x600 then s.readSubStatus p ((o - 0x400) / 0x10) (o % 0x10)
  else if o = 0x604 then x.committed + b2n x.late * 2 ^ 16
  else if o = 0x608 then s.reg (Od.pailPubLate p)
  else if 0x1000 ≤ o && o < 0x2000 then halfOf (s.pubCell p ((o - 0x1000) / 0x100) (o % 0x100 / 8)) (decide (o % 8 = 4))
  else if 0x2000 ≤ o && o < 0x4000 then halfOf (s.subCell p ((o - 0x2000) / 0x100) (o % 0x100 / 8)) (decide (o % 8 = 4))
  else 0

/-! ### The data aperture (R169 to R171, R199 to R202, R241) -/

/-- The place of an image in the ring as it lies there. -/
def State.imageAt (s : State) (slot : Nat) : Option ImageSlot := Tab.find s.dp.images slot

/-- The descriptor of a slot: its TICK is all ones while the slices write it (R171). -/
def State.descriptorAt (s : State) (slot : Nat) : List Byte :=
  match s.imageAt slot with
  | none => List.replicate 32 0xFF
  | some x => descriptorBytes (if s.slotBusy slot then { x with tick := 2 ^ 64 - 1 } else x)

/-- One octet of the aperture as pail `p` reads it: image slots, descriptors, ALIVE bits, frequency records, phasor records. -/
def State.apertureByte (s : State) (p a : Nat) : Byte :=
  if a < 0x400000 then
    match s.imageAt (a / 0x10000) with
    | none => 0
    | some x => (leBytes 8 (s.slotWord p x (a % 0x10000 / 8))).getD (a % 8) 0
  else if a < 0x400800 then (s.descriptorAt ((a - 0x400000) / 32)).getD (a % 32) 0
  else if 0x401000 ≤ a && a < 0x402000 then
    match s.imageAt ((a - 0x401000) / 64) with
    | none => 0
    | some x => (aliveBytes x).getD (a % 64) 0
  else if 0x402000 ≤ a && a < 0x412000 then
    let n := (a - 0x402000) / 16
    (s.freqSeen (n % 64) (n / 64)).getD (a % 16) 0
  else if 0x1000000 ≤ a && a < 0x2000000 then
    let n := (a - 0x1000000) / 32
    (s.phasorSeen p (n % 8192) (n / 8192)).getD (a % 32) 0
  else 0

/-! ### BAR index 0 (R255, R434, R475, R476) -/

/-- EVENT_PENDING: 32 sources to a word. -/
def State.pendingWord (s : State) (i : Nat) : Nat := maskOf ((List.range 32).filter fun j => s.eventPending (32 * i + j))

/-- One word of BAR index 0. -/
def State.readBarZero (s : State) (o : Nat) : Nat :=
  let e := s.edp
  if o = 0x000 then 0x00010961
  else if o = 0x008 then b2n e.mbxBusy + 2 * b2n e.mbxReady
  else if o = 0x00C then e.mbxReqLen
  else if o = 0x010 then e.mbxResp.length % 2 ^ 16
  else if 0x040 ≤ o && o < 0x050 then s.pendingWord ((o - 0x040) / 4)
  else if 0x1000 ≤ o && o < 0x4000 then Tab.look e.mbxReq ((o - 0x1000) / 4) 0
  else if 0x4000 ≤ o && o < 0x8000 then leAt e.mbxResp (o - 0x4000) 4
  else if 0xE000 ≤ o && o < 0xE800 then Tab.look e.msixTable (o - 0xE000) 0
  else if 0xF000 ≤ o && o < 0xF010 then
    maskOf ((List.range 32).filter fun j => e.msixPending.contains ((o - 0xF000) / 4 * 32 + j))
  else 0

/-- A read of one 32-bit word: the spaces of `registerWrite`. -/
def State.registerRead (s : State) (space offset : Nat) : Nat :=
  if offset % 4 ≠ 0 then 0
  else if space = 1 then s.readBarZero offset
  else if space = 3 then leAt (s.loadBytes (offset / 2 ^ 64) (offset % 2 ^ 64) 4) 0 4
  else if offset < 64 * 0x4000 then s.readPailWindow (offset / 0x4000) (offset % 0x4000)
  else 0

end Sys2Proof.Machine
end

