-- ==== Sys2Proof/Tests/Slice0.lean ====
section
/-!
SUPPORT. Small tests of the model, each of one command or one computation, and for every statement with hypotheses a state and
operands that meet them.
-/

namespace Sys2Proof.Tests

open Sys2Proof Sys2Proof.Machine

-- One theorem at a time: elaborating them all at once asks for more threads than the memory limit allows.
set_option Elab.async false

/-! ### Small states -/

/-- The state after reset, and the same with one part replaced. -/
def z : State := State.reset
/-- What a command leaves, where it answers a next state. -/
def after (c : Instr) (s : State) : Option State :=
  match exec c s with
  | .next t => some t
  | _ => none
def reg (k v : Nat) (s : State) : State := s.setReg k v
def inRole (r : Role) : State := { z with pair := { enabled := true, role := r } }
def heartbeat (state : Nat) : Heartbeat := ⟨1, state, 0, 0, 0, 0, 0, none⟩

/-! ### The machine as a whole (StepRunsTheFrontCommand to RolesChangeAtTheBoundary) -/

theorem test_step_front : step { z with pending := [.ppsOutFall 5] } = exec (.ppsOutFall 5) z := rfl

theorem test_step_idle : step z = .next z := rfl

theorem test_reset_invariant : z.pins = z.pinsOf ∧ Memory.wf z.mem = true ∧ Runs { z with pending := [.ppsOutFall 5] } :=
  ⟨by decide +kernel, by decide, _, rfl⟩

theorem test_names_of_ports : (Instr.pauseExpiry 0 32).namesInstance = false ∧ (Instr.pauseExpiry 0 31).namesInstance = true := by decide

theorem test_tap_open :
    State.testAccess { z with sec := { lc := .manufacture } } = true ∧ z.testAccess = false := by decide +kernel

theorem test_unpowered : State.powered { z with power := { domains := 0 } } 3 = false := by decide +kernel

theorem test_boundary_comes : z.powered 10 = true ∧ (z.arrive 0).tickNow = z.workTick ∧ (z.arrive (2 ^ 36)).tickNow ≠ z.workTick := by
  decide +kernel

theorem test_boundary_withdrawn : (inRole .withdrawn).pair.role = .withdrawn ∧ ((inRole .withdrawn).arrive (2 ^ 36)).tickNow = 4800 := by
  decide +kernel

theorem test_boundary_partner_fails :
    let s : State := { z with pair := { enabled := true, role := .follow, partner := some (heartbeat 3), link := { lacked := 2 } } }
    s.paired = true ∧ s.power.withdrawn = false ∧ 3 ≤ (s.pair.link.judge s.workTick).lacked ∧ s.hasStationPath = false := by decide +kernel

theorem test_boundary_relinquished :
    let s : State := { z with pair := { enabled := true, role := .lead, relinquishSent := true } }
    s.paired = true ∧ s.pair.role = .lead ∧ s.pair.relinquishSent = true := by decide +kernel

theorem test_boundary_init_alone :
    let s : State := { z with pair := { enabled := true, hbWaited := true } }
    s.paired = true ∧ s.pair.role = .init ∧ s.pair.swap = none ∧ (s.arrive (2 ^ 36)).heard s.workTick = false := by decide +kernel

theorem test_boundary_init_hears :
    let s : State := { z with pair := { enabled := true, partner := some (heartbeat 3), partnerAt := 7 } }
    (s.arrive (2 ^ 36)).heard s.workTick = true ∧ s.pair.partner = some (heartbeat 3) ∧ (heartbeat 1).state < 2 := by decide +kernel

theorem test_boundary_lead_stays :
    (inRole .lead).pair.relinquishSent = false ∧ (inRole .lead).pair.swap = none ∧
      ((inRole .lead).arrive (2 ^ 36)).heard (inRole .lead).workTick = false := by decide +kernel

/-- A subscription of which the snapshot clause speaks. -/
theorem test_boundary_subs : (0, ({ stNum := 4 } : Sub)) ∈ (z.setSub 0 { stNum := 4 }).subs := by decide +kernel

/-! ### Time (TicksAndTimesConvert to PtpMessagesOfAPort) -/

/-- R46 and R48 at the boundary of the first tick of a second, at 4,800 ticks a second. -/
theorem test_tick_of : tickOf 4800 (2 ^ 36) = 4800 ∧ tickOf 4800 (2 ^ 36 - 1) = 4799 ∧ tickInstant 4800 4800 = 2 ^ 36 := by decide +kernel

theorem test_ptp_time : (toPtpRounded (2 ^ 36)).1 < 2 ^ 44 ∧ toPtpRounded (2 ^ 36) = (1, 0) := by decide +kernel

theorem test_set_time_busy :
    let s : State := { z with time := { sourceValid := true } }
    s.powered 3 = true ∧ (after (.setTime 5 9) s).map (·.out) = some [.status 7 []] := by decide +kernel

theorem test_set_time_steps :
    (z.arrive 5).now < 2 ^ 63 ∧ (z.arrive 5).beyondStep (dripDiff (2 ^ 37) 5) = true ∧ (z.arrive 5).outEnabled = false ∧
      z.time.sourceValid = false := by decide +kernel

theorem test_set_time_slews : (z.arrive 5).beyondStep (dripDiff 9 5) = false ∧ (inRole .lead).outEnabled = true ∧
    (inRole .lead).beyondStep (dripDiff (2 ^ 37) 5) = true ∧ (inRole .lead).sourceUp 32 = true := by decide +kernel

theorem test_step_now : State.beyondStep { z with time := { sourceValid := true, offset := 2 ^ 37 } } (2 ^ 37) = true := by decide +kernel

/-- What remains of an offset of SET_TIME set at this very instant is the whole of it. -/
theorem test_step_now_remaining : (State.remaining { z with time := { setOffset := 2 ^ 37 } }).1 = 2 ^ 37 := by
  show (2 ^ 37 : Int) - ((Config.free (0 : Nat) % (0 + 1) : Nat) : Int) = 2 ^ 37
  rw [Nat.mod_one]; rfl

def ppsOn : State := { reg Od.ppsInEnable 1 z with time := { ppsLocked := true } }

theorem test_pps_ignored : (2 : Int) * 2 ^ 36 < 5 * ((2 ^ 35 : Int).natAbs : Int) ∧ z.time.frozen = false := by decide +kernel

theorem test_pps_rejected : ppsOn.on Od.ppsInEnable = true ∧ ofUs 100 < (ofUs 101) ∧
    5 * (ofUs 101) ≤ 2 * 2 ^ 36 ∧ ppsOn.time.ppsLocked = true ∧ ppsOn.powered 3 = true := by decide +kernel

theorem test_pps_taken : ∃ t, exec (.ppsInEdge (2 ^ 36) ⟨true, 6872⟩) ppsOn = .next t ∧ t.time.ppsValid = true := ⟨_, rfl, by decide +kernel⟩

theorem test_pps_kinds :
    (after (.ppsInEdge (2 ^ 35) ⟨true, 6872⟩) ppsOn).map (·.time.ppsValid) = some false ∧
      (after (.ppsInEdge (2 ^ 36 + ofUs 101) ⟨true, 6872⟩) ppsOn).map (·.time.ppsRejected) = some 1 ∧
      (ppsOn.arrive (2 ^ 36)).timeAhead.1 = 0 := by decide +kernel

theorem test_pps_invalid :
    let s : State := { z with time := { ppsValid := true } }
    s.time.ppsLastEdge + 3 * 2 ^ 36 ≤ (s.arrive (3 * 2 ^ 36)).now := by decide +kernel

theorem test_pps_rises :
    let s : State := { z with time := { servo := .locked } }
    s.time.ppsChangeAt = none ∧ s.time.drivesPps = true ∧ (s.arrive (2 ^ 36)).time.ppsDue = true ∧ s.time.ppsOut = false ∧
      z.time.drivesPps = false ∧ (s.arrive (2 ^ 35)).time.ppsDue = false := by decide +kernel

theorem test_pps_falls : z.time.ppsRoseAt + z.time.ppsWidth ≤ (z.arrive (2 ^ 36)).now := by decide +kernel

theorem test_holdover_ends :
    let s : State := { z with time := { servo := .holdover } }
    s.time.frozen = false ∧ (s.arrive (2 ^ 60)).holdExceeded = true := by decide +kernel

theorem test_frequency_stored :
    let s : State := { z with time := { servo := .locked } }
    s.time.storedAt + 3600 * 2 ^ 36 ≤ (s.arrive (3600 * 2 ^ 36)).now := by decide +kernel

theorem test_rate_changes :
    let s : State := { z with time := { rateNext := some (4000, 2 ^ 36) } }
    ∃ t, exec (.tickRateChange (2 ^ 36)) s = .next t ∧ t.rate = 4000 := ⟨_, rfl, by decide +kernel⟩

def announced : Announce := ⟨128, 248, 254, 65535, 128, 1, 0, 37, false⟩

theorem test_announce_lost :
    let s : State := z.setPtpPort 0 { foreign := some announced }
    (s.ptpPort 0).foreign.isSome = true ∧ (s.ptpPort 0).lastAnnounce + 3 * 2 ^ 36 ≤ (s.arrive (3 * 2 ^ 36)).now := by decide +kernel

def ptpPort : State := { reg (Od.ptpPortPtpEnable 0) 1 (reg (Od.portRole 0) 2 z) with ports := [(0, { linkUp := true })] }

theorem test_ptp_port : ptpPort.powered 3 = true ∧ ptpPort.ptpUp 0 = true ∧ z.ptpUp 0 = false ∧ ptpPort.mastersAt 0 = false := by
  decide +kernel

theorem test_ptp_master : (reg Od.ptpClockType 1 ptpPort).mastersAt 0 = true := by decide +kernel

theorem test_ptp_messages : fromPtp 0 0 (-65536) = none ∧ fromPtp 0 0 0 ≠ none ∧
    (⟨.announce, ptpPort.reg Od.ptpDomain, 0, false, 0, 0, 0, some announced⟩ : PtpMsg).domain = ptpPort.reg Od.ptpDomain := by decide +kernel

/-! ### Ports (PortReception to TimestampsAndHalfRangeMap) -/

def port0 (x : Port) : State := { z with ports := [(0, x)] }

theorem test_frame_starts :
    let s := port0 { linkUp := true }
    (z.port 0).linkUp = false ∧ (s.port 0).linkUp = true ∧ (s.port 0).rx = none ∧ s.reg (Od.portFrameLimit 31) ≤ 2048 := by decide +kernel

theorem test_frame_runt :
    let s := port0 { linkUp := true, rx := some ⟨0, false, none, none, none⟩ }
    (after (.rxFrameEnd 9 0 ⟨63, true, false⟩) s).map (fun t => (t.reg (0x204023), t.port 0 |>.rx)) = some (1, none) ∧
      (after (.rxFrameEnd 9 0 ⟨64, true, false⟩) s).map (fun t => t.reg (0x204023)) = some 0 := by decide +kernel

def pausing (x : Port) : State := reg (Od.portRxPauseEnable 0) 1 (port0 x)

theorem test_pause_restarts :
    let s := pausing { linkUp := true, speed := 1000, pause := .running 50, tx := some (.pause 0) }
    s.rxPause 0 = true ∧ s.powered 3 = true ∧ (s.arrive 49).now < 50 ∧
      (after (.pauseReceived 49 0 1) s).map (fun t => (t.port 0).pause) = some (.running (49 + wireTime 1000 64)) := by decide +kernel

theorem test_pause_pends :
    (after (.pauseReceived 9 0 100) (pausing { linkUp := true, tx := some (.pause 0) })).map (fun t => (t.port 0).pause) =
      some (.pending 100) ∧
    (after (.pauseReceived 9 0 0) (pausing { linkUp := true, tx := some (.pause 0), pause := .pending 5 })).map
      (fun t => (t.port 0).pause) = some .none ∧
    (pausing { linkUp := false }).powered 3 = true ∧ (port0 { linkUp := true }).rxPause 0 = false := by decide +kernel

theorem test_pause_ends :
    let s := pausing { linkUp := true, pause := .running 50 }
    (after (.pauseExpiry 50 0) s).map (fun t => (t.port 0).pause) = some .none ∧
      (after (.pauseExpiry 49 0) s).map (fun t => (t.port 0).pause) = some (.running 50) ∧
      (after (.linkDown 9 0) s).map (fun t => (t.port 0).pause) = some .none := by decide +kernel

/-- The worked example of R96: a pause of 100 quanta at 10 Gb/s lasts 5,120 ns from the end of the frame. -/
theorem test_pause_begins :
    let s := pausing { linkUp := true, speed := 10000, tx := some (.pause 0), pause := .pending 100 }
    (after (.txFrameEnd 0 0) s).map (fun t => (t.port 0).pause) = some (.running (5120 * 2 ^ 36 / 1000000000)) := by decide +kernel

theorem test_link_changes :
    let s := port0 { linkUp := true, xoff := true, speed := 1000 }
    let down := reg (Od.portRole 0) 2 z
    s.sourceUp 0 = true ∧ (s.port 0).xoffSentAt + wireTime 1000 (64 * 32768) ≤ (s.arrive (2 ^ 36)).now ∧
      (s.arrive 5).now < (s.port 0).xoffSentAt + wireTime 1000 (64 * 32768) ∧
      (down.port 0).linkUp = false ∧ (down.port 0).retired = false ∧ (down.port 0).duplexHeld = false ∧ down.reg (Od.portRole 0) ≠ 0 ∧
      (after (.linkUp 9 0) down).map (fun t => (t.port 0).linkUp) = some true ∧
      (after (.linkUp 9 0) z).map (fun t => (t.port 0).linkUp) = some false := by decide +kernel

theorem test_sgmii :
    let s := reg (Od.portMode 0) 2 (port0 { linkUp := true, phySpeed := 1000 })
    s.nextMode 0 = 2 ∧ (s.port 0).phySpeed ≠ 0 ∧ (s.port 0).phySpeed ≠ 100 ∧
      (after (.sgmiiSpeedReport 9 0 100 true) s).map (fun t => ((t.port 0).linkUp, (t.port 0).phySpeed)) = some (false, 100) := by
  decide +kernel

/-- A lowering port in role HISTORY whose utilisation has been low since the start, at the end of LOWER_HOLD. -/
def lowering (x : Port) : State :=
  reg (Od.portLowerThreshold 0) 5 (reg (Od.portSpeedLowering 0) 1 (reg (Od.portRole 0) 3 (port0 { x with linkUp := true })))

theorem test_speed_lowers :
    let s := lowering {}
    let a := s.reg (Od.portLowerHold 0) * 2 ^ 36
    s.on (Od.portSpeedLowering 0) = true ∧ s.reg (Od.portRole 0) = 3 ∧ s.reg (Od.portLowerThreshold 0) ≠ 0 ∧
      (after (.speedLower a 0) s).map (fun t => ((t.port 0).lowered, (t.port 0).lastSpeedChange)) = some (true, some a) ∧
      (after (.speedLower (a - 1) 0) s).map (fun t => (t.port 0).lowered) = some false ∧
      (after (.speedLower a 0) (lowering { tx := some (.pause 0) })).map (fun t => (t.port 0).speedWaits) = some (some true) := by
  decide +kernel

theorem test_speed_raises :
    let s := lowering { lowered := true, raiseSeen := true }
    (after (.speedRaise 9 0) s).map (fun t => ((t.port 0).lowered, (t.port 0).lastSpeedChange)) = some (false, some 9) ∧
      (after (.speedRaise 9 0) (lowering { lowered := true })).map (fun t => (t.port 0).lowered) = some true := by decide +kernel

theorem test_speed_change_waited :
    let s := lowering { speedWaits := some true }
    (s.port 0).speedBlocked = false ∧ (after (.egressTxStart 9 0) s).map (fun t => ((t.port 0).lowered, (t.port 0).linkUp)) =
      some (true, false) := by decide +kernel

/-- R102: within LINK_UP_HOLD of a loss of link the port stays down, after it it comes up. -/
theorem test_link_up_hold :
    let s := reg (Od.portRole 0) 2 (port0 { pcsLostAt := some 5 })
    let a := 5 + ofMs (s.reg (Od.portLinkUpHold 0))
    (after (.linkUp (a - 1) 0) s).map (fun t => (t.port 0).linkUp) = some false ∧
      (after (.linkUp a 0) s).map (fun t => (t.port 0).linkUp) = some true ∧
      (after (.linkDown 9 0) s).map (fun t => (t.port 0).pcsLostAt) = some (some 9) := by decide +kernel

theorem test_lock_lost : (after (.serdesLockLost 9 31) z).map (fun t => (t.port 31).linkUp) = some false := by decide +kernel

theorem test_half_range :
    let k := 0x2040 * 256 + 2
    let s := reg k (2 ^ 31 - 1) z
    bit (s.reg k) 31 = false ∧ bit (s.reg k + 1) 31 = true ∧ s.reg k < 2 ^ 32 - 1 ∧
      (s.countPort 0 2).reg (Od.cntHalfRangeMap 0) = 2 ∧ (reg k (2 ^ 32 - 1) z).reg k = 2 ^ 32 - 1 ∧
      (after (.halfRangeMapWrite 9 0 2) (s.countPort 0 2)).map (fun t => t.reg (Od.cntHalfRangeMap 0)) = some 0 := by decide +kernel

theorem test_timestamp_collected :
    let e : TsEntry := ⟨1, 2, 0, 0, 16, true, 0, 0, 0, none⟩
    let s := port0 { tsQueue := [e] }
    (s.port 0).tsQueue.find? (·.owner = 16) = some e ∧ (s.port 0).tsQueue.find? (·.owner = 0) = none ∧
      (after (.timestampCollect 9 0 16) s).map (fun t => (t.port 0).tsQueue) = some [] ∧
      (after (.timestampUncollected (2 ^ 36) 0) s).map (fun t => (t.port 0).tsQueue) = some [] := by decide +kernel

/-! ### The switch (FixedClassesThenFirstRule to DuplicateJudgement) -/

def frameTo (dst etype : Nat) : Frame := ⟨dst, 7, none, etype, 0, none, none, 64, [], []⟩

theorem test_fixed_classes :
    let s := reg (Od.ptpPortPtpEnable 0) 1 (reg (Od.portRole 0) 2 z)
    s.etypeAt 0 (frameTo 5 0x8808) = 0x8808 ∧ s.etypeAt 0 (frameTo 5 0x88F7) = 0x88F7 ∧ s.on (Od.ptpPortPtpEnable 0) = true ∧
      (s.steerFrame 0 (frameTo 5 0x88F7)).queues = [2] ∧ s.reg Od.pairHbEthertype = 0x88B5 ∧ s.reg (Od.portRole 0) = 2 ∧
      (s.steerFrame 0 (frameTo 5 0x88B5)).queues = [3] := by decide +kernel

theorem test_first_rule :
    let s := reg (Od.filterRule 0 0) 1 z
    let f := frameTo 5 0x0800
    let h : Frame := { frameTo 5 0x88F7 with hsr := some ⟨0, 9⟩ }
    s.etypeAt 0 f = 0x0800 ∧ h.hsr ≠ none ∧ s.ruleMatches 0 f (filterRule (s.reg (Od.filterRule 0 63))) = false ∧
      z.ruleMatches 0 f (filterRule (z.reg (Od.filterRule 0 0))) = false := by decide +kernel

theorem test_classified :
    let s := port0 { linkUp := true, rx := some ⟨3, false, none, none, none⟩ }
    (s.port 0).rx = some ⟨3, false, none, none, none⟩ ∧ (z.port 0).rx = none ∧
      ((after (.rxClassified 9 0 (frameTo 5 0x8808)) s).bind fun t => (t.port 0).rx.bind (·.frame)) = some (frameTo 5 0x8808) := by
  decide +kernel

theorem test_lookup :
    let any := staticEntry (1 + 2 ^ 1)
    z.lookup 5 0 = none ∧ isGroupMac 5 = false ∧ isGroupMac (2 ^ 40) = true ∧ isGroupMac broadcastMac = true ∧ any.valid = any.valid ∧
      z.unknownMc 0 = true ∧ (reg (Od.portRole 0) 1 z).unknownMc 0 = false ∧ (reg (Od.swPortUnknownUc 0) 1 z).on (Od.swPortUnknownUc 0) ∧
      (reg (Od.swPortUnknownUc 0) 0 z).on (Od.swPortUnknownUc 0) = false := by decide +kernel

theorem test_admission :
    let w : Switch := {}
    Tab.wf w.accounts 0 = true ∧ w.rv = 2048 ∧ w.rv ≤ w.free ∧ w.account 31 7 + 8 ≤ 8 ∧ w.admits true 3 31 7 8 = .admitted := by
  decide +kernel

theorem test_table_write :
    let s := z
    let v := 2 ^ 63 &&& staticEntryBits
    s.tablesBusy = false ∧ (1 : Nat) &&& groupBits ≠ s.reg (Od.mcGroup 1023) &&& groupBits ∧
      (after (.multicastGroupWrite 9 1023 1) s).map (fun t => (t.reg Od.swTableGeneration, t.out)) =
        some ((s.reg Od.swTableGeneration + 1) % 2 ^ 16, [.status 0 (beBytes 2 ((s.reg Od.swTableGeneration + 1) % 2 ^ 16))]) ∧
      (after (.clearTables 9 4) s).map (·.out) = some [.status 3 []] ∧ v = v := by decide +kernel

theorem test_tables_busy :
    State.tablesBusy { z with sw := { tableWrites := List.replicate 4096 0 } } = true ∧
      State.tablesBusy { z with sw := { tableWrites := List.replicate 4095 0 } } = false := by decide +kernel

/-- R123: one generation is older than the next, also where the numbers wrap, and not older than itself. -/
theorem test_older_generation : olderGen 0xFFFF 0 = true ∧ olderGen 0 32767 = true ∧ olderGen 0 32768 = false ∧ olderGen 5 5 = false := by
  decide

theorem test_barrier :
    let s := reg Od.swTableGeneration 0x41 z
    olderGen (s.reg Od.swTableGeneration) 0x42 = true ∧ olderGen (s.reg Od.swTableGeneration) 0x41 = false ∧
      (after (.tableBarrier 9 0x42) s).map (·.out) = some [.status 3 []] ∧
      (after (.tableBarrier 9 0x41) s).map (fun t => t.sw.barriers) = some [] := by decide +kernel

def waiting : SwFrame :=
  ⟨frameTo 5 0x0800, some 1, 1, 0, 0, 64, true, false, [⟨0, 7, false, false, false⟩], none, 0, none, [], 0⟩

def egress0 : State :=
  { port0 { linkUp := true, speed := 1000 } with
    sw := { frames := [(4, waiting)], queues := [(7, [4])], accounts := [(7, 1)], free := 24575 } }

theorem test_egress_pause_first :
    let s := port0 { linkUp := true, pauseOut := [0xFFFF] }
    (after (.egressTxStart 9 0) s).map (fun t => ((t.port 0).tx, t.out)) = some (some (.pause 0xFFFF), [.pause 0 0xFFFF]) := by decide +kernel

theorem test_egress_idle :
    let s := port0 { linkUp := true }
    (s.arrive 9).paused 0 = false ∧ (s.sw.queue 0 7 = []) ∧ State.paused (port0 { pause := .running 10 }) 0 = true := by decide +kernel

theorem test_egress_class7 :
    let s := egress0
    s.sw.queue 0 7 = [4] ∧ Tab.find s.sw.frames 4 = some waiting ∧ waiting.complete = true ∧ (s.port 0).speedWaits = none ∧
      (s.arrive 9).tooOld 0 waiting ((s.arrive 9).onWire waiting ⟨0, 7, false, false, false⟩).len = false ∧
      (after (.egressTxStart 9 0) s).map (fun t => (t.port 0).tx) = some (some (.frame 4)) := by decide +kernel

/-- R125: a ready head of class 3 that the scheduler picks. -/
theorem test_egress_choice :
    let f : SwFrame := { waiting with egress := [⟨0, 3, false, false, false⟩] }
    let s : State := { egress0 with sw := { egress0.sw with frames := [(4, f)], queues := [(3, [4])], accounts := [(3, 1)] } }
    ((s.arrive 9).choose 0).pick.map (·.1) = some 4 ∧ (s.port 1).rx.bind (·.swId) ≠ some 4 ∧
      (after (.egressTxStart 9 0) s).map (fun t => (t.port 0).tx) = some (some (.frame 4)) ∧
      (after (.cutThroughStart 9 1 0) s).map (fun t => (t.port 0).tx) = some none := by decide +kernel

theorem test_egress_cut_through :
    let f : SwFrame := { waiting with complete := false, egress := [⟨0, 7, true, false, false⟩] }
    let s : State := { egress0 with
      ports := [(0, { linkUp := true, speed := 1000 }), (1, { linkUp := true, speed := 1000, rx := some ⟨0, false, some f.frame, some 4, none⟩ })]
      sw := { egress0.sw with frames := [(4, f)] } }
    64 ≤ (s.arrive 40000).arrived 1 ⟨0, false, some f.frame, some 4, none⟩ ∧ f.ingress = some 1 ∧ (s.sw.queue 0 7).head? = some 4 ∧
      (s.arrive 40000).pastLimit f ⟨0, 7, true, false, false⟩ = false ∧
      (after (.cutThroughStart 40000 1 0) s).map (fun t => (t.port 0).tx) = some (some (.frame 4)) := by decide +kernel

theorem test_egress_ends : (after (.txFrameEnd 9 0) (port0 { tx := some (.frame 4) })).map (fun t => (t.port 0).tx) = some none := by
  decide +kernel

theorem test_residence :
    (after (.residenceDiscard (ofUs 2000) 0) egress0).map (fun t => t.sw.frames) = some [] ∧
      (after (.residenceDiscard (ofUs 1000) 0) egress0).map (fun t => t.sw.frames.length) = some 1 ∧
      (after (.residenceLimitWrite 9 99) egress0).map (fun t => t.out) = some [.status 3 []] ∧
      (after (.residenceLimitWrite 9 100) egress0).map (fun t => t.reg Od.swResidenceLimit) = some 100 := by decide +kernel

/-- The worked example of R139: TOP 0x1F40; ahead, duplicate, and older than the window. -/
theorem test_duplicates :
    let e : SrcEntry := ⟨2, 7, 0x1F41, [1, 0, 0], 0, false, false, false⟩
    let s : State := { z with sw := { sources := [e] } }
    (s.sourceEntry 2 7 = some (e, [])) ∧ e.windows.length = 3 ∧ s.entryForgotten e = false ∧ (s.judge 2 7 0x1F41 0).accept = false ∧
      (s.judge 2 7 0x1F42 0).accept = true ∧ (s.judge 2 7 0x1F00 0).accept = true ∧
      (s.judge 2 7 0x1F00 0).state.reg (Od.sepCntOutOfWindow 2) = 1 := by decide +kernel

theorem test_forgotten :
    let e : SrcEntry := ⟨2, 7, 5, [1, 0, 0], 0, true, false, false⟩
    let f : SrcEntry := { e with forgotten := false }
    let s : State := { z with sw := { sources := [f] } }
    z.entryForgotten e = true ∧ f.lastAccept + ofMs (s.reg Od.sepEntryForgetTime) ≤ (s.arrive (2 ^ 36)).now ∧
      (after (.entryForget (2 ^ 36) 2 7) s).map (fun t => t.sw.sources.map (·.forgotten)) = some [true] := by decide +kernel

theorem test_supervision :
    let s := reg (Od.sepGroupPortA 0) 0 (reg (Od.sepGroupKind 0) 1 (port0 { linkUp := true }))
    z.groupKind 15 = 0 ∧ s.groupKind 0 ≠ 0 ∧ s.reg (Od.sepGroupPortA 0) < 32 ∧ (s.port (s.reg (Od.sepGroupPortA 0))).linkUp = true ∧
      s.linkRead (s.reg (Od.sepGroupPortA 0)) = true ∧ 70 ≤ s.reg (Od.portFrameLimit (s.reg (Od.sepGroupPortA 0))) ∧ s.sw.account 0 0 < 8 := by decide +kernel

/-! ### Ingest, images and history (AsduMatchAndChecks to TriggersOpenWindows) -/

/-- A state with stream subscription 0 enabled, its channel 0 mapped to image channel 0. -/
def sv0 : State := reg (Od.svMap 0 0) 0 (reg (Od.svChannels 0) 1 (reg (Od.svAppid 0) 0x4000 (reg (Od.svDstMac 0) 5 (reg (Od.svEnable 0) 1
  (reg (Od.svIngressMask 0) 1 z)))))

def asdu : Asdu := ⟨0, 5, 0x4000, none, false, none, 2 ^ 36, 2 ^ 36, 100, [], 0, 0, 2, 8, [⟨100, 0⟩]⟩

theorem test_asdu_matches : (sv0.arrive (2 ^ 36)).asOf asdu.idAt = sv0.arrive (2 ^ 36) ∧ sv0.cut 0 = false ∧ sv0.readVid 0 asdu.tag = sv0.reg (Od.portPvid 0) ∧
    sv0.svMatch asdu = some 0 ∧ sv0.powered 3 = true ∧ sv0.svMatch { asdu with svid := List.replicate 65 0 } = none ∧
    bit (sv0.reg (Od.svIngressMask 0)) 0 = true ∧ bit (sv0.reg (Od.svIngressMask 0)) 31 = false ∧
    sv0.reg (Od.svConfRev 0) = 0 ∧ sv0.on (Od.svSimAccept 0) = false := by decide +kernel

/-- R154: the first sample of the second that begins at the arrival, and the last of the second before. -/
theorem test_sample_number : sampleNumber 4000 0 (2 ^ 36) = some 4000 ∧ sampleNumber 4000 3999 (2 ^ 36) = some 3999 ∧
    sampleNumber 4000 4000 (2 ^ 36) = none ∧ sampleNumber 4000 1 (2 ^ 36 - ofUs 1000) = none := by decide +kernel

theorem test_asdu_stored :
    (after (.svAsduReceived (2 ^ 36) asdu) sv0).map (fun t =>
      (t.reg (Od.svFrames 0), (t.stream 0).arrivals, Tab.find (t.stream 0).ring (sv0.reg (Od.svStreamRate 0)) |>.map (·.samples))) =
      some (1, [2 ^ 36], some [⟨100, 0⟩]) := by decide +kernel

theorem test_asdu_refused :
    (after (.svAsduReceived (2 ^ 36) { asdu with seqLen := 16 }) sv0).map (fun t => (t.reg Od.ingestCntMalformed, t.dp.streams)) =
      some (1, []) ∧
    (after (.svAsduReceived (2 ^ 36) { asdu with confRev := 3 }) (reg (Od.svConfRev 0) 2 sv0)).map (fun t =>
      t.reg (Od.svConfRevMismatch 0)) = some 1 ∧
    (after (.svAsduReceived (2 ^ 36) { asdu with smpSynch := 0 }) (reg (Od.svSyncPolicy 0) 0 sv0)).map (fun t =>
      t.reg (Od.svUnsynced 0)) = some 1 ∧
    (after (.svAsduReceived (2 ^ 36) { asdu with port := 31 }) sv0).map (fun t => t.reg (Od.svWrongPort 0)) = some 1 := by decide +kernel

/-- The stream of entry 0, with sample numbers seen and judged. -/
def seen0 (seen : List Nat) (judged : Option Nat) (ring : Tab RawSample) : State :=
  sv0.setStream 0 { keys := some (sv0.streamKeys 0), seen := seen, judgedTo := judged, ring := ring }

theorem test_asdu_duplicate :
    (after (.svAsduReceived (2 ^ 36) asdu) (seen0 [4000, 4800] none [])).map (fun t => t.reg (Od.svDuplicate 0)) = some 1 ∧
      (sv0.setStream 0 { seen := [4800] }).positionTaken 0 4800 (sv0.streamKeys 0) = false ∧ sv0.reg (Od.svStreamRate 0) = 4800 := by
  decide +kernel

theorem test_asdu_late :
    (after (.svAsduReceived (2 ^ 36) asdu) (seen0 [] (some 4800) [])).map
      (fun t => (t.reg (Od.svLate 0), (t.stream 0).lateSeen, (t.stream 0).seen)) = some (1, true, [4800]) := by decide +kernel

/-- R157: a sample that an image not yet built still needs holds the position. -/
theorem test_asdu_no_position :
    let r : RawSample := ⟨sv0.streamKeys 0, true, 0, false, false, [⟨5, 0⟩], .waiting, false⟩
    let s := (seen0 [] none [(4864, r)]).setDp fun d => { d with lastReleased := some 4799 }
    s.positionTaken 0 4800 (sv0.streamKeys 0) = true ∧
      (after (.svAsduReceived (2 ^ 36) asdu) s).map (fun t => t.reg (Od.svBadSmpcnt 0)) = some 1 := by decide +kernel

/-- R28: across a failed link to the compute die an accepted ASDU is counted and its samples are absent. -/
theorem test_asdu_cut :
    let s : State := { sv0 with health := { linksFailed := [0] } }
    s.cut 0 = true ∧ (after (.svAsduReceived (2 ^ 36) asdu) s).map (fun t => (t.reg (Od.svFrames 0), t.dp.streams)) = some (1, []) := by
  decide +kernel

theorem test_window_closes :
    let i := 4800
    let deadline := sv0.tickAt i + ofUs (sv0.reg Od.ingestAlignWindow)
    sv0.guardAt sv0 0 i = some (sampleAt (sv0.reg (Od.svStreamRate 0)) (2 ^ 36) 0 + 3) ∧ sv0.dp.lastClosed = none ∧
      (after (.alignmentWindowClose deadline i) sv0).map (fun t => t.dp.lastClosed) = some (some i) ∧
      (after (.alignmentWindowClose (deadline - 1) i) sv0).map (fun t => t.dp.lastClosed) = some none := by decide +kernel

theorem test_window_judges :
    let g := sampleAt (sv0.reg (Od.svStreamRate 0)) (2 ^ 36) 0 + 3
    let s := seen0 [] (some (g - 1)) []
    sameRun (g - 1) g = true ∧ (s.stream 0).judgedTo = some (g - 1) ∧ s.guardAt s 0 4800 = some g ∧ s.reg (Od.svMissing 0) < 2 ^ 32 ∧
      (s.stream 0).ring = [] := by decide +kernel

theorem test_window_counts_missing :
    ((seen0 [] (some 4802) []).judgeSample 0 0 4803).reg (Od.svMissing 0) = 1 := by decide +kernel

/-- R59: no image of a tick before a step's new time is closed. -/
theorem test_window_before_step :
    (after (.alignmentWindowClose (2 ^ 37) 4800) { sv0 with dp := { imagesFrom := 4801 } }).map (fun t => t.dp.lastClosed) = some none := by
  decide +kernel

def closed0 : State := { sv0 with dp := { lastClosed := some 4800 } }

theorem test_image_released :
    closed0.dp.lastReleased ≠ some 4800 ∧ (closed0.asOf (closed0.tickAt 4800)).mapped = [(0, 0, 0)] := by decide +kernel

theorem test_slot_unmapped : z.slotAt 4800 7 = ⟨0, 0x0101⟩ ∧ Tab.find z.dp.images (4800 % 64) = none := by decide +kernel

theorem test_filter_fir :
    let w : FilterUse := ⟨0, 1, 1, false, [0x40, 0, 0, 0], 0⟩
    w.taps ≠ 0 ∧ firOutput w [6] = 3 ∧ firOutput { w with taps := 0 } [6] = 6 := by decide +kernel

/-- The aligned value halfway between two samples of the cubic x³ - x (R183). -/
theorem test_lagrange : lagrangeValue (1 / 2) 0 0 0 6 = (1 / 2) ^ 3 - 1 / 2 ∧ lagrangeSlope 0 0 0 0 6 = -1 := by decide +kernel

theorem test_phasors_released :
    let s : State := { reg (Od.output 0) 0x8000 z with dp := { lastReleased := some 4800 } }
    s.outEnable 0 = true ∧ s.dp.lastPhasor ≠ some 4800 ∧ s.powered 10 = true := by decide +kernel

theorem test_residue :
    let s : State := { z with health := { errors := [(laneGroupId 3 3, [0, 0])] } }
    s.isOut (laneGroupId 3 3) = false ∧ s.isOut (sliceId 3) = false ∧
      (after (.residueMismatch 9 3 3) s).map (fun t => t.health.out) = some [laneGroupId 3 3, sliceId 3] ∧
      (after (.residueMismatch 9 3 2) s).map (fun t => t.health.out) = some [] ∧
      (after (.residueMismatch 9 4 0) s).map (fun t => (t.health.out, t.reg Od.fbResidueMismatch)) = some ([], 1) := by decide +kernel

theorem test_handover :
    let s : State := { z with health := { out := [sliceId 2] } }
    (s.arrive 9).handoverKind 2 = some .retired ∧ (z.arrive 9).handoverKind 2 = none ∧
      State.handoverKind { z with pair := { plans := [⟨1, 0, true⟩] } } 1 = some .mirror := by decide +kernel

theorem test_return :
    let s : State := { z with dp := { fb := [(3, [⟨.mirror, 0, none⟩])] } }
    s.mayReturn 3 = true ∧ z.mayReturn 3 = false ∧ (after (.fallbackReturn 9 3) s).map (fun t => t.fbService 3) = some none := by
  decide +kernel

theorem test_curd_block : (∀ k, k < 8 → sat48 (z.slotAt (8 + k) 0).value = (z.slotAt (8 + k) 0).value) ∧ (z.curdBlock 8 0).exp = 0 := by
  decide +kernel

def storing : State := { reg (Od.filterRecord 0) (2 ^ 48) z with dp := { lastReleased := some 15 } }

theorem test_frame_written :
    storing.storedChannels = [0] ∧ storing.powered 10 = true ∧
      (after (.curdFrameWrite 9 8) storing).map (fun t => t.hist.frames.map (·.tick)) = some [8] ∧
      (after (.curdFrameWrite 9 9) storing).map (fun t => t.hist.frames.length) = some 0 := by decide +kernel

theorem test_frame_without_dram :
    storing.cut 1 = false ∧
      (after (.curdFrameWrite 9 8) { storing with health := { linksFailed := [1] } }).map (·.hist.frames.length) = some 0 := by
  decide +kernel

theorem test_frame_ends_capture :
    let s : State := { storing with hist := { windows := [(7, { state := 1, last := 15 })] } }
    Tab.find s.hist.windows 7 = some { state := 1, last := 15 } ∧
      (after (.curdFrameWrite 9 8) s).map (fun t => (t.window 7).state) = some 2 := by decide +kernel

theorem test_trigger_joins :
    let s : State := { z with hist := { windows := [(7, { state := 1, triggers := 16 })] } }
    ((s.trigger 9).window 7).triggers = 16 ∧ s.hist.windows.find? (fun e => decide (e.2.state = 1)) = some (7, { state := 1, triggers := 16 })
  := by decide +kernel

theorem test_trigger_refused :
    (z.trigger 9).reg Od.histFreezeRefused = 1 ∧ z.sourceUp 54 = true ∧ z.ringFrames = 0 := by decide +kernel

theorem test_trigger_opens : ((storing.trigger 9).window 0).state ≠ 0 ∧ (storing.trigger 9).reg Od.histFreezeRefused = 0 := by
  decide +kernel

theorem test_trigger_commands :
    (after (.triggerNow 9 1) (inRole .follow)).map (·.out) = some [.status 7 []] ∧
      (after (.triggerNow 9 1) z).map (·.out) = some [.status 0 []] ∧ storing.paused 0 = false ∧
      (after (.releaseWindow 9 8) z).map (·.out) = some [.status 3 []] ∧
      (after (.releaseWindow 9 7) { z with hist := { windows := [(7, { state := 3 })] } }).map (·.out) = some [.status 7 []] ∧
      (after (.releaseWindow 9 7) z).map (·.out) = some [.status 0 []] ∧
      (after (.dcFreezeMapWrite 9 5) z).map (fun t => t.reg Od.freezeDcFreezeMap) = some 5 := by decide +kernel

/-! ### Partitions (MonitorCallsAnswer to FaultsAndRestartsOfPartitions) -/

/-- A window word: unit 0, offsets 0 to 255 of the work tick, in every tick of the major frame. -/
def winAll : Nat := 0xFFFF + 255 * 2 ^ 80

/-- Partition 95 running with its window open, in a state with 1 MiB of RAM for it. -/
def inWindow (x : Partition) : State :=
  (reg (Od.partMemory 95) 1 z).setPart 95 { x with run := .running, window := some 0, windows := [winAll] }

theorem test_calls_answer :
    let s := inWindow {}
    (s.part 95).window.isSome = true ∧ (s.part 95).runs = true ∧ s.powered 10 = true ∧ (z.part 95).window = none ∧
      (after (.timerSet 9 95 7) s).map (fun t => ((t.part 95).timer, (t.part 95).regs.head?)) = some (some 7, some 0) ∧
      (after (.invalidMonitorCall 9 95 16) s).map (fun t => (t.part 95).regs.head?) = some (some (-1)) ∧
      (after (.restartSelf 9 95) s).map (fun t => (t.part 95).restartDue) = some (some 2) ∧
      (after (.migrateReady 9 95) (inWindow { migrateTo := some [3] })).map (fun t => (t.part 95).windowsNext) = some (some [3]) := by
  decide +kernel

/-- R9 at the defaults: the image lag that INFO reports, in the third result. -/
theorem test_info : (after (.info 9 95) (inWindow {})).map (fun t => (t.part 95).regs.drop 2) = some [4800, (z.lag : Int)] := by
  decide +kernel

def sends : State := reg (Od.partPorts 95) (0xFFFFFFFFFFFFFF03) (inWindow {})

theorem test_port_send :
    3 ∈ sends.portsOf 95 ∧ 4 ∉ sends.portsOf 95 ∧ sends.inRam 95 0x80000000 256 = true ∧
      (after (.portSend 9 95 3 0x80000000 256) sends).map (fun t => (t.part 3).sent.length) = some 1 ∧
      (after (.portSend 9 95 3 0x80000000 257) sends).map (fun t => (t.part 95).regs.head?) = some (some (-1)) ∧
      (after (.portSend 9 95 4 0x80000000 1) sends).map (fun t => (t.part 95).regs.head?) = some (some (-2)) ∧
      (after (.portSend 9 95 3 0x80000000 1) (sends.setPart 3 { inbox := List.replicate 8 ⟨0, []⟩ })).map
        (fun t => (t.part 95).regs.head?) = some (some (-5)) := by decide +kernel

theorem test_port_recv :
    let s := inWindow { inbox := [⟨4, [7, 8]⟩] }
    (after (.portRecv 9 95 0x80000000 2) s).map (fun t => ((t.part 95).regs, t.memByte 95 0x80000001, (t.part 95).inbox.length)) =
      some ([0, 2, 4, 0], 8, 0) ∧
    (after (.portRecv 9 95 0x80000000 1) s).map (fun t => (t.part 95).regs.head?) = some (some (-1)) ∧
    (after (.portRecv 9 95 0x80000000 2) (inWindow {})).map (fun t => (t.part 95).regs.head?) = some (some (-5)) := by decide +kernel

theorem test_log_and_declare :
    let s := reg (Od.partStateMax 95) 64 (inWindow {})
    (after (.log 9 95 0x800FFFC0) s).map (fun t => (t.part 95).logRing.length) = some 1 ∧
      (after (.log 9 95 0x800FFFC1) s).map (fun t => (t.part 95).regs.head?) = some (some (-1)) ∧
      s.regionOk 95 3 0x80000000 64 = true ∧ s.regionOk 95 3 0x80000000 128 = false ∧ s.regionOk 95 4 0x80000000 0 = false ∧
      s.regionOk 95 3 0x80000000 0 = true := by decide +kernel

theorem test_config_read :
    let s := inWindow {}
    s.entry? 0x1100 0xEE = none ∧ (s.entry? 0x5020 1).map (fun r => decide (r.rd = 0)) = some false ∧
      (s.entry? 0x1000 1).map (fun r => (r.rd, decide ((s.entryBytes 0x1000 1 r).length ≤ 64))) = some (0, true) := by decide +kernel

theorem test_window_opens :
    let s := z.setPart 95 { run := .running, windows := [winAll] }
    (s.part 95).windows[0]? = some winAll ∧ (s.part 95).windows[1]? = none ∧
      bit (winRec winAll).mask (s.workTick % max 1 s.majorFrame) = true ∧ s.cut 1 = false ∧ (s.herd ((winRec winAll).unit / 4)).pending = none ∧
      (after (.windowStart 0 95 0) s).map (fun t => ((t.part 95).window, (t.part 95).runsFrom)) = some (some 0, ofUs 2) := by
  decide +kernel

/-- R226: the first 2 µs of a window are the manager's. -/
theorem test_window_switch :
    let s := inWindow { runsFrom := ofUs 2 }
    (s.arrive 9).now < (s.part 95).runsFrom ∧ (after (.timerSet 9 95 7) s).map (fun t => (t.part 95).timer) = some none ∧
      (after (.timerSet (ofUs 2) 95 7) s).map (fun t => (t.part 95).timer) = some (some 7) := by decide +kernel

theorem test_window_ends :
    let s := inWindow {}
    (after (.windowEnd (2 ^ 30) 95 0) s).map (fun t => ((t.part 95).window, t.reg (Od.partOverruns 95))) = some (none, 1) ∧
      (after (.tickDone 9 95) s).map (fun t => ((t.part 95).done, (t.part 95).window)) = some (true, none) ∧
      s.partPail 95 = none := by decide +kernel

def boundPail : State :=
  (reg (Od.partPail 95) 63 (reg (Od.pailPartition 63) 95 (reg (Od.pailBindKind 63) 1 (reg (Od.pailEnable 63) 1 (inWindow {}))))).setPail 63
    { state := .active }

theorem test_tick_done_commits : boundPail.partPail 95 = some 63 ∧
    (after (.tickDone 9 95) boundPail).map (fun t => (t.pail 63).committed) = some 0xFFFF := by decide +kernel

theorem test_timer :
    let s := inWindow { timer := some 1 }
    (after (.vsTimerInterrupt 1024 95) s).map (fun t => (t.part 95).timerPending) = some true ∧
      (after (.vsTimerInterrupt 1023 95) s).map (fun t => (t.part 95).timerPending) = some false := by decide +kernel

theorem test_partition_stops :
    (after (.partitionException 9 ⟨95, 20⟩) (inWindow {})).map (fun t => ((t.part 95).restartDue, t.reg (Od.partFaults 95))) =
      some (some 3, 1) ∧
    (after (.partitionException 9 ⟨95, 8⟩) (inWindow {})).map (fun t => (t.part 95).restartDue) = some none ∧
    (after (.partitionWatchdogExpiry 9 95) (reg (Od.partWatchdogTicks 95) 4 (inWindow { watchdog := 4 }))).map
      (fun t => (t.part 95).restartDue) = some (some 1) ∧
    (after (.partitionWatchdogExpiry 9 95) (reg (Od.partWatchdogTicks 95) 4 (inWindow { watchdog := 3 }))).map
      (fun t => (t.part 95).restartDue) = some none ∧ z.reg (Od.partWatchdogTicks 0) = 0 := by decide +kernel

theorem test_partition_restarts :
    let s := (reg (Od.partEnable 95) 1 z).setPart 95 { restartDue := some 2 }
    s.on (Od.partEnable 95) = true ∧ (s.part 95).unplaced = false ∧ s.reg (Od.partMemory 95) < 2 ^ 32 ∧
      (after (.partitionRestart 9 95) s).map (fun t => ((t.part 95).run, (t.part 95).regs.take 3, t.reg (Od.partRestarts 95))) =
        some (.running, [95, 0xFF, 2], 1) := by decide +kernel

/-! ### Pails (PailResetAndFreeze to HostPortWrites) -/

def pail63 (x : Pail) : State := (reg (Od.pailQueuePairs 63) 4 z).setPail 63 x

theorem test_pail_reset :
    (after (.pailReset 9 63) (pail63 { state := .frozen, epoch := 255 })).map (fun t => ((t.pail 63).state, (t.pail 63).epoch)) =
      some (.resetting, 0) ∧
    (after (.pailReset 9 63) z).map (fun t => (t.pail 63).state) = some .disabled ∧
    (after (.pailResetComplete 9 63) (pail63 { state := .resetting, resetCount := 255 })).map
      (fun t => ((t.pail 63).state, (t.pail 63).resetCount)) = some (.active, 0) := by decide +kernel

theorem test_pail_freeze :
    (after (.freeze 9 63) (pail63 { state := .active })).map (fun t => (t.pail 63).freeze) = some true ∧
      (after (.pailFrozen 9 63) (pail63 { state := .active, freeze := true })).map (fun t => (t.pail 63).state) = some .frozen ∧
      (after (.freezeRelease 9 63) (pail63 { state := .frozen })).map (fun t => (t.pail 63).state) = some .active := by decide +kernel

/-- A reset asked for in the cycle in which the one before completes is done after it (R257). -/
theorem test_pail_reset_again :
    let s : State := { pail63 { state := .resetting, epoch := 4 } with pending := [.pailResetComplete 9 63] }
    (s.arrive 9).completesNow 63 = true ∧ (after (.pailReset 9 63) s).map (fun t => (t.pail 63).again) = some true ∧
      (after (.pailResetComplete 9 63) (pail63 { state := .resetting, epoch := 4, again := true })).map
        (fun t => ((t.pail 63).state, (t.pail 63).epoch)) = some (.resetting, 5) := by decide +kernel

theorem test_state_record :
    (after (.stateRecordWrite 9 63 []) (pail63 { state := .active })).map (·.out) = some [.status 7 []] ∧
      (after (.stateRecordWrite 9 63 []) (pail63 { state := .frozen })).map (·.out) = some [.status 3 []] := by decide +kernel

/-- A record of version 1 of a pail with one queue of 16 and 16 entries, with the check sum of its first 252 octets. -/
def record : List Byte :=
  let r : List Byte := 1 :: List.replicate 31 0 ++ [4, 4] ++ List.replicate 218 0
  r ++ beBytes 4 (crc32 r)

def frozen63 : State := (reg (Od.pailQueuePairs 63) 1 z).setPail 63 { state := .frozen }

theorem test_state_record_taken : record.length = 256 ∧ beAt record 0 1 = 1 ∧ beAt record 252 4 = crc32 (record.take 252) ∧
    sameCounts record (frozen63.reg (Od.pailQueuePairs 63)) = true ∧ sameCounts record 2 = false ∧ sameCounts record 0 = false := by
  decide +kernel

/-- A queue of a kind that runs, with one descriptor waiting and rings of 16 entries at 0 and 0x1000. -/
def runQueue (kind : Nat) : Queue := { ctrl := 1 + 2 * kind + 4 * 16 + 4 * 256, sqTail := 1, cqBase := 0x1000 }

def queues63 (kind : Nat) : State := pail63 { state := .active, queues := [(0, runQueue kind)] }

theorem test_doorbells :
    let s := queues63 0
    bit (runQueue 0).ctrl 0 = true ∧ 0 < s.reg (Od.pailQueuePairs 63) ∧
      (after (.txDbWrite 9 63 0 17) s).map (fun t => (((t.pail 63).queue 0).error, ((t.pail 63).queue 0).enabled)) = some (1, false) ∧
      (after (.txDbWrite 9 63 0 16) s).map (fun t => ((t.pail 63).queue 0).sqTail) = some 16 ∧
      (after (.rxDbWrite 9 63 0 5) s).map (fun t => ((t.pail 63).queue 0).cqHead) = some 5 ∧
      (after (.qCtrlWrite 9 63 0 0) s).map (fun t => ((t.pail 63).queue 0).ctrl) = some (runQueue 0).ctrl := by decide +kernel

theorem test_queue_control :
    (after (.qCtrlWrite 9 63 3 (1 + 4 * 16 + 12 * 256)) (pail63 { state := .active })).map
      (fun t => (((t.pail 63).queue 3).enabled, ((t.pail 63).queue 3).cqSize)) = some (true, 4096) ∧
    (after (.qCtrlWrite 9 63 3 (1 + 2 + 4 * 16 + 4 * 256)) (reg (Od.pailRxQueue 63) 0xFF (pail63 { state := .active }))).map
      (fun t => ((t.pail 63).queue 3).enabled) = some false := by decide +kernel

def rxQueue : Queue := { runQueue 1 with buffers := [(0x8000, 2048, 0)] }

/-- The same queue with the 32 octets of a descriptor at address 0 (R242). -/
def descs63 (kind opcode flags length addr tick : Nat) : State :=
  let s := queues63 kind
  s.storeBytes (s.pailOwner 63) 0
    (leBytes 1 opcode ++ leBytes 1 flags ++ leBytes 2 5 ++ leBytes 4 length ++ leBytes 8 addr ++ leBytes 8 tick ++ leBytes 8 0)

theorem test_descriptor :
    (descs63 0 1 8 3 0x8000 4800).descAt 63 0 = ⟨0, 1, 8, 5, 3, 0x8000, 4800, 0, 0, 0⟩ := by decide +kernel

theorem test_fetch :
    let s := descs63 0 1 0 1 0x8000 4800
    s.mayFetch 63 0 = true ∧ (pail63 {}).mayFetch 63 0 = false ∧ s.pailReach 63 0 32 = true ∧ s.pailReach 63 (2 ^ 64 - 31) 32 = false ∧
      (after (.txFrame 9 63 0 true) s).map (fun t => (((t.pail 63).queue 0).error, ((t.pail 63).queue 0).sqHead)) = some (0, 0) ∧
      (after (.badOpcode 9 63 0) s).map (fun t => ((t.pail 63).queue 0).error) = some 0 ∧
      (after (.txFrame 9 63 0 true) (descs63 0 0x11 0 1 0 0)).map (fun t => ((t.pail 63).queue 0).error) = some 2 ∧
      (after (.badOpcode 9 63 0) (descs63 0 0x77 0 1 0 0)).map (fun t => ((t.pail 63).queue 0).error) = some 2 := by decide +kernel

/-- A ring that ends past the top of the address space cannot be reached. -/
theorem test_fetch_fault :
    let s := pail63 { state := .active, queues := [(0, { runQueue 0 with sqBase := 2 ^ 64 - 31 })] }
    s.mayFetch 63 0 = true ∧ (after (.badOpcode 9 63 0) s).map (fun t => ((t.pail 63).queue 0).error) = some 3 := by decide +kernel

def held4800 : DataPath :=
  { images := [(0, ⟨4800, 2 ^ 36, 4800, 2, 0, 0, 0, 0, 0, 0, [], []⟩)], lastReleased := some 4800, lastClosed := some 4800
    lastPhasor := some 4800 }

theorem test_copies :
    let s : State := { descs63 0 1 0 1 0x8004 4800 with dp := held4800 }
    (s.imageOf 4800).isSome = true ∧ s.imageOf 4801 = none ∧ s.phasorsOf 4800 = true ∧ s.phasorsOf 4864 = false ∧
      s.pailReach 63 0x1000 32 = true ∧ s.pailReach 63 0x8000 8 = true ∧ s.pailReach 63 (2 ^ 64 - 4) 8 = false ∧
      (after (.imageCopy 9 63 0) s).map (fun t => (t.memByte 128 0x8004, ((t.pail 63).queue 0).cqTail)) = some (0, 1) ∧
      (after (.imageCopy 9 63 0) { descs63 0 1 0 1 0x8000 4800 with dp := held4800 }).map (fun t => t.memByte 128 0x8006) =
        some 1 := by decide +kernel

/-- R171: the slot is written for a later image in the same cycle. -/
theorem test_copy_overtaken :
    let s : State := { descs63 0 1 0 1 0x8000 4800 with dp := held4800, pending := [.alignmentWindowClose 9 4864, .phasorRelease 9 4864] }
    (s.arrive 9).overtaken 4800 = true ∧ (s.arrive 9).phasorsOvertaken 4800 = true ∧ s.imageOf 4800 ≠ none ∧
      (after (.imageCopy 9 63 0) s).map (fun t => (t.memByte 128 0x8006, ((t.pail 63).queue 0).cqTail)) = some (0, 1) := by decide +kernel

theorem test_rx_buffer :
    (descs63 1 0x10 0 2048 0x8000 0).mayFetch 63 0 = true ∧
      (after (.rxBuffer 9 63 0) (descs63 1 0x10 0 2048 0x8000 0)).map (fun t => ((t.pail 63).queue 0).buffers.map (·.1)) = some [0x8000] ∧
      (after (.rxBuffer 9 63 0) (descs63 1 0x10 0 2047 0x8000 0)).map (fun t => ((t.pail 63).queue 0).cqTail) = some 1 := by decide +kernel

theorem test_tx_frame :
    let s := descs63 2 0x11 0 59 0x8000 0
    s.mayFetch 63 0 = true ∧ field (runQueue 2).ctrl 1 3 = 2 ∧ s.pailReach 63 0x8000 60 = true ∧
      (after (.txFrame 9 63 0 true) s).map (fun t => (((t.pail 63).queue 0).sqHead, ((t.pail 63).queue 0).cqTail)) = some (1, 1) := by
  decide +kernel

/-- R254: a host that does not answer the read of the frame; a partition's memory always answers. -/
theorem test_reads :
    let s := reg (Od.pailBindKind 63) 2 (descs63 2 0x11 0 60 0x8000 0)
    s.pailReads 63 0x8000 60 true = true ∧ s.pailReads 63 0x8000 60 false = false ∧
      (after (.txFrame 9 63 0 false) s).map (fun t => ((t.pail 63).queue 0).cqTail) = some 1 := by decide +kernel

theorem test_rx_completion :
    let w : Switch := { localQs := [(9, [⟨frameTo 5 0x0800, 0, 64, 7, false, true, 1⟩])] }
    let s : State := { reg (Od.pailRxQueue 63) 9 (pail63 { state := .active, queues := [(0, rxQueue)] }) with sw := w }
    (List.range 4).find? (fun q => bit ((s.pail 63).queue q).ctrl 0 && decide (field ((s.pail 63).queue q).ctrl 1 3 = 1)) = some 0 ∧
      ((s.pail 63).queue 0).cqFull = false ∧ s.reg (Od.pailRxQueue 63) = 9 ∧ z.reg (Od.pailRxQueue 63) = 0xFF := by decide +kernel

theorem test_tx_completion :
    let e : PendingTx := ⟨0, 5, 2, 64, 7, 0, true⟩
    let s := pail63 { state := .active, queues := [(0, runQueue 2)], pendingTx := [e] }
    (s.txOutcome e).isSome = true ∧ ((s.pail 63).queue 0).cqFull = false ∧
      (after (.txTimestampCompletion 9 63) s).map (fun t => (t.pail 63).pendingTx) = some [] := by decide +kernel

/-- Context 0 of pail 63 is key slot 7, whose record admits the pail's seal, open and MAC operations. -/
def crypto63 : State := reg (Od.pailCryptoSlots 63) (7 * 2 ^ 112) (queues63 0)
/-- A CRYPTO descriptor for the parameter block at 0x8000 (R243). -/
def crypto (op len aad : Nat) (s : State) : State :=
  s.storeBytes (s.pailOwner 63) 0x8000
    (leBytes 4 op ++ leBytes 4 len ++ leBytes 8 0x9000 ++ leBytes 8 0xA000 ++ leBytes 8 0xB000 ++ leBytes 4 aad ++ leBytes 28 0)
def cryptoed (op len aad : Nat) : State :=
  { crypto op len aad (descs63 0 0x20 0 0 0x8000 0) with regs := crypto63.regs }

theorem test_crypto :
    let s := cryptoed 1 16 4096
    s.paramsAt 63 (s.descAt 63 0) = ⟨1, 16, 0x9000, 0xA000, 0xB000, 4096, List.replicate 12 0, List.replicate 16 0⟩ ∧
      s.pailCrypto 63 0 = some 7 ∧ (queues63 0).pailCrypto 63 8 = none ∧ s.usable 7 (.pailSeal 63) = .denied ∧
      s.mayFetch 63 0 = true ∧ s.pailReach 63 0x1000 32 = true ∧ s.pailReach 63 0x8000 64 = true ∧
      s.cryptoReach 63 (s.paramsAt 63 (s.descAt 63 0)) 16 = true := by decide +kernel

/-- DENIED, an OP of another command, one that R243 does not list, and data over the limit: one completion, or nothing. -/
theorem test_crypto_refused :
    let tail (s : State) : Option Nat := (after (.cryptoSeal 9 63 0 true) s).map fun t => ((t.pail 63).queue 0).cqTail
    tail (cryptoed 1 16 0) = some 1 ∧ tail (cryptoed 2 16 0) = some 0 ∧ tail (cryptoed 9 16 0) = some 1 ∧
      tail (cryptoed 1 65537 0) = some 1 := by decide +kernel

/-- R372: a key of each algorithm, bound to nothing, that the pail's operation may use. -/
theorem test_crypto_keys :
    let r (alg : Nat) : SlotRec := { parent := 0, rooted := true, valid := true, persist := false, exportable := false, alg := alg, usage := 0x7F
                                     lcMask := 0xF, bindKind := 1, bindId := 63, ownGen := 0xFFFF, parentGen := 1 }
    let s (alg : Nat) : State := crypto63.putSlot 7 (r alg) (List.replicate 32 7)
    (s 1).usable 7 (.pailSeal 63) = .ok ∧ (s 1).usable 7 (.pailOpen 63) = .ok ∧ (s 2).usable 7 (.pailMac 63) = .ok ∧
      (s 2).usable 7 (.pailMacVerify 63) = .ok := by decide +kernel

theorem test_pub_commit :
    let s := pail63 { state := .active, ev := { ctrl := 1 + 8 } }
    bit (s.pail 63).ev.ctrl 0 = true ∧ 2 ≤ (s.pail 63).ev.free ∧
      (after (.pubCommit 9 63 1) s).map (fun t => ((t.pail 63).late, t.reg (Od.pailPubLate 63))) = some (true, 1) ∧
      (after (.pubCommit 9 63 (0x8000 * 2 ^ 16)) s).map (fun t => (t.pail 63).committed) = some 0x8000 ∧
      (s.arrive 9).tickNow = s.workTick ∧ (s.pail 63).ev.lostSince = 0 ∧
      (after (.pubCommit (2 ^ 36) 63 1) s).map (fun t => (t.pail 63).commits) = some [1] := by decide +kernel

theorem test_pail_registers :
    let s := reg (Od.pailDcFreezeEnable 63) 1 (reg (Od.pailHistTriggerEnable 63) 1 (pail63 { state := .active }))
    s.on (Od.pailHistTriggerEnable 63) = true ∧ z.on (Od.pailHistTriggerEnable 63) = false ∧
      (after (.dcFreezeWrite 9 63 6) s).map (fun t => (t.pail 63).dcFreeze) = some 6 ∧
      (after (.evqHeadWrite 9 63 0x1FFFF) s).map (fun t => (t.pail 63).ev.head) = some 0xFFFF ∧
      ((after (.dirtySwap 9 63) s).map fun t => bit (t.pail 63).dirty.ctrl 2) = some true ∧
      (after (.dirtySwap 9 63) (pail63 { state := .active, dirty := { ctrl := 4, next := 8 } })).map (fun t => (t.pail 63).dirty.inUse) =
        some 0 := by decide +kernel

theorem test_host_port :
    let s : State := { z with edp := { mbxReqLen := 24 } }
    z.powered 11 = true ∧ (after (.mbxDoorbell 9 1) s).map (fun t => t.edp.mbxBusy) = some true ∧
      (after (.mbxDoorbell 9 1) { z with edp := { mbxReqLen := 12289 } }).map (fun t => t.edp.mbxBusy) = some false ∧
      (after (.registerWrite 9 1 0x1000 5) z).map (fun t => t.edp.mbxReq) = some [(0, 5)] ∧
      (after (.registerWrite 9 0 (63 * 0x4000 + 0x00C) 1) (pail63 { state := .active })).map (fun t => (t.pail 63).epoch) = some 1 ∧
      (after (.registerWrite 9 0 (63 * 0x4000 + 0x070) 5) (pail63 { state := .active })).map (fun t => (t.pail 63).dirty.span) = some 5 ∧
      (reg (Od.pailBindKind 63) 2 z).reg (Od.pailBindKind 63) = 2 ∧ z.windowReach 63 = true ∧
      (inWindow {}).inRam 95 0x80000000 4 = true ∧
      (after (.registerWrite 9 3 (95 * 2 ^ 64 + 0x80000000) 0x1234) (inWindow {})).map (fun t => t.memByte 95 0x80000001) = some 0x12 ∧
      ({ reg (Od.pailBindKind 63) 2 z with health := { linksFailed := [1] } } : State).windowReach 63 = false := by decide +kernel

/-! ### The churn engine and GOOSE (ChurnCycleCommitsOrSkips to GooseChecksAndIntervals) -/

def cycling (c : Churn) : State := { z with churn := { c with state := .running, evaluating := true } }

theorem test_cycle_commits :
    let s := cycling { evalDone := true, working := { bits := [(0x1000, true)] } }
    s.churnDue = true ∧ z.churnDue = false ∧ s.churn.adopt = none ∧ s.churn.batch = none ∧ inRecords s.churn.inputs = [] := by
  decide +kernel

theorem test_cycle_skips :
    let s := cycling {}
    s.churn.overrunRun + 1 < s.reg Od.churnOverrunLimit ∧ s.churn.evalDone = false ∧ s.churnDue = true := by decide +kernel

theorem test_cycle_stops :
    let s := cycling { overrunRun := z.reg Od.churnOverrunLimit - 1 }
    s.reg Od.churnOverrunLimit ≤ s.churn.overrunRun + 1 := by decide +kernel

theorem test_evaluation_done :
    let s := cycling {}
    (s.arrive 9).now ≤ s.tickAt (s.churn.snapTick + s.churn.cycleTicks) - ofUs 5 ∧
      s.tickAt (s.churn.snapTick + s.churn.cycleTicks) - ofUs 5 < (s.arrive (2 ^ 36)).now ∧
      (after (.churnEvalDone 9) s).map (fun t => t.churn.evalDone) = some true ∧
      (after (.churnEvalDone (2 ^ 36)) s).map (fun t => t.churn.evalDone) = some false := by decide +kernel

theorem test_batch_refused :
    (after (.onlineBatch 9 []) z).map (·.out) = some [.status 7 []] ∧
      (after (.onlineBatch 9 []) (cycling {})).map (·.out) = some [.status 3 []] ∧ (cycling {}).batchPending = false ∧
      ([] : List Byte).length < 8 := by decide +kernel

/-- R292: a batch of one entry that the check admits. -/
def batch1 : List Byte := [1, 0, 0, 0, 0, 0, 0, 0] ++ [1, 0, 0x10, 0, 0, 0, 0, 1]

theorem test_batch_checked : (cycling {}).batchCheck (batch1.take 15) = some 3 ∧
    (after (.onlineBatch 9 batch1) { cycling {} with pair := { enabled := true, role := .follow } }).map (·.out) = some [.status 7 []] := by
  decide +kernel

theorem test_forces :
    let s := reg (Od.force 3) (2 ^ 63 + 5 * 2 ^ 32) z
    bit (s.reg (Od.force 3)) 63 = true ∧ field (s.reg (Od.force 3)) 32 17 = 5 ∧
      field (2 ^ 63 + 6 * 2 ^ 32) 32 17 ≠ 5 ∧ bit (2 ^ 63 + 5 * 2 ^ 32) 63 = true ∧
      (after (.releaseAll 9 2) s).map (·.out) = some [.status 2 []] := by decide +kernel

theorem test_restart :
    (after (.restart 9 1) (reg Od.churnEnable 1 z)).map (fun t => t.churn.startDue) = some true ∧
      (after (.restart 9 2) z).map (·.out) = some [.status 2 []] ∧ z.on Od.churnEnable = false := by decide +kernel

theorem test_gpio :
    let s := reg (Od.gpioConfig 15) (1 * 256) z
    bit (s.reg (Od.gpioConfig 15)) 0 = false ∧ z.powered 11 = true ∧
      ((after (.gpioSample 9 0x8000) s).map fun t => bit t.churn.gpio 15) = some true := by decide +kernel

def gs0 : State := reg (Od.gsIngressMask 0) 1 (reg (Od.gsDstMac 0) 5 (reg (Od.gsEnable 0) 1 z))
def msg : GooseMsg := ⟨0, 5, gs0.reg (Od.gsAppid 0), none, false, none, [], [], 0, 1, 0, 1000, false, false, []⟩

theorem test_goose_matches : gs0.gsMatch msg = some 0 ∧ gs0.powered 3 = true ∧
    bit (gs0.reg (Od.gsIngressMask 0)) 0 = true ∧ msg.members.map (·.type) = gs0.subTypes 0 ∧
    gs0.on (Od.gsSimAccept 0) = false ∧ gs0.on (Od.gsAuthMode 0) = false := by decide +kernel

theorem test_goose_accepted :
    (after (.gooseMessageReceived 9 msg) gs0).map (fun t => ((t.sub 0).stNum, (t.sub 0).lastRx, t.reg (Od.gsFrames 0))) =
      some (1, some 9, 1) := by decide +kernel

theorem test_goose_refused :
    let s := gs0.setSub 0 { stNum := 1, sqNum := 5, ttl := 1000, lastRx := some 0 }
    (s.sub 0).inSequence 9 { msg with sqNum := 5 } = false ∧
      (after (.gooseMessageReceived 9 { msg with sqNum := 5 }) s).map (fun t => t.reg (Od.gsDuplicate 0)) = some 1 ∧
      (after (.gooseMessageReceived 9 { msg with sqNum := 4 }) s).map (fun t => t.reg (Od.gsStale 0)) = some 1 ∧
      (after (.gooseMessageReceived 9 { msg with port := 31 }) s).map (fun t => t.reg (Od.gsWrongPort 0)) = some 1 ∧
      (after (.gooseMessageReceived 9 { msg with sim := true }) s).map (fun t => t.reg (Od.gsTestSimDiscard 0)) = some 1 := by
  decide +kernel

theorem test_publication_steps :
    let s := z.setPub 255 { fresh := false, stNum := 2 ^ 32 - 1, sqNum := 7, ticksLeft := 2 }
    s.pubChanged 255 = false ∧ ((s.pubStep 255).1.ticksLeft, (s.pubStep 255).2) = (1, false) ∧
      ((z.setPub 255 { fresh := false, sqNum := 2 ^ 32 - 1, ticksLeft := 1 }).pubStep 255).1.sqNum = 1 := by decide +kernel

theorem test_publication_changes :
    let s := (reg (Od.gpMemberTypes 0) (3 * 2 ^ 248) z).setPub 0 { fresh := false, cells := [(0, 5)], stNum := 2 ^ 32 - 1 }
    s.pubChanged 0 = true ∧ (s.pubStep 0).1.stNum = 1 := by decide +kernel

/-! ### The closed-loop engine (UnitsComputeHoldOrAbandon, LoopWritesAndReleases) -/

/-- Loop 31 alone in its unit, the engine in use. -/
def loop31 : State := reg (Od.loopGroup 31) 0xFF (reg (Od.loopEnable 31) 1 (reg Od.clEnable 1 z))

theorem test_unit_waits :
    loop31.unitWaits 31 = true ∧ loop31.gensDone = true ∧ z.unitWaits 31 = false ∧ 31 ∈ loop31.membersOf 31 ∧
      loop31.requestedMode 31 = loop31.reg (Od.loopModeRequest 31) % 4 := by decide +kernel

theorem test_unit_holds :
    let s := loop31.setUnit 31 { latch := true, out := 5 }
    (after (.unitComputation 9 31) s).map (fun t => ((t.unitAt 31).out, (t.unitAt 31).latch)) = some (5, true) := by decide +kernel

theorem test_unit_abandoned :
    let s := loop31.setUnit 31 { overrunRun := 2, out := 5 }
    let a := s.loopDeadline
    (s.arrive a).now = s.loopDeadline ∧
      (after (.loopOverrun a 31) s).map (fun t => ((t.unitAt 31).out, (t.unitAt 31).latch, t.reg Od.clOverruns)) = some (5, true, 1) ∧
      (after (.loopOverrun 9 31) s).map (fun t => t.reg Od.clOverruns) = some 0 ∧
      (after (.unitComputation (a + 1) 31) s).map (fun t => (t.unitAt 31).computedAt) = some none := by decide +kernel

/-- R302: units and generators compute in rising order. -/
theorem test_rising_order :
    let s := reg (Od.genEnable 3) 1 (reg (Od.genEnable 31) 1 (reg (Od.loopGroup 4) 0xFF (reg (Od.loopEnable 4) 1 loop31)))
    s.unitWaits 4 = true ∧ (∀ k, k < 4 → s.unitWaits k = false) ∧ s.genWaits 3 = true ∧ s.genWaits 31 = true ∧
      (∀ k, k < 3 → s.genWaits k = false) ∧ (after (.generatorComputation 9 31) s).map (fun t => (t.genAt 31).computedAt) = some none ∧
      (after (.generatorComputation 9 3) s).map (fun t => (t.genAt 3).computedAt) = some (some 0) := by decide +kernel

theorem test_unit_numeric :
    let s := (reg (Od.loopModeRequest 31) 0 (reg (Od.loopMeasScale 31) 0x7FEFFFFFFFFFFFFF
      (reg (Od.loopMeasSource 31) 0x80000000 loop31))).setChurn fun c => { c with forces := [(65536, 4)] }
    s.requestedMode 31 = 0 ∧ 31 ∈ s.membersOf 31 ∧ (s.unitAt 31).latch = false ∧ s.unitWaits 31 = true ∧ s.gensDone = true ∧
      (∀ k ∈ s.membersOf 31, (s.memberIn k).valid = true) ∧ (s.memberIn 31).y = none := by decide +kernel

/-- R308: of 2.0 and 1.0 the lowest wins. -/
theorem test_lowest :
    let m (l : Nat) : MemberLaw := ⟨⟨l, none, 0, 0, true, false⟩, 0, 0, 0, 0, 0⟩
    (lowest [⟨m 1, 0, 0, 0, 0x4000000000000000⟩, ⟨m 2, 0, 0, 0, 0x3FF0000000000000⟩]).map (·.m.i.l) = some 2 := by decide +kernel

theorem test_generator :
    let s := reg (Od.genEnable 31) 1 loop31
    s.genDue 31 = true ∧ s.loopsOn = true ∧ (s.genAt 31).computedAt ≠ some s.workTick ∧ z.genDue 31 = false := by decide +kernel

theorem test_loop_release :
    let s := loop31.setUnit 31 { latch := true, latchedAt := 3, overrunRun := 3 }
    31 ∈ s.heads ∧ (after (.loopRelease 9 31 1) s).map (fun t => ((t.unitAt 31).latch, (t.unitAt 31).overrunRun)) = some (false, 0) ∧
      (after (.loopRelease 3 31 1) s).map (fun t => (t.unitAt 31).latch) = some true ∧
      (after (.loopRelease 9 31 2) s).map (·.out) = some [.status 2 []] ∧ s.groupLoops 7 = [] ∧
      (reg (Od.loopGroup 31) 7 s).groupLoops 7 = [31] := by decide +kernel

theorem test_loop_values :
    (after (.modeRequest 9 31 4) z).map (·.out) = some [.status 3 []] ∧ z.churnGoverns 31 = false ∧
      (after (.modeRequest 9 31 3) z).map (fun t => t.reg (Od.loopModeRequest 31)) = some 3 ∧ z.manualTracks 31 = false ∧
      (after (.manualValue 9 31 0x7FF0000000000000) z).map (·.out) = some [.status 3 []] ∧
      (after (.valueEntryWrite 9 (0x6100 + 31) 6 0) z).map (·.out) = some [.status 3 []] ∧
      (after (.valueEntryWrite 9 (0x6100 + 31) 8 1) z).map (·.out) = some [.status 0 []] ∧
      (after (.manualValue 9 31 5) (inRole .follow)).map (·.out) = some [.status 7 []] := by decide +kernel

theorem test_tuning :
    tuningSub 0x0D = true ∧ tuningSub 0x11 = true ∧ f64Val 0xBFF0000000000000 < 0 ∧ z.tuningCheck 31 0x0D 0x3FF0000000000000 = none ∧
      f64Val (z.reg (Od.loopOutMax 31)) ≤ f64Val 0x7FE0000000000000 ∧
      (after (.tuningWrite 9 31 0x0D 0x3FF0000000000000) loop31).map (fun t => (t.unitAt 31).tuned) = some true := by decide +kernel

/-! ### The station pair (HeartbeatsDigestsAndLanes, LinkFramesActOnce, SwapsAndPailMoves) -/

/-- A module of a pair in a role, which has heard its partner on the link. -/
def paired (r : Role) : State :=
  { z with pair := { enabled := true, role := r, partner := some (heartbeat 2), linkPairId := some (z.reg Od.pairId) } }
def link9 : PairHdr := ⟨false, true, false, none, 9, 0⟩
def station9 : PairHdr := ⟨true, true, false, none, 9, 0⟩
def role7 (at_ arg : Nat) : RoleMsg := ⟨0, 7, at_, arg⟩
/-- A heartbeat of this module's own PAIR_ID. -/
def ownId (slices : Nat) : Heartbeat := { heartbeat 2 with pairId := z.reg Od.pairId, slices := slices }

theorem test_pair_up :
    let s := paired .lead
    s.powered 11 = true ∧ s.paired = true ∧ s.linkUp = true ∧ s.power.withdrawn = false ∧ z.paired = false ∧ s.workTick = 0 ∧
      link9.seq ∉ s.pair.seenSeqs ∧ s.pair.linkPairId = some (s.reg Od.pairId) := by decide +kernel

theorem test_heartbeat_send :
    let s := paired .follow
    s.reg Od.pairHbKeySlot = 0xFF ∧ (after (.heartbeatSend 5) s).map (fun t => (t.pair.seq, t.out.length)) = some (1, 1) ∧
      (reg Od.pairHbPorts 2 (reg (Od.portRole 1) 4 s)).hbPorts = [1] ∧ (reg Od.pairHbKeySlot 7 s).usable 7 .heartbeat = .denied := by
  decide +kernel

theorem test_hb_wait :
    let s : State := { z with pair := { enabled := true } }
    (s.arrive (ofMs (s.reg Od.pairHbWait))).now = ofMs (s.reg Od.pairHbWait) ∧
      (after (.hbWaitExpiry (ofMs (s.reg Od.pairHbWait))) s).map (·.pair.hbWaited) = some true ∧
      (after (.hbWaitExpiry (ofMs (s.reg Od.pairHbWait) - 1)) s).map (·.pair.hbWaited) = some false := by decide +kernel

theorem test_heartbeat_taken :
    let s := paired .lead
    (after (.heartbeat 5 link9 (ownId 8)) s).map (fun t => (t.pair.link.ticks, t.pair.partnerAt, t.pair.plans, t.pair.sideClash)) =
      some ([0], 5, [⟨3, 16, true⟩], false) ∧
      (after (.heartbeat 5 station9 (ownId 0)) s).map (fun t => (t.pair.link.ticks, t.pair.station.ticks)) = some ([], [0]) ∧
      (after (.heartbeat 5 link9 { ownId 0 with pairId := 77 }) s).map (fun t => (t.pair.mismatches, t.pair.partnerAt)) = some (1, 0) ∧
      s.sourceUp 80 = true ∧ ¬ (s.arrive (s.tickAt 1)).now < s.tickAt 1 := by decide +kernel

/-- R332: with a key slot that names nothing usable, a heartbeat of the station network changes nothing of the pair. -/
theorem test_heartbeat_unverified :
    let s := reg Od.pairHbKeySlot 7 (paired .lead)
    s.usable 7 .heartbeat ≠ .ok ∧ (after (.heartbeat 5 station9 (ownId 0)) s).map (·.pair) = some s.pair := by decide +kernel

/-- R28: nothing of the station network reaches the compute die over a failed link. -/
theorem test_heartbeat_cut :
    let s : State := { paired .lead with health := { linksFailed := [0] } }
    s.cut 0 = true ∧ (paired .lead).cut 0 = false ∧ (after (.heartbeat 5 station9 (ownId 0)) s).map (·.pair) = some s.pair := by
  decide +kernel

theorem test_digest_times :
    let s := paired .lead
    link9.tick = s.workTick ∧ (s.arrive 5).now ≤ (s.arrive 5).lastArrival s.workTick ∧
      (s.arrive (s.tickAt 1)).lastArrival s.workTick < (s.arrive (s.tickAt 1)).now := by decide +kernel

/-- A lead that has the digest of a partner with no valid input and no valid output sees no difference. -/
theorem test_digest_same : (paired .lead).digestDiffers ⟨[], [], false, false⟩ = false := rfl

theorem test_lanes :
    let s := paired .lead
    s.pair.lanesUp.length = 2 ∧ s.laneUp 1 = true ∧ (after (.laneLost 5 1) s).map (fun t => (t.laneUp 0, t.laneUp 1)) = some (true, false) ∧
      (after (.laneLost 9 1) { s with health := { errors := [(unitId 5 1, [3, 4])] } }).map (fun t => (t.pair.lanesRetired, t.health.out)) =
        some ([1], [unitId 5 1]) := by decide +kernel

theorem test_lane_back :
    let s := (paired .lead).setPair fun p => { p with lanesUp := [false, false] }
    s.laneUp 1 = false ∧ 1 ∉ s.pair.lanesRetired ∧ s.linkUp = false ∧ (after (.laneRestored 9 1) s).map (·.linkUp) = some true := by
  decide +kernel

theorem test_relinquish :
    let s := paired .follow
    (after (.relinquish 5 link9 (role7 0 0)) s).map (fun t => (t.pair.relinquished, t.pair.seenOps, t.pair.seenSeqs)) =
      some (true, [7], [9]) ∧ 7 ∉ s.pair.seenOps ∧
      (after (.relinquish 5 link9 (role7 0 0)) (paired .lead)).map (·.pair.relinquished) = some false := by decide +kernel

/-- R352: a follower of 16 clean ticks accepts, one of 15 refuses. -/
theorem test_swap_request :
    let s (n : Nat) := (paired .follow).setPair fun p => { p with followClean := n }
    (after (.swapRequest 5 link9 (role7 40 0)) (s 16)).map (fun t => (t.pair.swap, t.out)) =
        some (some ⟨40, 7, false, none, none, false⟩, [.role 3 0 ⟨0, 7, 40, 0⟩]) ∧
      (after (.swapRequest 5 link9 (role7 40 0)) (s 15)).map (fun t => (t.pair.swap, t.out)) = some (none, [.role 4 0 ⟨0, 7, 40, 0⟩]) := by
  decide +kernel

theorem test_swap_answers :
    let s := (paired .lead).setPair fun p => { p with
      swap := some ⟨40, 7, true, none, none, false⟩, roleOut := [⟨2, ⟨0, 7, 40, 0⟩, 0⟩] }
    (after (.swapAccept 5 link9 (role7 40 0)) s).map (fun t => (t.pair.swap, t.pair.roleOut)) =
        some (some ⟨40, 7, true, some 5, none, false⟩, []) ∧
      (after (.swapRefuse 5 link9 (role7 40 0)) s).map (fun t => (t.pair.swap, t.pair.roleOut)) = some (none, []) ∧
      (after (.swapRefuse 5 link9 { role7 40 0 with opId := 8 }) s).map (·.pair.swap) = some s.pair.swap := by decide +kernel

theorem test_ack :
    let s := (paired .follow).setPair fun p => { p with
      swap := some ⟨40, 7, false, none, none, false⟩, roleOut := [⟨3, ⟨0, 7, 40, 0⟩, 0⟩, ⟨3, ⟨0, 8, 40, 0⟩, 0⟩] }
    (after (.ack 5 link9 (role7 40 0)) s).map (fun t => (t.pair.swap, t.pair.roleOut)) =
      some (some ⟨40, 7, false, none, some 5, false⟩, [⟨3, ⟨0, 8, 40, 0⟩, 0⟩]) := by decide +kernel

theorem test_selftest_and_regions :
    let s := paired .follow
    (after (.selftest 5 link9 (role7 40 3)) s).map (·.pair.plans) = some [⟨3, 40, false⟩] ∧
      (after (.selftest 5 link9 (role7 40 4)) s).map (·.pair.plans) = some [] ∧
      (after (.regions 5 link9 (role7 0 95)) s).map (·.pair.regionsWanted) = some [95] ∧
      (after (.regions 5 link9 (role7 0 96)) s).map (·.pair.regionsWanted) = some [] ∧ (s.part 95).done = false := by decide +kernel

/-- R346: a whole CHANGE section of one octet, for a tick to come. -/
def change1 : StateFrag :=
  ⟨5, true, 3, 0, 17, 0, [0, 0, 0, 0, 0, 0, 0, 9, 0x21, 0, 6, 0, 0, 0, 0, 1, 5]⟩

theorem test_change :
    let s := paired .follow
    s.takesSection 5 3 = true ∧ (paired .lead).takesSection 5 3 = false ∧
      (after (.state 5 link9 change1) s).map (fun t => (t.pair.changesIn, t.out)) =
        some ([⟨3, 9, 0x2100, 6, [5], true⟩], [.role 8 0 ⟨0, 3, 9, 0⟩]) ∧
      (after (.state 5 link9 { change1 with sectionLength := 18 }) s).map (·.pair.changesIn) = some [] := by decide +kernel

theorem test_change_ack :
    let s := (paired .lead).setPair fun p => { p with changes := [⟨7, 9, 0x2100, 6, [5], false⟩, ⟨8, 9, 0x2100, 6, [5], false⟩] }
    (after (.changeAck 5 link9 (role7 9 0)) s).map (fun t => t.pair.changes.map (·.acked)) = some [true, false] := by decide +kernel

theorem test_role_repeat :
    let s := (paired .lead).setPair fun p => { p with roleOut := [⟨2, ⟨0, 7, 40, 0⟩, 7⟩, ⟨1, ⟨0, 8, 0, 0⟩, 8⟩] }
    (after (.roleRepeat 5) s).map (fun t => (t.pair.roleOut, t.out.length)) = some ([⟨2, ⟨0, 7, 40, 0⟩, 8⟩], 1) := by decide +kernel

/-- The preferred lead has followed for REVERT_DELAY. -/
theorem test_revert :
    let s := (reg Od.pairPreferredLead 0 (paired .lead)).setPair fun p => { p with partner := some { heartbeat 2 with flags := 1 } }
    let d := s.reg Od.pairRevertDelay * second
    (s.arrive d).revertDue = true ∧ s.pair.swap = none ∧
      (after (.revertDelayExpiry d) s).map (fun t => (t.pair.swap.isSome, t.pair.roleOut.length)) = some (true, 1) := by decide +kernel

theorem test_swap_interval :
    let s := reg Od.pairSwapInterval 60 (paired .lead)
    (after (.swapIntervalExpiry (60 * second)) s).map (·.pair.swap.isSome) = some true ∧
      (after (.swapIntervalExpiry (60 * second - 1)) s).map (·.pair.swap.isSome) = some false := by decide +kernel

theorem test_swap_now :
    (after (.swapNow 5 1) (paired .lead)).map (fun t => t.pair.swap) = some (some ⟨16, 0, true, none, none, false⟩) ∧
      (after (.swapNow 5 2) (paired .lead)).map (·.out) = some [.status 2 []] ∧
      (after (.swapNow 5 1) (paired .follow)).map (·.out) = some [.status 0 []] := by decide +kernel

theorem test_pail_move :
    let s := (paired .follow).setPail 63 { state := .frozen }
    (s.pail (field 0x3F 0 6)).state = .frozen ∧ s.pair.transferOut = none ∧ (s.stateRecord 63).length = 256 ∧
      (after (.pailMove 5 0x3E) s).map (·.out) = some [.status 7 []] := by decide +kernel

def moving : State := (paired .lead).setPair fun p => { p with transferOut := some ⟨0x103, 6, [1, 2, 3, 4, 5, 6], 2, 0, 15⟩ }
def migrate (offset total : Nat) (data : List Byte) : MigrateMsg := ⟨1, 0x103, offset, total, data⟩

theorem test_resend :
    (after (.migrateResend (ofUs 200 - 1)) moving).map (·.pair.transferOut) = some moving.pair.transferOut ∧
      (after (.migrateResend (ofUs 200)) moving).map (fun t => (t.pair.transferOut.map (·.resends), t.out)) =
        some (some 16, [.migrate 1 (migrate 2 6 [3, 4, 5, 6])]) ∧
      (after (.migrateResend (ofUs 200)) (moving.setPair fun p => { p with
        transferOut := p.transferOut.map fun x => { x with resends := 16 } })).map (·.pair.transferOut) = some none := by decide +kernel

theorem test_migrate_answers :
    (after (.migrateAck 5 link9 (migrate 4 6 [])) moving).map (fun t => t.pair.transferOut.map fun x => (x.acked, x.resends)) =
        some (some (4, 0)) ∧
      (after (.migrateAck 5 link9 (migrate 6 6 [])) moving).map (·.pair.transferOut) = some none ∧
      (after (.migrateAck 5 link9 (migrate 2 6 [])) moving).map (·.pair.transferOut) = some moving.pair.transferOut ∧
      (after (.migrateAbort 5 link9 (migrate 0 6 [])) moving).map (·.pair.transferOut) = some none := by decide +kernel

theorem test_migrate_data :
    let s := paired .follow
    (after (.migrateData 5 link9 (migrate 0 6 [1, 2])) s).map (fun t => (t.pair.transferIn.map (·.data), t.out)) =
        some (some [1, 2], [.migrate 2 (migrate 2 6 [])]) ∧
      (after (.migrateData 5 link9 (migrate 2 6 [3, 4])) (s.setPair fun p => { p with
        transferIn := some ⟨0x103, 6, [1, 2], 0, 0, 0⟩ })).map (fun t => t.pair.transferIn.map (·.data)) = some (some [1, 2, 3, 4]) ∧
      (after (.migrateData 5 link9 (migrate 0 2 [1, 2])) s).map (fun t => (t.pair.transferIn, t.out)) =
        some (none, [.migrate 3 (migrate 0 2 [])]) := by decide +kernel

/-- R425: a module in SYNCING that has not followed since its start answers no SWAP_REQUEST. -/
theorem test_starting_says_nothing :
    (after (.swapRequest 5 link9 (role7 40 0)) (paired .syncing)).map (·.out) = some [] ∧ (paired .syncing).sendsRole 7 = true ∧
      (paired .syncing).sendsRole 8 = true ∧ ((paired .syncing).setPair fun p => { p with settled := true }).sendsRole 4 = true := by
  decide +kernel

/-! ### Keys, life-cycle, tamper (KeyCommandsAndTheJournal, LifeCycleAndTamper) -/

/-- An opened session 5 of a role whose key is in a slot. -/
def session (role slot : Nat) : Session :=
  { transport := .udp, role := role, slot := slot, opened := true, createdAt := 0, lastAt := 0, highest := 0, lastReply := none
    keys := [], write := none, reads := none, mask := 0, evSent := [], evHeld := [], evSeq := 0 }
def officer : State := z.setSession 5 (session 3 0)
/-- An AES-GMAC-256 record to SIGN and VERIFY, in SHIPPED, bound to nothing; ATTR of the same. -/
def gmacAttr (persist : Nat) : Nat := 0x2604000 + persist * 2 ^ 10 + 2 ^ 8
def cmd (slot persist : Nat) (key : List Byte) : KeyCmd := ⟨slot, 0, true, gmacAttr persist, 0, [], [], key⟩
def key32 : List Byte := List.replicate 32 7
def gmacRecord (persist : Bool) : SlotRec :=
  { parent := 0, rooted := true, valid := true, persist := persist, exportable := true, alg := 4, usage := 0x60, lcMask := 2, bindKind := 0
    bindId := 0, ownGen := 0xFFFF, parentGen := 1 }
/-- A wrapping key in slot 254 and an exportable key in slot 255. -/
def stored (persist : Bool) : State :=
  let wrap : SlotRec := { gmacRecord false with alg := 1, usage := 0x80 }
  ((officer.putSlot 254 wrap key32).putSlot 255 (gmacRecord persist) key32)

theorem test_key_sessions :
    (after (.load 9 5 (cmd 3 0 key32)) z).map (·.out) = some [.status stNoSession []] ∧
      (after (.load 9 5 (cmd 3 0 key32)) (z.setSession 5 (session 2 0))).map (·.out) = some [.status stDenied []] ∧
      (after (.load 9 5 (cmd 3 0 key32)) (z.setSession 5 { session 3 0 with opened := false })).map (·.out) =
        some [.status stNoSession []] ∧
      (after (.load 9 5 (cmd 1 0 key32)) officer).map (·.out) = some [.status stInvalidValue []] ∧
      (after (.bump 9 5 (cmd 2 0 [])) officer).map (·.out) = some [.status stInvalidValue []] := by decide +kernel

theorem test_key_roles : (∀ op ∈ [KeyOp.derive, .load, .generate, .destroy, .bump, .export_, .import_],
    officer.commandRole op (cmd 255 0 key32) ≤ 3) ∧ officer.powered 2 = true := by decide +kernel

theorem test_key_busy :
    let s := officer.setSec fun x => { x with phase := 1 }
    (after (.load 9 5 (cmd 3 0 key32)) s).map (·.out) = some [.status stBusy []] := by decide +kernel

/-- R375: a LOAD into slots 3 and 255, and one with PERSIST, which waits for the commit record. -/
theorem test_load :
    (after (.load 9 5 (cmd 3 0 key32)) officer).map (fun t => (Tab.find t.sec.cells 3, (t.slot 3).valid, (t.slot 3).ownGen)) =
        some (some key32, true, 1) ∧
      (after (.load 9 5 (cmd 255 1 key32)) officer).map (fun t => (t.sec.cells, t.sec.phase, (t.slot 255).valid)) = some ([], 1, false) ∧
      (officer.filledRecord (cmd 3 0 key32)).alg = 4 := by decide +kernel

theorem test_derive_and_generate :
    let r := officer.filledRecord (cmd 3 0 [])
    r.alg ≠ 6 ∧ r.alg ≠ 5 ∧ officer.fillRefused .derive 3 r (madeLen r.alg 0) (madeLenOk r.alg 0) = false ∧
      officer.fillRefused .generate 3 r (madeLen r.alg 0) (madeLenOk r.alg 0) = false ∧ bit (gmacAttr 1) 10 = true ∧
      bit (gmacAttr 0) 10 = false := by decide +kernel

theorem test_fill_refused : ((stored false).slot 255).valid = true ∧
    (after (.load 9 5 (cmd 255 0 key32)) (stored false)).map (·.out) = some [.status stInvalidValue []] := by decide +kernel

theorem test_destroy :
    (after (.destroy 9 5 (cmd 255 0 [])) (stored false)).map (fun t => ((t.slot 255).valid, Tab.find t.sec.cells 255, (t.slot 255).ownGen)) =
        some (false, none, 1) ∧
      (after (.destroy 9 5 (cmd 255 0 [])) (stored true)).map (fun t => ((t.slot 255).valid, t.sec.phase)) = some (true, 1) := by
  decide +kernel

theorem test_bump :
    (stored false).keyHolds 255 = true ∧
      (after (.bump 9 5 (cmd 255 0 [])) (stored false)).map (fun t => ((t.slot 255).ownGen, Tab.find t.sec.cells 255)) = some (1, some key32) ∧
      ((stored false).setSec fun x => { x with brokenCells := [255] }).keyHolds 255 = false := by decide +kernel

theorem test_export_import :
    let s := stored false
    s.usable 254 .wrap = .ok ∧ (s.slot 255).exportable = true ∧ s.usable 255 .wrap ≠ .ok ∧ s.importBlob 254 [] = none := by decide +kernel

/-- A blob whose tag is the one of its octets is imported. -/
theorem test_import_verifies (h : List Byte) (n : h.length = 24) (e : beAt h 20 2 = 0) :
    ((stored false).importBlob 254 (h ++ gcmTag ((stored false).slotKey 254) (slice h 8 12) h [])).isSome = true ∨
      (gcmTag ((stored false).slotKey 254) (slice h 8 12) h []).length ≠ 16 := by
  by_cases g : (gcmTag ((stored false).slotKey 254) (slice h 8 12) h []).length = 16
  · left
    have a : ∀ t : List Byte, (h ++ t).take 24 = h := fun t => by rw [← n, List.take_left]
    have b : ∀ t : List Byte, (h ++ t).drop 24 = t := fun t => by rw [← n, List.drop_left]
    have c (o k : Nat) (hk : o + k ≤ 24) (t : List Byte) : slice (h ++ t) o k = slice h o k := by
      unfold slice
      rw [List.drop_append_of_le_length (by omega), List.take_append_of_le_length (by rw [List.length_drop]; omega)]
    have d (t : List Byte) : beAt (h ++ t) 20 2 = 0 := by
      rw [← e]; unfold beAt; rw [c 20 2 (by omega)]
    unfold State.importBlob
    simp only [a, d, c 8 12 (by omega), b, Nat.add_zero]
    have k (t : List Byte) : slice (h ++ t) 24 0 = [] := by simp [slice]
    simp [k, n, g]
  · exact Or.inr g

theorem test_journal :
    let s := officer.setSec fun x => { x with update := some (.slot 255 (gmacRecord true).word key32), phase := 1 }
    (after (.journalCommit 9) s).map (fun t => (t.sec.update.isNone, t.sec.phase, t.sec.seq, (t.slot 255).valid)) =
        some (true, 0, 1, true) ∧ (after (.journalCommit 9) s).map (fun t => Tab.find t.sec.cells 255) = some (some key32) ∧
      (after (.journalCommit 9) officer).map (·.sec) = some officer.sec := by
  refine ⟨by decide +kernel, by decide +kernel, rfl⟩

def lcReq (alg : Nat) (revoke : Bool) : LcReq := ⟨alg, revoke, [], [], key32, none⟩
def inLife (lc : LifeCycle) : State := officer.setSec fun x => { x with lc := lc, ownerSeed := some key32 }

theorem test_transitions :
    officer.sec.lc = .shipped ∧ officer.outEnabled = false ∧ officer.sec.secLost = false ∧
      (after (.lcToOwned 9 5 (lcReq 6 false)) officer).map (·.sec.update) = some (some (.transition .owned (lcReq 6 false) false)) ∧
      (after (.lcToOwned 9 5 (lcReq 7 false)) officer).map (·.out) = some [.status stInvalidValue []] ∧
      (after (.lcToOwned 9 5 (lcReq 0 false)) (z.setSession 5 (session 3 2))).map (·.out) = some [.status stDenied []] ∧
      (after (.lcReown 9 5 (lcReq 0 false)) officer).map (·.out) = some [.status stInvalidValue []] := by decide +kernel

theorem test_transitions_of_owned :
    (after (.lcToShipped 9 5 (lcReq 0 false)) (inLife .owned)).map (·.sec.phase) = some 1 ∧
      (after (.lcToReturn 9 5 (lcReq 0 false)) (inLife .owned)).map (·.sec.phase) = some 1 ∧
      (after (.lcDecommission 9 5 (lcReq 0 false)) (inLife .owned)).map (·.sec.phase) = some 1 ∧
      (after (.lcReown 9 5 (lcReq 5 false)) ((inLife .owned).setSec fun x => { x with reprovision := true })).map (·.sec.phase) = some 1 ∧
      (after (.lcReown 9 5 (lcReq 5 false)) (inLife .owned)).map (·.out) = some [.status stInvalidValue []] ∧
      (after (.lcDecommission 9 5 (lcReq 0 false)) (inLife .decommissioned)).map (·.out) = some [.status stInvalidValue []] := by
  decide +kernel

theorem test_transition_busy : State.outEnabled { z.setSession 5 (session 4 0) with pair := { enabled := true, role := .lead } } = true ∧
    (after (.lcRevoke 9 5 (lcReq 0 true)) { z.setSession 5 (session 4 0) with pair := { enabled := true, role := .lead } }).map (·.out) =
      some [.status stBusy []] := by decide +kernel

/-- R367: a token of this module's serial number, state, nonce and flags is admitted where its signature verifies. -/
theorem test_token (sig : List Byte) :
    let k : Token := ⟨Config.serial.toNat, 2, 2, 1, beBytes 32 (officer.reg Od.lcNonce), sig⟩
    Config.slhVerify 5 (Config.vendorKey (officer.vendorKeyIndex)) (tokenBody k) sig = true → officer.tokenOk k 2 true = true := by
  intro k h
  have l : lcCode officer.sec.lc = 2 := by decide +kernel
  have v : officer.vendorKeyIndex = 0 := by decide +kernel
  simp only [v] at h
  simp [State.tokenOk, l, v, k, h, b2n]

/-- A token with the serial number of another module is refused. -/
theorem test_token_refused :
    officer.tokenOk ⟨Config.serial.toNat + 1, 2, 2, 1, [], []⟩ 2 true = false ∧ lcCode .shipped = 2 := by
  refine ⟨?_, rfl⟩
  simp [State.tokenOk]

theorem test_commit_of_transitions :
    let s (to_ from_ : LifeCycle) (rv : Bool) := (inLife from_).setSec fun x =>
      { x with update := some (.transition to_ (lcReq 0 rv) rv), phase := 1 }
    (after (.journalCommit 9) (s .shipped .owned false)).map (fun t => (t.sec.lc, t.sec.ownerSeed, t.power.nextCause)) =
        some (.shipped, none, 4) ∧
      (after (.journalCommit 9) (s .shipped .shipped true)).map (fun t => (t.sec.lc, t.sec.vendorRevoked, t.power.heldReset)) =
        some (.shipped, true, true) ∧
      (after (.journalCommit 9) (s .decommissioned .owned false)).map (fun t => (t.sec.lc, t.sec.decom)) = some (.decommissioned, true) := by
  decide +kernel

/-- R392: the lid fires always, a loop only where it is enabled. -/
theorem test_tamper :
    0x01 &&& z.tamperEnabled = 1 ∧ 0x06 &&& z.tamperEnabled = z.reg Od.tamperEnable &&& 6 ∧
      (after (.tamperAlarm 9 1) (stored true)).map (fun t => (t.sec.cells, t.sec.firing, t.sec.tamperLog.length, t.power.nextCause)) =
        some ([], 1, 1, 3) ∧
      (after (.tamperAlarm 9 0x80) (stored true)).map (·.sec.tamperKey) = some (stored true).sec.tamperKey := by decide +kernel

theorem test_tamper_battery :
    let s : State := { z with power := { z.power with state := .battery } }
    s.powered 0 = true ∧ ∃ t, exec (.tamperAlarm 9 1) s = .next t ∧ t.power = s.power := ⟨by decide +kernel, _, rfl, rfl⟩

theorem test_tamper_loop :
    let s := reg Od.tamperEnable 6 (z.setSec fun x => { x with loopFaults := [0, 1] })
    bit 4 2 = true ∧ bit 2 1 = true ∧ bit (s.reg Od.tamperEnable) 2 = true ∧ 1 ≤ s.sec.loopFaults.getD 1 0 ∧
      (reg Od.tamperEnable 0 z).reg Od.tamperEnable = 0 := by decide +kernel

theorem test_tamper_clear :
    let s : State := (stored true).setSec fun x => { x with tamperHold := true, firing := 0, tamperKey := false }
    let held : State := { s with power := { s.power with state := .tamperHold } }
    (after (.tamperClear 9 5 1) s).map (·.out) = some [.status stInvalidValue []] ∧
      (after (.tamperClear 9 5 2) held).map (·.out) = some [.status stTypeMismatch []] ∧
      (after (.tamperClear 9 5 1) (held.setSec fun x => { x with firing := 1 })).map (·.out) = some [.status stBusy []] ∧
      held.sec.firing = 0 ∧ held.power.state = .tamperHold ∧ (held.slot 255).persist = true ∧
      (after (.tamperClear 9 5 0) held).map (·.out) = some [.status 0 []] := by decide +kernel

/-- R332: a heartbeat key that can be used. -/
theorem test_heartbeat_key : (stored false).usable 255 .heartbeat = .ok := by decide +kernel

/-! ### Faults and self-tests (UnitsRetireAndSparesTake, MemoryErrorsAndDieLinks) -/

def herd11 (x : Herd) : State := z.setHerd 11 x
def spent : State := { herd11 { units := [0, 4, 2, 3], spare := none } with health := { herds := [(11, { units := [0, 4, 2, 3], spare := none })] } }

theorem test_units_powered : ∀ d, 1 ≤ d → d ≤ 11 → z.powered d = true := by
  intro d _ h
  have : ∀ e < 12, z.powered e = true := by decide +kernel
  exact this d (by omega)

/-- R399: the third mismatch of unit 59 in 10 s. -/
theorem test_mismatch :
    let s : State := { z with health := { errors := [(unitId 1 56, [4, 5])] } }
    (s.herd 11).runs 1 = some 1 ∧ (s.herd 11).runs 4 = none ∧
      (after (.lockstepMismatch (10 * second) 56) s).map (fun t => (t.herd 11).pending) = some (some 1) ∧
      (after (.lockstepMismatch (10 * second + 6) 56) s).map (fun t => (t.herd 11).pending) = some none := by decide +kernel

/-- R21, R23: the third mismatch of the unit on logical unit 45, on which partition 95 works, without and with a spare in the herd. -/
theorem test_mismatch_loses :
    let w : Partition := { run := .running, windows := [winAll + 45 * 2 ^ 64], window := some (winAll + 45 * 2 ^ 64) }
    let s : State := { z.setPart 95 w with health := { errors := [(unitId 1 56, [4, 5])] } }
    let d := s.setHerd 11 { units := [0, 1, 2, 4], spare := none }
    s.partsOn 45 = [95] ∧ s.worksOn 95 45 = true ∧
      (after (.lockstepMismatch 6 56) s).map (fun t => ((t.part 95).window, (t.part 95).suppressedTo, (t.part 95).displaced)) =
        some (none, 1, false) ∧
      (after (.lockstepMismatch 6 56) d).map (fun t => (t.degraded 11, (t.part 95).displaced)) = some (true, true) := by
  decide +kernel

def retiring (x : Herd) : State := herd11 { x with pending := some 1, pendingAt := 0 }

theorem test_takeover :
    (retiring {}).retires 11 = none ∧ ((retiring {}).arrive (z.tickAt 1)).retires 11 = some 1 ∧
      (after (.spareTakeover (z.tickAt 1) 11) (retiring {})).map (fun t => ((t.herd 11).units, (t.herd 11).spare, t.health.out)) =
        some ([0, 4, 2, 3], none, [coreId 11 1]) := by decide +kernel

theorem test_takeover_of_test :
    let s := retiring { units := [0, 1, 2, 4], spare := none, testing := some 3 }
    (s.herd 11).spare = none ∧ s.testSpare 11 = some 3 ∧ s.degraded 11 = false ∧
      ({ s with health := { s.health with retest := [coreId 11 3] } } : State).testSpare 11 = none := by decide +kernel

theorem test_relocate :
    let s := retiring { units := [0, 4, 2, 3], spare := none }
    s.degraded 11 = true ∧ s.degraded 0 = false ∧ (s.herd 11).pending = some 1 ∧
      (after (.partitionRelocate (z.tickAt 1) 11) s).map (fun t => ((t.herd 11).pending, t.health.out)) = some (none, [coreId 11 4]) := by
  decide +kernel

theorem test_region :
    (after (.regionLost 9 3) z).map (·.health.lostRegions) = some [3] ∧
      (after (.regionLost 9 3) { z with health := { lostRegions := [3] } }).map (·.health.lostRegions) = some [3] := by decide +kernel

theorem test_manager :
    let s : State := { z with health := { lostRegions := [0] } }
    s.managerLender = some 3 ∧ (after (.managerMoved 9) s).map (fun t => (t.health.managerHerd, t.health.managerLent)) = some (3, true) ∧
      (after (.managerMoved 9) z).map (·.health.managerHerd) = some 0 := by decide +kernel

theorem test_manager_alone :
    let s : State := { z with health := { lostRegions := [0, 1, 2, 3] } }
    s.managerLender = none ∧ (after (.managerMoved 9) s).map (fun t => (t.health.managerHerd, t.health.managerLent)) = some (3, false) := by
  decide +kernel

theorem test_slot_start :
    (after (.selfTestSlotStart 9 59) z).map (fun t => (t.herd 11)) = some { spare := some 4 } ∧
      (after (.selfTestSlotStart 9 58) z).map (fun t => ((t.herd 11).units, (t.herd 11).testing)) = some ([0, 1, 2, 4], some 3) ∧
      z.testsOn = true ∧ (spent.herd 11).runs 4 = some 1 ∧
      (after (.selfTestSlotStart 9 59) spent).map (fun t => t.reg Od.stDeferred) = some 1 := by decide +kernel

def testing : State := herd11 { units := [0, 1, 2, 4], spare := none, testing := some 3 }

theorem test_test_end :
    testing.underTest (unitId 1 58) = true ∧ testing.underTest (unitId 1 59) = false ∧
      (after (.selfTestEnd 9 (unitId 1 58) ⟨0, 0, true⟩) testing).map (fun t => ((t.herd 11).testing, t.reg Od.stFails)) = some (none, 0) ∧
      z.underTest (unitId 3 3) = false ∧ ({ z with health := { sliceTest := some 3 } } : State).underTest (unitId 3 3) = true := by
  decide +kernel

/-- A manual run with the count and the expected MISR it was given passes; with another MISR it fails. -/
theorem test_manual_end :
    let s := reg Od.manualCount 8 (reg Od.manualExpect 5 { testing with health := { testing.health with manual := some (unitId 1 58) } })
    s.testResult (unitId 1 58) ⟨8, 5, false⟩ = 0 ∧ s.testResult (unitId 1 58) ⟨8, 6, false⟩ = 1 ∧ s.testResult (unitId 1 58) ⟨7, 5, false⟩ = 2 ∧
      unitId 1 58 ∉ s.health.retest ∧ (s.herd 11).runs 3 = none := by decide +kernel

theorem test_slice_start :
    (∀ k < 4, z.fbService k = none ∧ z.sliceOut k = false) ∧ z.paired = false ∧ z.pair.plans = [] ∧
      (after (.sliceSelfTestStart 9 3) z).map (·.pair.plans) = some [⟨3, 16, false⟩] ∧
      (after (.sliceSelfTestStart 9 3) { z with health := { out := [unitId 3 0] } }).map (fun t => t.reg Od.stDeferred) = some 1 := by
  decide +kernel

theorem test_slice_served :
    let s : State := { z with dp := { fb := [(3, [⟨.test, 0, none⟩])] } }
    s.fbService 3 = some ⟨.test, 0, none⟩ ∧ (after (.sliceSelfTestStart 9 3) s).map (·.health.sliceTest) = some (some 3) := by decide +kernel

def vendor : State := { z with sec := { lc := .manufacture } }

theorem test_repair_commands :
    let s : State := { vendor with health := { repairs := [⟨0, 0, 0, 7, 1, 0, 0⟩], retired := [⟨unitId 1 59, 1, 3, 0, 0⟩] } }
    s.testAccess = true ∧ (after (.hardRepair 9 0) s).map (fun t => t.health.repairs.map (·.repair)) = some [2] ∧
      (after (.hardRepair 9 1) s).map (·.out) = some [.status stInvalidValue []] ∧
      (after (.clearRetirement 9 (unitId 1 59)) s).map (·.health.retired) = some [] ∧
      (after (.clearRetirement 9 0) s).map (·.out) = some [.status stInvalidValue []] ∧ z.testAccess = false ∧
      (after (.hardRepair 9 0) z).map (·.out) = some [.status stNoEntry []] := by decide +kernel

theorem test_manual_run :
    let s := reg Od.manualUnit (unitId 1 58) vendor
    s.slotFree 58 = true ∧ s.slotFree 59 = false ∧ (after (.manualRun 9 1) s).map (·.health.manual) = some (some (unitId 1 58)) ∧
      (after (.manualRun 9 2) s).map (·.out) = some [.status stTypeMismatch []] ∧
      (after (.manualRun 9 1) { s with health := { manual := some 5 } }).map (·.out) = some [.status stBusy []] := by decide +kernel

/-- R399 and R415: the fourth corrected error at row 5 of port memory 31, which has two spare rows. -/
theorem test_rows :
    let m := 5 * 256 + 31
    let s (used : Nat) : State := { z with health := { rowErrors := [(rowKey m 5, [1, 2, 3])], spareRows := [(rowBankKey m 5, used)] } }
    memOk m = true ∧ memOk (m + 1) = false ∧ memSpares (memClass m) = 2 ∧
      (after (.eccCorrected (86400 * second) m 5 7) (s 1)).map (fun t => (t.health.spareRows, t.health.repairs.length)) =
        some ([(rowBankKey m 5, 2)], 1) ∧
      (after (.eccCorrected (86400 * second + 4) m 5 7) (s 1)).map (fun t => t.health.repairs) = some [] ∧
      (after (.eccCorrected 9 m 5 7) (s 2)).map (fun t => (t.port 31).retired) = some true := by decide +kernel

theorem test_rows_locked :
    let m := 3 * 256 + 15
    let s : State := { z with health := { rowErrors := [(rowKey m 5, [1, 2, 3])], spareRows := [(rowBankKey m 5, 8)] } }
    memClass m = 3 ∧ (after (.eccCorrected 9 m 5 7) s).map (·.health.lockedRows) = some [rowKey m 5] ∧
      (after (.patrolScrub 9 m 5 2) z).map (fun t => t.reg Od.healthCorrectedErrors) = some 2 ∧
      (after (.patrolScrub 9 (4 * 256) 5 2) z).map (fun t => t.reg Od.healthCorrectedErrors) = some 0 := by decide +kernel

theorem test_memory_lost :
    let s := (z.setPart 95 { run := .running }).setSec fun x => { x with cells := [(255, [1])] }
    (s.part 95).run ≠ .stopped ∧ (s.part 94).run = .stopped ∧
      (after (.doubleBitError 9 0 0 (.partition 95)) s).map (fun t => ((t.part 95).run, (t.part 95).held)) = some (.restarting, true) ∧
      (after (.doubleBitError 9 0 0 (.keyCell 255)) s).map (fun t => (t.sec.brokenCells, t.sec.cells)) = some ([255], [(255, [1])]) ∧
      s.sourceUp 112 = true := by decide +kernel

theorem test_image_lost :
    let im : ImageSlot := ⟨64, 0, 4800, 0, 0, 0, 0, 0, 0, 0, [], []⟩
    let s : State := { z with dp := { images := [(0, im)], phasors := [(8191, ⟨1, 2, 3, 4, 0, 0, 0, 0⟩)] } }
    (∃ y, Tab.find s.dp.images (64 % 64) = some y ∧ y.tick = 64) ∧ (Tab.find s.dp.phasors (0 % 64 * 8192 + 8191)).isSome = true ∧
      s.dp.lastReleased = none ∧ Tab.find s.sw.frames 7 = none := by
  exact ⟨⟨_, rfl, rfl⟩, by decide +kernel, rfl, rfl⟩

theorem test_engine_lost :
    (paired .lead).hasPartner = true ∧ z.hasPartner = false ∧ z.churn.state = .stopped ∧
      (after (.doubleBitError 9 0 0 .churn) (paired .lead)).map (fun t => (t.churn.poisoned, t.pair.relinquishSent)) = some (true, true) ∧
      (after (.doubleBitError 9 0 0 .loops) (paired .follow)).map (fun t => (t.loops.poisoned, t.pair.relinquishSent)) = some (true, false) := by
  decide +kernel

theorem test_links :
    (after (.dieLinkFailed 9 5) z).map (fun t => (t.health.linksFailed, t.sec.secLost, t.power.withdrawn)) = some ([5], true, false) ∧
      (after (.dieLinkFailed 9 3) z).map (fun t => (t.power.withdrawn, t.power.nextCause, t.pins.modOk)) = some (true, 8, false) ∧
      (after (.dieLinkFailed 9 3) { z with health := { linksFailed := [3] } }).map (·.power.withdrawn) = some false := by decide +kernel

/-- R29, R404: without its link to the I/O die the compute die has no pair link, and the module withdraws. -/
theorem test_link_one :
    (after (.dieLinkFailed 9 1) z).map (fun t => (t.cut 1, t.linkUp, t.power.withdrawn)) = some (true, false, true) ∧
      (after (.dieLinkFailed 9 5) z).map (fun t => (t.sec.secLost, t.power.withdrawn)) = some (true, false) := by decide +kernel

/-! ### Power, starts and restarts (PowerStatesAndRails, StartsAndRestarts) -/

def inPower (p : PowerState) : State := { z with power := { z.power with state := p } }
def clean : StartUp := ⟨false, [], false, [], []⟩

theorem test_power_requests :
    (after (.powerRequestRun 9 clean) z).map (·.out) = some [.status 0 []] ∧
      (after (.powerRequestHold 9) (inPower .hold)).map (·.out) = some [.status 0 []] ∧
      (after (.powerRequestOff 9) (inPower .off)).map (·.out) = some [.status 0 []] ∧
      (after (.powerRequestRun 9 clean) (inPower .off)).map (·.out) = some [.status stBusy []] ∧
      (after (.powerRequestOff 9) (inPower .tamperHold)).map (·.out) = some [.status stBusy []] ∧
      (after (.powerRequestHold 9) { z with power := { z.power with bootStopped := true } }).map (·.out) = some [.status stBusy []] := by
  decide +kernel

theorem test_hold_and_off :
    (after (.powerRequestHold 9) z).map (fun t => (t.power.state, t.power.domains, t.pair.role)) = some (.hold, 0x3F, .withdrawn) ∧
      (after (.powerRequestOff 9) officer).map (fun t => (t.power.state, t.power.domains, t.edp.sessions)) = some (.off, 3, []) := by
  decide +kernel

theorem test_hold_to_run :
    (∀ x ∈ runRails, x ∉ (inPower .hold).power.badRails) ∧ (inPower .hold).warm = false ∧
      (after (.powerRequestRun 9 clean) { inPower .hold with power := { (inPower .hold).power with badRails := [4] } }).map (·.out) =
        some [.status stBusy []] := by decide +kernel

theorem test_rails :
    (after (.railOutOfRange 9 7) z).map (fun t => (t.power.heldReset, t.power.nextCause, t.power.badRails)) = some (true, 6, [7]) ∧
      (after (.railOutOfRange 9 3) { z with power := { z.power with domains := 3 } }).map (fun t => (t.power.heldReset, t.power.badRails)) =
        some (false, [3]) ∧
      (after (.railOutOfRange 9 0) { z with power := { z.power with pwrFail := true } }).map (·.power.nextCause) = some 0 := by decide +kernel

theorem test_power_warning :
    let s : State := { z with power := { z.power with pwrFail := true, pwrFailSince := 5 } }
    (after (.pwrFail 9) z).map (fun t => (t.power.pwrFail, t.power.pwrFailSince)) = some (true, 9) ∧
      (after (.pwrFailSustained (5 + ofMs 2)) s).map (fun t => (t.power.heldReset, t.power.nextCause)) = some (true, 7) ∧
      (after (.pwrFailSustained (4 + ofMs 2)) s).map (·.power.heldReset) = some false ∧
      (after (.pwrFailReleased 9) s).map (·.power.pwrFail) = some false ∧ (after (.pwrFail 9) s).map (·.power.pwrFailSince) = some 5 := by
  decide +kernel

theorem test_porst :
    (after (.porst 9 (ofUs 10)) z).map (fun t => (t.power.heldReset, t.power.nextCause)) = some (true, 1) ∧
      (after (.porst 9 (ofUs 1 - 1)) z).map (·.power.heldReset) = some false ∧ ofUs 1 < ofUs 10 ∧
      (after (.porst 9 (ofUs 10)) (inPower .battery)).map (·.power.heldReset) = some false := by decide +kernel

theorem test_vdd_loss :
    (after (.vddAonLoss 9) (reg Od.vbat 2000 (z.setSec fun x => { x with tamperKey := true }))).map (fun t => (t.power.state, t.sec.tamperKey)) =
        some (.battery, true) ∧
      (after (.vddAonLoss 9) (reg Od.vbat 1999 (z.setSec fun x => { x with tamperKey := true }))).map (·.sec.tamperKey) = some false := by
  decide +kernel

theorem test_watchdog :
    let s : State := { z with power := { z.power with step := 8 } }
    (s.arrive (ofMs (s.reg Od.healthSupWatchdog) + 1)).watchdogDue = true ∧ (s.arrive (ofMs (s.reg Od.healthSupWatchdog))).watchdogDue = false ∧
      (after (.supWatchdogKick 9 true) z).map (·.health.kickManager) = some 9 ∧ z.powered 3 = true := by decide +kernel

theorem test_clocks :
    (after (.refclk25mLost 9) z).map (fun t => (t.health.refclkLost, t.power.nextCause)) = some (true, 8) ∧
      (after (.osc10mLost 9) z).map (fun t => (t.time.frozen, t.power.withdrawn)) = some (true, true) ∧
      (after (.osc10mRestored 9) { z with time := { frozen := true } }).map (·.time.frozen) = some false := by decide +kernel

def warmth (t : Int) : Env := ⟨[750, 800, 900, 800, 1100, 800, 800, 1800], [t, 0, 0, 0], 3000, 5⟩

theorem test_environment :
    let s : State := { z with power := { z.power with step := 5, badRails := [0] } }
    (after (.environmentRefresh 9 (warmth 2000)) s).map (fun t => (t.power.state, t.power.badRails, t.reg Od.vbat)) = some (.run, [], 3000) ∧
      (after (.environmentRefresh 9 (warmth 2001)) s).map (·.power.state) = some .hold ∧
      (warmth 2001).temps.getD 0 0 = 2001 ∧ ∀ d < 4, (warmth 2000).temps.getD d 0 ≤ 2000 := by decide +kernel

theorem test_tap :
    (after (.tapInstruction 9 1) vendor).map (·.power.tapRegister) = some 0x1096155B ∧
      (after (.tapInstruction 9 2) z).map (·.power.tapRegister) = some 0 ∧ after (.tapInstruction 9 2) vendor = none := by decide +kernel

theorem test_may_start :
    z.mayStart = true ∧ ({ z with power := { z.power with step := 8 } } : State).mayStart = false ∧ (inPower .battery).mayStart = true := by
  decide +kernel

/-- R386: the factory bank starts; with two empty banks none does. -/
theorem test_boot_bank :
    z.bootBank = some 0 ∧ (z.setSec fun x => { x with banks := [(0, []), (1, [])] }).bootBank = none := by decide +kernel

theorem test_restart_module :
    (after (.restartModule 9 1) z).map (fun t => (t.power.heldReset, t.power.nextCause)) = some (true, 5) ∧
      (after (.restartModule 9 2) z).map (·.out) = some [.status stTypeMismatch []] ∧
      (after (.restartModule 9 0) z).map (·.out) = some [.status 0 []] ∧
      (after (.restartModule 9 1) { z with power := { z.power with bootStopped := true } }).map (·.out) = some [.status stBusy []] := by
  decide +kernel

/-- R485, R488: a transition from HOLD to RUN accepted at 5 may be in progress for 18.5 s. -/
theorem test_rise :
    let s : State := { z with power := { z.power with rising := some 5 } }
    (s.arrive (4 + ofMs 18500)).rises = true ∧ (s.arrive (5 + ofMs 18500)).rises = false ∧ z.rises = false ∧
      ∃ d ∈ railFeeds 0, bit s.power.domains d = true := by
  refine ⟨by decide +kernel, by decide +kernel, by decide +kernel, 6, by decide, by decide⟩

/-- R414 to R416: the first fault of a march takes the first spare row; without a spare a core unit is out. -/
theorem test_march_fault :
    let f : MarchFault := ⟨0x0105, 9, 3, 1⟩
    let s := z.marchFault f
    (s.health.repairs.map fun r => (r.inst, r.row, r.spare, r.repair)) = [(0x0105, 9, 0, 1)] ∧ s.health.out = [] ∧
      ((List.replicate 5 f).foldl (fun t x => t.marchFault x) z).health.out = [unitId 1 5] := by decide +kernel

/-! ### The dictionary protocol (RequestsAreCheckedAndAnsweredOnce to EventsAndTheCommit) -/

/-- A request of session 5 on an entry, with the sequence 1. -/
def req (key : Nat) (payload : List Byte) : Req := ⟨.udp, 1, 0, 5, 1, none, key / 256, key % 256, 0, payload, none, none⟩
/-- The statuses of the replies that a command sends. -/
def statuses (c : Instr) (s : State) : Option (List Nat) :=
  (after c s).map fun t => t.out.filterMap fun o => match o with
    | .reply r => some r.status
    | _ => none

theorem test_request_up : officer.transportUp .udp = true ∧ officer.transportUp .mailbox = false ∧ officer.powered 1 = true ∧
    (officer.session? 5).isSome = true ∧ z.session? 5 = none := by decide +kernel

theorem test_request_refused :
    statuses (.keepalive 9 (req 0 [])) z = some [stNoSession] ∧ statuses (.keepalive 9 { req 0 [] with version := 2 }) officer = some [] ∧
      statuses (.keepalive 9 { req 0 [] with tag := some [] }) officer = some [] ∧
      (after (.keepalive 9 { req 0 [] with tag := some [] }) officer).map (fun t => t.reg Od.mgmtAuthFailures) = some 1 ∧
      statuses (.keepalive 9 (req 0 [])) officer = some [0] := by decide +kernel

/-- A datagram for another port, and a request that the mailbox's buffer does not hold, do not reach the protocol. -/
theorem test_request_carried :
    let s := reg Od.mgmtIpv6 7 officer
    let q := { req 0 [] with dest := some (7, 1, 0) }
    s.carried 0x3F q = false ∧ (after (.keepalive 9 q) s).map (·.out) = some s.out ∧
      officer.carried 0x3F (req 0 []) = true ∧ reqVerifies (req 0 []) 0x3F [] = true ∧
      z.carried 0x3F { req 0 [] with transport := .mailbox } = false := by decide +kernel

/-- The header of a bank by R500, its order by serial arithmetic, and a LIVE write kept in one. -/
theorem test_bank : bankHeader configMagic 7 2 = [0x56, 0x58, 0x43, 0x46, 0, 0, 0, 0, 0, 0, 0, 7, 0, 0, 0, 2] ∧
    bankComplete journalMagic (bankHeader configMagic 7 0) = false ∧ newerBank 0 (2 ^ 64 - 1) = true ∧
    (after (.write 9 (req (Od.evEnableMask 127) [0, 0, 0, 1])) officer).map (·.power.configSeq) = some 1 := by decide +kernel

theorem test_request_replay :
    let p : Reply := ⟨0x3F, 1, 5, 1, 0, 0, 0, 0, [], true⟩
    let s := z.setSession 5 { session 3 0 with highest := 1, lastReply := some p }
    statuses (.keepalive 9 (req 0 [])) s = some [0] ∧ (after (.keepalive 9 (req 0 [])) s).map (fun t => t.reg Od.mgmtReplays) = some 0 ∧
      (after (.keepalive 9 { req 0 [] with seq := 0 }) s).map (fun t => t.reg Od.mgmtReplays) = some 1 := by decide +kernel

theorem test_read_write :
    statuses (.read 9 (req Od.pairId [])) officer = some [0] ∧ statuses (.read 9 (req 0xFFFF05 [])) officer = some [stNoEntry] ∧
      statuses (.write 9 (req Od.healthStartCount [0, 0, 0, 1])) officer = some [stReadOnly] ∧
      statuses (.write 9 (req Od.pairId [1])) officer = some [stTypeMismatch] := by decide +kernel

theorem test_write_stages :
    (after (.write 9 (req Od.pairId [0, 9])) officer).map (fun t => (t.edp.stage, t.edp.owner, t.reg Od.pairId)) =
      some ([⟨Od.pairId, [0, 9]⟩], some 5, officer.reg Od.pairId) := by decide +kernel

theorem test_read_block :
    (after (.readBlock 9 (req Od.pairId (beBytes 4 0 ++ beBytes 4 1))) officer).map (fun t => (t.session? 5).map fun x =>
        x.reads.map fun r => (r.sent, r.data.length)) = some (some (some (1, 2))) ∧
      statuses (.readBlock 9 (req Od.pairId (beBytes 4 1 ++ beBytes 4 1))) officer = some [stSegmentError] := by decide +kernel

theorem test_write_block :
    (after (.writeBlock 9 (req Od.pairId (beBytes 4 0 ++ beBytes 4 2 ++ [7]))) officer).map (fun t => (t.session? 5).map (·.write)) =
      some (some (some ⟨Od.pairId, 2, [7], 9⟩)) := by decide +kernel

theorem test_stage_turns :
    let s := officer.setEdp fun e => { e with stage := [⟨Od.pairId, [0, 9]⟩], owner := some 6 }
    statuses (.stage 9 (req Od.pairId [0, 7])) s = some [stBusy] ∧ statuses (.discard 9 (req 0 [])) s = some [stBusy] ∧
      statuses (.stage 9 (req Od.pairSwapNow [1])) officer = some [stInvalidValue] ∧
      (after (.discard 9 (req 0 [])) (s.setEdp fun e => { e with owner := some 5 })).map (·.edp.stage) = some [] := by decide +kernel

/-- R446: a commit accepted at 9 drips applies at tick 1: tick boundaries lie 208 µs apart. -/
theorem test_commit :
    let s := officer.setEdp fun e => { e with stage := [⟨Od.pairId, [0, 9]⟩], owner := some 5 }
    s.commitCheck = none ∧ s.stageTurn 5 = 0 ∧ s.rate = 4800 ∧
      (after (.commit 9 (req 0 [])) s).map (fun t => t.edp.commit.map (·.applyTick)) = some (some 1) := by decide +kernel

theorem test_commit_refused :
    let s := officer.setEdp fun e => { e with stage := [⟨Od.tickRate, [0, 9]⟩], owner := some 5 }
    s.commitCheck.isSome = true := by decide +kernel

theorem test_session_commands :
    (after (.subscribeEvents 9 (req 0 (leBytes 16 5))) officer).map (fun t => (t.session? 5).map (·.mask)) = some (some 5) ∧
      statuses (.subscribeEvents 9 (req 0 [])) officer = some [stTypeMismatch] ∧
      (after (.sessionClose 9 (req 0 [])) officer).map (fun t => (t.session? 5).isNone) = some true ∧
      statuses (.unsupportedOpcode 9 0x21 (req 0 [])) officer = some [stUnsupported] ∧
      statuses (.unsupportedOpcode 9 0x20 (req 0 [])) officer = some [] := by decide +kernel

theorem test_session_open :
    let q := req 0 (3 :: List.replicate 35 0)
    q.payload.length = 36 ∧ beAt q.payload 0 1 = 3 ∧ z.roleSlot 3 = 0 ∧ z.openDenied .udp 3 0 = false ∧ z.usable 0 .edpRole = .ok ∧
      z.openDenied .udp 4 0 = true ∧ statuses (.sessionOpen 9 (req 0 (4 :: List.replicate 35 0))) z = some [stDenied] := by decide +kernel

theorem test_timeouts :
    let s := z.setSession 5 { session 3 0 with opened := false }
    (after (.sessionOpenTimeout (5 * second) 5) s).map (fun t => (t.session? 5).isNone) = some true ∧
      (after (.sessionOpenTimeout (5 * second - 1) 5) s).map (fun t => (t.session? 5).isNone) = some false ∧
      (after (.sessionTimeout (z.reg Od.mgmtSessionTimeout * second) 5) officer).map (fun t => (t.session? 5).isNone) = some true := by
  decide +kernel

theorem test_transfer_timeouts :
    let s := z.setSession 5 { session 3 0 with write := some ⟨Od.pairId, 2, [7], 0⟩, reads := some ⟨Od.pairId, [0, 0], 1, 0⟩ }
    (after (.blockTransferTimeout (10 * second) 5) s).map (fun t => (t.session? 5).map (·.write)) = some (some none) ∧
      (after (.readSnapshotTimeout (10 * second) 5) s).map (fun t => (t.session? 5).map (·.reads)) = some (some none) ∧
      (after (.readSnapshotTimeout (10 * second - 1) 5) s).map (fun t => (t.session? 5).map (·.reads.isSome)) = some (some true) := by
  decide +kernel

/-! Operations: the type in the request's first four octets. -/

def running (n type : Nat) : State := officer.setOp n { state := .running, type := type, handle := n + 16, role := 2, session := 5 }
def byHandle (n : Nat) : Req := { req 0 [] with handle := n + 16 }

theorem test_start_scrub :
    (after (.memoryScrub 9 (req 0 [8, 0, 0, 0])) officer).map (fun t => ((t.op 0).state, (t.op 0).type, (t.op 0).handle)) =
        some (.running, 8, 16) ∧
      statuses (.memoryScrub 9 (req 0 [8, 0, 0, 0])) (running 3 opScrub) = some [stBusy] ∧
      statuses (.memoryScrub 9 (req 0 [])) officer = some [stTypeMismatch] ∧
      statuses (.memoryScrub 9 (req 0 [8, 0, 0, 0])) (z.setSession 5 (session 1 0)) = some [stDenied] := by decide +kernel

theorem test_start_others :
    let s := officer
    s.opOf opAttest = none ∧ (after (.attestSign 9 (req 0 ([2, 0, 0, 0] ++ List.replicate 32 7))) s).map (fun t => (t.op 0).type) = some 2 ∧
      (after (.firmwareInstall 9 (req 0 [1, 0, 0, 0])) s).map (fun t => (t.op 0).type) = some 1 ∧ s.exportable = false ∧
      statuses (.fullSelfTest 9 (req 0 [4, 0, 0, 0])) s = some [stDenied] ∧
      (after (.configApply 9 (req 0 [7, 0, 0, 0])) s).map (fun t => (t.op 0).type) = some 7 := by decide +kernel

theorem test_start_self_test :
    (after (.fullSelfTest 9 (req 0 [4, 0, 0, 0])) (vendor.setSession 5 (session 4 0))).map (fun t => (t.op 0).type) = some 4 := by
  decide +kernel

/-- A key generation as an operation: an SLH-DSA key in slot 3. -/
theorem test_start_keygen :
    let c : KeyCmd := ⟨3, 0, true, 0x02185100, 0, [], [], []⟩
    keyCmdOf (keyCmdBytes 3 c) = some (3, c) ∧ (officer.filledRecord c).alg = 5 ∧
      officer.fillRefused .generate 3 (officer.filledRecord c) (madeLen 5 0) (madeLenOk 5 0) = false := by decide +kernel

def exported : State :=
  let b : Curd := { channel := 0, exp := 0, flags := 0, seq := 0, mant := [1, 2, 3, 4, 5, 6, 7, 8] }
  ((((storing.setSession 5 (session 3 0)).setHist fun h => { h with frames := [⟨0, [b], 0xFF⟩] }).setReg Od.histExportLastTick 7).setBlob Od.histExportChannels [0, 0])

theorem test_start_export :
    exported.exportable = true ∧ exported.mayProtect 0 7 = true ∧
      (after (.historyExport 9 (req 0 [5, 0, 0, 0])) exported).map (fun t => (t.op 0).type) = some 5 := by decide +kernel

theorem test_start_migrate :
    let s := officer.setPart 95 { run := .running }
    s.migrateOk ([95, 0, 0, 0] ++ beBytes 16 (winAll + 47 * 2 ^ 64)) = true ∧ migratePart [95, 0, 0, 0] = 95 ∧
      (after (.partitionMigrate 9 (req 0 ([6, 0, 0, 0, 95, 0, 0, 0] ++ beBytes 16 (winAll + 47 * 2 ^ 64)))) s).map (fun t => (t.part 95).run) =
        some .migrating := by decide +kernel

theorem test_op_states :
    (after (.opSuspend 9 (byHandle 3)) (running 3 opScrub)).map (fun t => (t.op 3).state) = some .suspending ∧
      (after (.opCancel 9 (byHandle 15)) (running 15 opScrub)).map (fun t => (t.op 15).state) = some .cancelling ∧
      statuses (.opResume 9 (byHandle 3)) (running 3 opScrub) = some [stBadState] ∧
      statuses (.opStatus 9 (byHandle 4)) (running 3 opScrub) = some [stUnknownHandle] ∧
      (running 3 opScrub).inCommitPhase 3 = false := by decide +kernel

theorem test_op_deferred :
    let s (o : OpState) := (running 3 opScrub).modOp 3 fun x => { x with state := o }
    (after (.opCancel 9 (byHandle 3)) (s .suspending)).map (fun t => ((t.op 3).state, (t.op 3).cancelDeferred)) = some (.suspending, true) ∧
      (after (.opSuspend 9 (byHandle 3)) (s .resuming)).map (fun t => ((t.op 3).state, (t.op 3).suspendDeferred)) = some (.resuming, true) ∧
      (after (.opSafePoint 9 3) (s .running)).map (fun t => (t.op 3).pos) = some 1 := by decide +kernel

/-- An export whose frames have all been read, and one still to read; 16 octets of ticks, then its channel. -/
theorem test_export_pieces :
    let s := exported.setOp 3 { state := .running, type := opExport, params := exported.exportParams, handle := 19, pos := 1 }
    s.piecesLeft 3 = 0 ∧ (s.modOp 3 fun x => { x with pos := 0 }).piecesLeft 3 = 1 := by decide +kernel

theorem test_window_list_lengths :
    windowsEntry 0x7000 6 = true ∧ windowsEntry 0x7060 6 = false ∧ windowsOk (List.replicate 15 0) = false ∧
      windowsOk (List.replicate 16 0) = true ∧ windowsOk (List.replicate 1040 0) = false := by decide +kernel

theorem test_op_suspended :
    let s := (running 3 opScrub).modOp 3 fun o => { o with state := .suspended }
    (after (.opResume 9 (byHandle 3)) s).map (fun t => (t.op 3).state) = some .resuming ∧
      (after (.opSuspendExpiry (3600 * second) 3) s).map (fun t => (t.op 3).state) = some .cancelled ∧
      (after (.opSuspendExpiry (3600 * second - 1) 3) s).map (fun t => (t.op 3).state) = some .suspended := by decide +kernel

theorem test_op_safe_points :
    let s (o : OpState) := (running 3 opScrub).modOp 3 fun x => { x with state := o }
    (after (.opSafePoint 9 3) (s .resuming)).map (fun t => (t.op 3).state) = some .running ∧
      (after (.opComplete 9 3) (s .running)).map (fun t => ((t.op 3).state, (t.op 3).progress)) = some (.done, 1000) ∧
      (after (.opComplete 9 3) (s .cancelling)).map (fun t => (t.op 3).state) = some .cancelled ∧
      (after (.opResultExpiry (600 * second) 3) (s .done)).map (fun t => t.op 3) = some {} ∧
      (after (.opResultExpiry (600 * second - 1) 3) (s .done)).map (fun t => (t.op 3).state) = some .done ∧
      (s .suspending).inCommitPhase 3 = false ∧ z.usable 1 .attest = .ok := by decide +kernel

theorem test_commit_apply :
    let c : PendingCommit := { session := 5, seq := 1, acceptedAt := 0, applyTick := 1, applyAt := 100, op := none }
    let s := officer.setEdp fun e => { e with stage := [⟨Od.pairId, [0, 9]⟩], owner := some 5, commit := some c }
    (after (.commitApply 99) s).map (fun t => t.edp.commit.isSome) = some true ∧ s.edp.stage = [⟨Od.pairId, [0, 9]⟩] := by decide +kernel

/-- A flag set in the same cycle stays; a flag written as 1 goes. -/
theorem test_status_write :
    let s := reg (Od.evStatus 127) 3 z
    (after (.eventStatusWrite 9 127 1 0) s).map (fun t => t.reg (Od.evStatus 127)) = some 2 ∧ z.sourceUp 112 = true ∧
      (after (.eventStatusWrite 9 112 2 1) (reg (Od.evStatus 112) 1 z)).map (fun t => bit (t.reg (Od.evStatus 112)) 0) = some true ∧
      (after (.enableMaskWrite 9 127 0x1FFFF) z).map (fun t => t.reg (Od.evEnableMask 127)) = some 0x1FFFF := by decide +kernel

theorem test_event_held :
    let s := z.setSession 5 { session 3 0 with mask := 2, evHeld := [1], evSent := [(1, 3)] }
    (after (.eventHoldExpiry (3 + ofMs 10) 5 1) s).map (fun t => (t.session? 5).map fun x => (x.evHeld, x.evSeq)) = some (some ([], 1)) ∧
      (after (.eventHoldExpiry (2 + ofMs 10) 5 1) s).map (fun t => (t.session? 5).map fun x => (x.evHeld, x.evSeq)) = some (some ([1], 0)) := by
  decide +kernel

/-! ### Ill-formed commands are refused, one for each kind of check -/

theorem test_ill_formed :
    (Instr.residueMismatch 9 5 0).wf = false ∧ (Instr.residueMismatch 9 0 4).wf = false ∧ (Instr.fallbackHandover 9 4).wf = false ∧
      (Instr.rxFrameStart 9 32).wf = false ∧ (Instr.cutThroughStart 9 0 32).wf = false ∧ (Instr.timestampCollect 9 0 17).wf = false ∧
      (Instr.staticEntryWrite 9 16384 0).wf = false ∧ (Instr.multicastGroupWrite 9 1024 0).wf = false ∧
      (Instr.lanSilent 9 16).wf = false ∧ (Instr.tick 9 96).wf = false ∧ (Instr.windowStart 9 0 64).wf = false ∧
      (Instr.freeze 9 64).wf = false ∧ (Instr.txDbWrite 9 0 4 0).wf = false ∧ (Instr.loopOverrun 9 32).wf = false ∧
      (Instr.groupRelease 9 8 1).wf = false ∧ (Instr.valueEntryWrite 9 0 0 0).wf = false ∧ (Instr.tuningWrite 9 0 0 0).wf = false ∧
      (Instr.laneLost 9 2).wf = false := by decide +kernel

theorem test_ill_formed_more :
    (Instr.opComplete 9 16).wf = false ∧ (Instr.lockstepMismatch 9 60).wf = false ∧ (Instr.spareTakeover 9 12).wf = false ∧
      (Instr.regionLost 9 4).wf = false ∧ (Instr.eccCorrected 9 60 0 0).wf = false ∧ (Instr.eccCorrected 9 59 0 0).wf = true ∧
      (Instr.doubleBitError 9 0 (2 ^ 32) .manager).wf = false ∧ (Instr.doubleBitError 9 0 0 (.partition 96)).wf = false ∧
      (Instr.doubleBitError 9 0 0 (.imageSlot 0 8192)).wf = false ∧ (Instr.doubleBitError 9 0 0 (.keyCell 256)).wf = false ∧
      (Instr.dieLinkFailed 9 6).wf = false ∧ (Instr.selfTestEnd 9 (unitId 1 60) ⟨0, 0, true⟩).wf = false ∧
      (Instr.selfTestEnd 9 (unitId 3 4) ⟨0, 0, true⟩).wf = false ∧ (Instr.enableMaskWrite 9 128 0).wf = false ∧
      (Instr.railOutOfRange 9 8).wf = false ∧ (Instr.registerWrite 9 4 0 0).wf = false ∧ (Instr.forceWrite 9 1024 0).wf = false ∧
      (Instr.vddAonLoss (2 ^ 80)).wf = false ∧ (Instr.vddAonLoss (2 ^ 80 - 1)).wf = true := by decide +kernel

/-- The machine stops by name on a command for an instance that the module does not have. -/
theorem test_no_such_instance : exec (.rxFrameStart 9 32) z = .fault .noSuchInstance ∧ exec (.laneLost 9 2) z = .fault .noSuchInstance :=
  ⟨rfl, rfl⟩

/-- R478: the entry of the lower source stands first although it was set last in the same instant. -/
theorem test_ring_order :
    let s := z.setPail 0 { state := .active, ev := { ctrl := 1 + 2 * 4, base := 0x1000 } }
    let t := ((s.postModule 0 97 1 5).postModule 0 32 2 5).postModule 0 33 3 6
    (t.pail 0).ev.tail = 3 ∧ (t.memByte (t.pailOwner 0) 0x1002, t.memByte (t.pailOwner 0) 0x1022, t.memByte (t.pailOwner 0) 0x1042) = (32, 97, 33) ∧
      (t.pail 0).ev.run.map (fun x => (x.1, x.2.1)) = [(2, 33)] := by decide +kernel

end Sys2Proof.Tests
end

section
set_option Elab.async false
namespace Sys2Proof.Machine

/-! ### Reading a state: after the output lands settle, after a command's instant arrives, after a partition changes -/

@[simp] theorem State.settle_reg (s : State) (k : Nat) : s.settle.reg k = s.reg k := rfl
@[simp] theorem State.settle_part (s : State) (n : Nat) : s.settle.part n = s.part n := rfl

/-- What does not read the time unit is as before a command's instant arrived. -/
theorem State.arrive_eq {α : Type} {s : State} (g : State → α) (h : ∀ t, g (s.setNow t) = g s) (a : Instant) : g (s.arrive a) = g s := by
  unfold State.arrive
  split
  · rfl
  · exact h _

@[simp] theorem State.arrive_part (s : State) (a : Instant) (n : Nat) : (s.arrive a).part n = s.part n :=
  State.arrive_eq (·.part n) (fun _ => rfl) a

@[simp] theorem State.part_modPart_self (s : State) (n : Nat) (f : Partition → Partition) : (s.modPart n f).part n = f (s.part n) :=
  s.part_setPart_self n _

theorem State.part_modPart_ne (s : State) {i n : Nat} (f : Partition → Partition) (h : i ≠ n) : (s.modPart n f).part i = s.part i :=
  s.part_setPart_ne _ h

@[simp] theorem State.arrive_blob (s : State) (a : Instant) (k : Nat) : (s.arrive a).blob k = s.blob k :=
  State.arrive_eq (·.blob k) (fun _ => rfl) a
@[simp] theorem State.arrive_on (s : State) (a : Instant) (k : Nat) : (s.arrive a).on k = s.on k :=
  State.arrive_eq (·.on k) (fun _ => rfl) a
@[simp] theorem State.arrive_cut (s : State) (a : Instant) (l : Nat) : (s.arrive a).cut l = s.cut l :=
  State.arrive_eq (·.cut l) (fun _ => rfl) a
@[simp] theorem State.arrive_sub (s : State) (a : Instant) (n : Nat) : (s.arrive a).sub n = s.sub n :=
  State.arrive_eq (·.sub n) (fun _ => rfl) a

/-! ### Counters that report half range (R93) -/

/-- A source's own entries are STATUS, LAST_SET and RESETS of its block. -/
def ownsEntry (n k : Nat) : Prop := k = Od.evStatus n ∨ k = Od.evLastSet n ∨ k = Od.evResets n

theorem State.reg_setFlag_of_not_owns (s : State) (n f : Nat) (i : Option Nat) {k : Nat} (h : ¬ownsEntry n k) :
    (s.setFlag n f i).reg k = s.reg k :=
  s.reg_setFlag n f i (fun e => h (.inl e)) (fun e => h (.inr (.inl e))) fun e => h (.inr (.inr e))

theorem State.reg_countEv_self (s : State) (n : Nat) (i : Option Nat) {k : Nat} (h : ¬ownsEntry n k) :
    (s.countEv k n i).reg k = (s.reg k + 1) % 2 ^ 32 := by
  unfold State.countEv
  dsimp only
  split
  · rw [State.reg_setFlag_of_not_owns _ _ _ _ h, State.reg_setReg_self]
  · rw [State.reg_setReg_self]

theorem State.reg_countEv_ne (s : State) (n : Nat) (i : Option Nat) {j k : Nat} (h : ¬ownsEntry n j) (hne : j ≠ k) :
    (s.countEv k n i).reg j = s.reg j := by
  unfold State.countEv
  dsimp only
  split
  · rw [State.reg_setFlag_of_not_owns _ _ _ _ h, State.reg_setReg_ne _ _ hne]
  · rw [State.reg_setReg_ne _ _ hne]

end Sys2Proof.Machine
end

section
set_option Elab.async false
namespace Sys2Proof.Machine

/-! ### What each operation may change (R28)

`s.only p` keeps one part of the state. The lemma `f_only` of an operation `f` says which parts `f` may change: every other part is as before. -/

/-- The parts of the state. -/
inductive StatePart where
  | regs | blobs | time | befores | workTick | ports | sw | dp | hist | parts | pails | majorFrame | cores | churn | loops | subs
  | pubs | pair | sec | health | edp | power | pins | mem | out | freeUsed | pending
  /-- Of the outputs, the GOOSE frames. -/
  | gooses
  deriving DecidableEq

/-- A frame of a publication. -/
def Out.isGoose : Out → Bool
  | .goose .. => true
  | .frame .. | .stomped .. | .pause .. | .ptp .. | .reply .. | .pdu .. | .event .. | .msix .. | .heartbeat .. | .digest .. | .state .. | .role ..
  | .migrate .. | .status .. => false

/-- The state with one part kept and the others as at reset. -/
def State.only (s : State) : StatePart → State
  | .regs => { regs := s.regs }
  | .blobs => { blobs := s.blobs }
  | .time => { time := s.time }
  | .befores => { befores := s.befores }
  | .workTick => { workTick := s.workTick }
  | .ports => { ports := s.ports }
  | .sw => { sw := s.sw }
  | .dp => { dp := s.dp }
  | .hist => { hist := s.hist }
  | .parts => { parts := s.parts }
  | .pails => { pails := s.pails }
  | .majorFrame => { majorFrame := s.majorFrame }
  | .cores => { cores := s.cores }
  | .churn => { churn := s.churn }
  | .loops => { loops := s.loops }
  | .subs => { subs := s.subs }
  | .pubs => { pubs := s.pubs }
  | .pair => { pair := s.pair }
  | .sec => { sec := s.sec }
  | .health => { health := s.health }
  | .edp => { edp := s.edp }
  | .power => { power := s.power }
  | .pins => { pins := s.pins }
  | .mem => { mem := s.mem }
  | .out => { out := s.out }
  | .freeUsed => { freeUsed := s.freeUsed }
  | .pending => { pending := s.pending }
  | .gooses => { out := s.out.filter Out.isGoose }

/-- A part outside a list of parts is outside every list among them. -/
theorem outside {p : StatePart} {l l' : List StatePart} (h : p ∉ l') (hs : l ⊆ l' := by decide) : p ∉ l := fun hp => h (hs hp)

theorem State.only_ite {p : StatePart} (c : Prop) [Decidable c] (s t : State) :
    (if c then s else t).only p = if c then s.only p else t.only p := apply_ite (State.only · p) c s t

theorem State.when_only {p : StatePart} {f : State → State} {s : State} (h : (f s).only p = s.only p) (c : Bool) :
    (s.when_ c f).only p = s.only p := by
  cases c
  · rfl
  · exact h

/-- A fold whose accumulator holds a state keeps what every step keeps. -/
theorem State.foldl_proj_only {p : StatePart} {α β : Type} (proj : β → State) {f : β → α → β} (h : ∀ x a, (proj (f x a)).only p = (proj x).only p)
    (l : List α) (x : β) : (proj (l.foldl f x)).only p = (proj x).only p := by
  induction l generalizing x with
  | nil => rfl
  | cons a l ih => rw [List.foldl_cons, ih, h]

theorem State.foldl_only {p : StatePart} {α : Type} {f : State → α → State} (h : ∀ t a, (f t a).only p = t.only p) (l : List α) (s : State) :
    (l.foldl f s).only p = s.only p := State.foldl_proj_only id h l s

theorem State.foldl_fst_only {p : StatePart} {α β : Type} {f : State × β → α → State × β} (h : ∀ x a, (f x a).1.only p = x.1.only p)
    (l : List α) (x : State × β) : (l.foldl f x).1.only p = x.1.only p := State.foldl_proj_only Prod.fst h l x

theorem State.only_ite_fst {p : StatePart} {β : Type} (c : Prop) [Decidable c] (x y : State × β) :
    (if c then x else y).1.only p = if c then x.1.only p else y.1.only p := apply_ite (fun z => State.only z.1 p) c x y

theorem State.only_ite_snd {p : StatePart} {β : Type} (c : Prop) [Decidable c] (x y : β × State) :
    (if c then x else y).2.only p = if c then x.2.only p else y.2.only p := apply_ite (fun z => State.only z.2 p) c x y

theorem Answer.only_ite {p : StatePart} (c : Prop) [Decidable c] (x y : Answer) :
    (if c then x else y).state.only p = if c then x.state.only p else y.state.only p := apply_ite (fun z => State.only z.state p) c x y

theorem Served.only_ite {p : StatePart} (c : Prop) [Decidable c] (x y : Served) :
    (if c then x else y).state.only p = if c then x.state.only p else y.state.only p := apply_ite (fun z => State.only z.state p) c x y

theorem State.each_only {p : StatePart} {α : Type} {f : α → State → State} (h : ∀ a t, (f a t).only p = t.only p) (s : State) (l : List α) :
    (s.each l f).only p = s.only p := State.foldl_only (fun t a => h a t) l s

theorem Built.only_ite {p : StatePart} (c : Prop) [Decidable c] (x y : Built) :
    (if c then x else y).state.only p = if c then x.state.only p else y.state.only p := apply_ite (fun z => State.only z.state p) c x y

theorem Sent.only_ite {p : StatePart} (c : Prop) [Decidable c] (x y : Sent) :
    (if c then x else y).state.only p = if c then x.state.only p else y.state.only p := apply_ite (fun z => State.only z.state p) c x y

@[simp] theorem Answer.written_state (a : Answer) (opcode : Nat) (q : Req) : (a.written opcode q).state = a.state := by
  unfold Answer.written
  split <;> rfl

/-- A channel built adds to the slots what the state does not hold. -/
theorem Built.pair_only {p : StatePart} (b : Built) (slots : Tab Slot) (c : Nat) :
    ((b.state, slots ++ [(c, b.slot)]) : State × Tab Slot).1.only p = b.state.only p := rfl

/-! #### Updates of one part -/

theorem State.with_sw_only {part : StatePart} (hpart : part ∉ [.sw]) (s : State) (x : Switch) :
    ({ s with sw := x } : State).only part = s.only part := by
  cases part <;> simp at hpart <;> rfl

theorem State.with_dp_only {part : StatePart} (hpart : part ∉ [.dp]) (s : State) (x : DataPath) :
    ({ s with dp := x } : State).only part = s.only part := by
  cases part <;> simp at hpart <;> rfl

theorem State.with_edp_only {part : StatePart} (hpart : part ∉ [.edp]) (s : State) (x : Edp) :
    ({ s with edp := x } : State).only part = s.only part := by
  cases part <;> simp at hpart <;> rfl

theorem State.with_hist_only {part : StatePart} (hpart : part ∉ [.hist]) (s : State) (x : History) :
    ({ s with hist := x } : State).only part = s.only part := by
  cases part <;> simp at hpart <;> rfl

theorem State.with_health_only {part : StatePart} (hpart : part ∉ [.health]) (s : State) (x : Health) :
    ({ s with health := x } : State).only part = s.only part := by
  cases part <;> simp at hpart <;> rfl

theorem State.with_pails_only {part : StatePart} (hpart : part ∉ [.pails]) (s : State) (x : Tab Pail) :
    ({ s with pails := x } : State).only part = s.only part := by
  cases part <;> simp at hpart <;> rfl

theorem State.with_regs_only {part : StatePart} (hpart : part ∉ [.regs]) (s : State) (x : Tab Nat) :
    ({ s with regs := x } : State).only part = s.only part := by
  cases part <;> simp at hpart <;> rfl

theorem State.with_befores_only {part : StatePart} (hpart : part ∉ [.befores]) (s : State) (x : List (Nat × Tab Nat × Tab (List Byte))) :
    ({ s with befores := x } : State).only part = s.only part := by
  cases part <;> simp at hpart <;> rfl

theorem State.with_majorFrame_only {part : StatePart} (hpart : part ∉ [.majorFrame]) (s : State) (x : Nat) :
    ({ s with majorFrame := x } : State).only part = s.only part := by
  cases part <;> simp at hpart <;> rfl

theorem State.with_workTick_only {part : StatePart} (hpart : part ∉ [.workTick]) (s : State) (x : Nat) :
    ({ s with workTick := x } : State).only part = s.only part := by
  cases part <;> simp at hpart <;> rfl

theorem State.with_freeUsed_only {part : StatePart} (hpart : part ∉ [.freeUsed]) (s : State) (x : Nat) :
    ({ s with freeUsed := x } : State).only part = s.only part := by
  cases part <;> simp at hpart <;> rfl

theorem State.with_mem_only {part : StatePart} (hpart : part ∉ [.mem]) (s : State) (x : List Host.Cell) :
    ({ s with mem := x } : State).only part = s.only part := by
  cases part <;> simp at hpart <;> rfl

theorem State.with_churn_only {part : StatePart} (hpart : part ∉ [.churn]) (s : State) (x : Churn) :
    ({ s with churn := x } : State).only part = s.only part := by
  cases part <;> simp at hpart <;> rfl

theorem State.with_loops_only {part : StatePart} (hpart : part ∉ [.loops]) (s : State) (x : Loops) :
    ({ s with loops := x } : State).only part = s.only part := by
  cases part <;> simp at hpart <;> rfl

theorem State.with_time_only {part : StatePart} (hpart : part ∉ [.time]) (s : State) (x : TimeUnit) :
    ({ s with time := x } : State).only part = s.only part := by
  cases part <;> simp at hpart <;> rfl

theorem State.with_pair_only {part : StatePart} (hpart : part ∉ [.pair]) (s : State) (x : Pair) :
    ({ s with pair := x } : State).only part = s.only part := by
  cases part <;> simp at hpart <;> rfl

theorem State.with_sec_only {part : StatePart} (hpart : part ∉ [.sec]) (s : State) (x : Security) :
    ({ s with sec := x } : State).only part = s.only part := by
  cases part <;> simp at hpart <;> rfl

theorem State.with_power_only {part : StatePart} (hpart : part ∉ [.power]) (s : State) (x : Power) :
    ({ s with power := x } : State).only part = s.only part := by
  cases part <;> simp at hpart <;> rfl

theorem State.with_parts_only {part : StatePart} (hpart : part ∉ [.parts]) (s : State) (x : Tab Partition) :
    ({ s with parts := x } : State).only part = s.only part := by
  cases part <;> simp at hpart <;> rfl

theorem State.with_out_only {part : StatePart} (hpart : part ∉ [.out, .gooses]) (s : State) (x : List Out) :
    ({ s with out := x } : State).only part = s.only part := by
  cases part <;> simp at hpart <;> rfl

theorem State.with_pins_only {part : StatePart} (hpart : part ∉ [.pins]) (s : State) (x : Pins) :
    ({ s with pins := x } : State).only part = s.only part := by
  cases part <;> simp at hpart <;> rfl

theorem State.with_ports_only {part : StatePart} (hpart : part ∉ [.ports]) (s : State) (x : Tab Port) :
    ({ s with ports := x } : State).only part = s.only part := by
  cases part <;> simp at hpart <;> rfl

theorem State.with_subs_only {part : StatePart} (hpart : part ∉ [.subs]) (s : State) (x : Tab Sub) :
    ({ s with subs := x } : State).only part = s.only part := by
  cases part <;> simp at hpart <;> rfl

theorem State.with_pubs_only {part : StatePart} (hpart : part ∉ [.pubs]) (s : State) (x : Tab Pub) :
    ({ s with pubs := x } : State).only part = s.only part := by
  cases part <;> simp at hpart <;> rfl

theorem State.with_blobs_only {part : StatePart} (hpart : part ∉ [.blobs]) (s : State) (x : Tab (List Byte)) :
    ({ s with blobs := x } : State).only part = s.only part := by
  cases part <;> simp at hpart <;> rfl

/-! #### The operations of Ops -/

theorem State.setReg_only {part : StatePart} (hpart : part ∉ [.regs]) (s : State) (k v : Nat) :
    (s.setReg k v).only part = s.only part := by
  simp only [State.setReg, State.with_regs_only (outside hpart)]

theorem State.setBlob_only {part : StatePart} (hpart : part ∉ [.blobs]) (s : State) (k : Nat) (v : List Byte) :
    (s.setBlob k v).only part = s.only part := by
  simp only [State.setBlob, State.with_blobs_only (outside hpart)]

theorem State.count_only {part : StatePart} (hpart : part ∉ [.regs]) (s : State) (w k : Nat) :
    (s.count w k).only part = s.only part := by
  simp only [State.count, State.setReg_only hpart]

theorem State.setPort_only {part : StatePart} (hpart : part ∉ [.ports]) (s : State) (p : Nat) (x : Port) :
    (s.setPort p x).only part = s.only part := by
  simp only [State.setPort, State.with_ports_only (outside hpart)]

theorem State.modPort_only {part : StatePart} (hpart : part ∉ [.ports]) (s : State) (p : Nat) (f : Port → Port) :
    (s.modPort p f).only part = s.only part := by
  simp only [State.modPort, State.setPort_only hpart]

theorem State.setPtpPort_only {part : StatePart} (hpart : part ∉ [.time]) (s : State) (p : Nat) (x : PtpPort) :
    (s.setPtpPort p x).only part = s.only part := by
  simp only [State.setPtpPort, State.with_time_only (outside hpart)]

theorem State.setStream_only {part : StatePart} (hpart : part ∉ [.dp]) (s : State) (n : Nat) (x : Stream) :
    (s.setStream n x).only part = s.only part := by
  simp only [State.setStream, State.with_dp_only (outside hpart)]

theorem State.setChan_only {part : StatePart} (hpart : part ∉ [.dp]) (s : State) (c : Nat) (x : Channel) :
    (s.setChan c x).only part = s.only part := by
  simp only [State.setChan, State.with_dp_only (outside hpart)]

theorem State.setFgroup_only {part : StatePart} (hpart : part ∉ [.dp]) (s : State) (g : Nat) (x : FreqGroup) :
    (s.setFgroup g x).only part = s.only part := by
  simp only [State.setFgroup, State.with_dp_only (outside hpart)]

theorem State.setWindow_only {part : StatePart} (hpart : part ∉ [.hist]) (s : State) (w : Nat) (x : Window) :
    (s.setWindow w x).only part = s.only part := by
  simp only [State.setWindow, State.with_hist_only (outside hpart)]

theorem State.setPart_only {part : StatePart} (hpart : part ∉ [.parts]) (s : State) (n : Nat) (x : Partition) :
    (s.setPart n x).only part = s.only part := by
  simp only [State.setPart, State.with_parts_only (outside hpart)]

theorem State.modPart_only {part : StatePart} (hpart : part ∉ [.parts]) (s : State) (n : Nat) (f : Partition → Partition) :
    (s.modPart n f).only part = s.only part := by
  simp only [State.modPart, State.setPart_only hpart]

theorem State.setPail_only {part : StatePart} (hpart : part ∉ [.pails]) (s : State) (p : Nat) (x : Pail) :
    (s.setPail p x).only part = s.only part := by
  simp only [State.setPail, State.with_pails_only (outside hpart)]

theorem State.modPail_only {part : StatePart} (hpart : part ∉ [.pails]) (s : State) (p : Nat) (f : Pail → Pail) :
    (s.modPail p f).only part = s.only part := by
  simp only [State.modPail, State.setPail_only hpart]

theorem State.setLoop_only {part : StatePart} (hpart : part ∉ [.loops]) (s : State) (l : Nat) (x : Loop) :
    (s.setLoop l x).only part = s.only part := by
  simp only [State.setLoop, State.with_loops_only (outside hpart)]

theorem State.setUnit_only {part : StatePart} (hpart : part ∉ [.loops]) (s : State) (l : Nat) (x : Unit_) :
    (s.setUnit l x).only part = s.only part := by
  simp only [State.setUnit, State.with_loops_only (outside hpart)]

theorem State.setGen_only {part : StatePart} (hpart : part ∉ [.loops]) (s : State) (g : Nat) (x : Gen) :
    (s.setGen g x).only part = s.only part := by
  simp only [State.setGen, State.with_loops_only (outside hpart)]

theorem State.setSub_only {part : StatePart} (hpart : part ∉ [.subs]) (s : State) (n : Nat) (x : Sub) :
    (s.setSub n x).only part = s.only part := by
  simp only [State.setSub, State.with_subs_only (outside hpart)]

theorem State.setPub_only {part : StatePart} (hpart : part ∉ [.pubs]) (s : State) (n : Nat) (x : Pub) :
    (s.setPub n x).only part = s.only part := by
  simp only [State.setPub, State.with_pubs_only (outside hpart)]

theorem State.setHerd_only {part : StatePart} (hpart : part ∉ [.health]) (s : State) (h : Nat) (x : Herd) :
    (s.setHerd h x).only part = s.only part := by
  simp only [State.setHerd, State.with_health_only (outside hpart)]

theorem State.setOp_only {part : StatePart} (hpart : part ∉ [.edp]) (s : State) (n : Nat) (x : Op) :
    (s.setOp n x).only part = s.only part := by
  simp only [State.setOp, State.with_edp_only (outside hpart)]

theorem State.setSession_only {part : StatePart} (hpart : part ∉ [.edp]) (s : State) (n : Nat) (x : Session) :
    (s.setSession n x).only part = s.only part := by
  simp only [State.setSession, State.with_edp_only (outside hpart)]

theorem State.setNow_only {part : StatePart} (hpart : part ∉ [.time]) (s : State) (t : Nat) :
    (s.setNow t).only part = s.only part := by
  simp only [State.setNow, State.with_time_only (outside hpart)]

theorem State.arrive_only {part : StatePart} (hpart : part ∉ [.time]) (s : State) (t : Instant) :
    (s.arrive t).only part = s.only part := by
  simp only [State.arrive, State.setNow_only hpart, State.only_ite, ite_self]

/-- An output that is no frame of a publication. -/
theorem State.emit_only {part : StatePart} (hpart : part ∉ [.out]) (s : State) {o : Out} (ho : o.isGoose = false) :
    (s.emit o).only part = s.only part := by
  by_cases hgoose : part = .gooses
  · subst hgoose
    simp only [State.only, State.emit, List.filter_cons, ho, Bool.false_eq_true, if_false]
  · exact State.with_out_only (by simpa [hgoose] using hpart) _ _

theorem State.emit_goose_only {part : StatePart} (hpart : part ∉ [.out, .gooses]) (s : State) (o : Out) :
    (s.emit o).only part = s.only part := by
  simp only [State.emit, State.with_out_only (outside hpart)]

theorem State.drew_only {part : StatePart} (hpart : part ∉ [.freeUsed]) (s : State) :
    (s.drew).only part = s.only part := by
  simp only [State.drew, State.with_freeUsed_only (outside hpart)]

theorem State.storeByte_only {part : StatePart} (hpart : part ∉ [.mem]) (s : State) (owner a : Nat) (b : Byte) :
    (s.storeByte owner a b).only part = s.only part := by
  simp only [State.storeByte, State.with_mem_only (outside hpart)]

theorem State.storeBytes_only {part : StatePart} (hpart : part ∉ [.mem]) (s : State) (owner : Nat) (a : Nat) (bs : List Byte) :
    (s.storeBytes owner a bs).only part = s.only part := by
  induction bs generalizing s a with
  | nil => rfl
  | cons b bs ih => rw [State.storeBytes, ih, State.storeByte_only hpart]

theorem State.settle_only {part : StatePart} (hpart : part ∉ [.pins]) (s : State) :
    (s.settle).only part = s.only part := by
  simp only [State.settle, State.with_pins_only (outside hpart)]

/-! #### The operations of Flags -/

theorem State.msix_only {part : StatePart} (hpart : part ∉ [.edp, .out]) (s : State) (v : Nat) :
    (s.msix v).only part = s.only part := by
  unfold State.msix
  repeat' split
  all_goals simp only [State.emit_only (outside hpart) _ (o := .msix _ _) rfl, State.with_edp_only (outside hpart)]

theorem State.markPage_only {part : StatePart} (hpart : part ∉ [.pails, .mem]) (s : State) (p page : Nat) :
    (s.markPage p page).1.only part = s.only part := by
  simp only [State.markPage, State.storeByte_only (outside hpart), State.modPail_only (outside hpart), State.only_ite_fst, ite_self]

theorem State.pailStore_only {part : StatePart} (hpart : part ∉ [.pails, .mem]) (s : State) (p a : Nat) (bs : List Byte) :
    (s.pailStore p a bs).1.only part = s.only part := by
  simp only [State.pailStore, State.markPage_only hpart, State.storeBytes_only (outside hpart), State.only_ite_fst, ite_self, implies_true,
    State.foldl_fst_only]

theorem State.ringEntry_only {part : StatePart} (hpart : part ∉ [.pails, .mem]) (s : State) (p type : Nat) (source data time : Nat) :
    (s.ringEntry p type source data time).1.only part = s.only part := by
  simp only [State.ringEntry, State.pailStore_only hpart, State.modPail_only (outside hpart)]

theorem State.ringInterrupt_only {part : StatePart} (hpart : part ∉ [.parts, .edp, .out]) (s : State) (p : Nat) :
    (s.ringInterrupt p).only part = s.only part := by
  simp only [State.ringInterrupt, State.msix_only (outside hpart), State.modPart_only (outside hpart), State.only_ite, ite_self]

theorem State.overflowEntry_only {part : StatePart} (hpart : part ∉ [.parts, .pails, .edp, .mem, .out]) (s : State) (p : Nat) :
    (s.overflowEntry p).1.only part = s.only part := by
  simp only [State.overflowEntry, State.ringEntry_only (outside hpart), State.ringInterrupt_only (outside hpart), State.modPail_only
    (outside hpart), State.only_ite_fst, ite_self]

theorem State.ringPost_only {part : StatePart} (hpart : part ∉ [.parts, .pails, .edp, .mem, .out]) (s : State) (p type : Nat)
    (source data time : Nat) :
    (s.ringPost p type source data time).1.only part = s.only part := by
  simp only [State.ringPost, State.ringEntry_only (outside hpart), State.overflowEntry_only hpart, State.ringInterrupt_only (outside hpart),
    State.modPail_only (outside hpart), State.only_ite_fst, ite_self]

theorem State.ringOverflow_only {part : StatePart} (hpart : part ∉ [.parts, .pails, .edp, .mem, .out]) (s : State) (p : Nat) :
    (s.ringOverflow p).only part = s.only part := by
  simp only [State.ringOverflow, State.overflowEntry_only hpart, State.ringPost_only hpart, State.only_ite, ite_self]

theorem State.post_only {part : StatePart} (hpart : part ∉ [.parts, .pails, .edp, .mem, .out]) (s : State) (p type : Nat)
    (source data time : Nat) :
    (s.post p type source data time).only part = s.only part := by
  simp only [State.post, State.ringPost_only hpart, State.only_ite, ite_self]

theorem State.pailWrite_only {part : StatePart} (hpart : part ∉ [.parts, .pails, .edp, .mem, .out]) (s : State) (p a : Nat) (bs : List Byte)
    :
    (s.pailWrite p a bs).only part = s.only part := by
  simp only [State.pailWrite, State.post_only hpart, State.pailStore_only (outside hpart), State.only_ite, ite_self]

theorem State.runEntry_only {part : StatePart} (hpart : part ∉ [.pails, .mem]) (s : State) (p time : Nat) (e : Nat × Nat × Nat × Bool) :
    (s.runEntry p time e).1.only part = s.only part := by
  simp only [State.runEntry, State.pailStore_only hpart]

theorem State.moduleEntry_only {part : StatePart} (hpart : part ∉ [.parts, .pails, .edp, .mem, .out]) (s : State) (p source : Nat)
    (data time : Nat) :
    (s.moduleEntry p source data time).1.only part = s.only part := by
  simp only [State.moduleEntry, State.runEntry_only (outside hpart), State.ringPost_only hpart, State.modPail_only (outside hpart),
    State.only_ite_fst, ite_self, implies_true, State.foldl_fst_only]

theorem State.postModule_only {part : StatePart} (hpart : part ∉ [.parts, .pails, .edp, .mem, .out]) (s : State) (p source : Nat)
    (data time : Nat) :
    (s.postModule p source data time).only part = s.only part := by
  simp only [State.postModule, State.moduleEntry_only hpart, State.ringPost_only hpart, State.only_ite, ite_self]

theorem State.sendPdu_only {part : StatePart} (hpart : part ∉ [.out]) (s : State) (t : Transport) (pdu : List Byte) :
    (s.sendPdu t pdu).only part = s.only part := by
  unfold State.sendPdu
  split <;> simp only [State.emit_only hpart _ (o := .pdu _ _) rfl]

theorem State.sendEvent_only {part : StatePart} (hpart : part ∉ [.edp, .out]) (s : State) (sid n : Nat) :
    (s.sendEvent sid n).only part = s.only part := by
  unfold State.sendEvent
  split <;> simp only [State.setSession_only (outside hpart), State.sendPdu_only (outside hpart),
    State.emit_only (outside hpart) _ (o := .event _ _ _ _ _ _) rfl]

theorem State.notifySession_only {part : StatePart} (hpart : part ∉ [.edp, .out]) (s : State) (sid n : Nat) :
    (s.notifySession sid n).only part = s.only part := by
  unfold State.notifySession
  repeat' split
  all_goals simp only [State.setSession_only (outside hpart), State.sendEvent_only hpart]

theorem State.notify_only {part : StatePart} (hpart : part ∉ [.parts, .pails, .edp, .mem, .out]) (s : State) (n : Nat) :
    (s.notify n).only part = s.only part := by
  simp only [State.notify, State.notifySession_only (outside hpart), State.postModule_only hpart, State.msix_only (outside hpart),
    State.only_ite, ite_self, implies_true, State.foldl_only]

theorem State.setFlag_only {part : StatePart} (hpart : part ∉ [.regs, .parts, .pails, .health, .edp, .mem, .out]) (s : State) (n flag : Nat)
    (info : Option Nat) :
    (s.setFlag n flag info).only part = s.only part := by
  simp only [State.setFlag, State.notify_only (outside hpart), State.setReg_only (outside hpart), State.with_health_only (outside hpart),
    State.only_ite, ite_self]

theorem State.stand_only {part : StatePart} (hpart : part ∉ [.regs, .parts, .pails, .health, .edp, .mem, .out]) (s : State) (n flag : Nat)
    (holds : Bool) (info : Option Nat) :
    (s.stand n flag holds info).only part = s.only part := by
  simp only [State.stand, State.setReg_only (outside hpart), State.setFlag_only hpart, State.only_ite, ite_self]

theorem State.countEv_only {part : StatePart} (hpart : part ∉ [.regs, .parts, .pails, .health, .edp, .mem, .out]) (s : State) (k n : Nat)
    (info : Option Nat) :
    (s.countEv k n info).only part = s.only part := by
  simp only [State.countEv, State.setReg_only (outside hpart), State.setFlag_only hpart, State.only_ite, ite_self]

theorem State.countPort_only {part : StatePart} (hpart : part ∉ [.regs, .ports, .parts, .pails, .health, .edp, .mem, .out]) (s : State)
    (p sub by_ : Nat) :
    (s.countPort p sub by_).only part = s.only part := by
  simp only [State.countPort, State.modPort_only (outside hpart), State.setReg_only (outside hpart), State.setFlag_only (outside hpart),
    State.only_ite, ite_self]

theorem State.overflowDrop_only {part : StatePart} (hpart : part ∉ [.regs, .ports, .parts, .pails, .health, .edp, .mem, .out]) (s : State)
    (p : Nat) :
    (s.overflowDrop p).only part = s.only part := by
  simp only [State.overflowDrop, State.setFlag_only (outside hpart), State.countPort_only hpart]

theorem State.clearStatus_only {part : StatePart} (hpart : part ∉ [.regs]) (s : State) (n value : Nat) :
    (s.clearStatus n value).only part = s.only part := by
  simp only [State.clearStatus, State.setReg_only hpart]

theorem State.writeEnableMask_only {part : StatePart} (hpart : part ∉ [.regs, .parts, .pails, .edp, .mem, .out]) (s : State) (n value : Nat)
    :
    (s.writeEnableMask n value).only part = s.only part := by
  simp only [State.writeEnableMask, State.notify_only (outside hpart), State.setReg_only (outside hpart), State.only_ite, ite_self]

/-! #### The operations of Operands -/

theorem State.setSlot_only {part : StatePart} (hpart : part ∉ [.regs]) (s : State) (n : Nat) (r : SlotRec) :
    (s.setSlot n r).only part = s.only part := by
  simp only [State.setSlot, State.setReg_only hpart]

/-! #### The operations of SwitchOps -/

theorem State.admitCopies_only {part : StatePart} (hpart : part ∉ [.regs, .ports, .sw, .parts, .pails, .health, .edp, .mem, .out])
    (s : State) (n : Nat) (dests : List Dest) :
    (s.admitCopies n dests).state.only part = s.only part := by
  unfold State.admitCopies
  refine State.foldl_proj_only Admission.state (fun a d => ?_) _ _
  split
  · exact State.countPort_only (outside hpart) _ _ _ _
  · rfl
  · exact State.with_sw_only (outside hpart) _ _

theorem State.useMemory_only {part : StatePart} (hpart : part ∉ [.sw]) (s : State) (n : Nat) :
    (s.useMemory n).only part = s.only part := by
  simp only [State.useMemory, State.with_sw_only (outside hpart)]

theorem State.enqueue_only {part : StatePart} (hpart : part ∉ [.sw]) (s : State) (f : SwFrame) (dests : List Dest) :
    (s.enqueue f dests).only part = s.only part := by
  simp only [State.enqueue, State.with_sw_only (outside hpart), State.only_ite, ite_self]

theorem State.emptyDeficits_only {part : StatePart} (hpart : part ∉ [.ports]) (s : State) (p : Nat) :
    (s.emptyDeficits p).only part = s.only part := by
  simp only [State.emptyDeficits, State.modPort_only hpart]

theorem State.leave_only {part : StatePart} (hpart : part ∉ [.ports, .sw]) (s : State) (id port : Nat) :
    (s.leave id port).only part = s.only part := by
  unfold State.leave
  split <;> simp only [State.emptyDeficits_only (outside hpart), State.with_sw_only (outside hpart), State.only_ite, ite_self]

theorem State.trimCells_only {part : StatePart} (hpart : part ∉ [.sw]) (s : State) (id used : Nat) :
    (s.trimCells id used).only part = s.only part := by
  unfold State.trimCells
  split <;> simp only [State.with_sw_only (outside hpart)]

theorem State.takeSeq_only {part : StatePart} (hpart : part ∉ [.sw]) (s : State) (g : Nat) :
    (s.takeSeq g).1.only part = s.only part := by
  simp only [State.takeSeq, State.with_sw_only (outside hpart)]

theorem State.takeSeqs_only {part : StatePart} (hpart : part ∉ [.sw]) (s : State) (dests : List Dest) :
    (s.takeSeqs dests).1.only part = s.only part := by
  simp only [State.takeSeqs, State.takeSeq_only hpart, State.only_ite_fst, ite_self, implies_true, State.foldl_fst_only]

theorem State.sendOwn_only {part : StatePart} (hpart : part ∉ [.regs, .ports, .sw, .parts, .pails, .health, .edp, .mem, .out]) (s : State)
    (f : Frame) (direct : Option (List Nat)) (owner : Option Nat) (tag : Nat) (ptp : Option PtpTx) :
    (s.sendOwn f direct owner tag ptp).state.only part = s.only part := by
  simp only [State.sendOwn, State.overflowDrop_only (outside hpart), State.enqueue_only (outside hpart), State.useMemory_only
    (outside hpart), State.countPort_only (outside hpart), State.admitCopies_only hpart, State.takeSeqs_only (outside hpart), implies_true,
    State.each_only]

theorem State.timestampLost_only {part : StatePart} (hpart : part ∉ [.regs, .ports, .parts, .pails, .health, .edp, .mem, .out]) (s : State)
    (p : Nat) (e : TsEntry) (cause : Nat) :
    (s.timestampLost p e cause).only part = s.only part := by
  simp only [State.timestampLost, State.setReg_only (outside hpart), State.setFlag_only (outside hpart), State.countPort_only hpart,
    State.with_pails_only (outside hpart), implies_true, State.foldl_only]

theorem State.capture_only {part : StatePart} (hpart : part ∉ [.regs, .ports, .parts, .pails, .health, .edp, .mem, .out]) (s : State)
    (p : Nat) (f : SwFrame) (id owner : Nat) :
    (s.capture p f id owner).only part = s.only part := by
  simp only [State.capture, State.setPort_only (outside hpart), State.timestampLost_only hpart, State.only_ite, ite_self]

/-! #### The operations of TimeOps -/

theorem State.setTimeUnit_only {part : StatePart} (hpart : part ∉ [.time]) (s : State) (f : TimeUnit → TimeUnit) :
    (s.setTimeUnit f).only part = s.only part := by
  simp only [State.setTimeUnit, State.with_time_only (outside hpart)]

theorem State.timeFlag_only {part : StatePart} (hpart : part ∉ [.regs, .parts, .pails, .health, .edp, .mem, .out]) (s : State) (flag : Nat)
    :
    (s.timeFlag flag).only part = s.only part := by
  simp only [State.timeFlag, State.setFlag_only hpart]

theorem State.ppsRefresh_only {part : StatePart} (hpart : part ∉ [.time]) (s : State) :
    (s.ppsRefresh).only part = s.only part := by
  unfold State.ppsRefresh
  split <;> simp only [State.setTimeUnit_only hpart, State.only_ite, ite_self]

theorem State.ppsChanged_only {part : StatePart} (hpart : part ∉ [.time]) (s : State) :
    (s.ppsChanged).only part = s.only part := by
  simp only [State.ppsChanged, State.setTimeUnit_only hpart]

theorem State.setServo_only {part : StatePart} (hpart : part ∉ [.regs, .time, .parts, .pails, .health, .edp, .mem, .out]) (s : State)
    (v : Servo) :
    (s.setServo v).only part = s.only part := by
  simp only [State.setServo, State.timeFlag_only (outside hpart), State.setTimeUnit_only (outside hpart), State.stand_only (outside hpart),
    State.ppsRefresh_only (outside hpart), State.only_ite, ite_self]

theorem State.loseSource_only {part : StatePart} (hpart : part ∉ [.regs, .time, .parts, .pails, .health, .edp, .mem, .out]) (s : State) :
    (s.loseSource).only part = s.only part := by
  unfold State.loseSource
  split <;> simp only [State.setServo_only hpart, State.setTimeUnit_only (outside hpart)]

theorem State.takeSource_only {part : StatePart} (hpart : part ∉ [.regs, .time, .parts, .pails, .health, .edp, .mem, .out]) (s : State)
    (src : TimeSource) :
    (s.takeSource src).only part = s.only part := by
  unfold State.takeSource
  split <;> simp only [State.setServo_only hpart, State.timeFlag_only (outside hpart), State.setTimeUnit_only (outside hpart),
    State.only_ite, ite_self]

theorem State.clearRings_only {part : StatePart} (hpart : part ∉ [.dp]) (s : State) :
    (s.clearRings).only part = s.only part := by
  simp only [State.clearRings, State.with_dp_only (outside hpart)]

theorem State.renumber_only {part : StatePart} (hpart : part ∉ [.parts, .pails, .churn, .loops]) (s : State) :
    (s.renumber).only part = s.only part := by
  cases part <;> simp at hpart <;> rfl

theorem State.stepTime_only {part : StatePart} (hpart : part ∉ [.regs, .time, .befores, .dp, .parts, .pails, .churn, .loops, .health, .edp,
    .mem, .out]) (s : State) (offset : Int) :
    (s.stepTime offset).only part = s.only part := by
  have hfields (t : State) (time : TimeUnit) (dp : DataPath) : ({ t with time := time, dp := dp, befores := [] } : State).only part = t.only
    part := by
    cases part <;> simp at hpart <;> rfl
  simp only [State.stepTime, State.setServo_only (outside hpart), State.timeFlag_only (outside hpart), hfields, State.renumber_only
    (outside hpart),
    State.clearRings_only (outside hpart), State.setNow_only (outside hpart), State.ppsRefresh_only (outside hpart), State.only_ite,
      ite_self]

theorem State.steer_only {part : StatePart} (hpart : part ∉ [.time, .freeUsed]) (s : State) :
    (s.steer).only part = s.only part := by
  simp only [State.steer, State.setTimeUnit_only (outside hpart), State.drew_only (outside hpart)]

theorem State.servoUpdate_only {part : StatePart} (hpart : part ∉ [.regs, .time, .befores, .dp, .parts, .pails, .churn, .loops, .health,
    .edp, .mem, .out, .freeUsed]) (s : State) (offset : Int) :
    (s.servoUpdate offset).only part = s.only part := by
  simp only [State.servoUpdate, State.setServo_only (outside hpart), State.timeFlag_only (outside hpart), State.setTimeUnit_only
    (outside hpart), State.stepTime_only (outside hpart), State.steer_only (outside hpart), State.only_ite, ite_self]

theorem State.reselect_only {part : StatePart} (hpart : part ∉ [.regs, .time, .parts, .pails, .health, .edp, .mem, .out]) (s : State) :
    (s.reselect).only part = s.only part := by
  unfold State.reselect
  dsimp only
  repeat' split
  all_goals simp only [State.setReg_only (outside hpart), State.loseSource_only hpart, State.setTimeUnit_only (outside hpart),
    State.takeSource_only hpart]

theorem State.ptpLinkDown_only {part : StatePart} (hpart : part ∉ [.regs, .time, .parts, .pails, .health, .edp, .mem, .out]) (s : State)
    (p : Nat) :
    (s.ptpLinkDown p).only part = s.only part := by
  simp only [State.ptpLinkDown, State.setReg_only (outside hpart), State.setPtpPort_only (outside hpart), State.reselect_only hpart,
    State.only_ite, ite_self]

theorem State.sendPtp_only {part : StatePart} (hpart : part ∉ [.regs, .ports, .sw, .parts, .pails, .health, .edp, .mem, .out]) (s : State)
    (p : Nat) (m : PtpTx) (stamped : Bool) :
    (s.sendPtp p m stamped).only part = s.only part := by
  simp only [State.sendPtp, State.sendOwn_only hpart]

theorem State.residenceKnown_only {part : StatePart} (hpart : part ∉ [.regs, .time, .ports, .sw, .parts, .pails, .health, .edp, .mem, .out])
    (s : State) (p seq : Nat) (r : Int) :
    (s.residenceKnown p seq r).only part = s.only part := by
  unfold State.residenceKnown
  dsimp only
  split <;> simp only [State.setPtpPort_only (outside hpart), State.sendPtp_only (outside hpart)]

/-! #### The operations of PortOps -/

theorem State.noteLoad_only {part : StatePart} (hpart : part ∉ [.ports]) (s : State) (p octets : Nat) (sent : Bool) :
    (s.noteLoad p octets sent).only part = s.only part := by
  simp only [State.noteLoad, State.modPort_only hpart, State.only_ite, ite_self]

theorem State.countGood_only {part : StatePart} (hpart : part ∉ [.regs, .ports, .parts, .pails, .health, .edp, .mem, .out]) (s : State)
    (p dir : Nat) (f : Frame) (len : Nat) :
    (s.countGood p dir f len).only part = s.only part := by
  simp only [State.countGood, State.countPort_only hpart, State.when_only]

theorem State.pauseRule_only {part : StatePart} (hpart : part ∉ [.ports]) (s : State) (p : Nat) :
    (s.pauseRule p).only part = s.only part := by
  simp only [State.pauseRule, State.setPort_only hpart, State.only_ite, ite_self]

theorem State.occupancy_only {part : StatePart} (hpart : part ∉ [.ports, .freeUsed]) (s : State) (p most : Nat) :
    (s.occupancy p most).only part = s.only part := by
  simp only [State.occupancy, State.modPort_only (outside hpart), State.drew_only (outside hpart), State.pauseRule_only (outside hpart)]

theorem State.pauseBegins_only {part : StatePart} (hpart : part ∉ [.ports]) (s : State) (p : Nat) :
    (s.pauseBegins p).only part = s.only part := by
  simp only [State.pauseBegins, State.modPort_only hpart]

theorem State.stomp_only {part : StatePart} (hpart : part ∉ [.regs, .ports, .sw, .parts, .pails, .health, .edp, .mem, .out]) (s : State)
    (id p octets : Nat) :
    (s.stomp id p octets).only part = s.only part := by
  simp only [State.stomp, State.modPort_only (outside hpart), State.leave_only (outside hpart), State.noteLoad_only (outside hpart),
    State.countPort_only (outside hpart), State.pauseBegins_only (outside hpart),
    State.emit_only (outside hpart) _ (o := .stomped _ _) rfl, State.only_ite, ite_self]

theorem State.badFrame_only {part : StatePart} (hpart : part ∉ [.regs, .ports, .sw, .parts, .pails, .health, .edp, .mem, .out]) (s : State)
    (id octets : Nat) :
    (s.badFrame id octets).only part = s.only part := by
  unfold State.badFrame
  split <;> simp only [State.leave_only (outside hpart), State.stomp_only hpart, State.only_ite, ite_self, implies_true, State.each_only]

theorem State.dropLocal_only {part : StatePart} (hpart : part ∉ [.sw]) (s : State) (p : Nat) :
    (s.dropLocal p).only part = s.only part := by
  simp only [State.dropLocal, State.with_sw_only (outside hpart)]

theorem State.linkLoss_only {part : StatePart} (hpart : part ∉ [.regs, .time, .ports, .sw, .parts, .pails, .health, .edp, .mem, .out])
    (s : State) (p : Nat) :
    (s.linkLoss p).only part = s.only part := by
  unfold State.linkLoss
  split
  · rfl
  · simp only [State.setFlag_only (outside hpart), State.ptpLinkDown_only (outside hpart), State.modPort_only (outside hpart)]
    have hframes (t : State) : (t.each (s.framesAt p) fun id t => (t.leave id p).countPort p 0x27).only part = t.only part := by
      simp only [State.each_only, State.countPort_only (outside hpart), State.leave_only (outside hpart), implies_true]
    split
    · rw [hframes]
      split
      · exact State.countPort_only (outside hpart) _ _ _ _
      · rfl
    · rw [State.dropLocal_only (outside hpart)]
      split <;> simp only [State.badFrame_only (outside hpart), State.only_ite, State.countPort_only (outside hpart), hframes, ite_self] <;>
      · split
        · exact State.countPort_only (outside hpart) _ _ _ _
        · rfl

theorem State.pcsLoss_only {part : StatePart} (hpart : part ∉ [.regs, .time, .ports, .sw, .parts, .pails, .health, .edp, .mem, .out])
    (s : State) (p : Nat) :
    (s.pcsLoss p).only part = s.only part := by
  simp only [State.pcsLoss, State.modPort_only (outside hpart), State.linkLoss_only hpart]

theorem State.linkGain_only {part : StatePart} (hpart : part ∉ [.regs, .ports, .parts, .pails, .health, .edp, .mem, .out]) (s : State)
    (p : Nat) :
    (s.linkGain p).only part = s.only part := by
  simp only [State.linkGain, State.setFlag_only (outside hpart), State.setPort_only (outside hpart), State.only_ite, ite_self]

/-! #### The operations of PairOps -/

theorem State.setPair_only {part : StatePart} (hpart : part ∉ [.pair]) (s : State) (f : Pair → Pair) :
    (s.setPair f).only part = s.only part := by
  simp only [State.setPair, State.with_pair_only (outside hpart)]

theorem State.pairFlag_only {part : StatePart} (hpart : part ∉ [.regs, .parts, .pails, .health, .edp, .mem, .out]) (s : State) (flag : Nat)
    :
    (s.pairFlag flag).only part = s.only part := by
  simp only [State.pairFlag, State.setFlag_only hpart]

theorem State.pairStand_only {part : StatePart} (hpart : part ∉ [.regs, .parts, .pails, .health, .edp, .mem, .out]) (s : State) (flag : Nat)
    (holds : Bool) :
    (s.pairStand flag holds).only part = s.only part := by
  simp only [State.pairStand, State.stand_only hpart]

theorem State.nextSeq_only {part : StatePart} (hpart : part ∉ [.pair]) (s : State) :
    (s.nextSeq).only part = s.only part := by
  simp only [State.nextSeq, State.setPair_only hpart]

theorem State.roleFrame_only {part : StatePart} (hpart : part ∉ [.pair, .out]) (s : State) (op : Nat) (m : RoleMsg) :
    (s.roleFrame op m).only part = s.only part := by
  simp only [State.roleFrame, State.nextSeq_only (outside hpart), State.emit_only (outside hpart) _ (o := .role _ _ _) rfl, State.only_ite,
    ite_self]

theorem State.sendRole_only {part : StatePart} (hpart : part ∉ [.pair, .out]) (s : State) (op : Nat) (m : RoleMsg) :
    (s.sendRole op m).only part = s.only part := by
  simp only [State.sendRole, State.setPair_only (outside hpart), State.roleFrame_only hpart, State.only_ite, ite_self]

theorem State.takeOpId_only {part : StatePart} (hpart : part ∉ [.pair]) (s : State) :
    (s.takeOpId).1.only part = s.only part := by
  simp only [State.takeOpId, State.setPair_only hpart]

theorem State.newRole_only {part : StatePart} (hpart : part ∉ [.pair, .out]) (s : State) (op reason : Nat) (atTick arg : Nat) :
    (s.newRole op reason atTick arg).only part = s.only part := by
  simp only [State.newRole, State.takeOpId_only (outside hpart), State.sendRole_only hpart]

theorem State.answered_only {part : StatePart} (hpart : part ∉ [.pair]) (s : State) (id : Nat) (ops : List Nat) :
    (s.answered id ops).only part = s.only part := by
  simp only [State.answered, State.setPair_only hpart]

theorem State.setRole_only {part : StatePart} (hpart : part ∉ [.regs, .parts, .pails, .pair, .health, .edp, .mem, .out]) (s : State)
    (r : Role) :
    (s.setRole r).only part = s.only part := by
  simp only [State.setRole, State.setReg_only (outside hpart), State.count_only (outside hpart), State.setPair_only (outside hpart),
    State.pairFlag_only (outside hpart), State.only_ite, ite_self]

theorem State.configMismatch_only {part : StatePart} (hpart : part ∉ [.regs, .parts, .pails, .pair, .health, .edp, .mem, .out]) (s : State)
    :
    (s.configMismatch).only part = s.only part := by
  simp only [State.configMismatch, State.setPair_only (outside hpart), State.pairFlag_only (outside hpart)]

theorem State.sendSection_only {part : StatePart} (hpart : part ∉ [.pair, .out]) (s : State) (kind id tick : Nat) (data : List Byte) :
    (s.sendSection kind id tick data).only part = s.only part := by
  simp only [State.sendSection, State.nextSeq_only (outside hpart), State.setPair_only (outside hpart),
    State.emit_only (outside hpart) _ (o := .state _ _) rfl,
    State.only_ite, ite_self, implies_true, State.each_only]

theorem State.sendChange_only {part : StatePart} (hpart : part ∉ [.pair, .out]) (s : State) (c : Change) :
    (s.sendChange c).only part = s.only part := by
  simp only [State.sendChange, State.sendSection_only hpart]

theorem State.livePair_only {part : StatePart} (hpart : part ∉ [.pair, .out]) (s : State) (index sub : Nat) (value : List Byte) (check : Option Nat)
    {apply : State → State} (ha : (apply s).only part = s.only part) : (s.livePair index sub value check apply).state.only part = s.only part := by
  unfold State.livePair
  split
  · rfl
  · split
    · rfl
    · simp only [Answer.only_ite, State.ok, State.sendChange_only hpart, State.setPair_only (outside hpart), ha, ite_self]

/-! #### The operations of Retire -/

theorem State.setHealth_only {part : StatePart} (hpart : part ∉ [.health]) (s : State) (f : Health → Health) :
    (s.setHealth f).only part = s.only part := by
  simp only [State.setHealth, State.with_health_only (outside hpart)]

theorem State.setPower_only {part : StatePart} (hpart : part ∉ [.power]) (s : State) (f : Power → Power) :
    (s.setPower f).only part = s.only part := by
  simp only [State.setPower, State.with_power_only (outside hpart)]

theorem State.noteError_only {part : StatePart} (hpart : part ∉ [.health]) (s : State) (unit w : Nat) :
    (s.noteError unit w).1.only part = s.only part := by
  simp only [State.noteError, State.setHealth_only hpart]

theorem State.healthFlag_only {part : StatePart} (hpart : part ∉ [.regs, .parts, .pails, .health, .edp, .mem, .out]) (s : State)
    (flag : Nat) (info : Option Nat) :
    (s.healthFlag flag info).only part = s.only part := by
  simp only [State.healthFlag, State.setFlag_only hpart]

theorem State.recordRetirement_only {part : StatePart} (hpart : part ∉ [.regs, .parts, .pails, .health, .edp, .mem, .out]) (s : State)
    (unit cause count : Nat) :
    (s.recordRetirement unit cause count).only part = s.only part := by
  simp only [State.recordRetirement, State.setHealth_only (outside hpart), State.healthFlag_only hpart, State.only_ite, ite_self]

theorem State.retirePort_only {part : StatePart} (hpart : part ∉ [.regs, .time, .ports, .sw, .parts, .pails, .health, .edp, .mem, .out])
    (s : State) (p cause count : Nat) :
    (s.retirePort p cause count).only part = s.only part := by
  simp only [State.retirePort, State.modPort_only (outside hpart), State.setFlag_only (outside hpart), State.linkLoss_only hpart,
    State.recordRetirement_only (outside hpart)]

theorem State.laneFlag_only {part : StatePart} (hpart : part ∉ [.regs, .parts, .pails, .health, .edp, .mem, .out]) (s : State)
    (flag lane : Nat) :
    (s.laneFlag flag lane).only part = s.only part := by
  simp only [State.laneFlag, State.setFlag_only hpart]

theorem State.retireLane_only {part : StatePart} (hpart : part ∉ [.regs, .parts, .pails, .pair, .health, .edp, .mem, .out]) (s : State)
    (l cause count : Nat) :
    (s.retireLane l cause count).only part = s.only part := by
  simp only [State.retireLane, State.laneFlag_only (outside hpart), State.recordRetirement_only (outside hpart), State.setPair_only
    (outside hpart)]

theorem State.coverage_only {part : StatePart} (hpart : part ∉ [.regs, .parts, .pails, .health, .edp, .mem, .out]) (s : State) :
    (s.coverage).only part = s.only part := by
  simp only [State.coverage, State.setReg_only (outside hpart), State.stand_only hpart]

theorem State.lastGasp_only {part : StatePart} (hpart : part ∉ [.health]) (s : State) (cause : Nat) :
    (s.lastGasp cause).only part = s.only part := by
  simp only [State.lastGasp, State.setHealth_only hpart, State.only_ite, ite_self]

theorem State.withdraw_only {part : StatePart} (hpart : part ∉ [.pair, .health, .power, .out]) (s : State) (cause : Nat) :
    (s.withdraw cause).only part = s.only part := by
  simp only [State.withdraw, State.newRole_only (outside hpart), State.lastGasp_only (outside hpart), State.setPower_only (outside hpart),
    State.only_ite, ite_self]

/-! #### The operations of HistoryOps -/

theorem State.setHist_only {part : StatePart} (hpart : part ∉ [.hist]) (s : State) (f : History → History) :
    (s.setHist f).only part = s.only part := by
  simp only [State.setHist, State.with_hist_only (outside hpart)]

theorem State.histFlag_only {part : StatePart} (hpart : part ∉ [.regs, .parts, .pails, .health, .edp, .mem, .out]) (s : State)
    (flag w : Nat) :
    (s.histFlag flag w).only part = s.only part := by
  simp only [State.histFlag, State.setFlag_only hpart]

theorem State.holdWindows_only {part : StatePart} (hpart : part ∉ [.regs, .hist, .parts, .pails, .health, .edp, .mem, .out]) (s : State) :
    (s.holdWindows).only part = s.only part := by
  simp only [State.holdWindows, State.setWindow_only (outside hpart), State.histFlag_only (outside hpart), implies_true, State.each_only]

theorem State.freezeRefused_only {part : StatePart} (hpart : part ∉ [.regs, .parts, .pails, .health, .edp, .mem, .out]) (s : State) :
    (s.freezeRefused).only part = s.only part := by
  simp only [State.freezeRefused, State.setFlag_only hpart, State.count_only (outside hpart)]

theorem State.trigger_only {part : StatePart} (hpart : part ∉ [.regs, .hist, .parts, .pails, .health, .edp, .mem, .out]) (s : State)
    (g : Nat) :
    (s.trigger g).only part = s.only part := by
  unfold State.trigger
  repeat' split
  all_goals simp only [State.setWindow_only (outside hpart), State.freezeRefused_only (outside hpart), State.histFlag_only (outside hpart),
    State.holdWindows_only hpart, State.only_ite, ite_self]

theorem State.emptyStore_only {part : StatePart} (hpart : part ∉ [.regs, .hist, .parts, .pails, .health, .edp, .mem, .out]) (s : State) :
    (s.emptyStore).only part = s.only part := by
  simp only [State.emptyStore, State.setFlag_only (outside hpart), State.setHist_only (outside hpart)]

/-! #### The operations of KeyOps -/

theorem State.setSec_only {part : StatePart} (hpart : part ∉ [.sec]) (s : State) (f : Security → Security) :
    (s.setSec f).only part = s.only part := by
  simp only [State.setSec, State.with_sec_only (outside hpart)]

theorem State.keysFlag_only {part : StatePart} (hpart : part ∉ [.regs, .parts, .pails, .health, .edp, .mem, .out]) (s : State)
    (flag slot : Nat) :
    (s.keysFlag flag slot).only part = s.only part := by
  simp only [State.keysFlag, State.setFlag_only hpart]

theorem State.useSlot_only {part : StatePart} (hpart : part ∉ [.regs, .parts, .pails, .health, .edp, .mem, .out]) (s : State) (slot : Nat)
    (c : Consumer) :
    (s.useSlot slot c).2.only part = s.only part := by
  unfold State.useSlot
  split <;> simp only [State.keysFlag_only hpart, State.count_only (outside hpart)]

theorem State.verifiesWith_only {part : StatePart} (hpart : part ∉ [.regs, .parts, .pails, .health, .edp, .mem, .out]) (s : State)
    (slot : Nat) (c : Consumer) (a : AuthExt) :
    (s.verifiesWith slot c a).2.only part = s.only part := by
  simp only [State.verifiesWith, State.useSlot_only hpart]

theorem State.verifyAuth_only {part : StatePart} (hpart : part ∉ [.regs, .parts, .pails, .health, .edp, .mem, .out]) (s : State) (a b : Nat)
    (c : Consumer) (auth : Option AuthExt) :
    (s.verifyAuth a b c auth).2.only part = s.only part := by
  unfold State.verifyAuth
  split <;> simp only [State.verifiesWith_only hpart, State.only_ite_snd, ite_self]

/-! #### The operations of Ingest -/

theorem State.setDp_only {part : StatePart} (hpart : part ∉ [.dp]) (s : State) (f : DataPath → DataPath) :
    (s.setDp f).only part = s.only part := by
  simp only [State.setDp, State.with_dp_only (outside hpart)]

theorem State.ingestFlag_only {part : StatePart} (hpart : part ∉ [.regs, .parts, .pails, .health, .edp, .mem, .out]) (s : State)
    (flag n : Nat) :
    (s.ingestFlag flag n).only part = s.only part := by
  simp only [State.ingestFlag, State.setFlag_only hpart]

theorem State.svCount_only {part : StatePart} (hpart : part ∉ [.regs, .parts, .pails, .health, .edp, .mem, .out]) (s : State) (k n : Nat) :
    (s.svCount k n).only part = s.only part := by
  simp only [State.svCount, State.countEv_only hpart]

theorem State.asOf_only {part : StatePart} (hpart : part ∉ [.regs, .blobs]) (s : State) (t : Nat) : (s.asOf t).only part = s.only part := by
  unfold State.asOf
  split
  · cases part <;> simp at hpart <;> rfl
  · rfl

theorem State.svLateOne_only {part : StatePart} (hpart : part ∉ [.regs, .dp, .parts, .pails, .health, .edp, .mem, .out]) (s : State)
    (n j : Nat) :
    (s.svLateOne n j).only part = s.only part := by
  simp only [State.svLateOne, State.setStream_only (outside hpart), State.svCount_only (outside hpart), State.setDp_only (outside hpart),
    State.ingestFlag_only (outside hpart)]

theorem State.svStore_only {part : StatePart} (hpart : part ∉ [.regs, .dp, .parts, .pails, .health, .edp, .mem, .out]) (s cfg : State)
    (n j arrival : Nat) (a : Asdu) :
    (s.svStore cfg n j arrival a).only part = s.only part := by
  simp only [State.svStore, State.setStream_only (outside hpart), State.svLateOne_only hpart, State.svCount_only (outside hpart),
    State.only_ite, ite_self]

theorem State.svAccept_only {part : StatePart} (hpart : part ∉ [.regs, .dp, .parts, .pails, .health, .edp, .mem, .out]) (s cfg : State)
    (n j arrival : Nat) (a : Asdu) :
    (s.svAccept cfg n j arrival a).only part = s.only part := by
  simp only [State.svAccept, State.setReg_only (outside hpart), State.setStream_only (outside hpart), State.svCount_only (outside hpart),
    State.svStore_only hpart, State.ingestFlag_only (outside hpart), State.only_ite, ite_self, implies_true, State.each_only,
    State.when_only]

theorem State.svReceive_only {part : StatePart} (hpart : part ∉ [.regs, .blobs, .dp, .parts, .pails, .health, .edp, .mem, .out]) (s : State)
    (a : Asdu) :
    (s.svReceive a).only part = s.only part := by
  unfold State.svReceive
  dsimp only
  repeat' split
  all_goals simp only [State.verifyAuth_only (outside hpart), State.svCount_only (outside hpart), State.countEv_only (outside hpart),
    State.svAccept_only (outside hpart), State.ingestFlag_only (outside hpart)]

theorem State.judgeSample_only {part : StatePart} (hpart : part ∉ [.regs, .dp, .parts, .pails, .health, .edp, .mem, .out]) (s : State)
    (n deadline j : Nat) :
    (s.judgeSample n deadline j).only part = s.only part := by
  unfold State.judgeSample
  dsimp only
  split <;> simp only [State.setStream_only (outside hpart), State.svCount_only (outside hpart), State.only_ite, ite_self]

theorem State.lateEnds_only {part : StatePart} (hpart : part ∉ [.regs, .dp, .parts, .pails, .health, .edp, .mem, .out]) (s : State)
    (n : Nat) :
    (s.lateEnds n).only part = s.only part := by
  simp only [State.lateEnds, State.setStream_only (outside hpart), State.svLateOne_only hpart, implies_true, State.each_only]

theorem State.showLate_only {part : StatePart} (hpart : part ∉ [.dp]) (s : State) :
    (s.showLate).only part = s.only part := by
  simp only [State.showLate, State.setDp_only hpart]

theorem State.judgeStream_only {part : StatePart} (hpart : part ∉ [.regs, .dp, .parts, .pails, .health, .edp, .mem, .out]) (s cfg : State)
    (i deadline n : Nat) :
    (s.judgeStream cfg i deadline n).only part = s.only part := by
  unfold State.judgeStream
  split <;> simp only [State.setStream_only (outside hpart), State.judgeSample_only hpart, implies_true, State.each_only]

theorem State.judgeAlive_only {part : StatePart} (hpart : part ∉ [.regs, .dp, .parts, .pails, .health, .edp, .mem, .out]) (s : State)
    (deadline n : Nat) :
    (s.judgeAlive deadline n).only part = s.only part := by
  simp only [State.judgeAlive, State.setReg_only (outside hpart), State.setStream_only (outside hpart), State.ingestFlag_only
    (outside hpart), State.only_ite, ite_self]

theorem State.dropArrivals_only {part : StatePart} (hpart : part ∉ [.dp]) (s : State) (deadline : Nat) :
    (s.dropArrivals deadline).only part = s.only part := by
  simp only [State.dropArrivals, State.setDp_only hpart]

theorem State.closeWindow_only {part : StatePart} (hpart : part ∉ [.regs, .blobs, .dp, .parts, .pails, .health, .edp, .mem, .out])
    (s : State) (i : Nat) :
    (s.closeWindow i).only part = s.only part := by
  simp only [State.closeWindow, State.setReg_only (outside hpart), State.judgeAlive_only (outside hpart), State.judgeStream_only
    (outside hpart), State.dropArrivals_only (outside hpart), State.showLate_only (outside hpart), State.setDp_only (outside hpart),
    State.lateEnds_only (outside hpart), State.only_ite, ite_self, implies_true, State.each_only]

/-! #### The operations of Image -/

theorem State.scanSample_only {part : StatePart} (hpart : part ∉ [.regs, .dp, .parts, .pails, .health, .edp, .mem, .out]) (s cfg : State)
    (c n : Nat) (i j : Nat) :
    (s.scanSample cfg c n i j).only part = s.only part := by
  unfold State.scanSample
  dsimp only
  repeat' split
  all_goals simp only [State.setStream_only (outside hpart), State.setChan_only (outside hpart), State.svCount_only (outside hpart),
    State.ingestFlag_only (outside hpart)]

theorem State.countRestart_only {part : StatePart} (hpart : part ∉ [.regs]) (s : State) (c : Nat) :
    (s.countRestart c).only part = s.only part := by
  simp only [State.countRestart, State.setReg_only hpart]

theorem State.prepareChannel_only {part : StatePart} (hpart : part ∉ [.regs, .dp]) (s cfg : State) (c i : Nat) :
    (s.prepareChannel cfg c i).only part = s.only part := by
  unfold State.prepareChannel
  dsimp only
  repeat' split
  all_goals simp only [State.setChan_only (outside hpart), State.countRestart_only (outside hpart)]

theorem State.channelSource_only {part : StatePart} (hpart : part ∉ [.dp]) (s cfg : State) (c n i : Nat) :
    (s.channelSource cfg c n i).only part = s.only part := by
  simp only [State.channelSource, State.setChan_only hpart, State.only_ite, ite_self]

theorem State.incomplete_only {part : StatePart} (hpart : part ∉ [.freeUsed]) (s cfg : State) (i : Nat) :
    (s.incomplete cfg i).2.only part = s.only part := by
  unfold State.incomplete
  refine State.foldl_proj_only Prod.snd (fun x slice => ?_) _ _
  simp only [State.only_ite_snd, State.drew_only hpart, ite_self]

theorem State.buildInvalid_only {part : StatePart} (hpart : part ∉ [.dp]) (s cfg : State) (c n : Nat) (i cause : Nat) :
    (s.buildInvalid cfg c n i cause).state.only part = s.only part := by
  simp only [State.buildInvalid, State.setChan_only hpart]

theorem State.buildValid_only {part : StatePart} (hpart : part ∉ [.regs, .dp]) (s cfg : State) (c n : Nat) (m i : Nat) :
    (s.buildValid cfg c n m i).state.only part = s.only part := by
  simp only [State.buildValid, State.setChan_only (outside hpart), State.prepareChannel_only hpart]

theorem State.buildChannel_only {part : StatePart} (hpart : part ∉ [.regs, .dp, .parts, .pails, .health, .edp, .mem, .out]) (s cfg : State)
    (lost : List Nat) (i c : Nat) (n m : Nat) :
    (s.buildChannel cfg lost i c n m).state.only part = s.only part := by
  simp only [State.buildChannel, Built.only_ite, State.buildInvalid_only (outside hpart), State.buildValid_only (outside hpart),
    State.each_only, State.scanSample_only (outside hpart), State.channelSource_only (outside hpart), implies_true, ite_self]

theorem State.releaseImage_only {part : StatePart} (hpart : part ∉ [.regs, .blobs, .dp, .hist, .parts, .pails, .health, .edp, .mem, .out,
    .freeUsed]) (s : State) (i : Nat) :
    (s.releaseImage i).only part = s.only part := by
  unfold State.releaseImage
  split
  · rfl
  · rw [State.setDp_only (outside hpart), State.when_only (State.setHist_only (outside hpart) _ _),
      State.each_only fun n t => State.when_only (State.setFlag_only (outside hpart) _ _ _ _) _, State.setReg_only (outside hpart)]
    refine (State.foldl_fst_only (fun acc e => ?_) _ _).trans (State.incomplete_only (outside hpart) _ _ _)
    obtain ⟨c, n, m⟩ := e
    exact (Built.pair_only (acc.1.buildChannel _ _ _ c n m) acc.2 c).trans (State.buildChannel_only (outside hpart) _ _ _ _ _ _ _)

/-! #### The operations of Phasor -/

theorem State.putFreq_only {part : StatePart} (hpart : part ∉ [.regs, .dp, .parts, .pails, .health, .edp, .mem, .out]) (s : State)
    (g i : Nat) (f : FreqStep) :
    (s.putFreq g i f).only part = s.only part := by
  simp only [State.putFreq, State.setReg_only (outside hpart), State.setFlag_only (outside hpart), State.setDp_only (outside hpart),
    State.when_only]

theorem State.releasePhasors_only {part : StatePart} (hpart : part ∉ [.regs, .blobs, .dp, .parts, .pails, .health, .edp, .mem, .out])
    (s : State) (i : Nat) :
    (s.releasePhasors i).only part = s.only part := by
  simp only [State.releasePhasors, State.putFreq_only (outside hpart), State.setDp_only (outside hpart), State.only_ite, ite_self,
    implies_true, State.each_only]

/-! #### The operations of Fallback -/

theorem State.fbFlag_only {part : StatePart} (hpart : part ∉ [.regs, .parts, .pails, .health, .edp, .mem, .out]) (s : State) (flag : Nat) :
    (s.fbFlag flag).only part = s.only part := by
  simp only [State.fbFlag, State.setFlag_only hpart]

theorem State.sliceFlag_only {part : StatePart} (hpart : part ∉ [.regs, .parts, .pails, .health, .edp, .mem, .out]) (s : State)
    (slice flag group : Nat) :
    (s.sliceFlag slice flag group).only part = s.only part := by
  simp only [State.sliceFlag, State.setFlag_only hpart]

theorem State.fixShed_only {part : StatePart} (hpart : part ∉ [.regs, .dp, .parts, .pails, .health, .edp, .mem, .out]) (s : State) (b : Nat)
    :
    (s.fixShed b).only part = s.only part := by
  simp only [State.fixShed, State.setReg_only (outside hpart), State.stand_only (outside hpart), State.setDp_only (outside hpart)]

theorem State.retireSlice_only {part : StatePart} (hpart : part ∉ [.regs, .parts, .pails, .health, .edp, .mem, .out]) (s : State)
    (slice cause : Nat) (count group : Nat) :
    (s.retireSlice slice cause count group).only part = s.only part := by
  simp only [State.retireSlice, State.sliceFlag_only hpart, State.recordRetirement_only hpart]

theorem State.residueMismatch_only {part : StatePart} (hpart : part ∉ [.regs, .dp, .parts, .pails, .health, .edp, .mem, .out]) (s : State)
    (slice group : Nat) :
    (s.residueMismatch slice group).only part = s.only part := by
  simp only [State.residueMismatch, State.sliceFlag_only (outside hpart), State.recordRetirement_only (outside hpart),
    State.retireSlice_only (outside hpart), State.noteError_only (outside hpart), State.fbFlag_only (outside hpart), State.setDp_only
    (outside hpart), State.count_only (outside hpart), State.only_ite, ite_self]

theorem State.handover_only {part : StatePart} (hpart : part ∉ [.regs, .dp, .parts, .pails, .pair, .health, .edp, .mem, .out]) (s : State)
    (slice : Nat) :
    (s.handover slice).only part = s.only part := by
  unfold State.handover
  split <;> simp only [State.sliceFlag_only (outside hpart), State.setChan_only (outside hpart), State.fixShed_only (outside hpart),
    State.fbFlag_only (outside hpart), State.setDp_only (outside hpart), State.setPair_only (outside hpart), State.only_ite, ite_self,
    implies_true, State.each_only, State.when_only]

theorem State.fallbackReturn_only {part : StatePart} (hpart : part ∉ [.regs, .dp, .parts, .pails, .health, .edp, .mem, .out]) (s : State)
    (slice : Nat) :
    (s.fallbackReturn slice).only part = s.only part := by
  unfold State.fallbackReturn
  repeat' split
  all_goals simp only [State.sliceFlag_only (outside hpart), State.fixShed_only hpart, State.fbFlag_only (outside hpart), State.setDp_only
    (outside hpart), State.when_only]

/-! #### The operations of History -/

theorem State.writeFrame_only {part : StatePart} (hpart : part ∉ [.regs, .hist, .parts, .pails, .health, .edp, .mem, .out]) (s : State)
    (g : Nat) :
    (s.writeFrame g).only part = s.only part := by
  simp only [State.writeFrame, State.setHist_only (outside hpart), State.holdWindows_only hpart]

theorem State.curdFrame_only {part : StatePart} (hpart : part ∉ [.regs, .hist, .parts, .pails, .health, .edp, .mem, .out]) (s : State)
    (g : Nat) :
    (s.curdFrame g).only part = s.only part := by
  simp only [State.curdFrame, State.writeFrame_only hpart, State.only_ite, ite_self]

theorem State.applyTriggerNow_only {part : StatePart} (hpart : part ∉ [.regs, .hist, .parts, .pails, .health, .edp, .mem, .out]) (s : State)
    (value : Nat) :
    (s.applyTriggerNow value).only part = s.only part := by
  unfold State.applyTriggerNow
  split <;> simp only [State.trigger_only hpart, State.only_ite, ite_self]

theorem State.writeTriggerNow_only {part : StatePart} (hpart : part ∉ [.regs, .hist, .parts, .pails, .pair, .health, .edp, .mem, .out])
    (s : State) (value : Nat) :
    (s.writeTriggerNow value).state.only part = s.only part := by
  simp only [State.writeTriggerNow, State.applyTriggerNow_only (outside hpart), State.livePair_only (outside hpart), Answer.only_ite,
    ite_self, State.refuse]

theorem State.writeReleaseWindow_only {part : StatePart} (hpart : part ∉ [.hist]) (s : State) (w : Nat) :
    (s.writeReleaseWindow w).state.only part = s.only part := by
  simp only [State.writeReleaseWindow, State.setWindow_only hpart, Answer.only_ite, ite_self, State.refuse, State.ok]

theorem State.applyFreezeMap_only {part : StatePart} (hpart : part ∉ [.regs]) (s : State) (map : Nat) :
    (s.applyFreezeMap map).only part = s.only part := by
  simp only [State.applyFreezeMap, State.setReg_only hpart]

theorem State.writeFreezeMap_only {part : StatePart} (hpart : part ∉ [.regs, .pair, .out]) (s : State) (map : Nat) :
    (s.writeFreezeMap map).state.only part = s.only part := by
  simp only [State.writeFreezeMap, State.livePair_only (outside hpart), State.applyFreezeMap_only (outside hpart)]

/-! #### The operations of PartOps -/

theorem State.setPartRun_only {part : StatePart} (hpart : part ∉ [.parts]) (s : State) (n : Nat) (r : RunState) :
    (s.setPartRun n r).only part = s.only part := by
  simp only [State.setPartRun, State.modPart_only hpart]

theorem State.callReturn_only {part : StatePart} (hpart : part ∉ [.parts]) (s : State) (n : Nat) (status : Int) (results : List Int) :
    (s.callReturn n status results).only part = s.only part := by
  simp only [State.callReturn, State.modPart_only hpart]

theorem State.askRestart_only {part : StatePart} (hpart : part ∉ [.parts]) (s : State) (n cause from_ : Nat) :
    (s.askRestart n cause from_).only part = s.only part := by
  simp only [State.askRestart, State.modPart_only hpart]

theorem State.loadProgram_only {part : StatePart} (hpart : part ∉ [.mem]) (s : State) (n : Nat) :
    (s.loadProgram n).only part = s.only part := by
  simp only [State.loadProgram, State.storeBytes_only hpart, State.with_mem_only (outside hpart), implies_true, State.each_only]

theorem State.sendRegions_only {part : StatePart} (hpart : part ∉ [.pair, .out]) (s : State) (n : Nat) :
    (s.sendRegions n).only part = s.only part := by
  simp only [State.sendRegions, State.sendSection_only hpart, implies_true, State.each_only]

theorem State.loseWork_only {part : StatePart} (hpart : part ∉ [.parts, .pair, .out]) (s : State) (n to_ : Nat) :
    (s.loseWork n to_).only part = s.only part := by
  simp only [State.loseWork, State.newRole_only (outside hpart), State.modPart_only (outside hpart), State.only_ite, ite_self]

theorem State.writeResync_only {part : StatePart} (hpart : part ∉ [.parts, .pails, .edp, .mem, .out]) (s : State) (n : Nat) :
    (s.writeResync n).only part = s.only part := by
  unfold State.writeResync
  split
  · rfl
  · refine (State.each_only (fun e t => ?_) _ _).trans (State.modPart_only (outside hpart) _ _ _)
    dsimp only
    split
    · rfl
    · split <;> simp only [State.post_only (outside hpart), State.modPart_only (outside hpart), State.storeBytes_only (outside hpart)]

/-! #### The operations of Separator -/

theorem State.setSw_only {part : StatePart} (hpart : part ∉ [.sw]) (s : State) (f : Switch → Switch) :
    (s.setSw f).only part = s.only part := by
  simp only [State.setSw, State.with_sw_only (outside hpart)]

theorem State.sepFlag_only {part : StatePart} (hpart : part ∉ [.regs, .parts, .pails, .health, .edp, .mem, .out]) (s : State) (flag : Nat) :
    (s.sepFlag flag).only part = s.only part := by
  simp only [State.sepFlag, State.setFlag_only hpart]

theorem State.sepCount_only {part : StatePart} (hpart : part ∉ [.regs, .parts, .pails, .health, .edp, .mem, .out]) (s : State) (k : Nat) :
    (s.sepCount k).only part = s.only part := by
  simp only [State.sepCount, State.countEv_only hpart]

theorem State.judge_only {part : StatePart} (hpart : part ∉ [.regs, .sw, .parts, .pails, .health, .edp, .mem, .out]) (s : State)
    (g mac : Nat) (n purpose : Nat) :
    (s.judge g mac n purpose).state.only part = s.only part := by
  unfold State.judge
  dsimp only
  repeat' split
  all_goals simp only [State.sepCount_only (outside hpart), State.setSw_only (outside hpart), State.sepFlag_only (outside hpart)]

theorem State.markProxied_only {part : StatePart} (hpart : part ∉ [.regs, .sw, .parts, .pails, .health, .edp, .mem, .out]) (s : State)
    (g mac : Nat) :
    (s.markProxied g mac).only part = s.only part := by
  unfold State.markProxied
  split <;> simp only [State.sepCount_only (outside hpart), State.setSw_only (outside hpart), State.sepFlag_only (outside hpart)]

theorem State.heardTagged_only {part : StatePart} (hpart : part ∉ [.sw]) (s : State) (g : Nat) (a : Bool) :
    (s.heardTagged g a).only part = s.only part := by
  simp only [State.heardTagged, State.setSw_only hpart]

theorem State.judgePrp_only {part : StatePart} (hpart : part ∉ [.regs, .sw, .parts, .pails, .health, .edp, .mem, .out]) (s : State)
    (g : Nat) (a : Bool) (f : Frame) :
    (s.judgePrp g a f).state.only part = s.only part := by
  unfold State.judgePrp
  dsimp only
  repeat' split
  all_goals simp only [State.sepCount_only (outside hpart), State.judge_only hpart, State.heardTagged_only (outside hpart),
    State.sepFlag_only (outside hpart)]

theorem State.separate_only {part : StatePart} (hpart : part ∉ [.regs, .sw, .parts, .pails, .health, .edp, .mem, .out]) (s : State)
    (g : Nat) (a : Bool) (f : Frame) :
    (s.separate g a f).state.only part = s.only part := by
  unfold State.separate
  dsimp only
  repeat' split
  all_goals simp only [State.sepCount_only (outside hpart), State.judge_only hpart, State.heardTagged_only (outside hpart)]

theorem State.supervise_only {part : StatePart} (hpart : part ∉ [.regs, .ports, .sw, .parts, .pails, .health, .edp, .mem, .out]) (s : State)
    (g : Nat) :
    (s.supervise g).only part = s.only part := by
  simp only [State.supervise, State.sendOwn_only hpart, State.only_ite, ite_self]

theorem State.watchGroup_only {part : StatePart} (hpart : part ∉ [.sw]) (s : State) (g : Nat) :
    (s.watchGroup g).only part = s.only part := by
  simp only [State.watchGroup, State.heardTagged_only hpart, State.only_ite, ite_self]

theorem State.lanSilence_only {part : StatePart} (hpart : part ∉ [.regs, .sw, .parts, .pails, .health, .edp, .mem, .out]) (s : State)
    (g : Nat) :
    (s.lanSilence g).only part = s.only part := by
  simp only [State.lanSilence, State.setSw_only (outside hpart), State.stand_only (outside hpart), State.sepFlag_only (outside hpart),
    State.only_ite, ite_self]

theorem State.forgetEntry_only {part : StatePart} (hpart : part ∉ [.sw]) (s : State) (g mac : Nat) :
    (s.forgetEntry g mac).only part = s.only part := by
  simp only [State.forgetEntry, State.setSw_only hpart]

/-! #### The operations of PailOps -/

theorem State.commitCells_only {part : StatePart} (hpart : part ∉ [.pubs]) (s : State) (g j : Nat) (cells : Tab Nat) :
    (s.commitCells g j cells).only part = s.only part := by
  simp only [State.commitCells, State.setPub_only hpart]

theorem State.commitSlots_only {part : StatePart} (hpart : part ∉ [.pails, .pubs]) (s : State) (p mask : Nat) :
    (s.commitSlots p mask).only part = s.only part := by
  unfold State.commitSlots
  refine (State.each_only (fun slot t => ?_) _ _).trans (State.setPail_only (outside hpart) _ _ _)
  split
  · rfl
  · exact State.commitCells_only (outside hpart) _ _ _ _

theorem State.stageCell_only {part : StatePart} (hpart : part ∉ [.pails]) (s : State) (p slot m : Nat) (high : Bool) (value : Nat) :
    (s.stageCell p slot m high value).only part = s.only part := by
  unfold State.stageCell
  split <;> simp only [State.modPail_only hpart, State.only_ite, ite_self]

theorem State.stopQueue_only {part : StatePart} (hpart : part ∉ [.pails]) (s : State) (p q error : Nat) :
    (s.stopQueue p q error).only part = s.only part := by
  simp only [State.stopQueue, State.modPail_only hpart]

theorem State.complete_only {part : StatePart} (hpart : part ∉ [.parts, .pails, .edp, .mem, .out]) (s : State) (p q : Nat) (irq : Bool)
    (c : Completion) :
    (s.complete p q irq c).only part = s.only part := by
  simp only [State.complete, State.post_only hpart, State.pailWrite_only hpart, State.modPail_only (outside hpart), State.when_only]

theorem State.fetched_only {part : StatePart} (hpart : part ∉ [.parts, .pails, .edp, .mem, .out]) (s : State) (p q : Nat)
    {work : Desc → State → State} (hw : ∀ d t, (work d t).only part = t.only part) : (s.fetched p q work).only part = s.only part := by
  simp only [State.fetched, hw, State.stopQueue_only (outside hpart), State.modPail_only (outside hpart), State.only_ite, ite_self]

theorem State.fetch_only {part : StatePart} (hpart : part ∉ [.parts, .pails, .edp, .mem, .out]) (s : State) (p q opcode : Nat)
    {work : Desc → State → State} (hw : ∀ d t, (work d t).only part = t.only part) : (s.fetch p q opcode work).only part = s.only part := by
  unfold State.fetch
  simp only [State.fetched_only hpart s p q hw, State.only_ite, ite_self]

theorem State.finish_only {part : StatePart} (hpart : part ∉ [.parts, .pails, .edp, .mem, .out]) (s : State) (p opcode : Nat) (d : Desc)
    (status length : Nat) :
    (s.finish p opcode d status length).only part = s.only part := by
  simp only [State.finish, State.complete_only hpart]

theorem State.copyOut_only {part : StatePart} (hpart : part ∉ [.parts, .pails, .edp, .mem, .out]) (s : State) (p opcode : Nat) (d : Desc)
    (bs : List Byte) :
    (s.copyOut p opcode d bs).only part = s.only part := by
  simp only [State.copyOut, State.finish_only hpart, State.pailWrite_only hpart, State.only_ite, ite_self]

theorem State.resetPail_only {part : StatePart} (hpart : part ∉ [.pails]) (s : State) (p : Nat) :
    (s.resetPail p).only part = s.only part := by
  simp only [State.resetPail, State.setPail_only hpart, State.only_ite, ite_self]

theorem State.endReset_only {part : StatePart} (hpart : part ∉ [.regs, .pails]) (s : State) (p : Nat) :
    (s.endReset p).only part = s.only part := by
  simp only [State.endReset, State.setReg_only (outside hpart), State.setPail_only (outside hpart)]

theorem State.finishReset_only {part : StatePart} (hpart : part ∉ [.regs, .pails]) (s : State) (p : Nat) :
    (s.finishReset p).only part = s.only part := by
  simp only [State.finishReset, State.endReset_only hpart, State.resetPail_only (outside hpart), State.only_ite, ite_self]

theorem State.freezeDone_only {part : StatePart} (hpart : part ∉ [.pails]) (s : State) (p : Nat) :
    (s.freezeDone p).only part = s.only part := by
  simp only [State.freezeDone, State.setPail_only hpart, State.only_ite, ite_self]

theorem State.freezeBound_only {part : StatePart} (hpart : part ∉ [.pails]) (s : State) (p : Nat) :
    (s.freezeBound p).only part = s.only part := by
  simp only [State.freezeBound, State.setPail_only hpart, State.only_ite, ite_self]

theorem State.writeStateRecord_only {part : StatePart} (hpart : part ∉ [.pails]) (s : State) (p : Nat) (bs : List Byte) :
    (s.writeStateRecord p bs).state.only part = s.only part := by
  simp only [State.writeStateRecord, State.setPail_only hpart, Answer.only_ite, ite_self, State.refuse, State.ok]

/-! #### The operations of LoopOps -/

theorem State.setChurn_only {part : StatePart} (hpart : part ∉ [.churn]) (s : State) (f : Churn → Churn) :
    (s.setChurn f).only part = s.only part := by
  simp only [State.setChurn, State.with_churn_only (outside hpart)]

theorem State.setLoops_only {part : StatePart} (hpart : part ∉ [.loops]) (s : State) (f : Loops → Loops) :
    (s.setLoops f).only part = s.only part := by
  simp only [State.setLoops, State.with_loops_only (outside hpart)]

theorem State.loopFlag_only {part : StatePart} (hpart : part ∉ [.regs, .parts, .pails, .health, .edp, .mem, .out]) (s : State)
    (flag h : Nat) :
    (s.loopFlag flag h).only part = s.only part := by
  simp only [State.loopFlag, State.setFlag_only hpart]

theorem State.latchStand_only {part : StatePart} (hpart : part ∉ [.regs, .parts, .pails, .health, .edp, .mem, .out]) (s : State) (h : Nat) :
    (s.latchStand h).only part = s.only part := by
  simp only [State.latchStand, State.stand_only hpart]

theorem State.setLatch_only {part : StatePart} (hpart : part ∉ [.regs, .parts, .pails, .loops, .health, .edp, .mem, .out]) (s : State)
    (h : Nat) :
    (s.setLatch h).only part = s.only part := by
  simp only [State.setLatch, State.latchStand_only (outside hpart), State.setUnit_only (outside hpart)]

theorem State.releaseLatch_only {part : StatePart} (hpart : part ∉ [.regs, .parts, .pails, .loops, .health, .edp, .mem, .out]) (s : State)
    (h : Nat) :
    (s.releaseLatch h).only part = s.only part := by
  simp only [State.releaseLatch, State.latchStand_only (outside hpart), State.setUnit_only (outside hpart), State.only_ite, ite_self]

theorem State.driveMode_only {part : StatePart} (hpart : part ∉ [.regs, .parts, .pails, .loops, .health, .edp, .mem, .out]) (s : State)
    (l word : Nat) :
    (s.driveMode l word).only part = s.only part := by
  simp only [State.driveMode, State.setLoops_only (outside hpart), State.releaseLatch_only hpart, State.when_only]

theorem State.writeMember_only {part : StatePart} (hpart : part ∉ [.pubs]) (s : State) (g j m : Nat) (value quality : Option Nat) :
    (s.writeMember g j m value quality).only part = s.only part := by
  simp only [State.writeMember, State.commitCells_only hpart]

theorem State.publishUnit_only {part : StatePart} (hpart : part ∉ [.pubs]) (s : State) (h : Nat) :
    (s.publishUnit h).only part = s.only part := by
  simp only [State.publishUnit, State.writeMember_only hpart, State.only_ite, ite_self]

theorem State.publishLoops_only {part : StatePart} (hpart : part ∉ [.pubs]) (s : State) :
    (s.publishLoops).only part = s.only part := by
  simp only [State.publishLoops, State.publishUnit_only hpart, State.only_ite, ite_self, implies_true, State.each_only]

theorem State.restartUnit_only {part : StatePart} (hpart : part ∉ [.regs, .parts, .pails, .loops, .health, .edp, .mem, .out]) (s : State)
    (h : Nat) :
    (s.restartUnit h).only part = s.only part := by
  simp only [State.restartUnit, State.loopFlag_only (outside hpart), State.setLoop_only (outside hpart), State.setUnit_only (outside hpart),
    implies_true, State.each_only, State.when_only]

theorem State.restartLoops_only {part : StatePart} (hpart : part ∉ [.regs, .parts, .pails, .loops, .health, .edp, .mem, .out])
    (s old : State) :
    (s.restartLoops old).only part = s.only part := by
  simp only [State.restartLoops, State.setLoop_only (outside hpart), State.latchStand_only (outside hpart), State.restartUnit_only hpart,
    State.setUnit_only (outside hpart), State.setGen_only (outside hpart), implies_true, State.each_only]

theorem State.adoptLoops_only {part : StatePart} (hpart : part ∉ [.regs, .parts, .pails, .loops, .health, .edp, .mem, .out]) (s : State)
    (bs : List Byte) :
    (s.adoptLoops bs).only part = s.only part := by
  simp only [State.adoptLoops, State.setLoop_only (outside hpart), State.setLoops_only (outside hpart), State.latchStand_only
    (outside hpart), State.setUnit_only (outside hpart), State.setGen_only (outside hpart), implies_true, State.each_only]

theorem State.sendLoops_only {part : StatePart} (hpart : part ∉ [.pair, .out]) (s : State) :
    (s.sendLoops).only part = s.only part := by
  simp only [State.sendLoops, State.sendSection_only hpart, State.only_ite, ite_self]

theorem State.overrunUnit_only {part : StatePart} (hpart : part ∉ [.regs, .parts, .pails, .loops, .pair, .health, .edp, .mem, .out])
    (s : State) (h : Nat) :
    (s.overrunUnit h).only part = s.only part := by
  simp only [State.overrunUnit, State.loopFlag_only (outside hpart), State.sendLoops_only (outside hpart), State.setUnit_only
    (outside hpart), State.setLatch_only (outside hpart), State.count_only (outside hpart), implies_true, State.each_only, State.when_only]

theorem State.overrunRest_only {part : StatePart} (hpart : part ∉ [.regs, .parts, .pails, .loops, .pair, .health, .edp, .mem, .out])
    (s : State) :
    (s.overrunRest).only part = s.only part := by
  simp only [State.overrunRest, State.overrunUnit_only hpart, implies_true, State.each_only]

/-! #### The operations of ChurnOps -/

theorem State.sendChurn_only {part : StatePart} (hpart : part ∉ [.pair, .out]) (s : State) :
    (s.sendChurn).only part = s.only part := by
  unfold State.sendChurn
  repeat' split
  all_goals simp only [State.sendSection_only hpart]

/-! #### The operations of Churn -/

theorem State.churnFlag_only {part : StatePart} (hpart : part ∉ [.regs, .parts, .pails, .health, .edp, .mem, .out]) (s : State)
    (flag info : Nat) :
    (s.churnFlag flag info).only part = s.only part := by
  simp only [State.churnFlag, State.setFlag_only hpart]

theorem State.setEngine_only {part : StatePart} (hpart : part ∉ [.regs, .parts, .pails, .churn, .health, .edp, .mem, .out]) (s : State)
    (e : EngineState) :
    (s.setEngine e).only part = s.only part := by
  simp only [State.setEngine, State.setReg_only (outside hpart), State.setChurn_only (outside hpart), State.stand_only (outside hpart)]

theorem State.refuseBatch_only {part : StatePart} (hpart : part ∉ [.regs, .parts, .pails, .churn, .health, .edp, .mem, .out]) (s : State)
    (cause : Nat) :
    (s.refuseBatch cause).only part = s.only part := by
  simp only [State.refuseBatch, State.setChurn_only (outside hpart), State.churnFlag_only (outside hpart), State.count_only (outside hpart)]

theorem State.churnStart_only {part : StatePart} (hpart : part ∉ [.regs, .parts, .pails, .churn, .pair, .health, .edp, .mem, .out])
    (s : State) :
    (s.churnStart).only part = s.only part := by
  simp only [State.churnStart, State.refuseBatch_only (outside hpart), State.setReg_only (outside hpart), State.setChurn_only
    (outside hpart), State.setEngine_only (outside hpart), State.churnFlag_only (outside hpart), State.setPair_only (outside hpart),
    State.when_only]

theorem State.applyRestart_only {part : StatePart} (hpart : part ∉ [.regs, .churn]) (s : State) (value : Nat) :
    (s.applyRestart value).only part = s.only part := by
  simp only [State.applyRestart, State.setReg_only (outside hpart), State.setChurn_only (outside hpart), State.only_ite, ite_self]

theorem State.writeRestart_only {part : StatePart} (hpart : part ∉ [.regs, .churn]) (s : State) (value : Nat) :
    (s.writeRestart value).state.only part = s.only part := by
  simp only [State.writeRestart, State.applyRestart_only hpart, Answer.only_ite, ite_self, State.refuse, State.ok]

theorem State.applyForces_only {part : StatePart} (hpart : part ∉ [.regs, .parts, .pails, .churn, .health, .edp, .mem, .out]) (s : State) :
    (s.applyForces).only part = s.only part := by
  simp only [State.applyForces, State.setReg_only (outside hpart), State.setChurn_only (outside hpart), State.stand_only (outside hpart)]

theorem State.writeForce_only {part : StatePart} (hpart : part ∉ [.regs, .pair, .out]) (s : State) (f value : Nat) :
    (s.writeForce f value).state.only part = s.only part := by
  simp only [State.writeForce, State.setReg_only (outside hpart), State.livePair_only (outside hpart)]

theorem State.applyReleaseAll_only {part : StatePart} (hpart : part ∉ [.regs]) (s : State) (value : Nat) :
    (s.applyReleaseAll value).only part = s.only part := by
  simp only [State.applyReleaseAll, State.setReg_only hpart, State.only_ite, ite_self, implies_true, State.each_only]

theorem State.writeReleaseAll_only {part : StatePart} (hpart : part ∉ [.regs, .pair, .out]) (s : State) (value : Nat) :
    (s.writeReleaseAll value).state.only part = s.only part := by
  simp only [State.writeReleaseAll, State.livePair_only (outside hpart), State.applyReleaseAll_only (outside hpart), Answer.only_ite,
    ite_self, State.refuse]

theorem State.acceptBatch_only {part : StatePart} (hpart : part ∉ [.churn]) (s : State) (bs : List Byte) (acceptedAt : Nat) :
    (s.acceptBatch bs acceptedAt).only part = s.only part := by
  simp only [State.acceptBatch, State.setChurn_only hpart]

theorem State.writeBatch_only {part : StatePart} (hpart : part ∉ [.churn, .pair, .out]) (s : State) (bs : List Byte) :
    (s.writeBatch bs).state.only part = s.only part := by
  simp only [State.writeBatch, State.livePair_only (outside hpart), State.acceptBatch_only (outside hpart), Answer.only_ite, ite_self,
    State.refuse]

theorem State.applyBatch_only {part : StatePart} (hpart : part ∉ [.regs, .parts, .pails, .churn, .health, .edp, .mem, .out]) (s : State) :
    (s.applyBatch).only part = s.only part := by
  unfold State.applyBatch
  split <;> simp only [State.refuseBatch_only hpart, State.setChurn_only (outside hpart), State.churnFlag_only (outside hpart),
    State.count_only (outside hpart), State.only_ite, ite_self]

theorem State.driveOne_only {part : StatePart} (hpart : part ∉ [.regs, .hist, .parts, .pails, .churn, .loops, .pubs, .health, .edp, .mem,
    .out]) (s : State) (mode : Drive) (rs : List OutRec) (r : OutRec) :
    (s.driveOne mode rs r).only part = s.only part := by
  unfold State.driveOne
  split <;> simp only [State.setReg_only (outside hpart), State.setChurn_only (outside hpart), State.trigger_only (outside hpart),
    State.driveMode_only (outside hpart), State.writeMember_only (outside hpart), State.when_only]

theorem State.driveOutputs_only {part : StatePart} (hpart : part ∉ [.regs, .hist, .parts, .pails, .churn, .loops, .pubs, .health, .edp,
    .mem, .out]) (s : State) (mode : Drive) :
    (s.driveOutputs mode).only part = s.only part := by
  simp only [State.driveOutputs, State.driveOne_only hpart, implies_true, State.each_only]

theorem State.churnSnapshot_only {part : StatePart} (hpart : part ∉ [.churn]) (s : State) :
    (s.churnSnapshot).only part = s.only part := by
  simp only [State.churnSnapshot, State.setChurn_only hpart]

theorem State.churnCommit_only {part : StatePart} (hpart : part ∉ [.regs, .churn]) (s : State) :
    (s.churnCommit).only part = s.only part := by
  simp only [State.churnCommit, State.setChurn_only (outside hpart), State.count_only (outside hpart)]

theorem State.safeStopYield_only {part : StatePart} (hpart : part ∉ [.pair, .out]) (s : State) :
    (s.safeStopYield).only part = s.only part := by
  simp only [State.safeStopYield, State.newRole_only hpart, State.setPair_only (outside hpart), State.only_ite, ite_self]

theorem State.churnOverrun_only {part : StatePart} (hpart : part ∉ [.regs, .parts, .pails, .churn, .pair, .health, .edp, .mem, .out])
    (s : State) :
    (s.churnOverrun).only part = s.only part := by
  simp only [State.churnOverrun, State.setChurn_only (outside hpart), State.safeStopYield_only (outside hpart), State.setEngine_only
    (outside hpart), State.churnFlag_only (outside hpart), State.count_only (outside hpart), State.only_ite, ite_self]

theorem State.churnAdopt_only {part : StatePart} (hpart : part ∉ [.regs, .parts, .pails, .churn, .health, .edp, .mem, .out]) (s : State)
    (bs : List Byte) :
    (s.churnAdopt bs).only part = s.only part := by
  simp only [State.churnAdopt, State.setChurn_only (outside hpart), State.setEngine_only hpart, State.count_only (outside hpart),
    State.only_ite, ite_self]

theorem State.churnCommitStep_only {part : StatePart} (hpart : part ∉ [.regs, .parts, .pails, .churn, .pair, .health, .edp, .mem, .out])
    (s : State) :
    (s.churnCommitStep).only part = s.only part := by
  unfold State.churnCommitStep
  split <;> simp only [State.churnCommit_only (outside hpart), State.churnOverrun_only hpart, State.churnAdopt_only (outside hpart),
    State.only_ite, ite_self]

theorem State.sampleGroups_only {part : StatePart} (hpart : part ∉ [.dp]) (s : State) :
    (s.sampleGroups).only part = s.only part := by
  simp only [State.sampleGroups, State.with_dp_only (outside hpart)]

theorem State.churnCycle_only {part : StatePart} (hpart : part ∉ [.regs, .dp, .hist, .parts, .pails, .churn, .loops, .pubs, .pair, .health,
    .edp, .mem, .out]) (s : State) :
    (s.churnCycle).only part = s.only part := by
  simp only [State.churnCycle, State.sampleGroups_only (outside hpart), State.setChurn_only (outside hpart), State.churnCommitStep_only
    (outside hpart), State.applyForces_only (outside hpart), State.driveOutputs_only (outside hpart), State.applyBatch_only (outside hpart)]

theorem State.churnBoundary_only {part : StatePart} (hpart : part ∉ [.regs, .dp, .hist, .parts, .pails, .churn, .loops, .pubs, .pair,
    .health, .edp, .mem, .out]) (s : State) :
    (s.churnBoundary).only part = s.only part := by
  simp only [State.churnBoundary, State.churnCycle_only hpart, State.setChurn_only (outside hpart), State.churnStart_only (outside hpart),
    State.only_ite, ite_self]

theorem State.churnEvalEnd_only {part : StatePart} (hpart : part ∉ [.regs, .churn, .pair, .out, .freeUsed]) (s : State) :
    (s.churnEvalEnd).only part = s.only part := by
  simp only [State.churnEvalEnd, State.setReg_only (outside hpart), State.sendChurn_only (outside hpart), State.setChurn_only
    (outside hpart), State.drew_only (outside hpart), State.only_ite, ite_self]

theorem State.gpioSampleOne_only {part : StatePart} (hpart : part ∉ [.churn]) (s : State) (g : Nat) (land : Bool) :
    (s.gpioSampleOne g land).only part = s.only part := by
  simp only [State.gpioSampleOne, State.setChurn_only hpart, State.only_ite, ite_self]

/-! #### The operations of Goose -/

theorem State.gsFlag_only {part : StatePart} (hpart : part ∉ [.regs, .parts, .pails, .health, .edp, .mem, .out]) (s : State) (flag n : Nat)
    :
    (s.gsFlag flag n).only part = s.only part := by
  simp only [State.gsFlag, State.setFlag_only hpart]

theorem State.gsCount_only {part : StatePart} (hpart : part ∉ [.regs, .parts, .pails, .health, .edp, .mem, .out]) (s : State) (k n : Nat) :
    (s.gsCount k n).only part = s.only part := by
  simp only [State.gsCount, State.countEv_only hpart]

theorem State.gsAccept_only {part : StatePart} (hpart : part ∉ [.regs, .parts, .pails, .subs, .health, .edp, .mem, .out]) (s : State)
    (n : Nat) (m : GooseMsg) :
    (s.gsAccept n m).only part = s.only part := by
  simp only [State.gsAccept, State.setReg_only (outside hpart), State.setSub_only (outside hpart), State.gsCount_only (outside hpart),
    State.gsFlag_only (outside hpart), State.when_only]

theorem State.gsMark_only {part : StatePart} (hpart : part ∉ [.subs]) (s : State) (n flag : Nat) :
    (s.gsMark n flag).only part = s.only part := by
  simp only [State.gsMark, State.setSub_only hpart]

theorem State.gsReceive_only {part : StatePart} (hpart : part ∉ [.regs, .parts, .pails, .subs, .health, .edp, .mem, .out]) (s : State)
    (m : GooseMsg) :
    (s.gsReceive m).only part = s.only part := by
  unfold State.gsReceive
  split <;> simp only [State.verifyAuth_only (outside hpart), State.gsMark_only (outside hpart), State.gsAccept_only hpart,
    State.gsCount_only (outside hpart), State.gsFlag_only (outside hpart), State.only_ite, State.only_ite_snd, ite_self]

theorem State.postChange_only {part : StatePart} (hpart : part ∉ [.parts, .pails, .edp, .mem, .out]) (s : State) (n stNum : Nat) :
    (s.postChange n stNum).only part = s.only part := by
  simp only [State.postChange, State.post_only hpart, implies_true, State.each_only]

theorem State.snapSub_only {part : StatePart} (hpart : part ∉ [.regs, .parts, .pails, .subs, .health, .edp, .mem, .out]) (s : State)
    (n : Nat) :
    (s.snapSub n).only part = s.only part := by
  simp only [State.snapSub, State.setReg_only (outside hpart), State.setSub_only (outside hpart), State.postChange_only (outside hpart),
    State.gsFlag_only (outside hpart), State.only_ite, ite_self, State.when_only]

theorem State.snapSubs_only {part : StatePart} (hpart : part ∉ [.regs, .parts, .pails, .subs, .health, .edp, .mem, .out]) (s : State) :
    (s.snapSubs).only part = s.only part := by
  simp only [State.snapSubs, State.snapSub_only hpart, implies_true, State.each_only]

theorem State.gpFlag_only {part : StatePart} (hpart : part ∉ [.regs, .parts, .pails, .health, .edp, .mem, .out]) (s : State) (flag j : Nat)
    :
    (s.gpFlag flag j).only part = s.only part := by
  simp only [State.gpFlag, State.setFlag_only hpart]

theorem State.sendGoose_only {part : StatePart} (hpart : part ∉ [.regs, .ports, .sw, .parts, .pails, .health, .edp, .mem, .out, .gooses]) (s : State)
    (j : Nat) (x : Pub) :
    (s.sendGoose j x).only part = s.only part := by
  unfold State.sendGoose
  dsimp only
  split <;> simp only [State.gpFlag_only (outside hpart), State.sendOwn_only (outside hpart), State.useSlot_only (outside hpart), State.emit_goose_only (outside hpart)]

theorem State.formPub_only {part : StatePart} (hpart : part ∉ [.regs, .ports, .sw, .parts, .pails, .pubs, .health, .edp, .mem, .out, .gooses])
    (s : State) (j : Nat) :
    (s.formPub j).only part = s.only part := by
  simp only [State.formPub, State.sendGoose_only (outside hpart), State.setReg_only (outside hpart), State.gpFlag_only (outside hpart),
    State.count_only (outside hpart), State.setPub_only (outside hpart), State.only_ite, ite_self]

theorem State.formPubs_only {part : StatePart} (hpart : part ∉ [.regs, .ports, .sw, .parts, .pails, .pubs, .health, .edp, .mem, .out, .gooses])
    (s : State) (owned : Bool) :
    (s.formPubs owned).only part = s.only part := by
  simp only [State.formPubs, State.formPub_only hpart, implies_true, State.each_only]

theorem State.sendCounters_only {part : StatePart} (hpart : part ∉ [.pair, .out]) (s : State) :
    (s.sendCounters).only part = s.only part := by
  simp only [State.sendCounters, State.sendSection_only hpart, State.only_ite, ite_self]

theorem State.adoptCounters_only {part : StatePart} (hpart : part ∉ [.pubs]) (s : State) (bs : List Byte) :
    (s.adoptCounters bs).only part = s.only part := by
  simp only [State.adoptCounters, State.setPub_only hpart, implies_true, State.each_only]

theorem State.churnTick_only {part : StatePart} (hpart : part ∉ [.regs, .ports, .sw, .dp, .hist, .parts, .pails, .churn, .loops, .pubs,
    .pair, .health, .edp, .mem, .out, .gooses]) (s : State) :
    (s.churnTick).only part = s.only part := by
  simp only [State.churnTick, State.sendCounters_only (outside hpart), State.churnBoundary_only (outside hpart), State.formPubs_only
    (outside hpart), State.churnSnapshot_only (outside hpart), State.only_ite, ite_self]

/-! #### The operations of Loops -/

theorem State.abandonNumeric_only {part : StatePart} (hpart : part ∉ [.regs, .parts, .pails, .loops, .health, .edp, .mem, .out]) (s : State)
    (h : Nat) :
    (s.abandonNumeric h).only part = s.only part := by
  simp only [State.abandonNumeric, State.loopFlag_only (outside hpart), State.setUnit_only (outside hpart), State.setLatch_only hpart]

theorem State.completeUnit_only {part : StatePart} (hpart : part ∉ [.regs, .parts, .pails, .loops, .health, .edp, .mem, .out]) (s : State)
    (h requested : Nat) (mode out : Nat) (invalid slewing : Bool) (winner : Option Nat) :
    (s.completeUnit h requested mode out invalid slewing winner).only part = s.only part := by
  simp only [State.completeUnit, State.setReg_only (outside hpart), State.loopFlag_only (outside hpart), State.setUnit_only (outside hpart),
    State.when_only]

theorem State.computeUnit_only {part : StatePart} (hpart : part ∉ [.regs, .parts, .pails, .loops, .health, .edp, .mem, .out]) (s : State)
    (h : Nat) :
    (s.computeUnit h).only part = s.only part := by
  unfold State.computeUnit
  simp only [State.only_ite, State.each_only, State.setLoop_only (outside hpart), State.completeUnit_only (outside hpart), implies_true]
  refine (ite_congr rfl (fun _ => rfl) (fun _ => ?_)).trans (ite_self _)
  split
  · exact State.abandonNumeric_only (outside hpart) _ _
  · simp only [State.each_only, State.setLoop_only (outside hpart), State.completeUnit_only (outside hpart), implies_true]

theorem State.computeGen_only {part : StatePart} (hpart : part ∉ [.loops]) (s : State) (g : Nat) :
    (s.computeGen g).only part = s.only part := by
  simp only [State.computeGen, State.setGen_only hpart, State.only_ite, ite_self]

theorem State.applyLoopRelease_only {part : StatePart} (hpart : part ∉ [.regs, .parts, .pails, .loops, .health, .edp, .mem, .out])
    (s : State) (l value : Nat) :
    (s.applyLoopRelease l value).only part = s.only part := by
  simp only [State.applyLoopRelease, State.releaseLatch_only hpart, State.only_ite, ite_self]

theorem State.writeLoopRelease_only {part : StatePart} (hpart : part ∉ [.regs, .parts, .pails, .loops, .pair, .health, .edp, .mem, .out])
    (s : State) (l value : Nat) :
    (s.writeLoopRelease l value).state.only part = s.only part := by
  simp only [State.writeLoopRelease, State.applyLoopRelease_only (outside hpart), State.livePair_only (outside hpart), Answer.only_ite,
    ite_self, State.refuse]

theorem State.applyGroupRelease_only {part : StatePart} (hpart : part ∉ [.regs, .parts, .pails, .loops, .health, .edp, .mem, .out])
    (s : State) (g value : Nat) :
    (s.applyGroupRelease g value).only part = s.only part := by
  simp only [State.applyGroupRelease, State.releaseLatch_only hpart, State.only_ite, ite_self, implies_true, State.each_only]

theorem State.writeGroupRelease_only {part : StatePart} (hpart : part ∉ [.regs, .parts, .pails, .loops, .pair, .health, .edp, .mem, .out])
    (s : State) (g value : Nat) :
    (s.writeGroupRelease g value).state.only part = s.only part := by
  simp only [State.writeGroupRelease, State.livePair_only (outside hpart), State.applyGroupRelease_only (outside hpart), Answer.only_ite,
    ite_self, State.refuse]

theorem State.writeModeRequest_only {part : StatePart} (hpart : part ∉ [.regs, .pair, .out]) (s : State) (l value : Nat) :
    (s.writeModeRequest l value).state.only part = s.only part := by
  simp only [State.writeModeRequest, State.setReg_only (outside hpart), State.livePair_only (outside hpart), Answer.only_ite, ite_self,
    State.refuse]

theorem State.writeManualValue_only {part : StatePart} (hpart : part ∉ [.regs, .pair, .out]) (s : State) (l value : Nat) :
    (s.writeManualValue l value).state.only part = s.only part := by
  simp only [State.writeManualValue, State.setReg_only (outside hpart), State.livePair_only (outside hpart), Answer.only_ite, ite_self,
    State.refuse]

theorem State.writeValueEntry_only {part : StatePart} (hpart : part ∉ [.regs, .pair, .out]) (s : State) (index sub value : Nat) :
    (s.writeValueEntry index sub value).state.only part = s.only part := by
  simp only [State.writeValueEntry, State.setReg_only (outside hpart), State.livePair_only (outside hpart), Answer.only_ite, ite_self,
    State.refuse, State.ok]

theorem State.applyTuning_only {part : StatePart} (hpart : part ∉ [.regs, .loops]) (s : State) (l sub value : Nat) :
    (s.applyTuning l sub value).only part = s.only part := by
  simp only [State.applyTuning, State.setReg_only (outside hpart), State.setUnit_only (outside hpart), State.only_ite, ite_self]

theorem State.writeTuning_only {part : StatePart} (hpart : part ∉ [.regs, .loops, .pair, .out]) (s : State) (l sub value : Nat) :
    (s.writeTuning l sub value).state.only part = s.only part := by
  simp only [State.writeTuning, State.applyTuning_only (outside hpart), State.livePair_only (outside hpart)]

/-! #### The operations of PairLink -/

theorem State.sideCheck_only {part : StatePart} (hpart : part ∉ [.regs, .parts, .pails, .pair, .health, .edp, .mem, .out]) (s : State)
    (hdr : PairHdr) :
    (s.sideCheck hdr).only part = s.only part := by
  simp only [State.sideCheck, State.setPair_only (outside hpart), State.pairFlag_only (outside hpart), State.when_only]

theorem State.nakResend_only {part : StatePart} (hpart : part ∉ [.pair, .out]) (s : State) (hdr : PairHdr) :
    (s.nakResend hdr).only part = s.only part := by
  unfold State.nakResend
  split <;> simp only [State.nextSeq_only (outside hpart), State.setPair_only (outside hpart),
    State.emit_only (outside hpart) _ (o := .state _ _) rfl,
    State.only_ite, ite_self]

/-- A frame of the pair link changes what its own effect changes, and what every such frame may change. -/
theorem State.linkFrame_only {part : StatePart} (hpart : part ∉ [.regs, .parts, .pails, .pair, .health, .edp, .mem, .out]) (s : State)
    (hdr : PairHdr) {f : State → State} (hf : ∀ t, (f t).only part = t.only part) : (s.linkFrame hdr f).only part = s.only part := by
  simp only [State.linkFrame, State.setPair_only (outside hpart), State.nakResend_only (outside hpart), State.configMismatch_only hpart, hf,
    State.sideCheck_only hpart, State.only_ite, ite_self]

theorem State.heartbeatOut_only {part : StatePart} (hpart : part ∉ [.regs, .ports, .sw, .parts, .pails, .pair, .health, .edp, .mem, .out])
    (s : State) :
    (s.heartbeatOut).only part = s.only part := by
  simp only [State.heartbeatOut, State.sendOwn_only (outside hpart), State.useSlot_only (outside hpart), State.nextSeq_only (outside hpart),
    State.emit_only (outside hpart) _ (o := .heartbeat _ _ _) rfl, State.only_ite, State.only_ite_snd, ite_self, implies_true, State.each_only]

theorem State.planMirrors_only {part : StatePart} (hpart : part ∉ [.pair]) (s : State) (hb : Heartbeat) :
    (s.planMirrors hb).only part = s.only part := by
  simp only [State.planMirrors, State.setPair_only hpart]

theorem State.heartbeatNote_only {part : StatePart} (hpart : part ∉ [.regs, .parts, .pails, .pair, .health, .edp, .mem, .out]) (s : State)
    (hdr : PairHdr) (hb : Heartbeat) :
    (s.heartbeatNote hdr hb).only part = s.only part := by
  simp only [State.heartbeatNote, State.setReg_only (outside hpart), State.planMirrors_only (outside hpart), State.sideCheck_only hpart,
    State.setPair_only (outside hpart)]

theorem State.heartbeatIn_only {part : StatePart} (hpart : part ∉ [.regs, .parts, .pails, .pair, .health, .edp, .mem, .out]) (s : State)
    (hdr : PairHdr) (hb : Heartbeat) :
    (s.heartbeatIn hdr hb).only part = s.only part := by
  simp only [State.heartbeatIn, State.configMismatch_only hpart, State.useSlot_only (outside hpart), State.nakResend_only (outside hpart),
    State.heartbeatNote_only hpart, State.setPair_only (outside hpart), State.only_ite, State.only_ite_snd, ite_self]

theorem State.hbWait_only {part : StatePart} (hpart : part ∉ [.pair]) (s : State) :
    (s.hbWait).only part = s.only part := by
  simp only [State.hbWait, State.setPair_only hpart, State.only_ite, ite_self]

theorem State.digestOut_only {part : StatePart} (hpart : part ∉ [.pair, .out]) (s : State) :
    (s.digestOut).only part = s.only part := by
  simp only [State.digestOut, State.nextSeq_only (outside hpart), State.emit_only (outside hpart) _ (o := .digest _ _) rfl, State.only_ite,
    ite_self]

theorem State.digestIn_only {part : StatePart} (hpart : part ∉ [.regs, .parts, .pails, .pair, .health, .edp, .mem, .out]) (s : State)
    (hdr : PairHdr) (d : Digest) :
    (s.digestIn hdr d).only part = s.only part := by
  simp only [State.digestIn, State.linkFrame_only hpart, State.setPair_only (outside hpart), State.only_ite, ite_self, implies_true]

theorem State.changeIn_only {part : StatePart} (hpart : part ∉ [.pair, .out]) (s : State) (id : Nat) (bs : List Byte) :
    (s.changeIn id bs).only part = s.only part := by
  simp only [State.changeIn, State.setPair_only (outside hpart), State.roleFrame_only hpart, State.only_ite, ite_self]

theorem State.stateIn_only {part : StatePart} (hpart : part ∉ [.regs, .parts, .pails, .pair, .health, .edp, .mem, .out]) (s : State)
    (hdr : PairHdr) (f : StateFrag) :
    (s.stateIn hdr f).only part = s.only part := by
  simp only [State.stateIn, State.changeIn_only (outside hpart), State.linkFrame_only hpart, State.setPair_only (outside hpart),
    State.only_ite, ite_self, implies_true]

theorem State.ackRole_only {part : StatePart} (hpart : part ∉ [.pair, .out]) (s : State) (m : RoleMsg) :
    (s.ackRole m).only part = s.only part := by
  simp only [State.ackRole, State.roleFrame_only hpart]

theorem State.roleOnce_only {part : StatePart} (hpart : part ∉ [.pair]) (s : State) (m : RoleMsg) {f : State → State}
    (hf : ∀ t, (f t).only part = t.only part) : (s.roleOnce m f).only part = s.only part := by
  simp only [State.roleOnce, hf, State.setPair_only hpart, State.only_ite, ite_self]

theorem State.relinquishIn_only {part : StatePart} (hpart : part ∉ [.pair, .out]) (s : State) (m : RoleMsg) :
    (s.relinquishIn m).only part = s.only part := by
  simp only [State.relinquishIn, State.roleOnce_only (outside hpart), State.ackRole_only hpart, State.setPair_only (outside hpart),
    implies_true]

theorem State.swapRequestIn_only {part : StatePart} (hpart : part ∉ [.pair, .out]) (s : State) (m : RoleMsg) :
    (s.swapRequestIn m).only part = s.only part := by
  simp only [State.swapRequestIn, State.roleOnce_only (outside hpart), State.setPair_only (outside hpart), State.sendRole_only hpart,
    State.only_ite, ite_self, implies_true]

theorem State.swapAcceptIn_only {part : StatePart} (hpart : part ∉ [.pair, .out]) (s : State) (m : RoleMsg) :
    (s.swapAcceptIn m).only part = s.only part := by
  unfold State.swapAcceptIn
  split <;> simp only [State.answered_only (outside hpart), State.ackRole_only hpart, State.setPair_only (outside hpart)]

theorem State.swapRefuseIn_only {part : StatePart} (hpart : part ∉ [.regs, .parts, .pails, .pair, .health, .edp, .mem, .out]) (s : State)
    (m : RoleMsg) :
    (s.swapRefuseIn m).only part = s.only part := by
  unfold State.swapRefuseIn
  split <;> simp only [State.answered_only (outside hpart), State.ackRole_only (outside hpart), State.setPair_only (outside hpart),
    State.pairFlag_only (outside hpart)]

theorem State.ackIn_only {part : StatePart} (hpart : part ∉ [.pair]) (s : State) (m : RoleMsg) :
    (s.ackIn m).only part = s.only part := by
  unfold State.ackIn
  split <;> simp only [State.answered_only hpart, State.setPair_only hpart, State.only_ite, ite_self]

theorem State.selftestIn_only {part : StatePart} (hpart : part ∉ [.pair, .out]) (s : State) (m : RoleMsg) :
    (s.selftestIn m).only part = s.only part := by
  simp only [State.selftestIn, State.roleOnce_only (outside hpart), State.ackRole_only hpart, State.setPair_only (outside hpart),
    implies_true]

theorem State.regionsIn_only {part : StatePart} (hpart : part ∉ [.pair, .out]) (s : State) (m : RoleMsg) :
    (s.regionsIn m).only part = s.only part := by
  simp only [State.regionsIn, State.roleOnce_only (outside hpart), State.ackRole_only hpart, State.sendRegions_only hpart,
    State.setPair_only (outside hpart), implies_true, State.when_only]

theorem State.changeAckIn_only {part : StatePart} (hpart : part ∉ [.pair]) (s : State) (m : RoleMsg) :
    (s.changeAckIn m).only part = s.only part := by
  simp only [State.changeAckIn, State.setPair_only hpart]

theorem State.roleRepeat_only {part : StatePart} (hpart : part ∉ [.pair, .out]) (s : State) :
    (s.roleRepeat).only part = s.only part := by
  simp only [State.roleRepeat, State.setPair_only (outside hpart), State.roleFrame_only hpart, implies_true, State.each_only]

theorem State.startSwap_only {part : StatePart} (hpart : part ∉ [.pair, .out]) (s : State) (reason : Nat) :
    (s.startSwap reason).only part = s.only part := by
  simp only [State.startSwap, State.takeOpId_only (outside hpart), State.setPair_only (outside hpart), State.sendRole_only hpart,
    State.only_ite, ite_self]

theorem State.writeSwapNow_only {part : StatePart} (hpart : part ∉ [.pair, .out]) (s : State) (value : Nat) :
    (s.writeSwapNow value).state.only part = s.only part := by
  simp only [State.writeSwapNow, State.startSwap_only hpart, Answer.only_ite, ite_self, State.refuse, State.ok]

theorem State.sendTransfer_only {part : StatePart} (hpart : part ∉ [.pair, .out]) (s : State) (x : Transfer) :
    (s.sendTransfer x).only part = s.only part := by
  simp only [State.sendTransfer, State.nextSeq_only (outside hpart), State.emit_only (outside hpart) _ (o := .migrate _ _) rfl,
    implies_true, State.each_only]

theorem State.writePailMove_only {part : StatePart} (hpart : part ∉ [.pair, .out]) (s : State) (value : Nat) :
    (s.writePailMove value).state.only part = s.only part := by
  simp only [State.writePailMove, State.sendTransfer_only hpart, State.setPair_only (outside hpart), Answer.only_ite, ite_self,
    State.refuse, State.ok]

theorem State.migrateIn_only {part : StatePart} (hpart : part ∉ [.pails, .pair, .out]) (s : State) (m : MigrateMsg) :
    (s.migrateIn m).only part = s.only part := by
  simp only [State.migrateIn, State.nextSeq_only (outside hpart), State.setPair_only (outside hpart), State.writeStateRecord_only
    (outside hpart), State.emit_only (outside hpart) _ (o := .migrate _ _) rfl, State.only_ite, ite_self]

theorem State.migrateAckIn_only {part : StatePart} (hpart : part ∉ [.pair]) (s : State) (m : MigrateMsg) :
    (s.migrateAckIn m).only part = s.only part := by
  unfold State.migrateAckIn
  split <;> simp only [State.setPair_only hpart, State.only_ite, ite_self]

theorem State.abortTransfer_only {part : StatePart} (hpart : part ∉ [.regs, .parts, .pails, .pair, .health, .edp, .mem, .out]) (s : State)
    (id : Nat) :
    (s.abortTransfer id).only part = s.only part := by
  simp only [State.abortTransfer, State.setFlag_only (outside hpart), State.setPair_only (outside hpart), State.only_ite, ite_self]

theorem State.migrateResend_only {part : StatePart} (hpart : part ∉ [.regs, .parts, .pails, .pair, .health, .edp, .mem, .out]) (s : State) :
    (s.migrateResend).only part = s.only part := by
  unfold State.migrateResend
  split <;> simp only [State.nextSeq_only (outside hpart), State.sendTransfer_only (outside hpart), State.setPair_only (outside hpart),
    State.abortTransfer_only hpart, State.emit_only (outside hpart) _ (o := .migrate _ _) rfl, State.only_ite, ite_self]

theorem State.linkStand_only {part : StatePart} (hpart : part ∉ [.regs, .parts, .pails, .health, .edp, .mem, .out]) (s : State) (lane : Nat)
    :
    (s.linkStand lane).only part = s.only part := by
  simp only [State.linkStand, State.stand_only hpart]

theorem State.laneLost_only {part : StatePart} (hpart : part ∉ [.regs, .parts, .pails, .pair, .health, .edp, .mem, .out]) (s : State)
    (l : Nat) :
    (s.laneLost l).only part = s.only part := by
  simp only [State.laneLost, State.laneFlag_only (outside hpart), State.linkStand_only (outside hpart), State.noteError_only
    (outside hpart), State.retireLane_only hpart, State.setPair_only (outside hpart), State.only_ite, ite_self]

theorem State.laneBack_only {part : StatePart} (hpart : part ∉ [.regs, .parts, .pails, .pair, .health, .edp, .mem, .out]) (s : State)
    (l : Nat) :
    (s.laneBack l).only part = s.only part := by
  simp only [State.laneBack, State.laneFlag_only (outside hpart), State.linkStand_only (outside hpart), State.setPair_only (outside hpart),
    State.only_ite, ite_self]

/-! #### The operations of Pails -/

theorem State.askFreeze_only {part : StatePart} (hpart : part ∉ [.pails]) (s : State) (p : Nat) :
    (s.askFreeze p).only part = s.only part := by
  simp only [State.askFreeze, State.setPail_only hpart, State.only_ite, ite_self]

theorem State.releaseFreeze_only {part : StatePart} (hpart : part ∉ [.pails]) (s : State) (p : Nat) :
    (s.releaseFreeze p).only part = s.only part := by
  simp only [State.releaseFreeze, State.modPail_only hpart]

theorem State.txDoorbell_only {part : StatePart} (hpart : part ∉ [.pails]) (s : State) (p q value : Nat) :
    (s.txDoorbell p q value).only part = s.only part := by
  simp only [State.txDoorbell, State.stopQueue_only hpart, State.modPail_only hpart, State.only_ite, ite_self]

theorem State.rxDoorbell_only {part : StatePart} (hpart : part ∉ [.pails]) (s : State) (p q value : Nat) :
    (s.rxDoorbell p q value).only part = s.only part := by
  simp only [State.rxDoorbell, State.modPail_only hpart, State.only_ite, ite_self]

theorem State.queueControl_only {part : StatePart} (hpart : part ∉ [.pails]) (s : State) (p q value : Nat) :
    (s.queueControl p q value).only part = s.only part := by
  simp only [State.queueControl, State.setPail_only hpart, State.only_ite, ite_self]

theorem State.imageCopy_only {part : StatePart} (hpart : part ∉ [.parts, .pails, .edp, .mem, .out]) (s : State) (p q : Nat) :
    (s.imageCopy p q).only part = s.only part := by
  refine State.fetch_only (outside hpart) _ _ _ _ fun d t => ?_
  split
  · exact State.finish_only (outside hpart) _ _ _ _ _ _
  · split <;> simp only [State.only_ite, State.finish_only (outside hpart), State.copyOut_only hpart, ite_self]

theorem State.phasorCopy_only {part : StatePart} (hpart : part ∉ [.parts, .pails, .edp, .mem, .out]) (s : State) (p q : Nat) :
    (s.phasorCopy p q).only part = s.only part := by
  simp only [State.phasorCopy, State.finish_only hpart, State.copyOut_only hpart, State.fetch_only (outside hpart), State.only_ite,
    ite_self, implies_true]

theorem State.freqCopy_only {part : StatePart} (hpart : part ∉ [.parts, .pails, .edp, .mem, .out]) (s : State) (p q : Nat) :
    (s.freqCopy p q).only part = s.only part := by
  simp only [State.freqCopy, State.finish_only hpart, State.copyOut_only hpart, State.fetch_only (outside hpart), State.only_ite, ite_self,
    implies_true]

theorem State.badOpcode_only {part : StatePart} (hpart : part ∉ [.pails]) (s : State) (p q : Nat) :
    (s.badOpcode p q).only part = s.only part := by
  simp only [State.badOpcode, State.fetched, State.stopQueue_only hpart, State.modPail_only hpart, State.only_ite, ite_self]

theorem State.rxBuffer_only {part : StatePart} (hpart : part ∉ [.parts, .pails, .edp, .mem, .out]) (s : State) (p q : Nat) :
    (s.rxBuffer p q).only part = s.only part := by
  simp only [State.rxBuffer, State.finish_only hpart, State.fetch_only (outside hpart), State.modPail_only (outside hpart), State.only_ite,
    ite_self, implies_true]

theorem State.txFrame_only {part : StatePart} (hpart : part ∉ [.regs, .ports, .sw, .parts, .pails, .health, .edp, .mem, .out]) (s : State)
    (p q : Nat) (answered : Bool) :
    (s.txFrame p q answered).only part = s.only part := by
  refine State.fetch_only (outside hpart) _ _ _ _ fun d t => ?_
  simp only [State.only_ite, State.finish_only (outside hpart), State.modPail_only (outside hpart), State.sendOwn_only (outside hpart),
    Sent.only_ite, ite_self]

theorem State.txCompletion_only {part : StatePart} (hpart : part ∉ [.ports, .parts, .pails, .edp, .mem, .out]) (s : State) (p : Nat) :
    (s.txCompletion p).only part = s.only part := by
  unfold State.txCompletion
  dsimp only
  split
  · rfl
  · split
    · rfl
    · split
      · rfl
      · simp only [State.complete_only (outside hpart), State.each_only, State.modPort_only (outside hpart), State.modPail_only
        (outside hpart),
          implies_true]

theorem State.rxCompletion_only {part : StatePart} (hpart : part ∉ [.sw, .parts, .pails, .edp, .mem, .out]) (s : State) (p : Nat) :
    (s.rxCompletion p).only part = s.only part := by
  unfold State.rxCompletion
  dsimp only
  repeat' split
  all_goals simp only [State.setSw_only (outside hpart), State.complete_only (outside hpart), State.pailWrite_only (outside hpart),
    State.modPail_only (outside hpart)]

theorem State.cryptoRun_only {part : StatePart} (hpart : part ∉ [.regs, .parts, .pails, .health, .edp, .mem, .out]) (s : State) (p : Nat) (d : Desc)
    (c : CryptoParams) (use : Consumer) (out : Nat) {work : List Byte → List Byte → List Byte → State → State}
    (hw : ∀ k x a t, (work k x a t).only part = t.only part) : (s.cryptoRun p d c use out work).only part = s.only part := by
  unfold State.cryptoRun
  split
  · exact State.finish_only (outside hpart) _ _ _ _ _ _
  · split <;> simp only [State.only_ite, State.finish_only (outside hpart), hw, State.useSlot_only hpart, ite_self]

theorem State.crypto_only {part : StatePart} (hpart : part ∉ [.regs, .parts, .pails, .health, .edp, .mem, .out]) (s : State) (p q op : Nat)
    (answered : Bool) (use : Consumer) (outLen : CryptoParams → Nat)
    {work : Desc → CryptoParams → List Byte → List Byte → List Byte → State → State}
    (hw : ∀ d c k x a t, (work d c k x a t).only part = t.only part) :
    (s.crypto p q op answered use outLen work).only part = s.only part := by
  have hf (t : State) (p q opcode : Nat) {f : Desc → State → State} := State.fetch_only (outside hpart) t p q opcode (work := f)
  have hr (t : State) (d : Desc) (c : CryptoParams) (out : Nat) := State.cryptoRun_only hpart t p d c use out (hw d c)
  simp only [State.crypto, hf, hr, State.finish_only (outside hpart), State.only_ite, implies_true, ite_self]

theorem State.cryptoSeal_only {part : StatePart} (hpart : part ∉ [.regs, .parts, .pails, .health, .edp, .mem, .out]) (s : State) (p q : Nat)
    (answered : Bool) :
    (s.cryptoSeal p q answered).only part = s.only part := by
  simp only [State.cryptoSeal, State.crypto_only hpart, State.finish_only (outside hpart), State.pailWrite_only (outside hpart),
    implies_true]

theorem State.cryptoOpen_only {part : StatePart} (hpart : part ∉ [.regs, .parts, .pails, .health, .edp, .mem, .out]) (s : State) (p q : Nat)
    (answered : Bool) :
    (s.cryptoOpen p q answered).only part = s.only part := by
  simp only [State.cryptoOpen, State.crypto_only hpart, State.finish_only (outside hpart), State.pailWrite_only (outside hpart),
    State.only_ite, ite_self, implies_true]

theorem State.hmacGenerate_only {part : StatePart} (hpart : part ∉ [.regs, .parts, .pails, .health, .edp, .mem, .out]) (s : State)
    (p q : Nat) (answered : Bool) :
    (s.hmacGenerate p q answered).only part = s.only part := by
  simp only [State.hmacGenerate, State.crypto_only hpart, State.finish_only (outside hpart), State.pailWrite_only (outside hpart),
    implies_true]

theorem State.hmacVerify_only {part : StatePart} (hpart : part ∉ [.regs, .parts, .pails, .health, .edp, .mem, .out]) (s : State) (p q : Nat)
    (answered : Bool) :
    (s.hmacVerify p q answered).only part = s.only part := by
  simp only [State.hmacVerify, State.crypto_only hpart, State.finish_only (outside hpart), implies_true]

theorem State.takeCommit_only {part : StatePart} (hpart : part ∉ [.regs, .parts, .pails, .pubs, .edp, .mem, .out]) (s : State)
    (p value : Nat) :
    (s.takeCommit p value).only part = s.only part := by
  simp only [State.takeCommit, State.post_only (outside hpart), State.commitSlots_only (outside hpart), State.count_only (outside hpart),
    State.modPail_only (outside hpart), State.only_ite, ite_self]

theorem State.pubCommit_only {part : StatePart} (hpart : part ∉ [.regs, .parts, .pails, .pubs, .edp, .mem, .out]) (s : State)
    (p value : Nat) :
    (s.pubCommit p value).only part = s.only part := by
  simp only [State.pubCommit, State.modPail_only (outside hpart), State.takeCommit_only hpart, State.only_ite, ite_self]

theorem State.pailTrigger_only {part : StatePart} (hpart : part ∉ [.regs, .hist, .parts, .pails, .health, .edp, .mem, .out]) (s : State)
    (p value : Nat) :
    (s.pailTrigger p value).only part = s.only part := by
  simp only [State.pailTrigger, State.trigger_only hpart, State.only_ite, ite_self]

theorem State.pailFreeze_only {part : StatePart} (hpart : part ∉ [.pails]) (s : State) (p value : Nat) :
    (s.pailFreeze p value).only part = s.only part := by
  simp only [State.pailFreeze, State.modPail_only hpart, State.only_ite, ite_self]

theorem State.writeEvHead_only {part : StatePart} (hpart : part ∉ [.parts, .pails, .edp, .mem, .out]) (s : State) (p value : Nat) :
    (s.writeEvHead p value).only part = s.only part := by
  simp only [State.writeEvHead, State.ringOverflow_only hpart, State.modPail_only (outside hpart), State.only_ite, ite_self]

theorem State.dirtySwap_only {part : StatePart} (hpart : part ∉ [.pails]) (s : State) (p : Nat) :
    (s.dirtySwap p).only part = s.only part := by
  simp only [State.dirtySwap, State.setPail_only hpart, State.only_ite, ite_self]

/-! #### The operations of Partitions -/

theorem State.callInfo_only {part : StatePart} (hpart : part ∉ [.parts]) (s : State) (n : Nat) :
    (s.callInfo n).only part = s.only part := by
  simp only [State.callInfo, State.callReturn_only hpart]

theorem State.callTick_only {part : StatePart} (hpart : part ∉ [.parts]) (s : State) (n : Nat) :
    (s.callTick n).only part = s.only part := by
  simp only [State.callTick, State.callReturn_only hpart]

theorem State.tickDone_only {part : StatePart} (hpart : part ∉ [.parts, .pails, .pubs, .pair, .out]) (s : State) (n : Nat) :
    (s.tickDone n).only part = s.only part := by
  unfold State.tickDone
  split <;> simp only [State.commitSlots_only (outside hpart), State.callReturn_only (outside hpart), State.sendRegions_only
    (outside hpart), State.modPart_only (outside hpart), State.only_ite, ite_self, State.when_only]

theorem State.vsTimer_only {part : StatePart} (hpart : part ∉ [.parts]) (s : State) (n : Nat) :
    (s.vsTimer n).only part = s.only part := by
  unfold State.vsTimer
  split <;> simp only [State.modPart_only hpart, State.only_ite, ite_self]

theorem State.stateDeclare_only {part : StatePart} (hpart : part ∉ [.parts]) (s : State) (n r : Nat) (a len : Nat) :
    (s.stateDeclare n r a len).only part = s.only part := by
  simp only [State.stateDeclare, State.callReturn_only hpart, State.modPart_only hpart, State.only_ite, ite_self]

theorem State.portSend_only {part : StatePart} (hpart : part ∉ [.parts]) (s : State) (n dest : Nat) (a len : Nat) :
    (s.portSend n dest a len).only part = s.only part := by
  simp only [State.portSend, State.callReturn_only hpart, State.modPart_only hpart, State.only_ite, ite_self]

theorem State.portRecv_only {part : StatePart} (hpart : part ∉ [.parts, .mem]) (s : State) (n a len : Nat) :
    (s.portRecv n a len).only part = s.only part := by
  unfold State.portRecv
  split <;> simp only [State.callReturn_only (outside hpart), State.modPart_only (outside hpart), State.storeBytes_only (outside hpart),
    State.only_ite, ite_self]

theorem State.callLog_only {part : StatePart} (hpart : part ∉ [.parts]) (s : State) (n a : Nat) :
    (s.callLog n a).only part = s.only part := by
  simp only [State.callLog, State.callReturn_only hpart, State.modPart_only hpart, State.only_ite, ite_self]

theorem State.migrateReady_only {part : StatePart} (hpart : part ∉ [.parts]) (s : State) (n : Nat) :
    (s.migrateReady n).only part = s.only part := by
  simp only [State.migrateReady, State.callReturn_only hpart, State.modPart_only hpart]

theorem State.windowOpen_only {part : StatePart} (hpart : part ∉ [.parts, .pails, .edp, .mem, .out]) (s : State) (n w : Nat) :
    (s.windowOpen n w).only part = s.only part := by
  unfold State.windowOpen
  dsimp only
  split <;> simp only [State.writeResync_only hpart, State.modPart_only (outside hpart), State.only_ite, ite_self]

theorem State.windowClose_only {part : StatePart} (hpart : part ∉ [.regs, .parts, .pails, .edp, .mem, .out]) (s : State) (n w : Nat) :
    (s.windowClose n w).only part = s.only part := by
  unfold State.windowClose
  dsimp only
  split <;> simp only [State.writeResync_only (outside hpart), State.modPart_only (outside hpart), State.count_only (outside hpart),
    State.only_ite, ite_self]

theorem State.partFault_only {part : StatePart} (hpart : part ∉ [.regs, .parts, .pails, .health, .edp, .mem, .out]) (s : State)
    (n cause : Nat) :
    (s.partFault n cause).only part = s.only part := by
  simp only [State.partFault, State.askRestart_only (outside hpart), State.healthFlag_only hpart, State.count_only (outside hpart),
    State.only_ite, ite_self]

theorem State.watchdogExpiry_only {part : StatePart} (hpart : part ∉ [.parts]) (s : State) (n : Nat) :
    (s.watchdogExpiry n).only part = s.only part := by
  simp only [State.watchdogExpiry, State.askRestart_only hpart, State.only_ite, ite_self]

theorem State.restartPart_only {part : StatePart} (hpart : part ∉ [.regs, .parts, .pails, .pair, .mem, .out]) (s : State) (n : Nat) :
    (s.restartPart n).only part = s.only part := by
  unfold State.restartPart
  dsimp only
  repeat' split
  all_goals simp only [State.loseWork_only (outside hpart), State.loadProgram_only (outside hpart), State.resetPail_only (outside hpart),
    State.modPart_only (outside hpart), State.count_only (outside hpart)]

/-! #### The operations of Boundary -/

theorem State.judgePaths_only {part : StatePart} (hpart : part ∉ [.regs, .parts, .pails, .pair, .health, .edp, .mem, .out]) (s : State)
    (t : Nat) :
    (s.judgePaths t).only part = s.only part := by
  simp only [State.judgePaths, State.pairStand_only (outside hpart), State.setPair_only (outside hpart), State.pairFlag_only
    (outside hpart), State.when_only]

theorem State.judgePartner_only {part : StatePart} (hpart : part ∉ [.regs, .parts, .pails, .pair, .health, .edp, .mem, .out]) (s : State)
    (t : Nat) :
    (s.judgePartner t).only part = s.only part := by
  simp only [State.judgePartner, State.pairStand_only (outside hpart), State.setPair_only (outside hpart)]

theorem State.judgeDigest_only {part : StatePart} (hpart : part ∉ [.regs, .parts, .pails, .pair, .health, .edp, .mem, .out]) (s : State)
    (t : Nat) :
    (s.judgeDigest t).only part = s.only part := by
  unfold State.judgeDigest
  split <;> simp only [State.setFlag_only (outside hpart), State.count_only (outside hpart), State.setPair_only (outside hpart),
    State.pairFlag_only (outside hpart), State.when_only]

theorem State.sectionLate_only {part : StatePart} (hpart : part ∉ [.regs, .parts, .pails, .health, .edp, .mem, .out]) (s : State) :
    (s.sectionLate).only part = s.only part := by
  simp only [State.sectionLate, State.count_only (outside hpart), State.pairFlag_only hpart]

theorem State.sectionDiffers_only {part : StatePart} (hpart : part ∉ [.regs]) (s : State) (differs : Bool) :
    (s.sectionDiffers differs).only part = s.only part := by
  simp only [State.sectionDiffers, State.count_only hpart, State.when_only]

theorem State.adoptOr_only {part : StatePart} (hpart : part ∉ [.regs, .parts, .pails, .health, .edp, .mem, .out]) (s : State) (t kind id : Nat)
    {f : List Byte → Adoption} (hf : ∀ l, (f l).1.only part = s.only part) : (s.adoptOr t kind id f).1.only part = s.only part := by
  unfold State.adoptOr
  split
  · exact hf _
  · exact State.sectionLate_only hpart _

theorem State.takeLoops_only {part : StatePart} (hpart : part ∉ [.regs, .parts, .pails, .loops, .health, .edp, .mem, .out]) (s : State)
    (t : Nat) :
    (s.takeLoops t).1.only part = s.only part := by
  simp only [State.takeLoops, State.sectionDiffers_only (outside hpart), State.adoptLoops_only hpart, State.adoptOr_only (outside hpart),
    State.only_ite_fst, ite_self, implies_true]

theorem State.takeChurn_only {part : StatePart} (hpart : part ∉ [.regs, .parts, .pails, .churn, .health, .edp, .mem, .out]) (s : State)
    (t : Nat) :
    (s.takeChurn t).1.only part = s.only part := by
  simp only [State.takeChurn, State.setChurn_only (outside hpart), State.sectionDiffers_only (outside hpart), State.adoptOr_only
    (outside hpart), State.only_ite_fst, ite_self, implies_true]

theorem State.takeCounters_only {part : StatePart} (hpart : part ∉ [.regs, .parts, .pails, .pubs, .health, .edp, .mem, .out]) (s : State)
    (t : Nat) :
    (s.takeCounters t).1.only part = s.only part := by
  simp only [State.takeCounters, State.sectionDiffers_only (outside hpart), State.adoptCounters_only (outside hpart), State.adoptOr_only
    (outside hpart), implies_true]

theorem State.takeRegion_only {part : StatePart} (hpart : part ∉ [.regs, .parts, .pails, .health, .edp, .mem, .out]) (s : State) (n r : Nat)
    (bs : List Byte) :
    (s.takeRegion n r bs).only part = s.only part := by
  simp only [State.takeRegion, State.sectionDiffers_only (outside hpart), State.modPart_only (outside hpart), State.pairFlag_only hpart,
    State.only_ite, ite_self, State.when_only]

theorem State.takeRegions_only {part : StatePart} (hpart : part ∉ [.regs, .parts, .pails, .health, .edp, .mem, .out]) (s : State)
    (t n : Nat) (expects : Bool) :
    (s.takeRegions t n expects).1.only part = s.only part := by
  simp only [State.takeRegions, State.sectionLate_only hpart, State.takeRegion_only hpart, State.modPart_only (outside hpart), implies_true,
    State.each_only, State.when_only]

theorem State.adopt_only {part : StatePart} (hpart : part ∉ [.regs, .parts, .pails, .churn, .loops, .pubs, .health, .edp, .mem, .out])
    (s : State) (t : Nat) :
    (s.adopt t).1.only part = s.only part := by
  simp only [State.adopt, State.takeLoops_only (outside hpart), State.takeCounters_only (outside hpart), State.takeChurn_only
    (outside hpart), State.takeRegions_only (outside hpart), State.only_ite_fst, ite_self, implies_true, State.foldl_only,
    State.foldl_fst_only]

theorem State.endSwap_only {part : StatePart} (hpart : part ∉ [.regs, .parts, .pails, .pair, .health, .edp, .mem, .out]) (s : State) :
    (s.endSwap).only part = s.only part := by
  unfold State.endSwap
  split <;> simp only [State.setPair_only (outside hpart), State.pairFlag_only (outside hpart), State.only_ite, ite_self, State.when_only]

theorem State.countRuns_only {part : StatePart} (hpart : part ∉ [.pair]) (s : State) (good : Bool) :
    (s.countRuns good).only part = s.only part := by
  simp only [State.countRuns, State.setPair_only hpart]

theorem State.applyChange_only {part : StatePart} (hpart : part ∉ [.regs, .hist, .parts, .pails, .churn, .loops, .health, .edp, .mem, .out])
    (s : State) (c : Change) :
    (s.applyChange c).only part = s.only part := by
  simp only [State.applyChange, State.applyTriggerNow_only (outside hpart), State.setReg_only (outside hpart), State.applyLoopRelease_only
    (outside hpart), State.applyTuning_only (outside hpart), State.acceptBatch_only (outside hpart), State.applyGroupRelease_only
    (outside hpart), State.applyReleaseAll_only (outside hpart), State.applyFreezeMap_only (outside hpart), State.only_ite, ite_self]

theorem State.runChanges_only {part : StatePart} (hpart : part ∉ [.regs, .hist, .parts, .pails, .churn, .loops, .pair, .health, .edp, .mem,
    .out]) (s : State) :
    (s.runChanges).only part = s.only part := by
  simp only [State.runChanges, State.applyChange_only (outside hpart), State.sendChange_only (outside hpart), State.setPair_only
    (outside hpart), State.pairFlag_only (outside hpart), implies_true, State.each_only]

theorem State.pairEnd_only {part : StatePart} (hpart : part ∉ [.regs, .parts, .pails, .churn, .loops, .pubs, .pair, .health, .edp, .mem,
    .out]) (s : State) (t : Nat) :
    (s.pairEnd t).only part = s.only part := by
  simp only [State.pairEnd, State.countRuns_only (outside hpart), State.judgePaths_only (outside hpart), State.judgeDigest_only
    (outside hpart), State.judgePartner_only (outside hpart), State.adopt_only (outside hpart), State.setPair_only (outside hpart),
    State.only_ite, ite_self]

theorem State.noteSuppressed_only {part : StatePart} (hpart : part ∉ [.parts, .pails, .edp, .mem, .out]) (s : State) :
    (s.noteSuppressed).only part = s.only part := by
  simp only [State.noteSuppressed, State.post_only hpart, State.modPail_only (outside hpart), implies_true, State.each_only,
    State.when_only]

theorem State.enterParts_only {part : StatePart} (hpart : part ∉ [.parts, .majorFrame]) (s : State) :
    (s.enterParts).only part = s.only part := by
  cases part <;> simp at hpart <;> rfl

theorem State.enterPail_only {part : StatePart} (hpart : part ∉ [.regs, .parts, .pails, .edp, .mem, .out]) (s : State) (p : Nat) :
    (s.enterPail p).only part = s.only part := by
  simp only [State.enterPail, State.post_only (outside hpart), State.freezeBound_only (outside hpart), State.modPail_only (outside hpart),
    State.finishReset_only (outside hpart), State.when_only]

theorem State.enterPails_only {part : StatePart} (hpart : part ∉ [.regs, .parts, .pails, .edp, .mem, .out]) (s : State) :
    (s.enterPails).only part = s.only part := by
  simp only [State.enterPails, State.enterPail_only hpart, implies_true, State.each_only]

theorem State.lateCommits_only {part : StatePart} (hpart : part ∉ [.regs, .parts, .pails, .pubs, .edp, .mem, .out]) (s : State) :
    (s.lateCommits).only part = s.only part := by
  simp only [State.lateCommits, State.modPail_only (outside hpart), State.takeCommit_only hpart, implies_true, State.each_only]

theorem State.samplePath_only {part : StatePart} (hpart : part ∉ [.dp]) (s : State) :
    (s.samplePath).only part = s.only part := by
  simp only [State.samplePath, State.setDp_only hpart]

theorem State.leadSections_only {part : StatePart} (hpart : part ∉ [.pair, .out]) (s : State) (churn : Bool) :
    (s.leadSections churn).only part = s.only part := by
  simp only [State.leadSections, State.sendChurn_only hpart, State.sendLoops_only hpart, State.sendCounters_only hpart, State.when_only]

theorem State.boundary_only {part : StatePart} (hpart : part ∉ [.regs, .workTick, .ports, .sw, .dp, .hist, .parts, .pails, .majorFrame,
    .churn, .loops, .subs, .pubs, .pair, .health, .edp, .mem, .out, .gooses]) (s : State) (k : Nat) :
    (s.boundary k).only part = s.only part := by
  simp only [State.boundary, State.enterPails_only (outside hpart), State.endSwap_only (outside hpart), State.publishLoops_only
    (outside hpart), State.lateCommits_only (outside hpart), State.safeStopYield_only (outside hpart), State.setRole_only (outside hpart),
    State.overrunRest_only (outside hpart), State.runChanges_only (outside hpart), State.formPubs_only (outside hpart), State.snapSubs_only
    (outside hpart), State.enterParts_only (outside hpart), State.pairEnd_only (outside hpart), State.setPair_only (outside hpart),
    State.noteSuppressed_only (outside hpart), State.leadSections_only (outside hpart), State.samplePath_only (outside hpart),
    State.with_workTick_only (outside hpart), State.when_only]

theorem State.workTickBoundary_only {part : StatePart} (hpart : part ∉ [.regs, .workTick, .ports, .sw, .dp, .hist, .parts, .pails,
    .majorFrame, .churn, .loops, .subs, .pubs, .pair, .health, .edp, .mem, .out, .gooses]) (s : State) :
    (s.workTickBoundary).only part = s.only part := by
  simp only [State.workTickBoundary, State.boundary_only hpart, State.only_ite, ite_self]

/-! #### The operations of FaultOps -/

theorem State.testFlag_only {part : StatePart} (hpart : part ∉ [.regs, .parts, .pails, .health, .edp, .mem, .out]) (s : State)
    (flag unit : Nat) :
    (s.testFlag flag unit).only part = s.only part := by
  simp only [State.testFlag, State.setFlag_only hpart]

theorem State.writeResult_only {part : StatePart} (hpart : part ∉ [.health]) (s : State) (unit result : Nat) (flags patterns misr : Nat) :
    (s.writeResult unit result flags patterns misr).only part = s.only part := by
  simp only [State.writeResult, State.setHealth_only hpart]

theorem State.recordTest_only {part : StatePart} (hpart : part ∉ [.regs, .parts, .pails, .health, .edp, .mem, .out, .freeUsed]) (s : State)
    (unit flags result : Nat) :
    (s.recordTest unit flags result).only part = s.only part := by
  simp only [State.recordTest, State.writeResult_only (outside hpart), State.drew_only (outside hpart), State.setHealth_only
    (outside hpart), State.count_only (outside hpart), State.testFlag_only (outside hpart), State.only_ite, ite_self]

theorem State.takeSpare_only {part : StatePart} (hpart : part ∉ [.health, .freeUsed]) {s t : State} {h q : Nat}
    (e : s.takeSpare h = some (q, t)) : t.only part = s.only part := by
  unfold State.takeSpare at e
  dsimp only at e
  split at e
  · cases e
    exact State.setHerd_only (outside hpart) _ _ _
  · split at e
    · cases e
    · cases e
      simp only [State.setHealth_only (outside hpart), State.setHerd_only (outside hpart), State.drew_only (outside hpart),
        State.writeResult_only (outside hpart)]

theorem State.placeReserve_only {part : StatePart} (hpart : part ∉ [.parts, .freeUsed]) (s : State) (n : Nat) :
    (s.placeReserve n).only part = s.only part := by
  simp only [State.placeReserve, State.setPart_only (outside hpart), State.drew_only (outside hpart), State.only_ite, ite_self]

theorem State.displace_only {part : StatePart} (hpart : part ∉ [.parts]) (s : State) (u : Nat) :
    (s.displace u).only part = s.only part := by
  simp only [State.displace, State.modPart_only hpart, implies_true, State.each_only]

theorem State.replace_only {part : StatePart} (hpart : part ∉ [.parts]) (s : State) :
    (s.replace).only part = s.only part := by
  simp only [State.replace, State.modPart_only hpart, implies_true, State.each_only]

theorem State.loseUnit_only {part : StatePart} (hpart : part ∉ [.parts, .pair, .health, .out]) (s : State) (u cause count : Nat) :
    (s.loseUnit u cause count).only part = s.only part := by
  simp only [State.loseUnit, State.setHerd_only (outside hpart), State.loseWork_only (outside hpart), State.displace_only (outside hpart),
    State.modPart_only (outside hpart), State.only_ite, ite_self, implies_true, State.each_only]

theorem State.retireCore_only {part : StatePart} (hpart : part ∉ [.regs, .parts, .pails, .pair, .health, .edp, .mem, .out]) (s : State)
    (unit cause count : Nat) :
    (s.retireCore unit cause count).only part = s.only part := by
  unfold State.retireCore
  dsimp only
  split <;> simp only [State.coverage_only (outside hpart), State.setHerd_only (outside hpart), State.recordRetirement_only (outside hpart),
    State.loseUnit_only (outside hpart), State.only_ite, ite_self]

theorem State.writeRepair_only {part : StatePart} (hpart : part ∉ [.regs, .parts, .pails, .health, .edp, .mem, .out]) (s : State)
    (r : Repair) :
    (s.writeRepair r).only part = s.only part := by
  simp only [State.writeRepair, State.setHealth_only (outside hpart), State.healthFlag_only hpart, State.only_ite, ite_self]

theorem State.noSpareRow_only {part : StatePart} (hpart : part ∉ [.regs, .time, .ports, .sw, .parts, .pails, .pair, .health, .edp, .mem,
    .out]) (s : State) (m row count : Nat) :
    (s.noSpareRow m row count).only part = s.only part := by
  unfold State.noSpareRow
  split <;> simp only [State.retirePort_only (outside hpart), State.recordRetirement_only (outside hpart), State.retireSlice_only
    (outside hpart), State.setHealth_only (outside hpart), State.retireCore_only (outside hpart)]

theorem State.repairRow_only {part : StatePart} (hpart : part ∉ [.regs, .time, .ports, .sw, .parts, .pails, .pair, .health, .edp, .mem,
    .out]) (s : State) (m row : Nat) (bitPos failType count : Nat) :
    (s.repairRow m row bitPos failType count).only part = s.only part := by
  simp only [State.repairRow, State.setHealth_only (outside hpart), State.noSpareRow_only hpart, State.writeRepair_only (outside hpart),
    State.only_ite, ite_self]

theorem State.correctError_only {part : StatePart} (hpart : part ∉ [.regs, .time, .ports, .sw, .parts, .pails, .pair, .health, .edp, .mem,
    .out]) (s : State) (m row bitPos : Nat) :
    (s.correctError m row bitPos).only part = s.only part := by
  simp only [State.correctError, State.setHealth_only (outside hpart), State.healthFlag_only (outside hpart), State.count_only
    (outside hpart), State.repairRow_only hpart, State.only_ite, ite_self]

theorem State.deferTest_only {part : StatePart} (hpart : part ∉ [.regs, .parts, .pails, .health, .edp, .mem, .out]) (s : State) (unit : Nat)
    :
    (s.deferTest unit).only part = s.only part := by
  simp only [State.deferTest, State.count_only (outside hpart), State.testFlag_only hpart]

/-! #### The operations of Faults -/

theorem State.lockstep_only {part : StatePart} (hpart : part ∉ [.regs, .parts, .pails, .pair, .health, .edp, .mem, .out]) (s : State)
    (unit : Nat) :
    (s.lockstep unit).only part = s.only part := by
  unfold State.lockstep
  dsimp only
  split
  · rfl
  · simp only [State.only_ite, State.retireCore_only (outside hpart), State.each_only, State.modPart_only (outside hpart),
      State.noteError_only (outside hpart), implies_true, ite_self]

theorem State.takeover_only {part : StatePart} (hpart : part ∉ [.regs, .parts, .pails, .health, .edp, .mem, .out, .freeUsed]) (s : State)
    (h : Nat) :
    (s.takeover h).only part = s.only part := by
  unfold State.takeover
  split
  · rfl
  · split
    · rfl
    · rename_i e
      simp only [State.replace_only (outside hpart), State.coverage_only (outside hpart), State.setHerd_only (outside hpart),
        State.recordRetirement_only (outside hpart), State.takeSpare_only (outside hpart) e]

theorem State.relocate_only {part : StatePart} (hpart : part ∉ [.regs, .parts, .pails, .health, .edp, .mem, .out, .freeUsed]) (s : State)
    (h : Nat) :
    (s.relocate h).only part = s.only part := by
  unfold State.relocate
  split <;> simp only [State.coverage_only (outside hpart), State.setHerd_only (outside hpart), State.recordRetirement_only (outside hpart),
    State.placeReserve_only (outside hpart), State.displace_only (outside hpart), State.only_ite, ite_self, implies_true, State.each_only]

theorem State.regionFails_only {part : StatePart} (hpart : part ∉ [.regs, .parts, .pails, .pair, .health, .edp, .mem, .out]) (s : State)
    (r : Nat) :
    (s.regionFails r).only part = s.only part := by
  simp only [State.regionFails, State.loseWork_only (outside hpart), State.setHealth_only (outside hpart), State.healthFlag_only
    (outside hpart), State.displace_only (outside hpart), State.only_ite, ite_self, implies_true, State.each_only, State.foldl_only]

theorem State.moveManager_only {part : StatePart} (hpart : part ∉ [.regs, .parts, .pails, .health, .edp, .mem, .out, .freeUsed]) (s : State)
    :
    (s.moveManager).only part = s.only part := by
  unfold State.moveManager
  dsimp only
  split
  · rfl
  · split
    · split
      · rename_i e
        simp only [State.healthFlag_only (outside hpart), State.coverage_only (outside hpart), State.setReg_only (outside hpart),
          State.setHealth_only (outside hpart), State.takeSpare_only (outside hpart) e]
      · rfl
    · simp only [State.displace_only (outside hpart), State.healthFlag_only (outside hpart), State.coverage_only (outside hpart),
        State.setReg_only (outside hpart), State.setHealth_only (outside hpart)]

theorem State.scrubRow_only {part : StatePart} (hpart : part ∉ [.regs, .time, .ports, .sw, .parts, .pails, .pair, .health, .edp, .mem, .out,
    .freeUsed]) (s : State) (m row errors : Nat) :
    (s.scrubRow m row errors).only part = s.only part := by
  simp only [State.scrubRow, State.drew_only (outside hpart), State.correctError_only (outside hpart), State.only_ite, ite_self,
    implies_true, State.each_only]

theorem State.engineLost_only {part : StatePart} (hpart : part ∉ [.pair, .out]) (s : State) {mark restart : State → State}
    (hm : ∀ t, (mark t).only part = t.only part) (hr : ∀ t, (restart t).only part = t.only part) :
    (s.engineLost mark restart).only part = s.only part := by
  simp only [State.engineLost, hm, hr, State.newRole_only hpart, State.setPair_only (outside hpart), State.only_ite, ite_self]

theorem State.loseSlot_only {part : StatePart} (hpart : part ∉ [.dp]) (s : State) (tick channel : Nat) :
    (s.loseSlot tick channel).only part = s.only part := by
  unfold State.loseSlot
  split <;> simp only [State.setChan_only hpart, State.setDp_only hpart, State.only_ite, ite_self]

theorem State.loseRecord_only {part : StatePart} (hpart : part ∉ [.dp]) (s : State) (tick output : Nat) :
    (s.loseRecord tick output).only part = s.only part := by
  unfold State.loseRecord
  dsimp only
  split <;> simp only [State.setChan_only hpart, State.setDp_only hpart, State.only_ite, ite_self]

theorem State.doubleBit_only {part : StatePart} (hpart : part ∉ [.regs, .ports, .sw, .dp, .parts, .pails, .churn, .loops, .pair, .sec,
    .health, .edp, .mem, .out]) (s : State) (place : MemPlace) :
    (s.doubleBit place).only part = s.only part := by
  have hbegun : ((s.count 32 Od.healthUncorrectedErrors).healthFlag 7).only part = s.only part := by
    simp only [State.healthFlag_only (outside hpart), State.count_only (outside hpart)]
  unfold State.doubleBit
  dsimp only
  split
  · simp only [State.only_ite, State.askRestart_only (outside hpart), State.modPart_only (outside hpart), hbegun, ite_self]
  · exact hbegun
  · simp only [State.only_ite, State.loseSlot_only (outside hpart), State.setDp_only (outside hpart), hbegun, ite_self]
  · exact (State.loseSlot_only (outside hpart) _ _ _).trans hbegun
  · exact (State.loseRecord_only (outside hpart) _ _ _).trans hbegun
  · refine (State.engineLost_only (outside hpart) _ (fun t => State.setChurn_only (outside hpart) _ _) fun t => ?_).trans hbegun
    simp only [State.only_ite, State.applyRestart_only (outside hpart), ite_self]
  · refine (State.engineLost_only (outside hpart) _ (fun t => State.setLoops_only (outside hpart) _ _) fun t => ?_).trans hbegun
    simp only [State.latchStand_only (outside hpart), State.each_only, State.restartUnit_only (outside hpart), implies_true]
  · split
    · exact hbegun
    · simp only [State.count_only (outside hpart), State.badFrame_only (outside hpart), hbegun]
  · exact (State.setSec_only (outside hpart) _ _).trans hbegun

theorem State.linkFails_only {part : StatePart} (hpart : part ∉ [.regs, .hist, .parts, .pails, .pair, .sec, .health, .edp, .power, .mem,
    .out]) (s : State) (l : Nat) :
    (s.linkFails l).only part = s.only part := by
  simp only [State.linkFails, State.recordRetirement_only (outside hpart), State.stand_only (outside hpart), State.setSec_only
    (outside hpart), State.linkStand_only (outside hpart), State.setHealth_only (outside hpart), State.healthFlag_only (outside hpart),
    State.withdraw_only (outside hpart), State.setHist_only (outside hpart), State.modPart_only (outside hpart), State.only_ite, ite_self,
    implies_true, State.each_only]

theorem State.startSlot_only {part : StatePart} (hpart : part ∉ [.regs, .parts, .pails, .health, .edp, .mem, .out]) (s : State) (unit : Nat)
    (manual : Bool) :
    (s.startSlot unit manual).only part = s.only part := by
  unfold State.startSlot
  dsimp only
  repeat' split
  all_goals simp only [State.coverage_only hpart, State.setHerd_only (outside hpart), State.setHealth_only (outside hpart)]

theorem State.slotStart_only {part : StatePart} (hpart : part ∉ [.regs, .parts, .pails, .health, .edp, .mem, .out]) (s : State) (unit : Nat)
    :
    (s.slotStart unit).only part = s.only part := by
  simp only [State.slotStart, State.coverage_only hpart, State.startSlot_only hpart, State.deferTest_only hpart, State.only_ite, ite_self]

theorem State.leaveTest_only {part : StatePart} (hpart : part ∉ [.regs, .parts, .pails, .health, .edp, .mem, .out]) (s : State) (unit : Nat)
    (good : Bool) :
    (s.leaveTest unit good).only part = s.only part := by
  simp only [State.leaveTest, State.coverage_only hpart, State.setHerd_only (outside hpart), State.setHealth_only (outside hpart),
    State.only_ite, ite_self]

theorem State.testEnd_only {part : StatePart} (hpart : part ∉ [.regs, .parts, .pails, .pair, .health, .edp, .mem, .out]) (s : State)
    (unit : Nat) (e : TestEnd) :
    (s.testEnd unit e).only part = s.only part := by
  simp only [State.testEnd, State.leaveTest_only (outside hpart), State.writeResult_only (outside hpart), State.setReg_only (outside hpart),
    State.retireSlice_only (outside hpart), State.setHealth_only (outside hpart), State.retireCore_only hpart, State.count_only
    (outside hpart), State.testFlag_only (outside hpart), State.only_ite, ite_self, State.when_only]

theorem State.planSlice_only {part : StatePart} (hpart : part ∉ [.pair, .out]) (s : State) (slice : Nat) :
    (s.planSlice slice).only part = s.only part := by
  simp only [State.planSlice, State.newRole_only hpart, State.setPair_only (outside hpart), State.only_ite, ite_self]

theorem State.sliceTestStart_only {part : StatePart} (hpart : part ∉ [.regs, .parts, .pails, .pair, .health, .edp, .mem, .out]) (s : State)
    (slice : Nat) :
    (s.sliceTestStart slice).only part = s.only part := by
  simp only [State.sliceTestStart, State.planSlice_only (outside hpart), State.setHealth_only (outside hpart), State.deferTest_only
    (outside hpart), State.only_ite, ite_self]

theorem State.testAge_only {part : StatePart} (hpart : part ∉ [.regs, .parts, .pails, .health, .edp, .mem, .out]) (s : State) :
    (s.testAge).only part = s.only part := by
  simp only [State.testAge, State.setReg_only (outside hpart), State.stand_only hpart]

theorem State.writeClearRetirement_only {part : StatePart} (hpart : part ∉ [.health]) (s : State) (unit : Nat) :
    (s.writeClearRetirement unit).state.only part = s.only part := by
  simp only [State.writeClearRetirement, State.setHealth_only hpart, Answer.only_ite, ite_self, State.refuse, State.ok]

theorem State.writeHardRepair_only {part : StatePart} (hpart : part ∉ [.health]) (s : State) (record : Nat) :
    (s.writeHardRepair record).state.only part = s.only part := by
  unfold State.writeHardRepair
  repeat' split
  all_goals simp only [State.setHealth_only hpart, State.refuse, State.ok]

theorem State.writeManualRun_only {part : StatePart} (hpart : part ∉ [.regs, .parts, .pails, .pair, .health, .edp, .mem, .out]) (s : State)
    (value : Nat) :
    (s.writeManualRun value).state.only part = s.only part := by
  simp only [State.writeManualRun, State.startSlot_only (outside hpart), State.planSlice_only (outside hpart), State.setHealth_only
    (outside hpart), Answer.only_ite, ite_self, State.refuse, State.ok]

/-! #### The operations of OpOps -/

theorem State.randomBytes_only {part : StatePart} (hpart : part ∉ [.freeUsed]) (s : State) (n : Nat) :
    (s.randomBytes n).2.only part = s.only part := by
  simp only [State.randomBytes, State.with_freeUsed_only (outside hpart)]

theorem State.restartNow_only {part : StatePart} (hpart : part ∉ [.pair, .health, .power, .out]) (s : State) (cause : Nat) :
    (s.restartNow cause).only part = s.only part := by
  simp only [State.restartNow, State.withdraw_only hpart, State.setPower_only (outside hpart), State.only_ite, ite_self]

theorem State.setEdp_only {part : StatePart} (hpart : part ∉ [.edp]) (s : State) (f : Edp → Edp) :
    (s.setEdp f).only part = s.only part := by
  simp only [State.setEdp, State.with_edp_only (outside hpart)]

theorem State.opFlag_only {part : StatePart} (hpart : part ∉ [.regs, .parts, .pails, .health, .edp, .mem, .out]) (s : State) (flag n : Nat)
    :
    (s.opFlag flag n).only part = s.only part := by
  simp only [State.opFlag, State.setFlag_only hpart]

theorem State.openOp_only {part : StatePart} (hpart : part ∉ [.edp]) {s t : State} {type role session n : Nat} {params : List Byte}
    (e : s.openOp type role session params = some (n, t)) : t.only part = s.only part := by
  unfold State.openOp at e
  split at e
  · cases e
  · split at e
    · cases e
    · cases e
      simp only [State.setEdp_only hpart, State.setOp_only hpart]

theorem State.endOp_only {part : StatePart} (hpart : part ∉ [.regs, .parts, .pails, .health, .edp, .mem, .out]) (s : State) (n : Nat)
    (state : OpState) (result : Nat) :
    (s.endOp n state result).only part = s.only part := by
  simp only [State.endOp, State.opFlag_only hpart, State.setOp_only (outside hpart)]

theorem State.edpFlag_only {part : StatePart} (hpart : part ∉ [.regs, .parts, .pails, .health, .edp, .mem, .out]) (s : State) (flag : Nat)
    (t : Transport) :
    (s.edpFlag flag t).only part = s.only part := by
  simp only [State.edpFlag, State.setFlag_only hpart]

theorem State.dropStage_only {part : StatePart} (hpart : part ∉ [.edp]) (s : State) :
    (s.dropStage).only part = s.only part := by
  simp only [State.dropStage, State.setEdp_only hpart]

theorem State.closeSession_only {part : StatePart} (hpart : part ∉ [.regs, .parts, .pails, .health, .edp, .mem, .out]) (s : State)
    (sid : Nat) :
    (s.closeSession sid).only part = s.only part := by
  unfold State.closeSession
  split <;> simp only [State.dropStage_only (outside hpart), State.setEdp_only (outside hpart), State.edpFlag_only hpart, State.only_ite,
    ite_self]

theorem State.dropOrphans_only {part : StatePart} (hpart : part ∉ [.regs, .parts, .pails, .health, .edp, .mem, .out]) (s : State) :
    (s.dropOrphans).only part = s.only part := by
  simp only [State.dropOrphans, State.closeSession_only hpart, State.only_ite, ite_self, implies_true, State.each_only]

/-! #### The operations of Keys -/

theorem State.startUpdate_only {part : StatePart} (hpart : part ∉ [.regs, .sec]) (s : State) (u : Update) :
    (s.startUpdate u).only part = s.only part := by
  simp only [State.startUpdate, State.setReg_only (outside hpart), State.setSec_only (outside hpart)]

theorem State.refuseUpdate_only {part : StatePart} (hpart : part ∉ [.regs, .parts, .pails, .health, .edp, .mem, .out]) (s : State) :
    (s.refuseUpdate).state.only part = s.only part := by
  simp only [State.refuseUpdate, State.setFlag_only hpart, Answer.only_ite, ite_self, State.refuse]

theorem State.putSlot_only {part : StatePart} (hpart : part ∉ [.regs, .sec]) (s : State) (slot : Nat) (r : SlotRec) (key : List Byte) :
    (s.putSlot slot r key).only part = s.only part := by
  simp only [State.putSlot, State.setSec_only (outside hpart), State.setSlot_only (outside hpart)]

theorem State.writeSlot_only {part : StatePart} (hpart : part ∉ [.regs, .parts, .pails, .sec, .health, .edp, .mem, .out]) (s : State)
    (slot : Nat) (r : SlotRec) (key : List Byte) (journal : Bool) :
    (s.writeSlot slot r key journal).only part = s.only part := by
  simp only [State.writeSlot, State.keysFlag_only (outside hpart), State.startUpdate_only (outside hpart), State.dropOrphans_only
    (outside hpart), State.putSlot_only (outside hpart), State.only_ite, ite_self]

theorem State.madeKey_only {part : StatePart} (hpart : part ∉ [.freeUsed]) (s : State) (alg keyLen : Nat) :
    (s.madeKey alg keyLen).2.only part = s.only part := by
  simp only [State.madeKey, State.randomBytes_only hpart, State.only_ite_snd, ite_self]

theorem State.keyEffect_only {part : StatePart} (hpart : part ∉ [.regs, .blobs, .parts, .pails, .sec, .health, .edp, .mem, .out, .freeUsed])
    (s : State) (op : KeyOp) (role session : Nat) (c : KeyCmd) :
    (s.keyEffect op role session c).state.only part = s.only part := by
  unfold State.keyEffect
  dsimp only
  split
  · rfl
  · split
    · simp only [Answer.only_ite, State.refuse, State.ok, State.writeSlot_only (outside hpart), ite_self]
    · simp only [Answer.only_ite, State.refuse, State.ok, State.writeSlot_only (outside hpart), ite_self]
    · split
      · rfl
      · split
        · split
          · rfl
          · rename_i e
            exact State.openOp_only (outside hpart) e
        · simp only [State.ok, State.writeSlot_only (outside hpart), State.madeKey_only (outside hpart)]
    · exact State.writeSlot_only (outside hpart) _ _ _ _ _
    · simp only [Answer.only_ite, State.refuse, State.ok, State.writeSlot_only (outside hpart), ite_self]
    · simp only [Answer.only_ite, State.refuse, State.ok, State.keysFlag_only (outside hpart), State.setBlob_only (outside hpart),
        State.randomBytes_only (outside hpart), ite_self]
    · split
      · rfl
      · split
        · rfl
        · simp only [Answer.only_ite, State.refuse, State.ok, State.writeSlot_only (outside hpart), ite_self]

theorem State.keyCommand_only {part : StatePart} (hpart : part ∉ [.regs, .blobs, .parts, .pails, .sec, .health, .edp, .mem, .out,
    .freeUsed]) (s : State) (op : KeyOp) (role session : Nat) (c : KeyCmd) :
    (s.keyCommand op role session c).state.only part = s.only part := by
  simp only [State.keyCommand, State.keyEffect_only hpart, State.refuseUpdate_only (outside hpart), Answer.only_ite, ite_self, State.refuse]

theorem State.keyFrom_only {part : StatePart} (hpart : part ∉ [.regs, .blobs, .parts, .pails, .sec, .health, .edp, .mem, .out, .freeUsed])
    (s : State) (op : KeyOp) (session : Nat) (c : KeyCmd) :
    (s.keyFrom op session c).state.only part = s.only part := by
  unfold State.keyFrom
  split <;> simp only [State.keyCommand_only hpart, Answer.only_ite, ite_self, State.refuse]

theorem State.keygenDone_only {part : StatePart} (hpart : part ∉ [.regs, .blobs, .parts, .pails, .sec, .health, .edp, .mem, .out,
    .freeUsed]) (s : State) (n : Nat) :
    (s.keygenDone n).only part = s.only part := by
  unfold State.keygenDone
  split <;> simp only [State.setBlob_only (outside hpart), State.writeSlot_only (outside hpart), State.endOp_only (outside hpart),
    State.refuseUpdate_only (outside hpart), State.madeKey_only (outside hpart), State.only_ite, ite_self]

/-! #### The operations of LifeCycle -/

theorem State.lcFlag_only {part : StatePart} (hpart : part ∉ [.regs, .parts, .pails, .health, .edp, .mem, .out]) (s : State) (flag : Nat) :
    (s.lcFlag flag).only part = s.only part := by
  simp only [State.lcFlag, State.setFlag_only hpart]

theorem State.drawNonce_only {part : StatePart} (hpart : part ∉ [.regs, .freeUsed]) (s : State) :
    (s.drawNonce).only part = s.only part := by
  simp only [State.drawNonce, State.setReg_only (outside hpart), State.randomBytes_only (outside hpart)]

theorem State.refuseToken_only {part : StatePart} (hpart : part ∉ [.regs, .parts, .pails, .health, .edp, .mem, .out, .freeUsed]) (s : State)
    :
    (s.refuseToken).state.only part = s.only part := by
  simp only [State.refuseToken, State.lcFlag_only (outside hpart), State.drawNonce_only (outside hpart), State.refuse]

theorem State.lcRequest_only {part : StatePart} (hpart : part ∉ [.regs, .parts, .pails, .sec, .health, .edp, .mem, .out, .freeUsed])
    (s : State) (role slot : Nat) (to_ : LifeCycle) (r : LcReq) :
    (s.lcRequest role slot to_ r).state.only part = s.only part := by
  unfold State.lcRequest
  dsimp only
  repeat' split
  all_goals simp only [State.startUpdate_only (outside hpart), State.refuseToken_only (outside hpart), State.refuseUpdate_only
    (outside hpart), State.lcFlag_only (outside hpart), State.refuse, State.ok]

theorem State.lcFrom_only {part : StatePart} (hpart : part ∉ [.regs, .parts, .pails, .sec, .health, .edp, .mem, .out, .freeUsed])
    (s : State) (session : Nat) (to_ : LifeCycle) (r : LcReq) :
    (s.lcFrom session to_ r).state.only part = s.only part := by
  unfold State.lcFrom
  split <;> simp only [State.lcRequest_only hpart, Answer.only_ite, ite_self, State.refuse]

theorem State.toOwned_only {part : StatePart} (hpart : part ∉ [.regs, .parts, .pails, .sec, .health, .edp, .mem, .out, .freeUsed])
    (s : State) (session : Nat) (r : LcReq) (from_ : LifeCycle) :
    (s.toOwned session r from_).state.only part = s.only part := by
  simp only [State.toOwned, State.lcFrom_only hpart, Answer.only_ite, ite_self, State.refuse]

theorem State.eraseSlot_only {part : StatePart} (hpart : part ∉ [.regs, .sec]) (s : State) (slot : Nat) :
    (s.eraseSlot slot).only part = s.only part := by
  simp only [State.eraseSlot, State.putSlot_only hpart]

theorem State.createOwner_only {part : StatePart} (hpart : part ∉ [.regs, .sec, .freeUsed]) (s : State) (r : LcReq) :
    (s.createOwner r).only part = s.only part := by
  simp only [State.createOwner, State.setReg_only (outside hpart), State.setSec_only (outside hpart), State.putSlot_only (outside hpart),
    State.randomBytes_only (outside hpart)]

theorem State.eraseBanks_only {part : StatePart} (hpart : part ∉ [.regs, .sec]) (s : State) :
    (s.eraseBanks).only part = s.only part := by
  simp only [State.eraseBanks, State.setReg_only (outside hpart), State.setSec_only (outside hpart), State.putSlot_only hpart, implies_true,
    State.each_only]

theorem State.transition_only {part : StatePart} (hpart : part ∉ [.regs, .sec, .freeUsed]) (s : State) (to_ : LifeCycle) (r : LcReq)
    (revoke : Bool) :
    (s.transition to_ r revoke).only part = s.only part := by
  unfold State.transition
  repeat' split
  all_goals simp only [State.createOwner_only hpart, State.eraseBanks_only (outside hpart), State.setSec_only (outside hpart),
    State.eraseSlot_only (outside hpart)]

theorem State.journalCommit_only {part : StatePart} (hpart : part ∉ [.regs, .parts, .pails, .pair, .sec, .health, .edp, .power, .mem, .out,
    .freeUsed]) (s : State) :
    (s.journalCommit).only part = s.only part := by
  have hsvns (l : List (Nat × Nat)) (t : State) := State.foldl_only (p := part)
    (f := fun (t : State) (e : Nat × Nat) => t.setReg Od.fwSvn (setField (t.reg Od.fwSvn) (32 * (6 - e.1)) 32 e.2))
    (fun t e => State.setReg_only (outside hpart) _ _ _) l t
  unfold State.journalCommit
  split
  · rfl
  · rename_i u _
    cases u with
    | slot n w key =>
      simp only [State.setPower_only (outside hpart), State.dropOrphans_only (outside hpart), State.setFlag_only (outside hpart),
        State.keysFlag_only (outside hpart), State.putSlot_only (outside hpart), State.setReg_only (outside hpart),
        State.setSec_only (outside hpart)]
    | transition to_ r revoke =>
      simp only [State.setPower_only (outside hpart), State.restartNow_only (outside hpart), State.dropOrphans_only (outside hpart),
        State.setFlag_only (outside hpart), State.transition_only (outside hpart), State.setReg_only (outside hpart),
        State.setSec_only (outside hpart)]
    | firmware bank svns =>
      simp only [State.setPower_only (outside hpart), State.dropOrphans_only (outside hpart), State.setFlag_only (outside hpart)]
      split <;> simp only [State.endOp_only (outside hpart), hsvns, State.setReg_only (outside hpart), State.setSec_only (outside hpart)]

theorem State.logTamper_only {part : StatePart} (hpart : part ∉ [.regs, .parts, .pails, .sec, .health, .edp, .mem, .out, .freeUsed])
    (s : State) (fired : Nat) :
    (s.logTamper fired).only part = s.only part := by
  simp only [State.logTamper, State.setReg_only (outside hpart), State.setFlag_only (outside hpart), State.setSec_only (outside hpart),
    State.drew_only (outside hpart), State.only_ite, ite_self]

theorem State.tamperResponse_only {part : StatePart} (hpart : part ∉ [.regs, .parts, .pails, .sec, .health, .edp, .mem, .out, .freeUsed])
    (s : State) (fired : Nat) :
    (s.tamperResponse fired).only part = s.only part := by
  unfold State.tamperResponse
  simp only [State.dropOrphans_only (outside hpart), State.stand_only (outside hpart), State.setFlag_only (outside hpart),
    State.logTamper_only (outside hpart)]
  refine (State.foldl_only (fun t k => ?_) _ _).trans ?_
  · split
    · exact State.endOp_only (outside hpart) _ _ _ _
    · rfl
  · simp only [State.setReg_only (outside hpart), State.setSec_only (outside hpart)]

theorem State.tamper_only {part : StatePart} (hpart : part ∉ [.regs, .parts, .pails, .pair, .sec, .health, .edp, .power, .mem, .out,
    .freeUsed]) (s : State) (sources : Nat) :
    (s.tamper sources).only part = s.only part := by
  unfold State.tamper
  split <;> simp only [State.setReg_only (outside hpart), State.tamperResponse_only (outside hpart), State.setSec_only (outside hpart),
    State.lastGasp_only (outside hpart), State.restartNow_only (outside hpart), State.only_ite, ite_self]

theorem State.loopCheck_only {part : StatePart} (hpart : part ∉ [.regs, .parts, .pails, .pair, .sec, .health, .edp, .power, .mem, .out,
    .freeUsed]) (s : State) (faults : Nat) :
    (s.loopCheck faults).only part = s.only part := by
  simp only [State.loopCheck, State.setReg_only (outside hpart), State.setSec_only (outside hpart), State.tamper_only hpart, State.drew_only
    (outside hpart), State.only_ite, ite_self]

theorem State.clearTamper_only {part : StatePart} (hpart : part ∉ [.regs, .parts, .pails, .pair, .sec, .health, .edp, .power, .mem, .out,
    .freeUsed]) (s : State) :
    (s.clearTamper).only part = s.only part := by
  simp only [State.clearTamper, State.setReg_only (outside hpart), State.setFlag_only (outside hpart), State.stand_only (outside hpart),
    State.setSec_only (outside hpart), State.eraseSlot_only (outside hpart), State.drew_only (outside hpart), State.restartNow_only
    (outside hpart), implies_true, State.each_only]

theorem State.writeTamperClear_only {part : StatePart} (hpart : part ∉ [.regs, .parts, .pails, .pair, .sec, .health, .edp, .power, .mem,
    .out, .freeUsed]) (s : State) (role slot value : Nat) :
    (s.writeTamperClear role slot value).state.only part = s.only part := by
  simp only [State.writeTamperClear, State.clearTamper_only hpart, Answer.only_ite, ite_self, State.refuse, State.ok]

theorem State.attestDone_only {part : StatePart} (hpart : part ∉ [.regs, .blobs, .parts, .pails, .health, .edp, .mem, .out]) (s : State)
    (n : Nat) :
    (s.attestDone n).only part = s.only part := by
  simp only [State.attestDone, State.setBlob_only (outside hpart), State.endOp_only (outside hpart), State.lcFlag_only (outside hpart),
    State.only_ite, ite_self]

theorem State.writeNonce_only {part : StatePart} (hpart : part ∉ [.regs, .edp]) (s : State) (role session value : Nat) :
    (s.writeNonce role session value).state.only part = s.only part := by
  unfold State.writeNonce
  split
  · rfl
  · split
    · rfl
    · rename_i e
      exact (State.setReg_only (outside hpart) _ _ _).trans (State.openOp_only (outside hpart) e)

/-! #### The operations of ConfigRead -/

theorem State.configRead_only {part : StatePart} (hpart : part ∉ [.parts, .mem]) (s : State) (n index : Nat) (sub a len : Nat) :
    (s.configRead n index sub a len).only part = s.only part := by
  unfold State.configRead
  split <;> simp only [State.callReturn_only (outside hpart), State.storeBytes_only (outside hpart), State.only_ite, ite_self]

/-! #### The operations of Ports -/

theorem State.rxStart_only {part : StatePart} (hpart : part ∉ [.regs, .ports, .parts, .pails, .health, .edp, .mem, .out, .freeUsed])
    (s : State) (p : Nat) :
    (s.rxStart p).only part = s.only part := by
  simp only [State.rxStart, State.overflowDrop_only (outside hpart), State.modPort_only (outside hpart), State.occupancy_only
    (outside hpart), State.only_ite, ite_self]

theorem State.localPut_only {part : StatePart} (hpart : part ∉ [.sw]) (s : State) (q : Nat) (e : LocalFrame) :
    (s.localPut q e).only part = s.only part := by
  simp only [State.localPut, State.with_sw_only (outside hpart)]

theorem State.finishLocal_only {part : StatePart} (hpart : part ∉ [.sw]) (s : State) (p len : Nat) :
    (s.finishLocal p len).only part = s.only part := by
  simp only [State.finishLocal, State.with_sw_only (outside hpart)]

theorem State.tooLong_only {part : StatePart} (hpart : part ∉ [.regs, .ports, .sw, .parts, .pails, .health, .edp, .mem, .out]) (s : State)
    (id len : Nat) :
    (s.tooLong id len).only part = s.only part := by
  unfold State.tooLong
  split <;> simp only [State.leave_only (outside hpart), State.stomp_only hpart, State.countPort_only (outside hpart), State.only_ite,
    ite_self, implies_true, State.each_only]

theorem State.removeCopies_only {part : StatePart} (hpart : part ∉ [.ports, .sw]) (s : State) (p : Nat) (id : Option Nat) :
    (s.removeCopies p id).only part = s.only part := by
  unfold State.removeCopies
  split <;> simp only [State.leave_only hpart, State.dropLocal_only (outside hpart), implies_true, State.each_only]

theorem State.prpJudged_only {part : StatePart} (hpart : part ∉ [.regs, .ports, .sw, .parts, .pails, .health, .edp, .mem, .out]) (s : State)
    (p : Nat) (r : Reception) (len : Nat) :
    (s.prpJudged p r len).only part = s.only part := by
  unfold State.prpJudged
  dsimp only
  repeat' split
  all_goals simp only [State.setSw_only (outside hpart), State.removeCopies_only (outside hpart), State.judgePrp_only (outside hpart),
    State.takeSeqs_only (outside hpart)]

theorem State.completeFrame_only {part : StatePart} (hpart : part ∉ [.sw]) (s : State) (id len : Nat) :
    (s.completeFrame id len).only part = s.only part := by
  unfold State.completeFrame
  split <;> simp only [State.setSw_only hpart, State.trimCells_only hpart]

theorem State.rxEnd_only {part : StatePart} (hpart : part ∉ [.regs, .ports, .sw, .parts, .pails, .health, .edp, .mem, .out, .freeUsed])
    (s : State) (p : Nat) (e : RxEnd) :
    (s.rxEnd p e).only part = s.only part := by
  unfold State.rxEnd
  dsimp only
  repeat' split
  all_goals simp only [State.modPort_only (outside hpart), State.noteLoad_only (outside hpart), State.dropLocal_only (outside hpart),
    State.badFrame_only (outside hpart), State.tooLong_only (outside hpart), State.countPort_only (outside hpart), State.prpJudged_only
    (outside hpart), State.completeFrame_only (outside hpart), State.localPut_only (outside hpart), State.occupancy_only (outside hpart),
    State.finishLocal_only (outside hpart), State.countGood_only (outside hpart)]

theorem State.pauseIn_only {part : StatePart} (hpart : part ∉ [.regs, .ports, .parts, .pails, .health, .edp, .mem, .out]) (s : State)
    (p q : Nat) :
    (s.pauseIn p q).only part = s.only part := by
  simp only [State.pauseIn, State.setPort_only (outside hpart), State.countPort_only hpart, State.only_ite, ite_self]

theorem State.pauseOver_only {part : StatePart} (hpart : part ∉ [.ports]) (s : State) (p : Nat) :
    (s.pauseOver p).only part = s.only part := by
  simp only [State.pauseOver, State.modPort_only hpart]

theorem State.pauseAgain_only {part : StatePart} (hpart : part ∉ [.ports, .freeUsed]) (s : State) (p : Nat) :
    (s.pauseAgain p).only part = s.only part := by
  simp only [State.pauseAgain, State.setPort_only (outside hpart), State.occupancy_only hpart, State.only_ite, ite_self]

theorem State.speedNow_only {part : StatePart} (hpart : part ∉ [.regs, .time, .ports, .sw, .parts, .pails, .health, .edp, .mem, .out])
    (s : State) (p : Nat) (lower : Bool) :
    (s.speedNow p lower).only part = s.only part := by
  simp only [State.speedNow, State.modPort_only (outside hpart), State.setFlag_only (outside hpart), State.linkLoss_only hpart]

theorem State.speedAwaited_only {part : StatePart} (hpart : part ∉ [.regs, .time, .ports, .sw, .parts, .pails, .health, .edp, .mem, .out])
    (s : State) (p : Nat) :
    (s.speedAwaited p).only part = s.only part := by
  unfold State.speedAwaited
  dsimp only
  split <;> simp only [State.speedNow_only hpart, State.only_ite, ite_self]

theorem State.changeSpeed_only {part : StatePart} (hpart : part ∉ [.regs, .time, .ports, .sw, .parts, .pails, .health, .edp, .mem, .out])
    (s : State) (p : Nat) (lower : Bool) :
    (s.changeSpeed p lower).only part = s.only part := by
  simp only [State.changeSpeed, State.modPort_only (outside hpart), State.speedNow_only hpart, State.only_ite, ite_self]

theorem State.sgmiiReport_only {part : StatePart} (hpart : part ∉ [.regs, .time, .ports, .sw, .parts, .pails, .health, .edp, .mem, .out])
    (s : State) (p speed : Nat) (full : Bool) :
    (s.sgmiiReport p speed full).only part = s.only part := by
  simp only [State.sgmiiReport, State.modPort_only (outside hpart), State.setFlag_only (outside hpart), State.linkLoss_only hpart,
    State.only_ite, ite_self]

theorem State.lockLost_only {part : StatePart} (hpart : part ∉ [.regs, .time, .ports, .sw, .parts, .pails, .health, .edp, .mem, .out])
    (s : State) (p : Nat) :
    (s.lockLost p).only part = s.only part := by
  simp only [State.lockLost, State.retirePort_only hpart, State.setFlag_only (outside hpart), State.linkLoss_only hpart,
    State.noteError_only (outside hpart), State.only_ite, ite_self]

theorem State.clearHalfRange_only {part : StatePart} (hpart : part ∉ [.regs]) (s : State) (p value : Nat) :
    (s.clearHalfRange p value).state.only part = s.only part := by
  simp only [State.clearHalfRange, State.setReg_only hpart, State.ok]

theorem State.followUpOf_only {part : StatePart} (hpart : part ∉ [.regs, .ports, .sw, .parts, .pails, .health, .edp, .mem, .out])
    (s : State) (p : Nat) (e : TsEntry) (m : PtpTx) :
    (s.followUpOf p e m).only part = s.only part := by
  unfold State.followUpOf
  split <;> simp only [State.sendPtp_only hpart]

theorem State.collect_only {part : StatePart} (hpart : part ∉ [.regs, .time, .ports, .sw, .parts, .pails, .health, .edp, .mem, .out])
    (s : State) (p owner : Nat) :
    (s.collect p owner).only part = s.only part := by
  unfold State.collect
  dsimp only
  repeat' split
  all_goals simp only [State.setPort_only (outside hpart), State.setPtpPort_only (outside hpart), State.followUpOf_only (outside hpart),
    State.residenceKnown_only hpart]

theorem State.uncollected_only {part : StatePart} (hpart : part ∉ [.regs, .ports, .parts, .pails, .health, .edp, .mem, .out]) (s : State)
    (p : Nat) :
    (s.uncollected p).only part = s.only part := by
  simp only [State.uncollected, State.modPort_only (outside hpart), State.timestampLost_only hpart, implies_true, State.each_only]

/-! #### The operations of Switch -/

theorem State.markEntering_only {part : StatePart} (hpart : part ∉ [.regs, .sw, .parts, .pails, .health, .edp, .mem, .out]) (s : State)
    (p src : Nat) (dests : List Dest) :
    (s.markEntering p src dests).only part = s.only part := by
  simp only [State.markEntering, State.markProxied_only hpart, State.only_ite, ite_self, implies_true, State.each_only]

theorem State.switchFlag_only {part : StatePart} (hpart : part ∉ [.regs, .parts, .pails, .health, .edp, .mem, .out]) (s : State)
    (flag p : Nat) :
    (s.switchFlag flag p).only part = s.only part := by
  simp only [State.switchFlag, State.setFlag_only hpart]

theorem State.separated_only {part : StatePart} (hpart : part ∉ [.regs, .sw, .parts, .pails, .health, .edp, .mem, .out]) (s : State)
    (p : Nat) (f : Frame) (fixed : Nat) :
    (s.separated p f fixed).state.only part = s.only part := by
  unfold State.separated
  repeat' split
  all_goals simp only [State.separate_only hpart, State.sepCount_only (outside hpart)]

theorem State.classify_only {part : StatePart} (hpart : part ∉ [.regs, .ports, .sw, .parts, .pails, .health, .edp, .mem, .out, .freeUsed])
    (s : State) (p : Nat) (r : Reception) (f : Frame) :
    (s.classify p r f).only part = s.only part := by
  simp only [State.classify, State.overflowDrop_only (outside hpart), State.modPort_only (outside hpart), State.separated_only
    (outside hpart), State.enqueue_only (outside hpart), State.switchFlag_only (outside hpart), State.useMemory_only (outside hpart),
    State.admitCopies_only (outside hpart), State.drew_only (outside hpart), State.markEntering_only (outside hpart), State.countEv_only
    (outside hpart), State.localPut_only (outside hpart), State.takeSeqs_only (outside hpart), State.only_ite, State.only_ite_fst, ite_self,
    implies_true, State.each_only, State.when_only]

theorem State.rxClassified_only {part : StatePart} (hpart : part ∉ [.regs, .ports, .sw, .parts, .pails, .health, .edp, .mem, .out,
    .freeUsed]) (s : State) (p : Nat) (f : Frame) :
    (s.rxClassified p f).only part = s.only part := by
  unfold State.rxClassified
  split <;> simp only [State.modPort_only (outside hpart), State.setFlag_only (outside hpart), State.classify_only hpart, State.only_ite,
    ite_self]

theorem State.discardOld_only {part : StatePart} (hpart : part ∉ [.regs, .ports, .sw, .parts, .pails, .health, .edp, .mem, .out])
    (s : State) (p id : Nat) :
    (s.discardOld p id).only part = s.only part := by
  simp only [State.discardOld, State.leave_only (outside hpart), State.switchFlag_only (outside hpart), State.countEv_only (outside hpart)]

theorem State.readyHead_only {part : StatePart} (hpart : part ∉ [.regs, .ports, .sw, .parts, .pails, .health, .edp, .mem, .out]) (s : State)
    (p cls fuel : Nat) : (s.readyHead p cls fuel).1.only part = s.only part := by
  induction fuel generalizing s with
  | zero => rfl
  | succ fuel ih =>
    unfold State.readyHead
    split
    · rfl
    · split
      · rfl
      · split
        · rfl
        · simp only [State.only_ite_fst, ih, State.countPort_only (outside hpart), State.leave_only (outside hpart),
            State.discardOld_only hpart, ite_self]

theorem State.startFrame_only {part : StatePart} (hpart : part ∉ [.regs, .ports, .sw, .parts, .pails, .health, .edp, .mem, .out])
    (s : State) (p id : Nat) (f : SwFrame) (e : Egress) :
    (s.startFrame p id f e).only part = s.only part := by
  unfold State.startFrame
  repeat' split
  all_goals simp only [State.modPort_only (outside hpart), State.sepCount_only (outside hpart), State.setSw_only (outside hpart),
    State.emit_only (outside hpart) _ (o := .frame _ _) rfl, State.emit_only (outside hpart) _ (o := .ptp _ _) rfl,
    State.capture_only (outside hpart)]

theorem State.choose_only {part : StatePart} (hpart : part ∉ [.regs, .ports, .sw, .parts, .pails, .health, .edp, .mem, .out]) (s : State)
    (p : Nat) :
    (s.choose p).state.only part = s.only part := by
  unfold State.choose
  dsimp only
  split
  · rw [State.modPort_only (outside hpart)]
    refine State.foldl_proj_only Prod.fst (fun acc c => ?_) _ _
    split <;> exact State.readyHead_only hpart _ _ _ _
  · split <;>
    · rw [State.modPort_only (outside hpart)]
      refine State.foldl_proj_only Prod.fst (fun acc c => ?_) _ _
      split <;> exact State.readyHead_only hpart _ _ _ _

theorem State.txStart_only {part : StatePart} (hpart : part ∉ [.regs, .time, .ports, .sw, .parts, .pails, .health, .edp, .mem, .out])
    (s : State) (p : Nat) :
    (s.txStart p).only part = s.only part := by
  unfold State.txStart
  dsimp only
  repeat' split
  all_goals simp only [State.speedAwaited_only hpart, State.setPort_only (outside hpart), State.startFrame_only (outside hpart),
    State.choose_only (outside hpart), State.emit_only (outside hpart) _ (o := .pause _ _) rfl]

theorem State.cutStart_only {part : StatePart} (hpart : part ∉ [.regs, .ports, .sw, .parts, .pails, .health, .edp, .mem, .out]) (s : State)
    (ingress p : Nat) :
    (s.cutStart ingress p).only part = s.only part := by
  unfold State.cutStart
  dsimp only
  repeat' split
  all_goals simp only [State.startFrame_only hpart, State.choose_only hpart]

theorem State.txLast_only {part : StatePart} (hpart : part ∉ [.regs, .ports, .sw, .parts, .pails, .health, .edp, .mem, .out]) (s : State)
    (p : Nat) :
    (s.txLast p).only part = s.only part := by
  unfold State.txLast
  repeat' split
  all_goals simp only [State.modPort_only (outside hpart), State.leave_only (outside hpart), State.noteLoad_only (outside hpart),
    State.countPort_only (outside hpart), State.pauseBegins_only (outside hpart), State.countGood_only (outside hpart)]

theorem State.txEnd_only {part : StatePart} (hpart : part ∉ [.regs, .time, .ports, .sw, .parts, .pails, .health, .edp, .mem, .out])
    (s : State) (p : Nat) :
    (s.txEnd p).only part = s.only part := by
  simp only [State.txEnd, State.speedAwaited_only hpart, State.txLast_only (outside hpart), State.only_ite, ite_self]

theorem State.residence_only {part : StatePart} (hpart : part ∉ [.regs, .ports, .sw, .parts, .pails, .health, .edp, .mem, .out]) (s : State)
    (p : Nat) :
    (s.residence p).only part = s.only part := by
  simp only [State.residence, State.discardOld_only hpart, implies_true, State.each_only]

theorem State.tableBusy_only {part : StatePart} (hpart : part ∉ [.regs, .parts, .pails, .health, .edp, .mem, .out]) (s : State) :
    (s.tableBusy).state.only part = s.only part := by
  simp only [State.tableBusy, State.setFlag_only hpart]

theorem State.tableChanged_only {part : StatePart} (hpart : part ∉ [.regs, .sw]) (s : State) :
    (s.tableChanged).state.only part = s.only part := by
  simp only [State.tableChanged, State.setReg_only (outside hpart), State.setSw_only (outside hpart), State.ok]

theorem State.writeStatic_only {part : StatePart} (hpart : part ∉ [.regs, .sw, .parts, .pails, .health, .edp, .mem, .out]) (s : State)
    (n value : Nat) :
    (s.writeStatic n value).state.only part = s.only part := by
  simp only [State.writeStatic, State.setReg_only (outside hpart), State.tableBusy_only (outside hpart), State.tableChanged_only
    (outside hpart), Answer.only_ite, ite_self, State.refuse, State.ok]

theorem State.writeGroup_only {part : StatePart} (hpart : part ∉ [.regs, .sw, .parts, .pails, .health, .edp, .mem, .out]) (s : State)
    (n value : Nat) :
    (s.writeGroup n value).state.only part = s.only part := by
  simp only [State.writeGroup, State.setReg_only (outside hpart), State.tableBusy_only (outside hpart), State.tableChanged_only
    (outside hpart), Answer.only_ite, ite_self, State.ok]

theorem State.clearRange_only {part : StatePart} (hpart : part ∉ [.regs]) (s : State) (lo hi : Nat) (bits place : Nat) :
    (s.clearRange lo hi bits place).only part = s.only part := by
  simp only [State.clearRange, State.setReg_only hpart, implies_true, State.each_only]

theorem State.clearForwarding_only {part : StatePart} (hpart : part ∉ [.regs, .sw, .parts, .pails, .health, .edp, .mem, .out]) (s : State)
    (value : Nat) :
    (s.clearForwarding value).state.only part = s.only part := by
  simp only [State.clearForwarding, State.tableBusy_only (outside hpart), State.tableChanged_only (outside hpart), State.clearRange_only
    (outside hpart), State.only_ite, Answer.only_ite, ite_self, State.refuse]

theorem State.barrierOver_only {part : StatePart} (hpart : part ∉ [.regs, .sw, .parts, .pails, .health, .edp, .mem, .out]) (s : State) :
    (s.barrierOver).only part = s.only part := by
  simp only [State.barrierOver, State.setFlag_only (outside hpart), State.setSw_only (outside hpart), State.only_ite, ite_self]

theorem State.writeBarrier_only {part : StatePart} (hpart : part ∉ [.regs, .sw, .parts, .pails, .health, .edp, .mem, .out]) (s : State)
    (g : Nat) :
    (s.writeBarrier g).state.only part = s.only part := by
  simp only [State.writeBarrier, State.barrierOver_only hpart, State.setSw_only (outside hpart), Answer.only_ite, ite_self, State.refuse,
    State.ok]

theorem State.writeResidence_only {part : StatePart} (hpart : part ∉ [.regs, .ports, .sw, .parts, .pails, .health, .edp, .mem, .out])
    (s : State) (value : Nat) :
    (s.writeResidence value).state.only part = s.only part := by
  simp only [State.writeResidence, State.setReg_only (outside hpart), State.residence_only hpart, Answer.only_ite, ite_self, implies_true,
    State.each_only, State.refuse, State.ok]

/-! #### The operations of ApplyOps -/

theorem State.measureConfig_only {part : StatePart} (hpart : part ∉ [.regs]) (s : State) :
    (s.measureConfig).only part = s.only part := by
  simp only [State.measureConfig, State.setReg_only hpart]

theorem State.storeEntry_only {part : StatePart} (hpart : part ∉ [.regs, .blobs]) (s : State) (index sub : Nat) (r : OdRow) (v : List Byte)
    :
    (s.storeEntry index sub r v).only part = s.only part := by
  simp only [State.storeEntry, State.setReg_only (outside hpart), State.setBlob_only (outside hpart), State.only_ite, ite_self]

theorem State.storeStaged_only {part : StatePart} (hpart : part ∉ [.regs, .blobs, .time]) (s : State) (accepted : Nat) (e : Staged) :
    (s.storeStaged accepted e).only part = s.only part := by
  unfold State.storeStaged
  repeat' split
  all_goals simp only [State.setTimeUnit_only (outside hpart), State.storeEntry_only (outside hpart)]

theorem State.applyTime_only {part : StatePart} (hpart : part ∉ [.regs, .time, .parts, .pails, .health, .edp, .mem, .out]) (s old : State) :
    (s.applyTime old).only part = s.only part := by
  simp only [State.applyTime, State.setPtpPort_only (outside hpart), State.reselect_only hpart, implies_true, State.each_only,
    State.when_only]

theorem State.applyPort_only {part : StatePart} (hpart : part ∉ [.regs, .time, .ports, .sw, .parts, .pails, .health, .edp, .mem, .out])
    (s old : State) (keys : List Nat) (p : Nat) :
    (s.applyPort old keys p).only part = s.only part := by
  simp only [State.applyPort, State.modPort_only (outside hpart), State.linkLoss_only hpart, State.pauseRule_only (outside hpart),
    State.when_only]

theorem State.applyTables_only {part : StatePart} (hpart : part ∉ [.regs, .sw]) (s : State) (keys : List Nat) :
    (s.applyTables keys).only part = s.only part := by
  simp only [State.applyTables, State.setReg_only (outside hpart), State.setSw_only (outside hpart), State.with_regs_only (outside hpart),
    State.only_ite, ite_self, implies_true, State.each_only]

theorem State.applyGroup_only {part : StatePart} (hpart : part ∉ [.regs, .sw, .parts, .pails, .health, .edp, .mem, .out]) (s old : State)
    (g : Nat) :
    (s.applyGroup old g).only part = s.only part := by
  simp only [State.applyGroup, State.setSw_only (outside hpart), State.stand_only (outside hpart), State.watchGroup_only (outside hpart),
    State.only_ite, ite_self]

theorem State.applyPart_only {part : StatePart} (hpart : part ∉ [.regs, .parts, .pails, .health, .edp, .mem, .out]) (s old : State)
    (table : Bool) (n : Nat) :
    (s.applyPart old table n).only part = s.only part := by
  simp only [State.applyPart, State.setPart_only (outside hpart), State.askRestart_only (outside hpart), State.healthFlag_only hpart,
    State.modPart_only (outside hpart), State.only_ite, ite_self, State.when_only]

theorem State.applyPail_only {part : StatePart} (hpart : part ∉ [.pails]) (s old : State) (p : Nat) :
    (s.applyPail old p).only part = s.only part := by
  simp only [State.applyPail, State.resetPail_only hpart, State.setPail_only hpart, State.only_ite, ite_self]

theorem State.applyChurn_only {part : StatePart} (hpart : part ∉ [.regs, .parts, .pails, .churn, .health, .edp, .mem, .out]) (s old : State)
    (keys : List Nat) :
    (s.applyChurn old keys).only part = s.only part := by
  simp only [State.applyChurn, State.refuseBatch_only hpart, State.setChurn_only (outside hpart), State.setEngine_only hpart,
    State.only_ite, ite_self, State.when_only]

theorem State.applyPub_only {part : StatePart} (hpart : part ∉ [.pubs]) (s old : State) (j : Nat) :
    (s.applyPub old j).only part = s.only part := by
  simp only [State.applyPub, State.setPub_only hpart, State.only_ite, ite_self]

theorem State.applySub_only {part : StatePart} (hpart : part ∉ [.regs, .parts, .pails, .subs, .health, .edp, .mem, .out]) (s old : State)
    (n : Nat) :
    (s.applySub old n).only part = s.only part := by
  simp only [State.applySub, State.setReg_only (outside hpart), State.setSub_only (outside hpart), State.gsFlag_only (outside hpart),
    State.only_ite, ite_self, State.when_only]

theorem State.applyStream_only {part : StatePart} (hpart : part ∉ [.dp]) (s old : State) (n : Nat) :
    (s.applyStream old n).only part = s.only part := by
  simp only [State.applyStream, State.setStream_only hpart, State.only_ite, ite_self]

theorem State.applyStage_only {part : StatePart} (hpart : part ∉ [.regs, .blobs, .time, .befores, .ports, .sw, .dp, .hist, .parts, .pails,
    .churn, .loops, .subs, .pubs, .health, .edp, .mem, .out]) (s : State) (stage : List Staged) (accepted tick : Nat) :
    (s.applyStage stage accepted tick).only part = s.only part := by
  simp only [State.applyStage, State.setReg_only (outside hpart), State.applyTime_only (outside hpart), State.applyStream_only
    (outside hpart), State.measureConfig_only (outside hpart), State.stand_only (outside hpart), State.applySub_only (outside hpart),
    State.storeStaged_only (outside hpart), State.applyGroup_only (outside hpart), State.applyChurn_only (outside hpart),
    State.restartLoops_only (outside hpart), State.applyTables_only (outside hpart), State.fixShed_only (outside hpart), State.applyPub_only
    (outside hpart), State.applyPort_only (outside hpart), State.applyPart_only (outside hpart), State.emptyStore_only (outside hpart),
    State.applyPail_only (outside hpart), State.with_befores_only (outside hpart), implies_true, State.each_only, State.when_only]

/-! #### The operations of Start -/

theorem State.coldState_only {part : StatePart} (hpart : part ∉ [.regs, .blobs, .time, .befores, .workTick, .ports, .sw, .dp, .hist, .parts,
    .pails, .majorFrame, .cores, .churn, .loops, .subs, .pubs, .pair, .sec, .health, .edp, .power, .pins, .mem]) (s : State) :
    (s.coldState).only part = s.only part := by
  cases part <;> simp at hpart <;> rfl

theorem State.failUnit_only {part : StatePart} (hpart : part ∉ [.regs, .parts, .pails, .health, .edp, .mem, .out]) (s : State) (u : Nat) :
    (s.failUnit u).only part = s.only part := by
  simp only [State.failUnit, State.recordRetirement_only hpart, State.only_ite, ite_self]

theorem State.placeUnits_only {part : StatePart} (hpart : part ∉ [.regs, .parts, .pails, .pair, .sec, .health, .edp, .mem, .out, .freeUsed])
    (s : State) :
    (s.placeUnits).only part = s.only part := by
  simp only [State.placeUnits, State.coverage_only (outside hpart), State.setReg_only (outside hpart), State.setHerd_only (outside hpart),
    State.setSec_only (outside hpart), State.setHealth_only (outside hpart), State.moveManager_only (outside hpart), State.setPair_only
    (outside hpart), implies_true, State.when_only, State.foldl_only]

theorem State.startResults_only {part : StatePart} (hpart : part ∉ [.regs, .parts, .pails, .health, .edp, .mem, .out, .freeUsed])
    (s : State) (failed : List Nat) :
    (s.startResults failed).only part = s.only part := by
  simp only [State.startResults, State.recordTest_only hpart, State.drew_only (outside hpart), State.only_ite, ite_self, implies_true,
    State.each_only]

theorem State.withholdRows_only {part : StatePart} (hpart : part ∉ [.health]) (s : State) (faults : List MarchFault) :
    (s.withholdRows faults).only part = s.only part := by
  simp only [State.withholdRows, State.setHealth_only hpart]

theorem State.marchFault_only {part : StatePart} (hpart : part ∉ [.regs, .time, .ports, .sw, .parts, .pails, .pair, .health, .edp, .mem,
    .out]) (s : State) (f : MarchFault) :
    (s.marchFault f).only part = s.only part := by
  simp only [State.marchFault, State.recordRetirement_only (outside hpart), State.writeRepair_only (outside hpart), State.repairRow_only
    hpart, State.only_ite, ite_self]

theorem State.stepFive_only {part : StatePart} (hpart : part ∉ [.regs, .time, .ports, .sw, .parts, .pails, .pair, .sec, .health, .edp,
    .power, .mem, .out, .freeUsed]) (s : State) (start : StartUp) :
    (s.stepFive start).only part = s.only part := by
  simp only [State.stepFive, State.withholdRows_only (outside hpart), State.marchFault_only (outside hpart), State.setHealth_only
    (outside hpart), State.failUnit_only (outside hpart), State.placeUnits_only (outside hpart), State.startResults_only (outside hpart),
    State.setPower_only (outside hpart), implies_true, State.each_only]

theorem State.startPart_only {part : StatePart} (hpart : part ∉ [.regs, .parts, .pails, .health, .edp, .mem, .out]) (s : State) (n : Nat) :
    (s.startPart n).only part = s.only part := by
  simp only [State.startPart, State.setPart_only (outside hpart), State.askRestart_only (outside hpart), State.healthFlag_only hpart,
    State.only_ite, ite_self]

theorem State.stepSix_only {part : StatePart} (hpart : part ∉ [.regs, .blobs, .parts, .pails, .churn, .loops, .pubs, .health, .edp, .power,
    .mem, .out]) (s : State) :
    (s.stepSix).only part = s.only part := by
  simp only [State.stepSix, State.applyChurn_only (outside hpart), State.restartLoops_only (outside hpart), State.setPail_only
    (outside hpart), State.startPart_only (outside hpart), State.setPower_only (outside hpart), State.setPub_only (outside hpart),
    implies_true, State.each_only]

theorem State.stepEight_only {part : StatePart} (hpart : part ∉ [.regs, .parts, .pails, .majorFrame, .pair, .health, .edp, .power, .mem,
    .out]) (s : State) :
    (s.stepEight).only part = s.only part := by
  simp only [State.stepEight, State.setRole_only (outside hpart), State.setPair_only (outside hpart), State.setPower_only (outside hpart),
    State.with_majorFrame_only (outside hpart)]

theorem State.bringUp_only {part : StatePart} (hpart : part ∉ [.regs, .blobs, .time, .workTick, .ports, .sw, .parts, .pails, .majorFrame,
    .churn, .loops, .pubs, .pair, .sec, .health, .edp, .power, .mem, .out, .freeUsed]) (s : State) (start : StartUp) :
    (s.bringUp start).only part = s.only part := by
  simp only [State.bringUp, State.stand_only (outside hpart), State.stepEight_only (outside hpart), State.stepSix_only (outside hpart),
    State.stepFive_only (outside hpart), State.setPower_only (outside hpart), State.with_workTick_only (outside hpart), State.only_ite,
    ite_self]

theorem State.stepOne_only {part : StatePart} (hpart : part ∉ [.regs]) (s : State) (cause : Nat) (start : StartUp) :
    (s.stepOne cause start).only part = s.only part := by
  simp only [State.stepOne, State.setReg_only hpart, State.count_only hpart]

theorem State.stepThree_only {part : StatePart} (hpart : part ∉ [.regs, .parts, .pails, .sec, .health, .edp, .mem, .out, .freeUsed])
    (s : State) :
    (s.stepThree).only part = s.only part := by
  simp only [State.stepThree, State.tamperResponse_only hpart, State.setSec_only (outside hpart), State.lastGasp_only (outside hpart),
    State.drawNonce_only (outside hpart), State.only_ite, ite_self]

theorem State.stopTampered_only {part : StatePart} (hpart : part ∉ [.regs, .parts, .pails, .sec, .health, .edp, .power, .mem, .out])
    (s : State) :
    (s.stopTampered).only part = s.only part := by
  simp only [State.stopTampered, State.setFlag_only (outside hpart), State.stand_only (outside hpart), State.setSec_only (outside hpart),
    State.setPower_only (outside hpart), State.when_only]

theorem State.stepFour_only {part : StatePart} (hpart : part ∉ [.ports, .sw, .power]) (s : State) :
    (s.stepFour).only part = s.only part := by
  simp only [State.stepFour, State.modPort_only (outside hpart), State.watchGroup_only (outside hpart), State.setPower_only (outside hpart),
    implies_true, State.each_only]

theorem State.startUp_only {part : StatePart} (hpart : part ∉ [.regs, .blobs, .time, .befores, .workTick, .ports, .sw, .dp, .hist, .parts,
    .pails, .majorFrame, .cores, .churn, .loops, .subs, .pubs, .pair, .sec, .health, .edp, .power, .pins, .mem, .out, .freeUsed])
    (s : State) (start : StartUp) :
    (s.startUp start).only part = s.only part := by
  unfold State.startUp
  dsimp only
  split <;> simp only [State.setReg_only (outside hpart), State.measureConfig_only (outside hpart), State.stepThree_only (outside hpart),
    State.stepFour_only (outside hpart), State.setSec_only (outside hpart), State.coldState_only (outside hpart), State.withdraw_only
    (outside hpart), State.placeUnits_only (outside hpart), State.lcFlag_only (outside hpart), State.drawNonce_only (outside hpart),
    State.stopTampered_only (outside hpart), State.bringUp_only (outside hpart), State.stepOne_only (outside hpart), State.setPower_only
    (outside hpart), State.only_ite, ite_self, State.when_only]

theorem State.watchdogReset_only {part : StatePart} (hpart : part ∉ [.pair, .health, .power, .out]) (s : State) :
    (s.watchdogReset).only part = s.only part := by
  simp only [State.watchdogReset, State.lastGasp_only (outside hpart), State.withdraw_only hpart, State.restartNow_only hpart,
    State.only_ite, ite_self]

theorem State.writeModuleRestart_only {part : StatePart} (hpart : part ∉ [.pair, .health, .power, .out]) (s : State) (value : Nat) :
    (s.writeModuleRestart value).state.only part = s.only part := by
  simp only [State.writeModuleRestart, State.restartNow_only hpart, Answer.only_ite, ite_self, State.refuse, State.ok]

/-! #### The operations of Banks -/

theorem State.configWritten_only {part : StatePart} (hpart : part ∉ [.power]) (s : State) :
    (s.configWritten).only part = s.only part := by
  simp only [State.configWritten, State.setPower_only hpart]

/-! #### The operations of Power -/

theorem State.enginesOff_only {part : StatePart} (hpart : part ∉ [.regs, .dp, .hist, .parts, .pails, .churn, .loops, .pubs, .mem])
    (s : State) :
    (s.enginesOff).only part = s.only part := by
  cases part <;> simp at hpart <;> rfl

theorem State.withdrawPower_only {part : StatePart} (hpart : part ∉ [.pair, .health, .power, .out, .freeUsed]) (s : State) :
    (s.withdrawPower).only part = s.only part := by
  simp only [State.withdrawPower, State.drew_only (outside hpart), State.withdraw_only (outside hpart), State.setPower_only (outside hpart),
    State.only_ite, ite_self]

theorem State.enterHold_only {part : StatePart} (hpart : part ∉ [.regs, .dp, .hist, .parts, .pails, .churn, .loops, .pubs, .pair, .health,
    .edp, .power, .mem, .out, .freeUsed]) (s : State) :
    (s.enterHold).only part = s.only part := by
  simp only [State.enterHold, State.setFlag_only (outside hpart), State.enginesOff_only (outside hpart), State.withdrawPower_only
    (outside hpart), State.setRole_only (outside hpart), State.setPower_only (outside hpart)]

theorem State.enterOff_only {part : StatePart} (hpart : part ∉ [.regs, .ports, .sw, .dp, .hist, .parts, .pails, .churn, .loops, .pubs,
    .pair, .health, .edp, .power, .mem, .out, .freeUsed]) (s : State) :
    (s.enterOff).only part = s.only part := by
  have hports (t : State) : ({ t with ports := [], sw := {} } : State).only part = t.only part := by cases part <;> simp at hpart <;> rfl
  simp only [State.enterOff, State.setPower_only (outside hpart), hports, State.enginesOff_only (outside hpart), State.each_only,
    State.closeSession_only (outside hpart), State.setFlag_only (outside hpart), State.setRole_only (outside hpart),
    State.withdrawPower_only (outside hpart), State.only_ite, implies_true, ite_self]

theorem State.enterRun_only {part : StatePart} (hpart : part ∉ [.regs, .blobs, .time, .workTick, .ports, .sw, .parts, .pails, .majorFrame,
    .churn, .loops, .pubs, .pair, .sec, .health, .edp, .power, .mem, .out, .freeUsed]) (s : State) (start : StartUp) :
    (s.enterRun start).only part = s.only part := by
  simp only [State.enterRun, State.setReg_only (outside hpart), State.setFlag_only (outside hpart), State.bringUp_only hpart,
    State.setPair_only (outside hpart), State.setPower_only (outside hpart)]

theorem State.judgedRise_only {part : StatePart} (hpart : part ∉ [.freeUsed]) (s : State) :
    (s.judgedRise).only part = s.only part := by
  simp only [State.judgedRise, State.drew_only hpart, State.only_ite, ite_self]

theorem State.abandonRise_only {part : StatePart} (hpart : part ∉ [.regs, .dp, .hist, .parts, .pails, .churn, .loops, .pubs, .pair, .health,
    .edp, .power, .mem, .out, .freeUsed]) (s : State) :
    (s.abandonRise).only part = s.only part := by
  simp only [State.abandonRise, State.enginesOff_only (outside hpart), State.setRole_only (outside hpart), State.judgedRise_only
    (outside hpart), State.setPower_only (outside hpart), State.only_ite, ite_self]

theorem State.writePower_only {part : StatePart} (hpart : part ∉ [.regs, .blobs, .time, .workTick, .ports, .sw, .dp, .hist, .parts, .pails,
    .majorFrame, .churn, .loops, .pubs, .pair, .sec, .health, .edp, .power, .mem, .out, .freeUsed]) (s : State) (value : Nat)
    (start : StartUp) :
    (s.writePower value start).state.only part = s.only part := by
  unfold State.writePower
  repeat' split
  all_goals simp only [State.enterHold_only (outside hpart), State.judgedRise_only (outside hpart), State.enterRun_only (outside hpart),
    State.enterOff_only (outside hpart), State.refuse, State.ok]

theorem State.vbatStand_only {part : StatePart} (hpart : part ∉ [.regs, .parts, .pails, .health, .edp, .mem, .out]) (s : State) :
    (s.vbatStand).only part = s.only part := by
  simp only [State.vbatStand, State.stand_only hpart]

theorem State.enterBattery_only {part : StatePart} (hpart : part ∉ [.regs, .ports, .sw, .dp, .hist, .parts, .pails, .churn, .loops, .pubs,
    .sec, .health, .edp, .power, .mem, .out]) (s : State) :
    (s.enterBattery).only part = s.only part := by
  have hports (t : State) : ({ t with ports := [], sw := {}, edp := {} } : State).only part = t.only part := by
    cases part <;> simp at hpart <;> rfl
  simp only [State.enterBattery, State.setPower_only (outside hpart), State.setSec_only (outside hpart), hports,
    State.enginesOff_only (outside hpart), State.vbatStand_only (outside hpart)]

theorem State.railOut_only {part : StatePart} (hpart : part ∉ [.regs, .dp, .hist, .parts, .pails, .churn, .loops, .pubs, .pair, .health,
    .edp, .power, .mem, .out, .freeUsed]) (s : State) (rail : Nat) :
    (s.railOut rail).only part = s.only part := by
  simp only [State.railOut, State.setFlag_only (outside hpart), State.lastGasp_only (outside hpart), State.withdraw_only (outside hpart),
    State.abandonRise_only hpart, State.setPower_only (outside hpart), State.only_ite, ite_self]

theorem State.failWarned_only {part : StatePart} (hpart : part ∉ [.regs, .dp, .hist, .parts, .pails, .churn, .loops, .pubs, .pair, .health,
    .edp, .power, .mem, .out, .freeUsed]) (s : State) :
    (s.failWarned).only part = s.only part := by
  simp only [State.failWarned, State.setFlag_only (outside hpart), State.lastGasp_only (outside hpart), State.abandonRise_only hpart,
    State.count_only (outside hpart), State.setPower_only (outside hpart), State.only_ite, ite_self]

theorem State.failSustained_only {part : StatePart} (hpart : part ∉ [.pair, .health, .power, .out]) (s : State) :
    (s.failSustained).only part = s.only part := by
  simp only [State.failSustained, State.withdraw_only hpart, State.setPower_only (outside hpart), State.only_ite, ite_self]

theorem State.failReleased_only {part : StatePart} (hpart : part ∉ [.power]) (s : State) :
    (s.failReleased).only part = s.only part := by
  simp only [State.failReleased, State.setPower_only hpart]

theorem State.resetPulse_only {part : StatePart} (hpart : part ∉ [.power, .freeUsed]) (s : State) (width : Nat) :
    (s.resetPulse width).only part = s.only part := by
  simp only [State.resetPulse, State.drew_only (outside hpart), State.setPower_only (outside hpart), State.only_ite, ite_self]

theorem State.clockLost_only {part : StatePart} (hpart : part ∉ [.pair, .health, .power, .out]) (s : State) :
    (s.clockLost).only part = s.only part := by
  simp only [State.clockLost, State.withdraw_only hpart, State.setPower_only (outside hpart)]

theorem State.envStand_only {part : StatePart} (hpart : part ∉ [.regs, .parts, .pails, .health, .edp, .mem, .out]) (s : State) :
    (s.envStand).only part = s.only part := by
  simp only [State.envStand, State.stand_only hpart, State.vbatStand_only hpart]

theorem State.refreshEnv_only {part : StatePart} (hpart : part ∉ [.regs, .dp, .hist, .parts, .pails, .churn, .loops, .pubs, .pair, .health,
    .edp, .power, .mem, .out, .freeUsed]) (s : State) (env : Env) :
    (s.refreshEnv env).only part = s.only part := by
  simp only [State.refreshEnv, State.setReg_only (outside hpart), State.enterHold_only hpart, State.envStand_only (outside hpart),
    State.setPower_only (outside hpart), State.only_ite, ite_self]

/-! #### The operations of Time -/

theorem State.passPtp_only {part : StatePart} (hpart : part ∉ [.regs, .ports, .sw, .parts, .pails, .health, .edp, .mem, .out]) (s : State)
    (p : Nat) (m : PtpMsg) :
    (s.passPtp p m).only part = s.only part := by
  simp only [State.passPtp, State.sendPtp_only hpart, implies_true, State.each_only]

theorem State.forwardSync_only {part : StatePart} (hpart : part ∉ [.regs, .time, .ports, .sw, .parts, .pails, .health, .edp, .mem, .out])
    (s : State) (p : Nat) (m : PtpMsg) (rx : Nat) :
    (s.forwardSync p m rx).only part = s.only part := by
  simp only [State.forwardSync, State.setPtpPort_only (outside hpart), State.sendPtp_only (outside hpart), State.only_ite, ite_self,
    implies_true, State.each_only, State.when_only]

theorem State.forwardFollowUp_only {part : StatePart} (hpart : part ∉ [.regs, .time, .ports, .sw, .parts, .pails, .health, .edp, .mem,
    .out]) (s : State) (p : Nat) (m : PtpMsg) :
    (s.forwardFollowUp p m).only part = s.only part := by
  unfold State.forwardFollowUp
  refine State.each_only (fun q t => ?_) _ _
  split
  · dsimp only
    split <;> simp only [State.sendPtp_only (outside hpart), State.setPtpPort_only (outside hpart)]
  · exact State.sendPtp_only (outside hpart) _ _ _ _

theorem State.forwardDelay_only {part : StatePart} (hpart : part ∉ [.regs, .ports, .sw, .parts, .pails, .health, .edp, .mem, .out])
    (s : State) (p : Nat) (m : PtpMsg) :
    (s.forwardDelay p m).only part = s.only part := by
  simp only [State.forwardDelay, State.sendOwn_only hpart]

theorem State.measure_only {part : StatePart} (hpart : part ∉ [.regs, .time, .befores, .dp, .parts, .pails, .churn, .loops, .health, .edp,
    .mem, .out, .freeUsed]) (s : State) (p seconds nanos : Nat) (correction : Int) (rx : Nat) :
    (s.measure p seconds nanos correction rx).only part = s.only part := by
  unfold State.measure
  split <;> simp only [State.timeFlag_only (outside hpart), State.setTimeUnit_only (outside hpart), State.servoUpdate_only hpart,
    State.only_ite, ite_self]

theorem State.ptpSync_only {part : StatePart} (hpart : part ∉ [.regs, .time, .befores, .ports, .sw, .dp, .parts, .pails, .churn, .loops,
    .health, .edp, .mem, .out, .freeUsed]) (s : State) (p : Nat) (m : PtpMsg) (rx : Nat) :
    (s.ptpSync p m rx).only part = s.only part := by
  simp only [State.ptpSync, State.passPtp_only (outside hpart), State.forwardSync_only (outside hpart), State.setPtpPort_only
    (outside hpart), State.measure_only (outside hpart), State.only_ite, ite_self]

theorem State.ptpFollowUp_only {part : StatePart} (hpart : part ∉ [.regs, .time, .befores, .ports, .sw, .dp, .parts, .pails, .churn, .loops,
    .health, .edp, .mem, .out, .freeUsed]) (s : State) (p : Nat) (m : PtpMsg) :
    (s.ptpFollowUp p m).only part = s.only part := by
  unfold State.ptpFollowUp
  split <;> simp only [State.passPtp_only (outside hpart), State.setPtpPort_only (outside hpart), State.forwardFollowUp_only
    (outside hpart), State.measure_only (outside hpart), State.only_ite, ite_self]

theorem State.ptpPdelayReq_only {part : StatePart} (hpart : part ∉ [.regs, .ports, .sw, .parts, .pails, .health, .edp, .mem, .out])
    (s : State) (p : Nat) (m : PtpMsg) (rx : Nat) :
    (s.ptpPdelayReq p m rx).only part = s.only part := by
  simp only [State.ptpPdelayReq, State.sendPtp_only hpart, State.only_ite, ite_self]

theorem State.exchangeDone_only {part : StatePart} (hpart : part ∉ [.regs, .time, .parts, .pails, .health, .edp, .mem, .out]) (s : State)
    (p : Nat) (e : PdExchange) :
    (s.exchangeDone p e).only part = s.only part := by
  simp only [State.exchangeDone, State.setReg_only (outside hpart), State.setPtpPort_only (outside hpart), State.reselect_only hpart]

theorem State.ptpPdelayResp_only {part : StatePart} (hpart : part ∉ [.regs, .time, .parts, .pails, .health, .edp, .mem, .out]) (s : State)
    (p : Nat) (m : PtpMsg) (rx : Nat) :
    (s.ptpPdelayResp p m rx).only part = s.only part := by
  unfold State.ptpPdelayResp
  dsimp only
  split <;> simp only [State.exchangeDone_only hpart, State.setPtpPort_only (outside hpart), State.only_ite, ite_self]

theorem State.ptpPdelayFollowUp_only {part : StatePart} (hpart : part ∉ [.regs, .time, .parts, .pails, .health, .edp, .mem, .out])
    (s : State) (p : Nat) (m : PtpMsg) :
    (s.ptpPdelayFollowUp p m).only part = s.only part := by
  unfold State.ptpPdelayFollowUp
  dsimp only
  split <;> simp only [State.exchangeDone_only hpart, State.only_ite, ite_self]

theorem State.ptpReceived_only {part : StatePart} (hpart : part ∉ [.regs, .time, .befores, .ports, .sw, .dp, .parts, .pails, .churn, .loops,
    .health, .edp, .mem, .out, .freeUsed]) (s : State) (p : Nat) (m : PtpMsg) :
    (s.ptpReceived p m).only part = s.only part := by
  unfold State.ptpReceived
  repeat' split
  all_goals simp only [State.timeFlag_only (outside hpart), State.passPtp_only (outside hpart), State.ptpPdelayFollowUp_only
    (outside hpart), State.setTimeUnit_only (outside hpart), State.ptpSync_only hpart, State.setPtpPort_only (outside hpart),
    State.ptpPdelayResp_only (outside hpart), State.ptpPdelayReq_only (outside hpart), State.ptpFollowUp_only hpart, State.reselect_only
    (outside hpart), State.forwardDelay_only (outside hpart)]

theorem State.sendSync_only {part : StatePart} (hpart : part ∉ [.regs, .time, .ports, .sw, .parts, .pails, .health, .edp, .mem, .out])
    (s : State) (p : Nat) :
    (s.sendSync p).only part = s.only part := by
  simp only [State.sendSync, State.setPtpPort_only (outside hpart), State.sendPtp_only (outside hpart), State.only_ite, ite_self]

theorem State.sendAnnounce_only {part : StatePart} (hpart : part ∉ [.regs, .time, .ports, .sw, .parts, .pails, .health, .edp, .mem, .out])
    (s : State) (p : Nat) :
    (s.sendAnnounce p).only part = s.only part := by
  simp only [State.sendAnnounce, State.setPtpPort_only (outside hpart), State.sendPtp_only (outside hpart), State.only_ite, ite_self]

theorem State.sendPdelayReq_only {part : StatePart} (hpart : part ∉ [.regs, .time, .ports, .sw, .parts, .pails, .health, .edp, .mem, .out])
    (s : State) (p : Nat) :
    (s.sendPdelayReq p).only part = s.only part := by
  simp only [State.sendPdelayReq, State.setPtpPort_only (outside hpart), State.sendPtp_only (outside hpart), State.only_ite, ite_self]

theorem State.announceTimeout_only {part : StatePart} (hpart : part ∉ [.regs, .time, .parts, .pails, .health, .edp, .mem, .out]) (s : State)
    (p : Nat) :
    (s.announceTimeout p).only part = s.only part := by
  simp only [State.announceTimeout, State.setPtpPort_only (outside hpart), State.reselect_only hpart, State.only_ite, ite_self]

theorem State.storeFrequency_only {part : StatePart} (hpart : part ∉ [.time]) (s : State) :
    (s.storeFrequency).only part = s.only part := by
  simp only [State.storeFrequency, State.setTimeUnit_only hpart, State.only_ite, ite_self]

theorem State.writeSetTime_only {part : StatePart} (hpart : part ∉ [.regs, .time, .befores, .dp, .parts, .pails, .churn, .loops, .health,
    .edp, .mem, .out, .freeUsed]) (s : State) (t : Nat) :
    (s.writeSetTime t).state.only part = s.only part := by
  simp only [State.writeSetTime, State.timeFlag_only (outside hpart), State.setTimeUnit_only (outside hpart), State.stepTime_only
    (outside hpart), State.steer_only (outside hpart), State.only_ite, Answer.only_ite, ite_self, State.refuse, State.ok]

theorem State.remaining_only {part : StatePart} (hpart : part ∉ [.freeUsed]) (s : State) :
    (s.remaining).2.only part = s.only part := by
  simp only [State.remaining, State.drew_only hpart]

theorem State.writeStepNow_only {part : StatePart} (hpart : part ∉ [.regs, .time, .befores, .dp, .parts, .pails, .churn, .loops, .health,
    .edp, .mem, .out, .freeUsed]) (s : State) (value : Nat) :
    (s.writeStepNow value).state.only part = s.only part := by
  simp only [State.writeStepNow, State.remaining_only (outside hpart), State.stepTime_only (outside hpart), State.only_ite, Answer.only_ite,
    ite_self, State.refuse, State.ok]

theorem State.timeAhead_only {part : StatePart} (hpart : part ∉ [.freeUsed]) (s : State) :
    (s.timeAhead).2.only part = s.only part := by
  unfold State.timeAhead
  split <;> simp only [State.remaining_only hpart, State.only_ite_snd, ite_self]

theorem State.ppsEdge_only {part : StatePart} (hpart : part ∉ [.regs, .time, .befores, .dp, .parts, .pails, .churn, .loops, .health, .edp,
    .mem, .out, .freeUsed]) (s : State) (e : PpsEdge) :
    (s.ppsEdge e).only part = s.only part := by
  simp only [State.ppsEdge, State.timeAhead_only (outside hpart), State.setTimeUnit_only (outside hpart), State.servoUpdate_only hpart,
    State.reselect_only (outside hpart), State.only_ite, ite_self]

theorem State.ppsLost_only {part : StatePart} (hpart : part ∉ [.regs, .time, .parts, .pails, .health, .edp, .mem, .out]) (s : State) :
    (s.ppsLost).only part = s.only part := by
  simp only [State.ppsLost, State.timeFlag_only (outside hpart), State.setTimeUnit_only (outside hpart), State.reselect_only hpart,
    State.only_ite, ite_self]

theorem State.ppsRise_only {part : StatePart} (hpart : part ∉ [.time]) (s : State) :
    (s.ppsRise).only part = s.only part := by
  simp only [State.ppsRise, State.setTimeUnit_only hpart, State.ppsRefresh_only hpart, State.only_ite, ite_self]

theorem State.ppsFall_only {part : StatePart} (hpart : part ∉ [.time]) (s : State) :
    (s.ppsFall).only part = s.only part := by
  simp only [State.ppsFall, State.setTimeUnit_only hpart, State.ppsRefresh_only hpart, State.only_ite, ite_self]

theorem State.changeRate_only {part : StatePart} (hpart : part ∉ [.regs, .time, .dp, .hist, .parts, .pails, .churn, .loops, .health, .edp,
    .mem, .out]) (s : State) :
    (s.changeRate).only part = s.only part := by
  unfold State.changeRate
  split <;> simp only [State.setReg_only (outside hpart), State.setTimeUnit_only (outside hpart), State.renumber_only (outside hpart),
    State.clearRings_only (outside hpart), State.emptyStore_only (outside hpart), State.only_ite, ite_self]

/-! #### The operations of EntryWrites -/

theorem State.writeSetting_only {part : StatePart} (hpart : part ∉ [.regs, .blobs]) (s : State) (index sub : Nat) (r : OdRow)
    (v : List Byte) :
    (s.writeSetting index sub r v).state.only part = s.only part := by
  simp only [State.writeSetting, State.storeEntry_only hpart, Answer.only_ite, ite_self, State.refuse, State.ok]

theorem State.writeEnv_only {part : StatePart} (hpart : part ∉ [.regs, .blobs, .parts, .pails, .health, .edp, .mem, .out]) (s : State)
    (index sub : Nat) (r : OdRow) (v : List Byte) :
    (s.writeEnv index sub r v).state.only part = s.only part := by
  simp only [State.writeEnv, State.writeSetting_only (outside hpart), State.envStand_only (outside hpart), Answer.only_ite, ite_self,
    State.ok]

theorem State.writePps_only {part : StatePart} (hpart : part ∉ [.regs, .blobs, .time, .parts, .pails, .health, .edp, .mem, .out])
    (s : State) (sub : Nat) (r : OdRow) (v : List Byte) :
    (s.writePps sub r v).state.only part = s.only part := by
  simp only [State.writePps, State.writeSetting_only (outside hpart), State.ppsChanged_only (outside hpart), State.ppsRefresh_only
    (outside hpart), State.reselect_only (outside hpart), State.only_ite, Answer.only_ite, ite_self, State.refuse, State.ok]

theorem State.writePort_only {part : StatePart} (hpart : part ∉ [.regs, .blobs]) (s : State) (p sub : Nat) (r : OdRow) (v : List Byte) :
    (s.writePort p sub r v).state.only part = s.only part := by
  simp only [State.writePort, State.writeSetting_only hpart, Answer.only_ite, ite_self, State.refuse]

theorem State.writeRoleKey_only {part : StatePart} (hpart : part ∉ [.regs, .blobs]) (s : State) (sub : Nat) (r : OdRow) (v : List Byte) :
    (s.writeRoleKey sub r v).state.only part = s.only part := by
  simp only [State.writeRoleKey, State.writeSetting_only hpart, Answer.only_ite, ite_self, State.refuse]

theorem State.writeClearUnit_only {part : StatePart} (hpart : part ∉ [.health]) (s : State) (role unit : Nat) :
    (s.writeClearUnit role unit).state.only part = s.only part := by
  simp only [State.writeClearUnit, State.writeClearRetirement_only hpart, Answer.only_ite, ite_self, State.refuse]

theorem State.writeKeyCommand_only {part : StatePart} (hpart : part ∉ [.regs, .blobs, .parts, .pails, .sec, .health, .edp, .mem, .out,
    .freeUsed]) (s : State) (role session : Nat) (v : List Byte) :
    (s.writeKeyCommand role session v).state.only part = s.only part := by
  unfold State.writeKeyCommand
  repeat' split
  all_goals simp only [State.keyCommand_only hpart, State.refuse]

theorem State.writeLcRequest_only {part : StatePart} (hpart : part ∉ [.regs, .parts, .pails, .sec, .health, .edp, .mem, .out, .freeUsed])
    (s : State) (role slot : Nat) (v : List Byte) :
    (s.writeLcRequest role slot v).state.only part = s.only part := by
  unfold State.writeLcRequest
  split <;> simp only [State.lcRequest_only hpart, Answer.only_ite, ite_self, State.refuse]

theorem State.writePailReset_only {part : StatePart} (hpart : part ∉ [.pails]) (s : State) (p value : Nat) :
    (s.writePailReset p value).state.only part = s.only part := by
  simp only [State.writePailReset, State.resetPail_only hpart, State.only_ite, ite_self, State.ok]

theorem State.writeLower_only {part : StatePart} (hpart : part ∉ [.regs, .blobs, .time, .befores, .ports, .sw, .dp, .parts, .pails, .churn,
    .loops, .pair, .health, .edp, .power, .mem, .out, .freeUsed]) (s : State) (w : Writer) (index sub : Nat) (r : OdRow) (v : List Byte) :
    (s.writeLower w index sub r v).state.only part = s.only part := by
  simp only [State.writeLower, State.writeResidence_only (outside hpart), State.writeModuleRestart_only (outside hpart),
    State.writeSetting_only (outside hpart), State.writeStepNow_only (outside hpart), State.clearHalfRange_only (outside hpart),
    State.writeClearUnit_only (outside hpart), State.writePps_only (outside hpart), State.writeStatic_only (outside hpart),
    State.clearForwarding_only (outside hpart), State.writeBarrier_only (outside hpart), State.writeSetTime_only (outside hpart),
    State.writeGroup_only (outside hpart), State.writePort_only (outside hpart), Answer.only_ite, ite_self]

theorem State.writeMiddle_only {part : StatePart} (hpart : part ∉ [.regs, .blobs, .hist, .parts, .pails, .churn, .loops, .pair, .health,
    .edp, .mem, .out]) (s : State) (index sub : Nat) (r : OdRow) (v : List Byte) :
    (s.writeMiddle index sub r v).state.only part = s.only part := by
  simp only [State.writeMiddle, State.writeModeRequest_only (outside hpart), State.writeReleaseWindow_only (outside hpart),
    State.writeTriggerNow_only (outside hpart), State.writeForce_only (outside hpart), State.writeReleaseAll_only (outside hpart),
    State.writeValueEntry_only (outside hpart), State.writeSetting_only (outside hpart), State.writeTuning_only (outside hpart),
    State.writePailReset_only (outside hpart), State.writeManualValue_only (outside hpart), State.writeLoopRelease_only (outside hpart),
    State.writeRestart_only (outside hpart), State.writeBatch_only (outside hpart), State.writeFreezeMap_only (outside hpart),
    State.writeGroupRelease_only (outside hpart), State.writeStateRecord_only (outside hpart), Answer.only_ite, ite_self]

theorem State.writeUpper_only {part : StatePart} (hpart : part ∉ [.regs, .blobs, .time, .workTick, .ports, .sw, .dp, .hist, .parts, .pails,
    .majorFrame, .churn, .loops, .pubs, .pair, .sec, .health, .edp, .power, .mem, .out, .freeUsed]) (s : State) (w : Writer)
    (index sub : Nat) (r : OdRow) (v : List Byte) :
    (s.writeUpper w index sub r v).state.only part = s.only part := by
  simp only [State.writeUpper, State.writeNonce_only (outside hpart), State.writeRoleKey_only (outside hpart), State.writeSwapNow_only
    (outside hpart), State.writeKeyCommand_only (outside hpart), State.writeSetting_only (outside hpart), State.writeHardRepair_only
    (outside hpart), State.writePailMove_only (outside hpart), State.writeTamperClear_only (outside hpart), State.writeManualRun_only
    (outside hpart), State.writeLcRequest_only (outside hpart), State.clearStatus_only (outside hpart), State.writeEnableMask_only
    (outside hpart), State.writeEnv_only (outside hpart), State.writePower_only hpart, Answer.only_ite, ite_self, State.ok]

theorem State.liveEntry_only {part : StatePart} (hpart : part ∉ [.regs, .blobs, .time, .befores, .workTick, .ports, .sw, .dp, .hist, .parts,
    .pails, .majorFrame, .churn, .loops, .pubs, .pair, .sec, .health, .edp, .power, .mem, .out, .freeUsed]) (s : State) (w : Writer)
    (index sub : Nat) (r : OdRow) (v : List Byte) :
    (s.liveEntry w index sub r v).state.only part = s.only part := by
  simp only [State.liveEntry, State.writeMiddle_only (outside hpart), State.writeLower_only (outside hpart), State.writeUpper_only
    (outside hpart), Answer.only_ite, ite_self]

theorem State.liveWrite_only {part : StatePart} (hpart : part ∉ [.regs, .blobs, .time, .befores, .workTick, .ports, .sw, .dp, .hist, .parts,
    .pails, .majorFrame, .churn, .loops, .pubs, .pair, .sec, .health, .edp, .power, .mem, .out, .freeUsed]) (s : State) (w : Writer)
    (index sub : Nat) (r : OdRow) (v : List Byte) :
    (s.liveWrite w index sub r v).state.only part = s.only part := by
  simp only [State.liveWrite, State.configWritten_only (outside hpart), State.liveEntry_only hpart, Answer.only_ite, ite_self, State.refuse]

/-! #### The operations of Commit -/

theorem State.candidate_only {part : StatePart} (hpart : part ∉ [.regs, .blobs]) (s : State) (stage : List Staged) :
    (s.candidate_ stage).only part = s.only part := by
  unfold State.candidate_
  refine (State.each_only (fun e t => ?_) _ _).trans (State.setReg_only (outside hpart) _ _ _)
  split
  · rfl
  · exact State.storeEntry_only (outside hpart) _ _ _ _ _

theorem State.stageWrite_only {part : StatePart} (hpart : part ∉ [.edp]) (s : State) (owner index sub : Nat) (v : List Byte) :
    (s.stageWrite owner index sub v).state.only part = s.only part := by
  simp only [State.stageWrite, State.setEdp_only hpart, Answer.only_ite, ite_self, State.refuse, State.ok]

theorem State.acceptCommit_only {part : StatePart} (hpart : part ∉ [.edp]) (s : State) (session seq : Nat) (op : Option Nat) :
    (s.acceptCommit session seq op).only part = s.only part := by
  simp only [State.acceptCommit, State.setEdp_only hpart]

/-! #### The operations of Protocol -/

theorem State.sendReply_only {part : StatePart} (hpart : part ∉ [.edp, .out]) (s : State) (t : Transport) (key : List Byte) (r : Reply) :
    (s.sendReply t key r).only part = s.only part := by
  unfold State.sendReply
  split <;> simp only [State.sendPdu_only (outside hpart), State.setEdp_only (outside hpart), State.msix_only hpart,
    State.emit_only (outside hpart) _ (o := .reply _) rfl]

theorem State.discardReq_only {part : StatePart} (hpart : part ∉ [.edp]) (s : State) (t : Transport) :
    (s.discardReq t).only part = s.only part := by
  unfold State.discardReq
  split <;> simp only [State.setEdp_only hpart]

theorem State.answerClear_only {part : StatePart} (hpart : part ∉ [.edp, .out]) (s : State) (q : Req) (opcode status : Nat) :
    (s.answerClear q opcode status).only part = s.only part := by
  simp only [State.answerClear, State.sendReply_only hpart]

theorem State.answerSession_only {part : StatePart} (hpart : part ∉ [.edp, .out]) (s : State) (sid : Nat) (x : Session) (r : Reply) :
    (s.answerSession sid x r).only part = s.only part := by
  unfold State.answerSession
  split <;> simp only [State.setSession_only (outside hpart), State.sendReply_only hpart, State.only_ite, ite_self]

theorem State.verified_only {part : StatePart} (hpart : part ∉ [.regs, .parts, .pails, .health, .edp, .mem, .out]) (s : State) (sid : Nat)
    (x : Session) :
    (s.verified sid x).only part = s.only part := by
  simp only [State.verified, State.setSession_only (outside hpart), State.edpFlag_only hpart, State.when_only]

theorem State.sequenced_only {part : StatePart} (hpart : part ∉ [.regs, .parts, .pails, .health, .edp, .mem, .out]) (s : State) (x : Session) (q : Req)
    {serve : State → Session → Served} (hs : ∀ t y, (serve t y).state.only part = t.only part) :
    (s.sequenced x q serve).only part = s.only part := by
  unfold State.sequenced
  dsimp only
  split
  · split
    · simp only [hs, State.setSession_only (outside hpart), State.verified_only hpart]
    · simp only [State.answerSession_only (outside hpart), hs, State.setSession_only (outside hpart), State.verified_only hpart]
  · split <;> simp only [State.only_ite, State.sendReply_only (outside hpart), State.discardReq_only (outside hpart), State.edpFlag_only hpart,
      State.count_only (outside hpart), State.verified_only hpart, ite_self]

/-- A request of the protocol changes what serving it changes, and what the protocol itself may change. -/
theorem State.request_only {part : StatePart} (hpart : part ∉ [.regs, .parts, .pails, .health, .edp, .mem, .out]) (s : State) (opcode : Nat) (q : Req)
    {serve : State → Session → Served} (hs : ∀ t x, (serve t x).state.only part = t.only part) :
    (s.request opcode q serve).only part = s.only part := by
  unfold State.request
  split
  · rfl
  · split
    · exact State.discardReq_only (outside hpart) _ _
    · split
      · exact State.answerClear_only (outside hpart) _ _ _ _
      · simp only [State.only_ite, State.discardReq_only (outside hpart), State.edpFlag_only hpart, State.count_only (outside hpart),
          State.sequenced_only hpart _ _ _ hs, ite_self]

theorem State.writeEntry_only {part : StatePart} (hpart : part ∉ [.regs, .blobs, .time, .befores, .workTick, .ports, .sw, .dp, .hist,
    .parts, .pails, .majorFrame, .churn, .loops, .pubs, .pair, .sec, .health, .edp, .power, .mem, .out, .freeUsed]) (s : State) (sid : Nat)
    (x : Session) (index sub : Nat) (r : OdRow) (v : List Byte) :
    (s.writeEntry sid x index sub r v).state.only part = s.only part := by
  simp only [State.writeEntry, State.stageWrite_only (outside hpart), State.liveWrite_only hpart, Answer.only_ite, ite_self, State.refuse]

theorem State.setXfer_only {part : StatePart} (hpart : part ∉ [.edp]) (s : State) (sid : Nat) (w : Option WriteXfer) :
    (s.setXfer sid w).only part = s.only part := by
  unfold State.setXfer
  split <;> simp only [State.setSession_only hpart]

theorem State.segment_only {part : StatePart} (hpart : part ∉ [.edp]) (s : State) (sid key flags : Nat) (p : List Byte) :
    (s.segment sid key flags p).1.only part = s.only part := by
  simp only [State.segment, State.setXfer_only hpart, State.only_ite_fst, ite_self, State.when_only]

/-! #### The operations of LongOps -/

theorem State.modOp_only {part : StatePart} (hpart : part ∉ [.edp]) (s : State) (n : Nat) (f : Op → Op) :
    (s.modOp n f).only part = s.only part := by
  simp only [State.modOp, State.setOp_only hpart]

theorem State.failOp_only {part : StatePart} (hpart : part ∉ [.regs, .parts, .pails, .health, .edp, .mem, .out]) (s : State)
    (n status detail : Nat) :
    (s.failOp n status detail).only part = s.only part := by
  simp only [State.failOp, State.endOp_only hpart, State.modOp_only (outside hpart)]

theorem State.progress_only {part : StatePart} (hpart : part ∉ [.edp]) (s : State) (n total : Nat) :
    (s.progress n total).only part = s.only part := by
  simp only [State.progress, State.modOp_only hpart]

theorem State.installOne_only {part : StatePart} (hpart : part ∉ [.regs, .parts, .pails, .sec, .health, .edp, .mem, .out]) (s : State)
    (n : Nat) :
    (s.installOne n).only part = s.only part := by
  unfold State.installOne
  dsimp only
  split <;> simp only [State.failOp_only (outside hpart), State.setSec_only (outside hpart), State.progress_only (outside hpart),
    State.only_ite, ite_self]

theorem State.installCommit_only {part : StatePart} (hpart : part ∉ [.regs, .parts, .pails, .sec, .health, .edp, .mem, .out]) (s : State)
    (n : Nat) :
    (s.installCommit n).only part = s.only part := by
  simp only [State.installCommit, State.failOp_only (outside hpart), State.startUpdate_only (outside hpart), State.modOp_only
    (outside hpart), State.refuseUpdate_only (outside hpart), State.only_ite, ite_self]

theorem State.installEnd_only {part : StatePart} (hpart : part ∉ [.regs, .parts, .pails, .sec, .health, .edp, .mem, .out]) (s : State)
    (n : Nat) :
    (s.installEnd n).only part = s.only part := by
  simp only [State.installEnd, State.failOp_only (outside hpart), State.installCommit_only hpart, State.only_ite, ite_self]

theorem State.marchOne_only {part : StatePart} (hpart : part ∉ [.regs, .time, .ports, .sw, .parts, .pails, .pair, .health, .edp, .mem, .out,
    .freeUsed]) (s : State) (m : Nat) :
    (s.marchOne m).only part = s.only part := by
  simp only [State.marchOne, State.drew_only (outside hpart), State.repairRow_only (outside hpart), State.only_ite, ite_self]

theorem State.testOne_only {part : StatePart} (hpart : part ∉ [.regs, .time, .ports, .sw, .parts, .pails, .pair, .health, .edp, .mem, .out,
    .freeUsed]) (s : State) (unit : Nat) :
    (s.testOne unit).only part = s.only part := by
  simp only [State.testOne, State.recordTest_only (outside hpart), State.retireSlice_only (outside hpart), State.drew_only (outside hpart),
    State.marchOne_only hpart, State.retireCore_only (outside hpart), State.only_ite, ite_self]

theorem State.selfTestOne_only {part : StatePart} (hpart : part ∉ [.regs, .time, .ports, .sw, .parts, .pails, .pair, .health, .edp, .mem,
    .out, .freeUsed]) (s : State) (n : Nat) :
    (s.selfTestOne n).only part = s.only part := by
  unfold State.selfTestOne
  split <;> simp only [State.testOne_only hpart, State.progress_only (outside hpart)]

theorem State.endExport_only {part : StatePart} (hpart : part ∉ [.hist]) (s : State) :
    (s.endExport).only part = s.only part := by
  simp only [State.endExport, State.setHist_only hpart]

theorem State.beginExport_only {part : StatePart} (hpart : part ∉ [.hist]) (s : State) (n : Nat) :
    (s.beginExport n).only part = s.only part := by
  simp only [State.beginExport, State.setHist_only hpart]

theorem State.exportOne_only {part : StatePart} (hpart : part ∉ [.edp]) (s : State) (n : Nat) :
    (s.exportOne n).only part = s.only part := by
  simp only [State.exportOne, State.progress_only hpart]

theorem State.exportEnd_only {part : StatePart} (hpart : part ∉ [.regs, .blobs, .hist, .parts, .pails, .health, .edp, .mem, .out])
    (s : State) (n : Nat) :
    (s.exportEnd n).only part = s.only part := by
  simp only [State.exportEnd, State.setBlob_only (outside hpart), State.failOp_only (outside hpart), State.endOp_only (outside hpart),
    State.endExport_only (outside hpart), State.only_ite, ite_self]

theorem State.migrateWait_only {part : StatePart} (hpart : part ∉ [.parts]) (s : State) (n : Nat) :
    (s.migrateWait n).only part = s.only part := by
  simp only [State.migrateWait, State.modPart_only hpart]

theorem State.migrateStop_only {part : StatePart} (hpart : part ∉ [.parts]) (s : State) (n : Nat) :
    (s.migrateStop n).only part = s.only part := by
  simp only [State.migrateStop, State.modPart_only hpart]

theorem State.migrateEnd_only {part : StatePart} (hpart : part ∉ [.regs, .parts, .pails, .health, .edp, .mem, .out]) (s : State) (n : Nat) :
    (s.migrateEnd n).only part = s.only part := by
  simp only [State.migrateEnd, State.failOp_only hpart, State.endOp_only hpart, State.only_ite, ite_self]

theorem State.migrateCancel_only {part : StatePart} (hpart : part ∉ [.parts]) (s : State) (n : Nat) :
    (s.migrateCancel n).only part = s.only part := by
  simp only [State.migrateCancel, State.modPart_only hpart]

theorem State.applyRecord_only {part : StatePart} (hpart : part ∉ [.edp]) (s : State) (role session : Nat) (r : Nat × Nat × Nat × List Byte)
    :
    (s.applyRecord role session r).state.only part = s.only part := by
  unfold State.applyRecord
  split <;> simp only [State.stageWrite_only hpart, Answer.only_ite, ite_self, State.refuse]

theorem State.configFails_only {part : StatePart} (hpart : part ∉ [.regs, .parts, .pails, .health, .edp, .mem, .out]) (s : State)
    (n status key : Nat) :
    (s.configFails n status key).only part = s.only part := by
  simp only [State.configFails, State.dropStage_only (outside hpart), State.failOp_only hpart, State.when_only]

theorem State.configOne_only {part : StatePart} (hpart : part ∉ [.regs, .parts, .pails, .health, .edp, .mem, .out]) (s : State) (n : Nat) :
    (s.configOne n).only part = s.only part := by
  unfold State.configOne
  dsimp only
  split <;> simp only [State.configFails_only hpart, State.applyRecord_only (outside hpart), State.progress_only (outside hpart),
    State.only_ite, ite_self]

theorem State.configEnd_only {part : StatePart} (hpart : part ∉ [.regs, .blobs, .parts, .pails, .health, .edp, .mem, .out]) (s : State)
    (n : Nat) :
    (s.configEnd n).only part = s.only part := by
  unfold State.configEnd
  split
  · rfl
  · split
    · simp only [State.configFails_only (outside hpart), State.setFlag_only (outside hpart)]
    · simp only [State.acceptCommit_only (outside hpart), State.modOp_only (outside hpart)]

theorem State.scrubOne_only {part : StatePart} (hpart : part ∉ [.edp, .freeUsed]) (s : State) (n : Nat) :
    (s.scrubOne n).only part = s.only part := by
  simp only [State.scrubOne, State.modOp_only (outside hpart), State.drew_only (outside hpart)]

theorem State.opPiece_only {part : StatePart} (hpart : part ∉ [.regs, .time, .ports, .sw, .parts, .pails, .pair, .sec, .health, .edp, .mem,
    .out, .freeUsed]) (s : State) (n : Nat) :
    (s.opPiece n).only part = s.only part := by
  simp only [State.opPiece, State.installOne_only (outside hpart), State.exportOne_only (outside hpart), State.scrubOne_only
    (outside hpart), State.configOne_only (outside hpart), State.selfTestOne_only (outside hpart), State.only_ite, ite_self]

theorem State.opPieces_only {part : StatePart} (hpart : part ∉ [.regs, .time, .ports, .sw, .parts, .pails, .pair, .sec, .health, .edp, .mem, .out, .freeUsed])
    (s : State) (n k : Nat) : (s.opPieces n k).only part = s.only part := by
  induction k generalizing s with
  | zero => rfl
  | succ k ih => simp only [State.opPieces, State.only_ite, ih, State.opPiece_only (outside hpart), ite_self]

theorem State.opEnd_only {part : StatePart} (hpart : part ∉ [.regs, .blobs, .hist, .parts, .pails, .sec, .health, .edp, .mem, .out,
    .freeUsed]) (s : State) (n : Nat) :
    (s.opEnd n).only part = s.only part := by
  simp only [State.opEnd, State.installEnd_only (outside hpart), State.attestDone_only (outside hpart), State.endOp_only (outside hpart),
    State.migrateEnd_only (outside hpart), State.exportEnd_only (outside hpart), State.keygenDone_only (outside hpart), State.configEnd_only
    (outside hpart), State.only_ite, ite_self]

theorem State.opCancelled_only {part : StatePart} (hpart : part ∉ [.regs, .blobs, .hist, .parts, .pails, .sec, .health, .edp, .mem, .out,
    .freeUsed]) (s : State) (n : Nat) :
    (s.opCancelled n).only part = s.only part := by
  unfold State.opCancelled
  dsimp only
  repeat' split
  all_goals simp only [State.writeResult_only (outside hpart), State.setBlob_only (outside hpart), State.dropStage_only (outside hpart),
    State.setSec_only (outside hpart), State.endOp_only (outside hpart), State.drew_only (outside hpart), State.endExport_only
    (outside hpart), State.migrateCancel_only (outside hpart)]

theorem State.opSuspended_only {part : StatePart} (hpart : part ∉ [.regs, .parts, .pails, .health, .edp, .mem, .out]) (s : State) (n : Nat)
    :
    (s.opSuspended n).only part = s.only part := by
  simp only [State.opSuspended, State.opFlag_only hpart, State.setOp_only (outside hpart), State.migrateStop_only (outside hpart),
    State.when_only]

theorem State.opResumed_only {part : StatePart} (hpart : part ∉ [.parts, .edp]) (s : State) (n : Nat) :
    (s.opResumed n).only part = s.only part := by
  simp only [State.opResumed, State.setOp_only (outside hpart), State.migrateWait_only (outside hpart), State.when_only]

theorem State.safePoint_only {part : StatePart} (hpart : part ∉ [.regs, .time, .ports, .sw, .parts, .pails, .pair, .sec, .health, .edp,
    .mem, .out, .freeUsed]) (s : State) (n : Nat) :
    (s.safePoint n).only part = s.only part := by
  unfold State.safePoint
  repeat' split
  all_goals simp only [State.opPiece_only hpart, State.opSuspended_only (outside hpart), State.opResumed_only (outside hpart),
    State.only_ite, ite_self]

theorem State.opComplete_only {part : StatePart} (hpart : part ∉ [.regs, .blobs, .time, .ports, .sw, .hist, .parts, .pails, .pair, .sec,
    .health, .edp, .mem, .out, .freeUsed]) (s : State) (n : Nat) :
    (s.opComplete n).only part = s.only part := by
  unfold State.opComplete
  split <;> simp only [State.opEnd_only (outside hpart), State.opCancelled_only (outside hpart), State.opPieces_only (outside hpart),
    State.opResumed_only (outside hpart), State.only_ite, ite_self]

theorem State.resultExpiry_only {part : StatePart} (hpart : part ∉ [.edp]) (s : State) (n : Nat) :
    (s.resultExpiry n).only part = s.only part := by
  simp only [State.resultExpiry, State.setOp_only hpart, State.only_ite, ite_self]

theorem State.suspendExpiry_only {part : StatePart} (hpart : part ∉ [.regs, .blobs, .hist, .parts, .pails, .sec, .health, .edp, .mem, .out,
    .freeUsed]) (s : State) (n : Nat) :
    (s.suspendExpiry n).only part = s.only part := by
  simp only [State.suspendExpiry, State.opCancelled_only hpart, State.only_ite, ite_self]

theorem State.beginOp_only {part : StatePart} (hpart : part ∉ [.edp]) (s : State) (type role session : Nat) (params : List Byte)
    {setup : Nat → State → State} (hs : ∀ n t, (setup n t).only part = t.only part) :
    (s.beginOp type role session params setup).state.only part = s.only part := by
  unfold State.beginOp
  split
  · rfl
  · rename_i n t e
    exact (hs n t).trans (State.openOp_only hpart e)

theorem State.opStart_only {part : StatePart} (hpart : part ∉ [.regs, .parts, .pails, .health, .edp, .mem, .out]) (s : State) (type : Nat) (q : Req)
    {begin_ : State → Session → List Byte → Answer} (hb : ∀ t x l, (begin_ t x l).state.only part = t.only part) :
    (s.opStart type q begin_).only part = s.only part := by
  refine State.request_only hpart _ _ _ fun t x => ?_
  dsimp only
  split
  · rfl
  · split
    · rfl
    · split
      · rfl
      · split
        · have hseg := State.segment_only (outside hpart) t q.session (startKey type) q.flags q.payload
          split <;> rename_i e <;> rw [e] at hseg
          · exact hseg
          · exact hseg
          · split <;> exact (hb _ _ _).trans hseg
        · split
          · rfl
          · split <;> exact hb _ _ _

theorem State.beginAttest_only {part : StatePart} (hpart : part ∉ [.regs, .edp]) (s : State) (x : Session) (sid : Nat) (params : List Byte)
    :
    (s.beginAttest x sid params).state.only part = s.only part := by
  simp only [State.beginAttest, State.writeNonce_only hpart, Answer.only_ite, ite_self, State.refuse]

theorem State.beginKeygen_only {part : StatePart} (hpart : part ∉ [.regs, .blobs, .parts, .pails, .sec, .health, .edp, .mem, .out,
    .freeUsed]) (s : State) (x : Session) (sid : Nat) (params : List Byte) :
    (s.beginKeygen x sid params).state.only part = s.only part := by
  unfold State.beginKeygen
  split <;> simp only [State.keyCommand_only hpart, Answer.only_ite, ite_self, State.refuse]

theorem State.beginFirmware_only {part : StatePart} (hpart : part ∉ [.sec, .edp]) (s : State) (x : Session) (sid : Nat) :
    (s.beginFirmware x sid).state.only part = s.only part := by
  simp only [State.beginFirmware, State.setSec_only (outside hpart), State.beginOp_only (outside hpart), Answer.only_ite, ite_self,
    implies_true, State.refuse]

theorem State.beginSelfTest_only {part : StatePart} (hpart : part ∉ [.edp]) (s : State) (x : Session) (sid : Nat) :
    (s.beginSelfTest x sid).state.only part = s.only part := by
  simp only [State.beginSelfTest, State.beginOp_only hpart, Answer.only_ite, ite_self, implies_true, State.refuse]

theorem State.beginHistory_only {part : StatePart} (hpart : part ∉ [.hist, .edp]) (s : State) (x : Session) (sid : Nat) :
    (s.beginHistory x sid).state.only part = s.only part := by
  simp only [State.beginHistory, State.beginExport_only (outside hpart), State.beginOp_only (outside hpart), Answer.only_ite, ite_self,
    implies_true, State.refuse]

theorem State.beginMigrate_only {part : StatePart} (hpart : part ∉ [.parts, .edp]) (s : State) (x : Session) (sid : Nat)
    (params : List Byte) :
    (s.beginMigrate x sid params).state.only part = s.only part := by
  simp only [State.beginMigrate, State.migrateWait_only (outside hpart), State.beginOp_only (outside hpart), Answer.only_ite, ite_self,
    implies_true, State.refuse]

theorem State.beginConfig_only {part : StatePart} (hpart : part ∉ [.edp]) (s : State) (x : Session) (sid : Nat) (params : List Byte) :
    (s.beginConfig x sid params).state.only part = s.only part := by
  simp only [State.beginConfig, State.setEdp_only hpart, State.beginOp_only hpart, Answer.only_ite, ite_self, implies_true, State.refuse]

theorem State.beginScrub_only {part : StatePart} (hpart : part ∉ [.edp]) (s : State) (x : Session) (sid : Nat) :
    (s.beginScrub x sid).state.only part = s.only part := by
  simp only [State.beginScrub, State.beginOp_only hpart, Answer.only_ite, ite_self, implies_true, State.refuse]

theorem State.opAsk_only {part : StatePart} (hpart : part ∉ [.regs, .parts, .pails, .health, .edp, .mem, .out]) (s : State) (ask : OpAsk)
    (q : Req) :
    (s.opAsk ask q).only part = s.only part := by
  refine State.request_only (outside hpart) _ _ _ fun t x => ?_
  split
  · rfl
  · dsimp only
    split
    · rfl
    · split
      · rfl
      · split
        · rfl
        · exact (State.setOp_only (outside hpart) _ _ _).trans (State.when_only (State.migrateStop_only (outside hpart) _ _) _)

theorem State.opStatus_only {part : StatePart} (hpart : part ∉ [.regs, .parts, .pails, .health, .edp, .mem, .out]) (s : State) (q : Req) :
    (s.opStatus q).only part = s.only part := by
  refine State.request_only (outside hpart) _ _ _ fun t x => ?_
  split
  · rfl
  · simp only [State.served, State.only_ite, State.setOp_only (outside hpart), ite_self]

/-! #### The operations of Edp -/

theorem State.read_only {part : StatePart} (hpart : part ∉ [.regs, .parts, .pails, .health, .edp, .mem, .out, .freeUsed]) (s : State)
    (q : Req) :
    (s.read q).only part = s.only part := by
  refine State.request_only (outside hpart) _ _ _ fun t x => ?_
  split
  · exact State.drew_only (outside hpart) _
  · split <;> simp only [State.served, Served.only_ite, ite_self]

theorem State.write_only {part : StatePart} (hpart : part ∉ [.regs, .blobs, .time, .befores, .workTick, .ports, .sw, .dp, .hist, .parts,
    .pails, .majorFrame, .churn, .loops, .pubs, .pair, .sec, .health, .edp, .power, .mem, .out, .freeUsed]) (s : State) (q : Req) :
    (s.write q).only part = s.only part := by
  refine State.request_only (outside hpart) _ _ _ fun t x => ?_
  split
  · rfl
  · split <;> simp only [State.served, Served.only_ite, Answer.written_state, State.writeEntry_only hpart, ite_self]

theorem State.readSegment_only {part : StatePart} (hpart : part ∉ [.edp]) (s : State) (q : Req) (x : Session) (r : ReadXfer) :
    (s.readSegment q x r).state.only part = s.only part := by
  unfold State.readSegment
  split <;> simp only [State.setSession_only hpart, State.served]

theorem State.readBlockOf_only {part : StatePart} (hpart : part ∉ [.edp]) (s : State) (q : Req) (x : Session) (row : OdRow) :
    (s.readBlockOf q x row).state.only part = s.only part := by
  unfold State.readBlockOf
  dsimp only
  repeat' split
  all_goals simp only [State.readSegment_only hpart, State.served]

theorem State.readBlock_only {part : StatePart} (hpart : part ∉ [.regs, .parts, .pails, .health, .edp, .mem, .out]) (s : State) (q : Req) :
    (s.readBlock q).only part = s.only part := by
  refine State.request_only (outside hpart) _ _ _ fun t x => ?_
  split
  · rfl
  · exact State.readBlockOf_only (outside hpart) _ _ _ _

theorem State.writeWhole_only {part : StatePart} (hpart : part ∉ [.regs, .blobs, .time, .befores, .workTick, .ports, .sw, .dp, .hist,
    .parts, .pails, .majorFrame, .churn, .loops, .pubs, .pair, .sec, .health, .edp, .power, .mem, .out, .freeUsed]) (s : State) (q : Req)
    (x : Session) (r : OdRow) (v : List Byte) :
    (s.writeWhole q x r v).state.only part = s.only part := by
  simp only [State.writeWhole, Served.only_ite, State.served, Answer.written_state, State.writeEntry_only hpart, ite_self]

theorem State.writeBlock_only {part : StatePart} (hpart : part ∉ [.regs, .blobs, .time, .befores, .workTick, .ports, .sw, .dp, .hist,
    .parts, .pails, .majorFrame, .churn, .loops, .pubs, .pair, .sec, .health, .edp, .power, .mem, .out, .freeUsed]) (s : State) (q : Req) :
    (s.writeBlock q).only part = s.only part := by
  refine State.request_only (outside hpart) _ _ _ fun t x => ?_
  split
  · rfl
  · split
    · rfl
    · have hseg := State.segment_only (outside hpart) t q.session (q.index * 256 + q.sub) q.flags q.payload
      split <;> rename_i e <;> rw [e] at hseg
      · exact hseg
      · exact hseg
      · exact (State.writeWhole_only hpart _ _ _ _ _).trans hseg

theorem State.stageEntry_only {part : StatePart} (hpart : part ∉ [.regs, .blobs, .time, .befores, .workTick, .ports, .sw, .dp, .hist,
    .parts, .pails, .majorFrame, .churn, .loops, .pubs, .pair, .sec, .health, .edp, .power, .mem, .out, .freeUsed]) (s : State) (q : Req) :
    (s.stageEntry q).only part = s.only part := by
  refine State.request_only (outside hpart) _ _ _ fun t x => ?_
  split <;> simp only [Served.only_ite, State.served, Answer.served, State.writeEntry_only hpart, ite_self]

theorem State.commitStage_only {part : StatePart} (hpart : part ∉ [.regs, .blobs, .parts, .pails, .health, .edp, .mem, .out]) (s : State)
    (q : Req) :
    (s.commitStage q).only part = s.only part := by
  refine State.request_only (outside hpart) _ _ _ fun t x => ?_
  split
  · rfl
  · split
    · exact State.edpFlag_only (outside hpart) _ _ _
    · exact State.acceptCommit_only (outside hpart) _ _ _ _

theorem State.commitReply_only {part : StatePart} (hpart : part ∉ [.regs, .parts, .pails, .health, .edp, .mem, .out]) (s : State)
    (c : PendingCommit) :
    (s.commitReply c).only part = s.only part := by
  unfold State.commitReply
  split <;> simp only [State.answerSession_only (outside hpart), State.setFlag_only hpart, State.edpFlag_only hpart]

theorem State.commitApply_only {part : StatePart} (hpart : part ∉ [.regs, .blobs, .time, .befores, .ports, .sw, .dp, .hist, .parts, .pails,
    .churn, .loops, .subs, .pubs, .health, .edp, .power, .mem, .out]) (s : State) :
    (s.commitApply).only part = s.only part := by
  unfold State.commitApply
  repeat' split
  all_goals simp only [State.dropStage_only (outside hpart), State.setEdp_only (outside hpart), State.endOp_only (outside hpart),
    State.applyStage_only (outside hpart), State.configWritten_only (outside hpart), State.commitReply_only (outside hpart), State.only_ite,
    ite_self]

theorem State.discardStage_only {part : StatePart} (hpart : part ∉ [.regs, .parts, .pails, .health, .edp, .mem, .out]) (s : State) (q : Req)
    :
    (s.discardStage q).only part = s.only part := by
  simp only [State.discardStage, State.dropStage_only (outside hpart), State.request_only hpart, Served.only_ite, ite_self, implies_true,
    State.served]

theorem State.subscribe_only {part : StatePart} (hpart : part ∉ [.regs, .parts, .pails, .health, .edp, .mem, .out]) (s : State) (q : Req) :
    (s.subscribe q).only part = s.only part := by
  refine State.request_only (outside hpart) _ _ _ fun t x => ?_
  simp only [Served.only_ite, State.served]
  split
  · rfl
  · split
    · rfl
    · split
      · exact State.setSession_only (outside hpart) _ _ _
      · rfl

theorem State.holdExpiry_only {part : StatePart} (hpart : part ∉ [.edp, .out]) (s : State) (sid n : Nat) :
    (s.holdExpiry sid n).only part = s.only part := by
  unfold State.holdExpiry
  split <;> simp only [State.sendEvent_only hpart, State.only_ite, ite_self]

theorem State.statusWrite_only {part : StatePart} (hpart : part ∉ [.regs, .parts, .pails, .health, .edp, .mem, .out]) (s : State)
    (n value setMeanwhile : Nat) :
    (s.statusWrite n value setMeanwhile).only part = s.only part := by
  simp only [State.statusWrite, State.notify_only (outside hpart), State.setFlag_only hpart, State.clearStatus_only (outside hpart),
    implies_true, State.each_only, State.when_only]

theorem State.takeSession_only {part : StatePart} (hpart : part ∉ [.edp]) (s : State) :
    (s.takeSession).2.only part = s.only part := by
  simp only [State.takeSession, State.setEdp_only hpart]

theorem State.openSession_only {part : StatePart} (hpart : part ∉ [.edp, .out, .freeUsed]) (s : State) (q : Req) (role slot : Nat) :
    (s.openSession q role slot).only part = s.only part := by
  simp only [State.openSession, State.setSession_only (outside hpart), State.sendReply_only (outside hpart), State.takeSession_only
    (outside hpart), State.randomBytes_only (outside hpart)]

theorem State.sessionOpen_only {part : StatePart} (hpart : part ∉ [.regs, .parts, .pails, .health, .edp, .mem, .out, .freeUsed]) (s : State)
    (q : Req) :
    (s.sessionOpen q).only part = s.only part := by
  simp only [State.sessionOpen, State.answerClear_only (outside hpart), State.openSession_only (outside hpart), State.useSlot_only
    (outside hpart), State.discardReq_only (outside hpart), State.only_ite, ite_self]

theorem State.sessionClose_only {part : StatePart} (hpart : part ∉ [.regs, .parts, .pails, .health, .edp, .mem, .out]) (s : State) (q : Req)
    :
    (s.sessionClose q).only part = s.only part := by
  simp only [State.sessionClose, State.closeSession_only hpart, State.request_only hpart, implies_true, State.served]

theorem State.keepalive_only {part : StatePart} (hpart : part ∉ [.regs, .parts, .pails, .health, .edp, .mem, .out]) (s : State) (q : Req) :
    (s.keepalive q).only part = s.only part := by
  simp only [State.keepalive, State.request_only hpart, implies_true, State.served]

theorem State.unsupported_only {part : StatePart} (hpart : part ∉ [.regs, .parts, .pails, .health, .edp, .mem, .out]) (s : State)
    (opcode : Nat) (q : Req) :
    (s.unsupported opcode q).only part = s.only part := by
  simp only [State.unsupported, State.request_only hpart, State.only_ite, ite_self, implies_true, State.served]

theorem State.sessionTimeout_only {part : StatePart} (hpart : part ∉ [.regs, .parts, .pails, .health, .edp, .mem, .out]) (s : State)
    (sid : Nat) :
    (s.sessionTimeout sid).only part = s.only part := by
  unfold State.sessionTimeout
  split <;> simp only [State.closeSession_only hpart, State.only_ite, ite_self]

theorem State.openTimeout_only {part : StatePart} (hpart : part ∉ [.regs, .parts, .pails, .health, .edp, .mem, .out]) (s : State)
    (sid : Nat) :
    (s.openTimeout sid).only part = s.only part := by
  unfold State.openTimeout
  split <;> simp only [State.closeSession_only hpart, State.only_ite, ite_self]

theorem State.transferTimeout_only {part : StatePart} (hpart : part ∉ [.edp]) (s : State) (sid : Nat) :
    (s.transferTimeout sid).only part = s.only part := by
  unfold State.transferTimeout
  split <;> simp only [State.setXfer_only hpart, State.only_ite, ite_self]

theorem State.snapshotTimeout_only {part : StatePart} (hpart : part ∉ [.edp]) (s : State) (sid : Nat) :
    (s.snapshotTimeout sid).only part = s.only part := by
  unfold State.snapshotTimeout
  split <;> simp only [State.setSession_only hpart, State.only_ite, ite_self]

/-! #### The operations of HostPort -/

theorem State.resetMailbox_only {part : StatePart} (hpart : part ∉ [.regs, .parts, .pails, .health, .edp, .mem, .out]) (s : State) :
    (s.resetMailbox).only part = s.only part := by
  simp only [State.resetMailbox, State.setEdp_only (outside hpart), State.closeSession_only hpart, implies_true, State.each_only]

theorem State.functionReset_only {part : StatePart} (hpart : part ∉ [.regs, .parts, .pails, .health, .edp, .mem, .out]) (s : State) :
    (s.functionReset).only part = s.only part := by
  simp only [State.functionReset, State.resetMailbox_only hpart, State.resetPail_only (outside hpart), implies_true, State.each_only,
    State.when_only]

theorem State.mailboxTooLarge_only {part : StatePart} (hpart : part ∉ [.edp, .out]) (s : State) :
    (s.mailboxTooLarge).only part = s.only part := by
  simp only [State.mailboxTooLarge, State.sendReply_only hpart]

theorem State.mailboxDoorbell_only {part : StatePart} (hpart : part ∉ [.edp, .out]) (s : State) (value : Nat) :
    (s.mailboxDoorbell value).only part = s.only part := by
  simp only [State.mailboxDoorbell, State.setEdp_only (outside hpart), State.mailboxTooLarge_only hpart, State.only_ite, ite_self]

theorem State.msixWrite_only {part : StatePart} (hpart : part ∉ [.edp, .out]) (s : State) (o value : Nat) :
    (s.msixWrite o value).only part = s.only part := by
  simp only [State.msixWrite, State.setEdp_only (outside hpart), State.msix_only hpart, State.only_ite, ite_self, State.when_only]

theorem State.barZero_only {part : StatePart} (hpart : part ∉ [.edp, .out]) (s : State) (o value : Nat) :
    (s.barZero o value).only part = s.only part := by
  simp only [State.barZero, State.setEdp_only (outside hpart), State.mailboxDoorbell_only hpart, State.msixWrite_only hpart, State.only_ite,
    ite_self]

theorem State.writeCtrl_only {part : StatePart} (hpart : part ∉ [.pails]) (s : State) (p value : Nat) :
    (s.writeCtrl p value).only part = s.only part := by
  simp only [State.writeCtrl, State.askFreeze_only hpart, State.resetPail_only hpart, State.releaseFreeze_only hpart, State.only_ite,
    ite_self, State.when_only]

theorem State.writeEvCtrl_only {part : StatePart} (hpart : part ∉ [.pails]) (s : State) (p value : Nat) :
    (s.writeEvCtrl p value).only part = s.only part := by
  simp only [State.writeEvCtrl, State.modPail_only hpart, State.only_ite, ite_self]

theorem State.writeDirtyCtrl_only {part : StatePart} (hpart : part ∉ [.pails]) (s : State) (p value : Nat) :
    (s.writeDirtyCtrl p value).only part = s.only part := by
  simp only [State.writeDirtyCtrl, State.dirtySwap_only hpart, State.modPail_only hpart, State.when_only]

theorem State.writePailCommon_only {part : StatePart} (hpart : part ∉ [.regs, .hist, .parts, .pails, .health, .edp, .mem, .out]) (s : State)
    (p o value : Nat) :
    (s.writePailCommon p o value).only part = s.only part := by
  unfold State.writePailCommon
  split <;> simp only [State.writeDirtyCtrl_only (outside hpart), State.writeCtrl_only (outside hpart), State.pailFreeze_only
    (outside hpart), State.writeEvHead_only (outside hpart), State.pailTrigger_only hpart, State.writeEvCtrl_only (outside hpart),
    State.modPail_only (outside hpart)]

theorem State.writeQueueReg_only {part : StatePart} (hpart : part ∉ [.pails]) (s : State) (p q : Nat) (r value : Nat) :
    (s.writeQueueReg p q r value).only part = s.only part := by
  unfold State.writeQueueReg
  dsimp only
  split <;> simp only [State.queueControl_only hpart, State.modPail_only hpart, State.only_ite, ite_self]

theorem State.writePailWindow_only {part : StatePart} (hpart : part ∉ [.regs, .hist, .parts, .pails, .pubs, .health, .edp, .mem, .out])
    (s : State) (p o value : Nat) :
    (s.writePailWindow p o value).only part = s.only part := by
  simp only [State.writePailWindow, State.rxDoorbell_only (outside hpart), State.writeQueueReg_only (outside hpart), State.pubCommit_only
    (outside hpart), State.stageCell_only (outside hpart), State.txDoorbell_only (outside hpart), State.writePailCommon_only
    (outside hpart), State.modPail_only (outside hpart), State.only_ite, ite_self]

theorem State.writeLiveEntry_only {part : StatePart} (hpart : part ∉ [.regs, .blobs, .time, .befores, .workTick, .ports, .sw, .dp, .hist,
    .parts, .pails, .majorFrame, .churn, .loops, .pubs, .pair, .sec, .health, .edp, .power, .mem, .out, .freeUsed]) (s : State)
    (key value : Nat) :
    (s.writeLiveEntry key value).only part = s.only part := by
  unfold State.writeLiveEntry
  split
  · exact State.emit_only (outside hpart) _ rfl
  · simp only [State.only_ite, Answer.told, State.emit_only (outside hpart) _ (o := .status _ _) rfl, State.refuse,
    State.liveWrite_only hpart, ite_self]

theorem State.ownerStore_only {part : StatePart} (hpart : part ∉ [.mem]) (s : State) (owner a value : Nat) :
    (s.ownerStore owner a value).only part = s.only part := by
  simp only [State.ownerStore, State.storeBytes_only hpart, State.only_ite, ite_self]

theorem State.registerWrite_only {part : StatePart} (hpart : part ∉ [.regs, .blobs, .time, .befores, .workTick, .ports, .sw, .dp, .hist,
    .parts, .pails, .majorFrame, .churn, .loops, .pubs, .pair, .sec, .health, .edp, .power, .mem, .out, .freeUsed]) (s : State)
    (space offset value : Nat) :
    (s.registerWrite space offset value).only part = s.only part := by
  simp only [State.registerWrite, State.ownerStore_only (outside hpart), State.writePailWindow_only (outside hpart),
    State.writeLiveEntry_only hpart, State.barZero_only (outside hpart), State.only_ite, ite_self]

end Sys2Proof.Machine
end

section
set_option Elab.async false
namespace Sys2Proof.Machine

/-! ### What a command is (R28)

Every command but POWER_GOOD and TAP_INSTRUCTION is a fault where it names what the module lacks, and else takes effect where its
power domain is up; its effect leaves the queue alone. -/

/-- A command acts, as `act` says, by an effect that leaves the queue alone. -/
def ActsApart (c : Instr) (s : State) : Prop :=
  ∃ d f, exec c s = act c.namesInstance d (s.arrive c.instant) f ∧ ∀ t, (f t).only .pending = t.only .pending

theorem State.ite_only {p : StatePart} {c : Prop} {_ : Decidable c} {x y s : State} (hx : x.only p = s.only p) (hy : y.only p = s.only p) :
    (if c then x else y).only p = s.only p := by
  split
  · exact hx
  · exact hy

theorem Answer.told_only {p : StatePart} (hp : p ∉ [.out]) (a : Answer) : a.told.only p = a.state.only p := State.emit_only hp _ rfl

/-- A write to a block that start-up reaches keeps what the write itself keeps (log 68). -/
theorem State.whileRunning_told_only {p : StatePart} (hp : p ∉ [.out]) {s : State} {a : Answer} (ha : a.state.only p = s.only p) :
    (s.whileRunning a).told.only p = s.only p := by
  rw [Answer.told_only hp, State.whileRunning, Answer.only_ite]
  split
  · rfl
  · exact ha

/-- What TAMPER_CLEAR answers a session (R395). -/
def State.tamperClearAnswer (s : State) (session value : Nat) : Answer :=
  match s.session? session with
  | none => s.refuse stNoSession
  | some x => if !x.opened then s.refuse stNoSession else s.writeTamperClear x.role x.slot value

theorem State.tamperClearAnswer_only (s : State) (session value : Nat) :
    (s.tamperClearAnswer session value).state.only .pending = s.only .pending := by
  unfold State.tamperClearAnswer
  split
  · rfl
  · rw [Answer.only_ite]
    split
    · rfl
    · exact State.writeTamperClear_only (by decide) _ _ _ _

/-! #### The commands -/

theorem workTickBoundary_acts (s : State) (a : Instant) : ActsApart (.workTickBoundary a) s :=
  ⟨10, (·.workTickBoundary), rfl, fun t => State.workTickBoundary_only (by decide) t⟩
theorem alignmentWindowClose_acts (s : State) (a : Instant) (image : Nat) : ActsApart (.alignmentWindowClose a image) s :=
  ⟨3, (·.closeWindow image), rfl, fun t => State.closeWindow_only (by decide) t _⟩
theorem imageRelease_acts (s : State) (a : Instant) (image : Nat) : ActsApart (.imageRelease a image) s :=
  ⟨10, (·.releaseImage image), rfl, fun t => State.releaseImage_only (by decide) t _⟩
theorem phasorRelease_acts (s : State) (a : Instant) (image : Nat) : ActsApart (.phasorRelease a image) s :=
  ⟨10, (·.releasePhasors image), rfl, fun t => State.releasePhasors_only (by decide) t _⟩
theorem residueMismatch_acts (s : State) (a : Instant) (slice group : Nat) : ActsApart (.residueMismatch a slice group) s :=
  ⟨10, (·.residueMismatch slice group), rfl, fun t => State.residueMismatch_only (by decide) t _ _⟩
theorem fallbackHandover_acts (s : State) (a : Instant) (slice : Nat) : ActsApart (.fallbackHandover a slice) s :=
  ⟨10, (·.handover slice), rfl, fun t => State.handover_only (by decide) t _⟩
theorem fallbackReturn_acts (s : State) (a : Instant) (slice : Nat) : ActsApart (.fallbackReturn a slice) s :=
  ⟨10, (·.fallbackReturn slice), rfl, fun t => State.fallbackReturn_only (by decide) t _⟩
theorem curdFrameWrite_acts (s : State) (a : Instant) (firstTick : Nat) : ActsApart (.curdFrameWrite a firstTick) s :=
  ⟨10, (·.curdFrame firstTick), rfl, fun t => State.curdFrame_only (by decide) t _⟩
theorem triggerNow_acts (s : State) (a : Instant) (value : Nat) : ActsApart (.triggerNow a value) s :=
  ⟨10, fun s => (s.writeTriggerNow value).told, rfl, fun t => (Answer.told_only (by decide) _).trans
    (State.writeTriggerNow_only (by decide) t _)⟩
theorem releaseWindow_acts (s : State) (a : Instant) (window : Nat) : ActsApart (.releaseWindow a window) s :=
  ⟨10, fun s => (s.writeReleaseWindow window).told, rfl, fun t => (Answer.told_only (by decide) _).trans
    (State.writeReleaseWindow_only (by decide) t _)⟩
theorem dcFreezeMapWrite_acts (s : State) (a : Instant) (map : Nat) : ActsApart (.dcFreezeMapWrite a map) s :=
  ⟨10, fun s => (s.writeFreezeMap (map % 2 ^ 8192)).told, rfl, fun t => (Answer.told_only (by decide) _).trans
    (State.writeFreezeMap_only (by decide) t _)⟩
theorem rxFrameStart_acts (s : State) (a : Instant) (port : Nat) : ActsApart (.rxFrameStart a port) s :=
  ⟨3, (·.rxStart port), rfl, fun t => State.rxStart_only (by decide) t _⟩
theorem rxClassified_acts (s : State) (a : Instant) (port : Nat) (frame : Frame) : ActsApart (.rxClassified a port frame) s :=
  ⟨3, (·.rxClassified port frame), rfl, fun t => State.rxClassified_only (by decide) t _ _⟩
theorem rxFrameEnd_acts (s : State) (a : Instant) (port : Nat) (ending : RxEnd) : ActsApart (.rxFrameEnd a port ending) s :=
  ⟨3, (·.rxEnd port ending), rfl, fun t => State.rxEnd_only (by decide) t _ _⟩
theorem cutThroughStart_acts (s : State) (a : Instant) (ingress egress : Nat) : ActsApart (.cutThroughStart a ingress egress) s :=
  ⟨3, (·.cutStart ingress egress), rfl, fun t => State.cutStart_only (by decide) t _ _⟩
theorem egressTxStart_acts (s : State) (a : Instant) (port : Nat) : ActsApart (.egressTxStart a port) s :=
  ⟨3, (·.txStart port), rfl, fun t => State.txStart_only (by decide) t _⟩
theorem txFrameEnd_acts (s : State) (a : Instant) (port : Nat) : ActsApart (.txFrameEnd a port) s :=
  ⟨3, (·.txEnd port), rfl, fun t => State.txEnd_only (by decide) t _⟩
theorem timestampCollect_acts (s : State) (a : Instant) (port owner : Nat) : ActsApart (.timestampCollect a port owner) s :=
  ⟨3, (·.collect port owner), rfl, fun t => State.collect_only (by decide) t _ _⟩
theorem timestampUncollected_acts (s : State) (a : Instant) (port : Nat) : ActsApart (.timestampUncollected a port) s :=
  ⟨3, (·.uncollected port), rfl, fun t => State.uncollected_only (by decide) t _⟩
theorem residenceDiscard_acts (s : State) (a : Instant) (port : Nat) : ActsApart (.residenceDiscard a port) s :=
  ⟨3, (·.residence port), rfl, fun t => State.residence_only (by decide) t _⟩
theorem pauseReceived_acts (s : State) (a : Instant) (port pauseTime : Nat) : ActsApart (.pauseReceived a port pauseTime) s :=
  ⟨3, fun s => s.pauseIn port (pauseTime % 2 ^ 16), rfl, fun t => State.pauseIn_only (by decide) t _ _⟩
theorem pauseExpiry_acts (s : State) (a : Instant) (port : Nat) : ActsApart (.pauseExpiry a port) s :=
  ⟨3, (·.pauseOver port), rfl, fun t => State.pauseOver_only (by decide) t _⟩
theorem pauseRepeat_acts (s : State) (a : Instant) (port : Nat) : ActsApart (.pauseRepeat a port) s :=
  ⟨3, (·.pauseAgain port), rfl, fun t => State.pauseAgain_only (by decide) t _⟩
theorem speedLower_acts (s : State) (a : Instant) (port : Nat) : ActsApart (.speedLower a port) s :=
  ⟨3, (·.changeSpeed port true), rfl, fun t => State.changeSpeed_only (by decide) t _ _⟩
theorem speedRaise_acts (s : State) (a : Instant) (port : Nat) : ActsApart (.speedRaise a port) s :=
  ⟨3, (·.changeSpeed port false), rfl, fun t => State.changeSpeed_only (by decide) t _ _⟩
theorem sgmiiSpeedReport_acts (s : State) (a : Instant) (port speed : Nat) (fullDuplex : Bool) : ActsApart
  (.sgmiiSpeedReport a port speed fullDuplex) s :=
  ⟨3, (·.sgmiiReport port speed fullDuplex), rfl, fun t => State.sgmiiReport_only (by decide) t _ _ _⟩
theorem linkDown_acts (s : State) (a : Instant) (port : Nat) : ActsApart (.linkDown a port) s :=
  ⟨3, (·.pcsLoss port), rfl, fun t => State.pcsLoss_only (by decide) t _⟩
theorem linkUp_acts (s : State) (a : Instant) (port : Nat) : ActsApart (.linkUp a port) s :=
  ⟨3, (·.linkGain port), rfl, fun t => State.linkGain_only (by decide) t _⟩
theorem serdesLockLost_acts (s : State) (a : Instant) (port : Nat) : ActsApart (.serdesLockLost a port) s :=
  ⟨3, (·.lockLost port), rfl, fun t => State.lockLost_only (by decide) t _⟩
theorem halfRangeMapWrite_acts (s : State) (a : Instant) (port value : Nat) : ActsApart (.halfRangeMapWrite a port value) s :=
  ⟨3, fun s => (s.clearHalfRange port value).told, rfl, fun t => (Answer.told_only (by decide) _).trans
    (State.clearHalfRange_only (by decide) t _ _)⟩
theorem staticEntryWrite_acts (s : State) (a : Instant) (entry value : Nat) : ActsApart (.staticEntryWrite a entry value) s :=
  ⟨3, fun s => (s.writeStatic entry value).told, rfl, fun t => (Answer.told_only (by decide) _).trans
    (State.writeStatic_only (by decide) t _ _)⟩
theorem multicastGroupWrite_acts (s : State) (a : Instant) (group value : Nat) : ActsApart (.multicastGroupWrite a group value) s :=
  ⟨3, fun s => (s.writeGroup group value).told, rfl, fun t => (Answer.told_only (by decide) _).trans
    (State.writeGroup_only (by decide) t _ _)⟩
theorem clearTables_acts (s : State) (a : Instant) (value : Nat) : ActsApart (.clearTables a value) s :=
  ⟨3, fun s => (s.clearForwarding value).told, rfl, fun t => (Answer.told_only (by decide) _).trans
    (State.clearForwarding_only (by decide) t _)⟩
theorem tableBarrier_acts (s : State) (a : Instant) (generation : Nat) : ActsApart (.tableBarrier a generation) s :=
  ⟨3, fun s => (s.writeBarrier generation).told, rfl, fun t => (Answer.told_only (by decide) _).trans
    (State.writeBarrier_only (by decide) t _)⟩
theorem barrierDone_acts (s : State) (a : Instant) : ActsApart (.barrierDone a) s :=
  ⟨3, (·.barrierOver), rfl, fun t => State.barrierOver_only (by decide) t⟩
theorem residenceLimitWrite_acts (s : State) (a : Instant) (value : Nat) : ActsApart (.residenceLimitWrite a value) s :=
  ⟨3, fun s => (s.writeResidence value).told, rfl, fun t => (Answer.told_only (by decide) _).trans
    (State.writeResidence_only (by decide) t _)⟩
theorem supervisionFrameSend_acts (s : State) (a : Instant) (group : Nat) : ActsApart (.supervisionFrameSend a group) s :=
  ⟨3, (·.supervise group), rfl, fun t => State.supervise_only (by decide) t _⟩
theorem lanSilent_acts (s : State) (a : Instant) (group : Nat) : ActsApart (.lanSilent a group) s :=
  ⟨3, (·.lanSilence group), rfl, fun t => State.lanSilence_only (by decide) t _⟩
theorem entryForget_acts (s : State) (a : Instant) (group mac : Nat) : ActsApart (.entryForget a group mac) s :=
  ⟨3, (·.forgetEntry group mac), rfl, fun t => State.forgetEntry_only (by decide) t _ _⟩
theorem ptpMessageReceived_acts (s : State) (a : Instant) (port : Nat) (msg : PtpMsg) : ActsApart (.ptpMessageReceived a port msg) s :=
  ⟨3, (·.ptpReceived port msg), rfl, fun t => State.ptpReceived_only (by decide) t _ _⟩
theorem ptpSyncSend_acts (s : State) (a : Instant) (port : Nat) : ActsApart (.ptpSyncSend a port) s :=
  ⟨3, (·.sendSync port), rfl, fun t => State.sendSync_only (by decide) t _⟩
theorem ptpAnnounceSend_acts (s : State) (a : Instant) (port : Nat) : ActsApart (.ptpAnnounceSend a port) s :=
  ⟨3, (·.sendAnnounce port), rfl, fun t => State.sendAnnounce_only (by decide) t _⟩
theorem pdelayReqSend_acts (s : State) (a : Instant) (port : Nat) : ActsApart (.pdelayReqSend a port) s :=
  ⟨3, (·.sendPdelayReq port), rfl, fun t => State.sendPdelayReq_only (by decide) t _⟩
theorem announceReceiptTimeout_acts (s : State) (a : Instant) (port : Nat) : ActsApart (.announceReceiptTimeout a port) s :=
  ⟨3, (·.announceTimeout port), rfl, fun t => State.announceTimeout_only (by decide) t _⟩
theorem holdoverOutOfSpec_acts (s : State) (a : Instant) : ActsApart (.holdoverOutOfSpec a) s :=
  ⟨3, fun s => if s.time.servo = .holdover && s.holdExceeded && !s.time.frozen then s.setServo .holdoverOutOfSpec else s, rfl, fun t =>
    State.ite_only (State.setServo_only (by decide) t _) rfl⟩
theorem frequencyStore_acts (s : State) (a : Instant) : ActsApart (.frequencyStore a) s :=
  ⟨3, (·.storeFrequency), rfl, fun t => State.storeFrequency_only (by decide) t⟩
theorem setTime_acts (s : State) (a : Instant) (time : Nat) : ActsApart (.setTime a time) s :=
  ⟨3, fun s => (s.writeSetTime (time % 2 ^ 80)).told, rfl, fun t => (Answer.told_only (by decide) _).trans
    (State.writeSetTime_only (by decide) t _)⟩
theorem stepNow_acts (s : State) (a : Instant) (value : Nat) : ActsApart (.stepNow a value) s :=
  ⟨3, fun s => (s.writeStepNow value).told, rfl, fun t => (Answer.told_only (by decide) _).trans (State.writeStepNow_only (by decide) t _)⟩
theorem ppsInEdge_acts (s : State) (a : Instant) (edge : PpsEdge) : ActsApart (.ppsInEdge a edge) s :=
  ⟨3, (·.ppsEdge edge), rfl, fun t => State.ppsEdge_only (by decide) t _⟩
theorem ppsInInvalid_acts (s : State) (a : Instant) : ActsApart (.ppsInInvalid a) s :=
  ⟨3, (·.ppsLost), rfl, fun t => State.ppsLost_only (by decide) t⟩
theorem ppsOutRise_acts (s : State) (a : Instant) : ActsApart (.ppsOutRise a) s :=
  ⟨3, (·.ppsRise), rfl, fun t => State.ppsRise_only (by decide) t⟩
theorem ppsOutFall_acts (s : State) (a : Instant) : ActsApart (.ppsOutFall a) s :=
  ⟨3, (·.ppsFall), rfl, fun t => State.ppsFall_only (by decide) t⟩
theorem tickRateChange_acts (s : State) (a : Instant) : ActsApart (.tickRateChange a) s :=
  ⟨3, (·.changeRate), rfl, fun t => State.changeRate_only (by decide) t⟩
theorem svAsduReceived_acts (s : State) (a : Instant) (asdu : Asdu) : ActsApart (.svAsduReceived a asdu) s :=
  ⟨3, (·.svReceive asdu), rfl, fun t => State.svReceive_only (by decide) t _⟩
theorem gooseMessageReceived_acts (s : State) (a : Instant) (msg : GooseMsg) : ActsApart (.gooseMessageReceived a msg) s :=
  ⟨3, (·.gsReceive msg), rfl, fun t => State.gsReceive_only (by decide) t _⟩
theorem info_acts (s : State) (a : Instant) (partition : Nat) : ActsApart (.info a partition) s :=
  ⟨10, fun s => if s.calling partition then s.callInfo partition else s, rfl, fun t => State.ite_only (State.callInfo_only (by decide) t _)
    rfl⟩
theorem tick_acts (s : State) (a : Instant) (partition : Nat) : ActsApart (.tick a partition) s :=
  ⟨10, fun s => if s.calling partition then s.callTick partition else s, rfl, fun t => State.ite_only (State.callTick_only (by decide) t _)
    rfl⟩
theorem tickDone_acts (s : State) (a : Instant) (partition : Nat) : ActsApart (.tickDone a partition) s :=
  ⟨10, fun s => if s.calling partition then s.tickDone partition else s, rfl, fun t => State.ite_only (State.tickDone_only (by decide) t _)
    rfl⟩
theorem yield_acts (s : State) (a : Instant) (partition : Nat) : ActsApart (.yield a partition) s :=
  ⟨10, fun s => if s.calling partition then (s.modPart partition fun x => { x with window := none }).callReturn partition 0 [] else s, rfl,
    fun t => State.ite_only ((State.callReturn_only (by decide) _ _ _ _).trans (State.modPart_only (by decide) t _ _)) rfl⟩
theorem timerSet_acts (s : State) (a : Instant) (partition time : Nat) : ActsApart (.timerSet a partition time) s :=
  ⟨10, fun s => if s.calling partition then (s.modPart partition fun x => { x with timer := some (time % 2 ^ 64), timerPending := false
    }).callReturn partition 0 [] else s, rfl, fun t => State.ite_only ((State.callReturn_only (by decide) _ _ _ _).trans
    (State.modPart_only (by decide) t _ _)) rfl⟩
theorem timerCancel_acts (s : State) (a : Instant) (partition : Nat) : ActsApart (.timerCancel a partition) s :=
  ⟨10, fun s => if s.calling partition then (s.modPart partition fun x => { x with timer := none, timerPending := false }).callReturn
    partition 0 [] else s, rfl, fun t => State.ite_only ((State.callReturn_only (by decide) _ _ _ _).trans
    (State.modPart_only (by decide) t _ _)) rfl⟩
theorem stateDeclare_acts (s : State) (a : Instant) (partition region address length : Nat) : ActsApart
  (.stateDeclare a partition region address length) s :=
  ⟨10, fun s => if s.calling partition then s.stateDeclare partition region address length else s, rfl, fun t => State.ite_only
    (State.stateDeclare_only (by decide) t _ _ _ _) rfl⟩
theorem stateStatus_acts (s : State) (a : Instant) (partition : Nat) : ActsApart (.stateStatus a partition) s :=
  ⟨10, fun s => if s.calling partition then s.callReturn partition 0 [((s.part partition).resyncs : Int),
    ((s.part partition).lastResync : Int)] else s, rfl, fun t => State.ite_only (State.callReturn_only (by decide) t _ _ _) rfl⟩
theorem portSend_acts (s : State) (a : Instant) (partition dest address length : Nat) : ActsApart
  (.portSend a partition dest address length) s :=
  ⟨10, fun s => if s.calling partition then s.portSend partition dest address length else s, rfl, fun t => State.ite_only
    (State.portSend_only (by decide) t _ _ _ _) rfl⟩
theorem portRecv_acts (s : State) (a : Instant) (partition address length : Nat) : ActsApart (.portRecv a partition address length) s :=
  ⟨10, fun s => if s.calling partition then s.portRecv partition address length else s, rfl, fun t => State.ite_only
    (State.portRecv_only (by decide) t _ _ _) rfl⟩
theorem log_acts (s : State) (a : Instant) (partition address : Nat) : ActsApart (.log a partition address) s :=
  ⟨10, fun s => if s.calling partition then s.callLog partition address else s, rfl, fun t => State.ite_only
    (State.callLog_only (by decide) t _ _) rfl⟩
theorem health_acts (s : State) (a : Instant) (partition : Nat) : ActsApart (.health a partition) s :=
  ⟨10, fun s => if s.calling partition then s.callReturn partition 0 [(s.healthWord partition : Int)] else s, rfl, fun t => State.ite_only
    (State.callReturn_only (by decide) t _ _ _) rfl⟩
theorem watchdogKick_acts (s : State) (a : Instant) (partition : Nat) : ActsApart (.watchdogKick a partition) s :=
  ⟨10, fun s => if s.calling partition then (s.modPart partition fun x => { x with watchdog := 0 }).callReturn partition 0 [] else s, rfl,
    fun t => State.ite_only ((State.callReturn_only (by decide) _ _ _ _).trans (State.modPart_only (by decide) t _ _)) rfl⟩
theorem restartSelf_acts (s : State) (a : Instant) (partition : Nat) : ActsApart (.restartSelf a partition) s :=
  ⟨10, fun s => if s.calling partition then (s.callReturn partition 0 []).askRestart partition 2 (s.workTick + 1) else s, rfl, fun t =>
    State.ite_only ((State.askRestart_only (by decide) _ _ _ _).trans (State.callReturn_only (by decide) t _ _ _)) rfl⟩
theorem configRead_acts (s : State) (a : Instant) (partition index sub address length : Nat) : ActsApart
  (.configRead a partition index sub address length) s :=
  ⟨10, fun s => if s.calling partition then s.configRead partition index sub address length else s, rfl, fun t => State.ite_only
    (State.configRead_only (by decide) t _ _ _ _ _) rfl⟩
theorem migrateReady_acts (s : State) (a : Instant) (partition : Nat) : ActsApart (.migrateReady a partition) s :=
  ⟨10, fun s => if s.calling partition then s.migrateReady partition else s, rfl, fun t => State.ite_only
    (State.migrateReady_only (by decide) t _) rfl⟩
theorem invalidMonitorCall_acts (s : State) (a : Instant) (partition number : Nat) : ActsApart (.invalidMonitorCall a partition number) s :=
  ⟨10, fun s => if s.calling partition then if 15 < number then s.callReturn partition callInvalid [] else s else s, rfl, fun t =>
    State.ite_only (State.ite_only (State.callReturn_only (by decide) t _ _ _) rfl) rfl⟩
theorem windowStart_acts (s : State) (a : Instant) (partition window : Nat) : ActsApart (.windowStart a partition window) s :=
  ⟨10, (·.windowOpen partition window), rfl, fun t => State.windowOpen_only (by decide) t _ _⟩
theorem windowEnd_acts (s : State) (a : Instant) (partition window : Nat) : ActsApart (.windowEnd a partition window) s :=
  ⟨10, (·.windowClose partition window), rfl, fun t => State.windowClose_only (by decide) t _ _⟩
theorem vsTimerInterrupt_acts (s : State) (a : Instant) (partition : Nat) : ActsApart (.vsTimerInterrupt a partition) s :=
  ⟨10, (·.vsTimer partition), rfl, fun t => State.vsTimer_only (by decide) t _⟩
theorem partitionException_acts (s : State) (a : Instant) (exception : PartException) : ActsApart (.partitionException a exception) s :=
  ⟨10, (·.partFault exception.partition exception.cause), rfl, fun t => State.partFault_only (by decide) t _ _⟩
theorem partitionRestart_acts (s : State) (a : Instant) (partition : Nat) : ActsApart (.partitionRestart a partition) s :=
  ⟨10, (·.restartPart partition), rfl, fun t => State.restartPart_only (by decide) t _⟩
theorem partitionWatchdogExpiry_acts (s : State) (a : Instant) (partition : Nat) : ActsApart (.partitionWatchdogExpiry a partition) s :=
  ⟨10, (·.watchdogExpiry partition), rfl, fun t => State.watchdogExpiry_only (by decide) t _⟩
theorem pailReset_acts (s : State) (a : Instant) (pail : Nat) : ActsApart (.pailReset a pail) s :=
  ⟨10, (·.resetPail pail), rfl, fun t => State.resetPail_only (by decide) t _⟩
theorem pailResetComplete_acts (s : State) (a : Instant) (pail : Nat) : ActsApart (.pailResetComplete a pail) s :=
  ⟨10, (·.finishReset pail), rfl, fun t => State.finishReset_only (by decide) t _⟩
theorem freeze_acts (s : State) (a : Instant) (pail : Nat) : ActsApart (.freeze a pail) s :=
  ⟨10, (·.askFreeze pail), rfl, fun t => State.askFreeze_only (by decide) t _⟩
theorem pailFrozen_acts (s : State) (a : Instant) (pail : Nat) : ActsApart (.pailFrozen a pail) s :=
  ⟨10, (·.freezeDone pail), rfl, fun t => State.freezeDone_only (by decide) t _⟩
theorem freezeRelease_acts (s : State) (a : Instant) (pail : Nat) : ActsApart (.freezeRelease a pail) s :=
  ⟨10, (·.releaseFreeze pail), rfl, fun t => State.releaseFreeze_only (by decide) t _⟩
theorem stateRecordWrite_acts (s : State) (a : Instant) (pail : Nat) (record : List Byte) : ActsApart (.stateRecordWrite a pail record) s :=
  ⟨10, fun s => (s.writeStateRecord pail record).told, rfl, fun t => (Answer.told_only (by decide) _).trans
    (State.writeStateRecord_only (by decide) t _ _)⟩
theorem txDbWrite_acts (s : State) (a : Instant) (pail queue value : Nat) : ActsApart (.txDbWrite a pail queue value) s :=
  ⟨10, (·.txDoorbell pail queue value), rfl, fun t => State.txDoorbell_only (by decide) t _ _ _⟩
theorem rxDbWrite_acts (s : State) (a : Instant) (pail queue value : Nat) : ActsApart (.rxDbWrite a pail queue value) s :=
  ⟨10, (·.rxDoorbell pail queue value), rfl, fun t => State.rxDoorbell_only (by decide) t _ _ _⟩
theorem qCtrlWrite_acts (s : State) (a : Instant) (pail queue value : Nat) : ActsApart (.qCtrlWrite a pail queue value) s :=
  ⟨10, (·.queueControl pail queue value), rfl, fun t => State.queueControl_only (by decide) t _ _ _⟩
theorem imageCopy_acts (s : State) (a : Instant) (pail queue : Nat) : ActsApart (.imageCopy a pail queue) s :=
  ⟨10, (·.imageCopy pail queue), rfl, fun t => State.imageCopy_only (by decide) t _ _⟩
theorem phasorCopy_acts (s : State) (a : Instant) (pail queue : Nat) : ActsApart (.phasorCopy a pail queue) s :=
  ⟨10, (·.phasorCopy pail queue), rfl, fun t => State.phasorCopy_only (by decide) t _ _⟩
theorem freqCopy_acts (s : State) (a : Instant) (pail queue : Nat) : ActsApart (.freqCopy a pail queue) s :=
  ⟨10, (·.freqCopy pail queue), rfl, fun t => State.freqCopy_only (by decide) t _ _⟩
theorem rxBuffer_acts (s : State) (a : Instant) (pail queue : Nat) : ActsApart (.rxBuffer a pail queue) s :=
  ⟨10, (·.rxBuffer pail queue), rfl, fun t => State.rxBuffer_only (by decide) t _ _⟩
theorem txFrame_acts (s : State) (a : Instant) (pail queue : Nat) (answered : Bool) : ActsApart (.txFrame a pail queue answered) s :=
  ⟨10, (·.txFrame pail queue answered), rfl, fun t => State.txFrame_only (by decide) t _ _ _⟩
theorem cryptoSeal_acts (s : State) (a : Instant) (pail queue : Nat) (answered : Bool) : ActsApart (.cryptoSeal a pail queue answered) s :=
  ⟨10, (·.cryptoSeal pail queue answered), rfl, fun t => State.cryptoSeal_only (by decide) t _ _ _⟩
theorem cryptoOpen_acts (s : State) (a : Instant) (pail queue : Nat) (answered : Bool) : ActsApart (.cryptoOpen a pail queue answered) s :=
  ⟨10, (·.cryptoOpen pail queue answered), rfl, fun t => State.cryptoOpen_only (by decide) t _ _ _⟩
theorem hmacGenerate_acts (s : State) (a : Instant) (pail queue : Nat) (answered : Bool) : ActsApart (.hmacGenerate a pail queue answered) s
  :=
  ⟨10, (·.hmacGenerate pail queue answered), rfl, fun t => State.hmacGenerate_only (by decide) t _ _ _⟩
theorem hmacVerify_acts (s : State) (a : Instant) (pail queue : Nat) (answered : Bool) : ActsApart (.hmacVerify a pail queue answered) s :=
  ⟨10, (·.hmacVerify pail queue answered), rfl, fun t => State.hmacVerify_only (by decide) t _ _ _⟩
theorem rxFrameCompletion_acts (s : State) (a : Instant) (pail : Nat) : ActsApart (.rxFrameCompletion a pail) s :=
  ⟨10, (·.rxCompletion pail), rfl, fun t => State.rxCompletion_only (by decide) t _⟩
theorem txTimestampCompletion_acts (s : State) (a : Instant) (pail : Nat) : ActsApart (.txTimestampCompletion a pail) s :=
  ⟨10, (·.txCompletion pail), rfl, fun t => State.txCompletion_only (by decide) t _⟩
theorem pubCommit_acts (s : State) (a : Instant) (pail value : Nat) : ActsApart (.pubCommit a pail value) s :=
  ⟨10, (·.pubCommit pail value), rfl, fun t => State.pubCommit_only (by decide) t _ _⟩
theorem histTrigger_acts (s : State) (a : Instant) (pail value : Nat) : ActsApart (.histTrigger a pail value) s :=
  ⟨10, (·.pailTrigger pail value), rfl, fun t => State.pailTrigger_only (by decide) t _ _⟩
theorem dcFreezeWrite_acts (s : State) (a : Instant) (pail value : Nat) : ActsApart (.dcFreezeWrite a pail value) s :=
  ⟨10, (·.pailFreeze pail value), rfl, fun t => State.pailFreeze_only (by decide) t _ _⟩
theorem evqHeadWrite_acts (s : State) (a : Instant) (pail value : Nat) : ActsApart (.evqHeadWrite a pail value) s :=
  ⟨10, (·.writeEvHead pail value), rfl, fun t => State.writeEvHead_only (by decide) t _ _⟩
theorem dirtySwap_acts (s : State) (a : Instant) (pail : Nat) : ActsApart (.dirtySwap a pail) s :=
  ⟨10, (·.dirtySwap pail), rfl, fun t => State.dirtySwap_only (by decide) t _⟩
theorem dirtySwapComplete_acts (s : State) (a : Instant) (pail : Nat) : ActsApart (.dirtySwapComplete a pail) s :=
  ⟨10, fun s => s.modPail pail fun x => { x with dirty := { x.dirty with ctrl := setBit x.dirty.ctrl 2 false } }, rfl, fun t =>
    State.modPail_only (by decide) t _ _⟩
theorem functionLevelReset_acts (s : State) (a : Instant) : ActsApart (.functionLevelReset a) s :=
  ⟨11, (·.functionReset), rfl, fun t => State.functionReset_only (by decide) t⟩
theorem mbxDoorbell_acts (s : State) (a : Instant) (value : Nat) : ActsApart (.mbxDoorbell a value) s :=
  ⟨11, (·.mailboxDoorbell value), rfl, fun t => State.mailboxDoorbell_only (by decide) t _⟩
theorem churnCycleBoundary_acts (s : State) (a : Instant) : ActsApart (.churnCycleBoundary a) s :=
  ⟨10, (·.churnTick), rfl, fun t => State.churnTick_only (by decide) t⟩
theorem churnEvalDone_acts (s : State) (a : Instant) : ActsApart (.churnEvalDone a) s :=
  ⟨10, (·.churnEvalEnd), rfl, fun t => State.churnEvalEnd_only (by decide) t⟩
theorem onlineBatch_acts (s : State) (a : Instant) (batch : List Byte) : ActsApart (.onlineBatch a batch) s :=
  ⟨10, fun s => (s.writeBatch batch).told, rfl, fun t => (Answer.told_only (by decide) _).trans (State.writeBatch_only (by decide) t _)⟩
theorem forceWrite_acts (s : State) (a : Instant) (entry value : Nat) : ActsApart (.forceWrite a entry value) s :=
  ⟨10, fun s => (s.writeForce entry value).told, rfl, fun t => (Answer.told_only (by decide) _).trans
    (State.writeForce_only (by decide) t _ _)⟩
theorem releaseAll_acts (s : State) (a : Instant) (value : Nat) : ActsApart (.releaseAll a value) s :=
  ⟨10, fun s => (s.writeReleaseAll value).told, rfl, fun t => (Answer.told_only (by decide) _).trans
    (State.writeReleaseAll_only (by decide) t _)⟩
theorem restart_acts (s : State) (a : Instant) (value : Nat) : ActsApart (.restart a value) s :=
  ⟨10, fun s => (s.writeRestart value).told, rfl, fun t => (Answer.told_only (by decide) _).trans (State.writeRestart_only (by decide) t _)⟩
theorem gpioSample_acts (s : State) (a : Instant) (levels : Nat) : ActsApart (.gpioSample a levels) s :=
  ⟨11, fun s => s.each (List.range 16) fun g t => t.gpioSampleOne g (bit levels g), rfl, fun t => State.each_only
    (fun g u => State.gpioSampleOne_only (by decide) u g _) t _⟩
theorem unitComputation_acts (s : State) (a : Instant) (head : Nat) : ActsApart (.unitComputation a head) s :=
  ⟨10, fun s => if s.unitTurn head then (s.computeUnit head).sendLoops else s, rfl, fun t => State.ite_only
    ((State.sendLoops_only (by decide) _).trans (State.computeUnit_only (by decide) t _)) rfl⟩
theorem generatorComputation_acts (s : State) (a : Instant) (gen : Nat) : ActsApart (.generatorComputation a gen) s :=
  ⟨10, fun s => if s.genWaits gen && !(List.range gen).any s.genWaits then (s.computeGen gen).sendLoops else s, rfl, fun t => State.ite_only
    ((State.sendLoops_only (by decide) _).trans (State.computeGen_only (by decide) t _)) rfl⟩
theorem loopOverrun_acts (s : State) (a : Instant) (head : Nat) : ActsApart (.loopOverrun a head) s :=
  ⟨10, fun s => if s.unitWaits head && s.loopDeadline ≤ s.now then s.overrunUnit head else s, rfl, fun t => State.ite_only
    (State.overrunUnit_only (by decide) t _) rfl⟩
theorem loopRelease_acts (s : State) (a : Instant) (loop value : Nat) : ActsApart (.loopRelease a loop value) s :=
  ⟨10, fun s => (s.writeLoopRelease loop value).told, rfl, fun t => (Answer.told_only (by decide) _).trans
    (State.writeLoopRelease_only (by decide) t _ _)⟩
theorem groupRelease_acts (s : State) (a : Instant) (group value : Nat) : ActsApart (.groupRelease a group value) s :=
  ⟨10, fun s => (s.writeGroupRelease group value).told, rfl, fun t => (Answer.told_only (by decide) _).trans
    (State.writeGroupRelease_only (by decide) t _ _)⟩
theorem modeRequest_acts (s : State) (a : Instant) (loop value : Nat) : ActsApart (.modeRequest a loop value) s :=
  ⟨10, fun s => (s.writeModeRequest loop value).told, rfl, fun t => (Answer.told_only (by decide) _).trans
    (State.writeModeRequest_only (by decide) t _ _)⟩
theorem manualValue_acts (s : State) (a : Instant) (loop value : Nat) : ActsApart (.manualValue a loop value) s :=
  ⟨10, fun s => (s.writeManualValue loop value).told, rfl, fun t => (Answer.told_only (by decide) _).trans
    (State.writeManualValue_only (by decide) t _ _)⟩
theorem valueEntryWrite_acts (s : State) (a : Instant) (index sub value : Nat) : ActsApart (.valueEntryWrite a index sub value) s :=
  ⟨10, fun s => (s.writeValueEntry index sub value).told, rfl, fun t => (Answer.told_only (by decide) _).trans
    (State.writeValueEntry_only (by decide) t _ _ _)⟩
theorem tuningWrite_acts (s : State) (a : Instant) (loop sub value : Nat) : ActsApart (.tuningWrite a loop sub value) s :=
  ⟨10, fun s => (s.writeTuning loop sub value).told, rfl, fun t => (Answer.told_only (by decide) _).trans
    (State.writeTuning_only (by decide) t _ _ _)⟩
theorem heartbeatSend_acts (s : State) (a : Instant) : ActsApart (.heartbeatSend a) s :=
  ⟨11, (·.heartbeatOut), rfl, fun t => State.heartbeatOut_only (by decide) t⟩
theorem heartbeat_acts (s : State) (a : Instant) (hdr : PairHdr) (hb : Heartbeat) : ActsApart (.heartbeat a hdr hb) s :=
  ⟨11, (·.heartbeatIn hdr hb), rfl, fun t => State.heartbeatIn_only (by decide) t _ _⟩
theorem hbWaitExpiry_acts (s : State) (a : Instant) : ActsApart (.hbWaitExpiry a) s :=
  ⟨11, (·.hbWait), rfl, fun t => State.hbWait_only (by decide) t⟩
theorem digestSend_acts (s : State) (a : Instant) : ActsApart (.digestSend a) s :=
  ⟨11, (·.digestOut), rfl, fun t => State.digestOut_only (by decide) t⟩
theorem digest_acts (s : State) (a : Instant) (hdr : PairHdr) (dig : Digest) : ActsApart (.digest a hdr dig) s :=
  ⟨11, (·.digestIn hdr dig), rfl, fun t => State.digestIn_only (by decide) t _ _⟩
theorem state_acts (s : State) (a : Instant) (hdr : PairHdr) (frag : StateFrag) : ActsApart (.state a hdr frag) s :=
  ⟨11, (·.stateIn hdr frag), rfl, fun t => State.stateIn_only (by decide) t _ _⟩
theorem relinquish_acts (s : State) (a : Instant) (hdr : PairHdr) (msg : RoleMsg) : ActsApart (.relinquish a hdr msg) s :=
  ⟨11, fun s => s.linkFrame hdr fun t => t.relinquishIn msg, rfl, fun t => State.linkFrame_only (by decide) t _ fun u =>
    State.relinquishIn_only (by decide) u _⟩
theorem swapRequest_acts (s : State) (a : Instant) (hdr : PairHdr) (msg : RoleMsg) : ActsApart (.swapRequest a hdr msg) s :=
  ⟨11, fun s => s.linkFrame hdr fun t => t.swapRequestIn msg, rfl, fun t => State.linkFrame_only (by decide) t _ fun u =>
    State.swapRequestIn_only (by decide) u _⟩
theorem swapAccept_acts (s : State) (a : Instant) (hdr : PairHdr) (msg : RoleMsg) : ActsApart (.swapAccept a hdr msg) s :=
  ⟨11, fun s => s.linkFrame hdr fun t => t.swapAcceptIn msg, rfl, fun t => State.linkFrame_only (by decide) t _ fun u =>
    State.swapAcceptIn_only (by decide) u _⟩
theorem swapRefuse_acts (s : State) (a : Instant) (hdr : PairHdr) (msg : RoleMsg) : ActsApart (.swapRefuse a hdr msg) s :=
  ⟨11, fun s => s.linkFrame hdr fun t => t.swapRefuseIn msg, rfl, fun t => State.linkFrame_only (by decide) t _ fun u =>
    State.swapRefuseIn_only (by decide) u _⟩
theorem ack_acts (s : State) (a : Instant) (hdr : PairHdr) (msg : RoleMsg) : ActsApart (.ack a hdr msg) s :=
  ⟨11, fun s => s.linkFrame hdr fun t => t.ackIn msg, rfl, fun t => State.linkFrame_only (by decide) t _ fun u => State.ackIn_only
    (by decide) u _⟩
theorem selftest_acts (s : State) (a : Instant) (hdr : PairHdr) (msg : RoleMsg) : ActsApart (.selftest a hdr msg) s :=
  ⟨11, fun s => s.linkFrame hdr fun t => if msg.arg < 4 then t.selftestIn msg else t, rfl, fun t => State.linkFrame_only (by decide) t _ fun
    u => State.ite_only (State.selftestIn_only (by decide) u _) rfl⟩
theorem regions_acts (s : State) (a : Instant) (hdr : PairHdr) (msg : RoleMsg) : ActsApart (.regions a hdr msg) s :=
  ⟨11, fun s => s.linkFrame hdr fun t => if msg.arg < 96 then t.regionsIn msg else t, rfl, fun t => State.linkFrame_only (by decide) t _ fun
    u => State.ite_only (State.regionsIn_only (by decide) u _) rfl⟩
theorem changeAck_acts (s : State) (a : Instant) (hdr : PairHdr) (msg : RoleMsg) : ActsApart (.changeAck a hdr msg) s :=
  ⟨11, fun s => s.linkFrame hdr fun t => t.changeAckIn msg, rfl, fun t => State.linkFrame_only (by decide) t _ fun u =>
    State.changeAckIn_only (by decide) u _⟩
theorem roleRepeat_acts (s : State) (a : Instant) : ActsApart (.roleRepeat a) s :=
  ⟨11, fun s => if s.paired then s.roleRepeat else s, rfl, fun t => State.ite_only (State.roleRepeat_only (by decide) t) rfl⟩
theorem migrateData_acts (s : State) (a : Instant) (hdr : PairHdr) (msg : MigrateMsg) : ActsApart (.migrateData a hdr msg) s :=
  ⟨11, fun s => s.linkFrame hdr fun t => t.migrateIn msg, rfl, fun t => State.linkFrame_only (by decide) t _ fun u => State.migrateIn_only
    (by decide) u _⟩
theorem migrateAck_acts (s : State) (a : Instant) (hdr : PairHdr) (msg : MigrateMsg) : ActsApart (.migrateAck a hdr msg) s :=
  ⟨11, fun s => s.linkFrame hdr fun t => t.migrateAckIn msg, rfl, fun t => State.linkFrame_only (by decide) t _ fun u =>
    State.migrateAckIn_only (by decide) u _⟩
theorem migrateAbort_acts (s : State) (a : Instant) (hdr : PairHdr) (msg : MigrateMsg) : ActsApart (.migrateAbort a hdr msg) s :=
  ⟨11, fun s => s.linkFrame hdr fun t => t.abortTransfer msg.transferId, rfl, fun t => State.linkFrame_only (by decide) t _ fun u =>
    State.abortTransfer_only (by decide) u _⟩
theorem migrateResend_acts (s : State) (a : Instant) : ActsApart (.migrateResend a) s :=
  ⟨11, (·.migrateResend), rfl, fun t => State.migrateResend_only (by decide) t⟩
theorem pailMove_acts (s : State) (a : Instant) (value : Nat) : ActsApart (.pailMove a value) s :=
  ⟨11, fun s => (s.writePailMove value).told, rfl, fun t => (Answer.told_only (by decide) _).trans
    (State.writePailMove_only (by decide) t _)⟩
theorem laneLost_acts (s : State) (a : Instant) (lane : Nat) : ActsApart (.laneLost a lane) s :=
  ⟨11, (·.laneLost lane), rfl, fun t => State.laneLost_only (by decide) t _⟩
theorem laneRestored_acts (s : State) (a : Instant) (lane : Nat) : ActsApart (.laneRestored a lane) s :=
  ⟨11, (·.laneBack lane), rfl, fun t => State.laneBack_only (by decide) t _⟩
theorem revertDelayExpiry_acts (s : State) (a : Instant) : ActsApart (.revertDelayExpiry a) s :=
  ⟨11, fun s => if s.revertDue then s.startSwap 0 else s, rfl, fun t => State.ite_only (State.startSwap_only (by decide) t _) rfl⟩
theorem swapIntervalExpiry_acts (s : State) (a : Instant) : ActsApart (.swapIntervalExpiry a) s :=
  ⟨11, fun s => if s.intervalDue then s.startSwap 0 else s, rfl, fun t => State.ite_only (State.startSwap_only (by decide) t _) rfl⟩
theorem swapNow_acts (s : State) (a : Instant) (value : Nat) : ActsApart (.swapNow a value) s :=
  ⟨11, fun s => (s.whileRunning (s.writeSwapNow value)).told, rfl, fun t => State.whileRunning_told_only (by decide)
    (State.writeSwapNow_only (by decide) t _)⟩
theorem lcToShipped_acts (s : State) (a : Instant) (session : Nat) (req : LcReq) : ActsApart (.lcToShipped a session req) s :=
  ⟨2, fun s => (s.whileRunning (s.lcFrom session .shipped req)).told, rfl, fun t => State.whileRunning_told_only (by decide)
    (State.lcFrom_only (by decide) t _ _ _)⟩
theorem lcToOwned_acts (s : State) (a : Instant) (session : Nat) (req : LcReq) : ActsApart (.lcToOwned a session req) s :=
  ⟨2, fun s => (s.whileRunning (s.toOwned session req .shipped)).told, rfl, fun t => State.whileRunning_told_only (by decide)
    (State.toOwned_only (by decide) t _ _ _)⟩
theorem lcReown_acts (s : State) (a : Instant) (session : Nat) (req : LcReq) : ActsApart (.lcReown a session req) s :=
  ⟨2, fun s => (s.whileRunning (s.toOwned session req .owned)).told, rfl, fun t => State.whileRunning_told_only (by decide)
    (State.toOwned_only (by decide) t _ _ _)⟩
theorem lcToReturn_acts (s : State) (a : Instant) (session : Nat) (req : LcReq) : ActsApart (.lcToReturn a session req) s :=
  ⟨2, fun s => (s.whileRunning (s.lcFrom session .return_ req)).told, rfl, fun t => State.whileRunning_told_only (by decide)
    (State.lcFrom_only (by decide) t _ _ _)⟩
theorem lcDecommission_acts (s : State) (a : Instant) (session : Nat) (req : LcReq) : ActsApart (.lcDecommission a session req) s :=
  ⟨2, fun s => (s.whileRunning (s.lcFrom session .decommissioned req)).told, rfl, fun t => State.whileRunning_told_only (by decide)
    (State.lcFrom_only (by decide) t _ _ _)⟩
theorem lcRevoke_acts (s : State) (a : Instant) (session : Nat) (req : LcReq) : ActsApart (.lcRevoke a session req) s :=
  ⟨2, fun s => (s.whileRunning (s.lcFrom session s.sec.lc { req with revoke := true })).told, rfl, fun t => State.whileRunning_told_only
    (by decide) (State.lcFrom_only (by decide) t _ _ _)⟩
theorem derive_acts (s : State) (a : Instant) (session : Nat) (cmd : KeyCmd) : ActsApart (.derive a session cmd) s :=
  ⟨2, fun s => (s.whileRunning (s.keyFrom .derive session cmd)).told, rfl, fun t => State.whileRunning_told_only (by decide)
    (State.keyFrom_only (by decide) t _ _ _)⟩
theorem load_acts (s : State) (a : Instant) (session : Nat) (cmd : KeyCmd) : ActsApart (.load a session cmd) s :=
  ⟨2, fun s => (s.whileRunning (s.keyFrom .load session cmd)).told, rfl, fun t => State.whileRunning_told_only (by decide)
    (State.keyFrom_only (by decide) t _ _ _)⟩
theorem generate_acts (s : State) (a : Instant) (session : Nat) (cmd : KeyCmd) : ActsApart (.generate a session cmd) s :=
  ⟨2, fun s => (s.whileRunning (s.keyFrom .generate session cmd)).told, rfl, fun t => State.whileRunning_told_only (by decide)
    (State.keyFrom_only (by decide) t _ _ _)⟩
theorem destroy_acts (s : State) (a : Instant) (session : Nat) (cmd : KeyCmd) : ActsApart (.destroy a session cmd) s :=
  ⟨2, fun s => (s.whileRunning (s.keyFrom .destroy session cmd)).told, rfl, fun t => State.whileRunning_told_only (by decide)
    (State.keyFrom_only (by decide) t _ _ _)⟩
theorem bump_acts (s : State) (a : Instant) (session : Nat) (cmd : KeyCmd) : ActsApart (.bump a session cmd) s :=
  ⟨2, fun s => (s.whileRunning (s.keyFrom .bump session cmd)).told, rfl, fun t => State.whileRunning_told_only (by decide)
    (State.keyFrom_only (by decide) t _ _ _)⟩
theorem keyExport_acts (s : State) (a : Instant) (session : Nat) (cmd : KeyCmd) : ActsApart (.keyExport a session cmd) s :=
  ⟨2, fun s => (s.whileRunning (s.keyFrom .export_ session cmd)).told, rfl, fun t => State.whileRunning_told_only (by decide)
    (State.keyFrom_only (by decide) t _ _ _)⟩
theorem keyImport_acts (s : State) (a : Instant) (session : Nat) (cmd : KeyCmd) : ActsApart (.keyImport a session cmd) s :=
  ⟨2, fun s => (s.whileRunning (s.keyFrom .import_ session cmd)).told, rfl, fun t => State.whileRunning_told_only (by decide)
    (State.keyFrom_only (by decide) t _ _ _)⟩
theorem journalCommit_acts (s : State) (a : Instant) : ActsApart (.journalCommit a) s :=
  ⟨2, (·.journalCommit), rfl, fun t => State.journalCommit_only (by decide) t⟩
theorem tamperAlarm_acts (s : State) (a : Instant) (sources : Nat) : ActsApart (.tamperAlarm a sources) s :=
  ⟨0, (·.tamper sources), rfl, fun t => State.tamper_only (by decide) t _⟩
theorem tamperLoopCheck_acts (s : State) (a : Instant) (faults : Nat) : ActsApart (.tamperLoopCheck a faults) s :=
  ⟨0, (·.loopCheck faults), rfl, fun t => State.loopCheck_only (by decide) t _⟩
theorem tamperClear_acts (s : State) (a : Instant) (session value : Nat) : ActsApart (.tamperClear a session value) s :=
  ⟨2, fun s => (s.whileRunning (s.tamperClearAnswer session value)).told, rfl, fun t => State.whileRunning_told_only (by decide)
    (State.tamperClearAnswer_only t _ _)⟩
theorem attestSign_acts (s : State) (a : Instant) (req : Req) : ActsApart (.attestSign a req) s :=
  ⟨1, fun s => s.opStart opAttest req fun t x p => t.beginAttest x req.session p, rfl, fun t => State.opStart_only (by decide) t _ _ fun u x
    l => State.beginAttest_only (by decide) u x _ l⟩
theorem keygenSlhdsa_acts (s : State) (a : Instant) (req : Req) : ActsApart (.keygenSlhdsa a req) s :=
  ⟨1, fun s => s.opStart opKeygen req fun t x p => t.beginKeygen x req.session p, rfl, fun t => State.opStart_only (by decide) t _ _ fun u x
    l => State.beginKeygen_only (by decide) u x _ l⟩
theorem firmwareInstall_acts (s : State) (a : Instant) (req : Req) : ActsApart (.firmwareInstall a req) s :=
  ⟨1, fun s => s.opStart opFirmware req fun t x _ => t.beginFirmware x req.session, rfl, fun t => State.opStart_only (by decide) t _ _ fun u
    x l => State.beginFirmware_only (by decide) u x _⟩
theorem fullSelfTest_acts (s : State) (a : Instant) (req : Req) : ActsApart (.fullSelfTest a req) s :=
  ⟨1, fun s => s.opStart opSelfTest req fun t x _ => t.beginSelfTest x req.session, rfl, fun t => State.opStart_only (by decide) t _ _ fun u
    x l => State.beginSelfTest_only (by decide) u x _⟩
theorem historyExport_acts (s : State) (a : Instant) (req : Req) : ActsApart (.historyExport a req) s :=
  ⟨1, fun s => s.opStart opExport req fun t x _ => t.beginHistory x req.session, rfl, fun t => State.opStart_only (by decide) t _ _ fun u x
    l => State.beginHistory_only (by decide) u x _⟩
theorem partitionMigrate_acts (s : State) (a : Instant) (req : Req) : ActsApart (.partitionMigrate a req) s :=
  ⟨1, fun s => s.opStart opMigrate req fun t x p => t.beginMigrate x req.session p, rfl, fun t => State.opStart_only (by decide) t _ _ fun u
    x l => State.beginMigrate_only (by decide) u x _ l⟩
theorem configApply_acts (s : State) (a : Instant) (req : Req) : ActsApart (.configApply a req) s :=
  ⟨1, fun s => s.opStart opConfig req fun t x p => t.beginConfig x req.session p, rfl, fun t => State.opStart_only (by decide) t _ _ fun u x
    l => State.beginConfig_only (by decide) u x _ l⟩
theorem memoryScrub_acts (s : State) (a : Instant) (req : Req) : ActsApart (.memoryScrub a req) s :=
  ⟨1, fun s => s.opStart opScrub req fun t x _ => t.beginScrub x req.session, rfl, fun t => State.opStart_only (by decide) t _ _ fun u x l
    => State.beginScrub_only (by decide) u x _⟩
theorem opSafePoint_acts (s : State) (a : Instant) (slot : Nat) : ActsApart (.opSafePoint a slot) s :=
  ⟨1, (·.safePoint slot), rfl, fun t => State.safePoint_only (by decide) t _⟩
theorem opComplete_acts (s : State) (a : Instant) (slot : Nat) : ActsApart (.opComplete a slot) s :=
  ⟨1, (·.opComplete slot), rfl, fun t => State.opComplete_only (by decide) t _⟩
theorem opResultExpiry_acts (s : State) (a : Instant) (slot : Nat) : ActsApart (.opResultExpiry a slot) s :=
  ⟨1, (·.resultExpiry slot), rfl, fun t => State.resultExpiry_only (by decide) t _⟩
theorem opSuspendExpiry_acts (s : State) (a : Instant) (slot : Nat) : ActsApart (.opSuspendExpiry a slot) s :=
  ⟨1, (·.suspendExpiry slot), rfl, fun t => State.suspendExpiry_only (by decide) t _⟩
theorem lockstepMismatch_acts (s : State) (a : Instant) (unit : Nat) : ActsApart (.lockstepMismatch a unit) s :=
  ⟨(6 + unit / 15), (·.lockstep unit), rfl, fun t => State.lockstep_only (by decide) t _⟩
theorem spareTakeover_acts (s : State) (a : Instant) (herd : Nat) : ActsApart (.spareTakeover a herd) s :=
  ⟨(6 + herd / 3), (·.takeover herd), rfl, fun t => State.takeover_only (by decide) t _⟩
theorem partitionRelocate_acts (s : State) (a : Instant) (herd : Nat) : ActsApart (.partitionRelocate a herd) s :=
  ⟨10, (·.relocate herd), rfl, fun t => State.relocate_only (by decide) t _⟩
theorem regionLost_acts (s : State) (a : Instant) (region : Nat) : ActsApart (.regionLost a region) s :=
  ⟨10, (·.regionFails region), rfl, fun t => State.regionFails_only (by decide) t _⟩
theorem managerMoved_acts (s : State) (a : Instant) : ActsApart (.managerMoved a) s :=
  ⟨10, (·.moveManager), rfl, fun t => State.moveManager_only (by decide) t⟩
theorem eccCorrected_acts (s : State) (a : Instant) (memory row bitPos : Nat) : ActsApart (.eccCorrected a memory row bitPos) s :=
  ⟨(memDomain memory), (·.correctError memory row bitPos), rfl, fun t => State.correctError_only (by decide) t _ _ _⟩
theorem doubleBitError_acts (s : State) (a : Instant) (memory row : Nat) (place : MemPlace) : ActsApart (.doubleBitError a memory row place)
  s :=
  ⟨(memDomain memory), (·.doubleBit place), rfl, fun t => State.doubleBit_only (by decide) t _⟩
theorem dieLinkFailed_acts (s : State) (a : Instant) (link : Nat) : ActsApart (.dieLinkFailed a link) s :=
  ⟨1, (·.linkFails link), rfl, fun t => State.linkFails_only (by decide) t _⟩
theorem selfTestSlotStart_acts (s : State) (a : Instant) (unit : Nat) : ActsApart (.selfTestSlotStart a unit) s :=
  ⟨(6 + unit / 15), (·.slotStart unit), rfl, fun t => State.slotStart_only (by decide) t _⟩
theorem selfTestEnd_acts (s : State) (a : Instant) (unit : Nat) (ending : TestEnd) : ActsApart (.selfTestEnd a unit ending) s :=
  ⟨10, (·.testEnd unit ending), rfl, fun t => State.testEnd_only (by decide) t _ _⟩
theorem sliceSelfTestStart_acts (s : State) (a : Instant) (slice : Nat) : ActsApart (.sliceSelfTestStart a slice) s :=
  ⟨(6 + slice), (·.sliceTestStart slice), rfl, fun t => State.sliceTestStart_only (by decide) t _⟩
theorem patrolScrub_acts (s : State) (a : Instant) (memory row errors : Nat) : ActsApart (.patrolScrub a memory row errors) s :=
  ⟨(memDomain memory), (·.scrubRow memory row errors), rfl, fun t => State.scrubRow_only (by decide) t _ _ _⟩
theorem clearRetirement_acts (s : State) (a : Instant) (unit : Nat) : ActsApart (.clearRetirement a unit) s :=
  ⟨1, fun s => (s.whileRunning (s.writeClearRetirement unit)).told, rfl, fun t => State.whileRunning_told_only (by decide)
    (State.writeClearRetirement_only (by decide) t _)⟩
theorem hardRepair_acts (s : State) (a : Instant) (record : Nat) : ActsApart (.hardRepair a record) s :=
  ⟨2, fun s => (s.whileRunning (s.writeHardRepair record)).told, rfl, fun t => State.whileRunning_told_only (by decide)
    (State.writeHardRepair_only (by decide) t _)⟩
theorem manualRun_acts (s : State) (a : Instant) (value : Nat) : ActsApart (.manualRun a value) s :=
  ⟨10, fun s => (s.writeManualRun value).told, rfl, fun t => (Answer.told_only (by decide) _).trans
    (State.writeManualRun_only (by decide) t _)⟩
theorem supWatchdogKick_acts (s : State) (a : Instant) (manager : Bool) : ActsApart (.supWatchdogKick a manager) s :=
  ⟨(if manager then 10 else 3), fun s => s.setHealth fun h => if manager then { h with kickManager := s.now } else { h with kickNetwork :=
    s.now }, rfl, fun t => State.setHealth_only (by decide) t _⟩
theorem supWatchdogExpiry_acts (s : State) (a : Instant) : ActsApart (.supWatchdogExpiry a) s :=
  ⟨1, (·.watchdogReset), rfl, fun t => State.watchdogReset_only (by decide) t⟩
theorem restartModule_acts (s : State) (a : Instant) (value : Nat) : ActsApart (.restartModule a value) s :=
  ⟨1, fun s => (s.writeModuleRestart value).told, rfl, fun t => (Answer.told_only (by decide) _).trans
    (State.writeModuleRestart_only (by decide) t _)⟩
theorem read_acts (s : State) (a : Instant) (req : Req) : ActsApart (.read a req) s :=
  ⟨1, (·.read req), rfl, fun t => State.read_only (by decide) t _⟩
theorem write_acts (s : State) (a : Instant) (req : Req) : ActsApart (.write a req) s :=
  ⟨1, (·.write req), rfl, fun t => State.write_only (by decide) t _⟩
theorem readBlock_acts (s : State) (a : Instant) (req : Req) : ActsApart (.readBlock a req) s :=
  ⟨1, (·.readBlock req), rfl, fun t => State.readBlock_only (by decide) t _⟩
theorem writeBlock_acts (s : State) (a : Instant) (req : Req) : ActsApart (.writeBlock a req) s :=
  ⟨1, (·.writeBlock req), rfl, fun t => State.writeBlock_only (by decide) t _⟩
theorem stage_acts (s : State) (a : Instant) (req : Req) : ActsApart (.stage a req) s :=
  ⟨1, (·.stageEntry req), rfl, fun t => State.stageEntry_only (by decide) t _⟩
theorem commit_acts (s : State) (a : Instant) (req : Req) : ActsApart (.commit a req) s :=
  ⟨1, (·.commitStage req), rfl, fun t => State.commitStage_only (by decide) t _⟩
theorem commitApply_acts (s : State) (a : Instant) : ActsApart (.commitApply a) s :=
  ⟨1, (·.commitApply), rfl, fun t => State.commitApply_only (by decide) t⟩
theorem discard_acts (s : State) (a : Instant) (req : Req) : ActsApart (.discard a req) s :=
  ⟨1, (·.discardStage req), rfl, fun t => State.discardStage_only (by decide) t _⟩
theorem opSuspend_acts (s : State) (a : Instant) (req : Req) : ActsApart (.opSuspend a req) s :=
  ⟨1, (·.opAsk .suspend req), rfl, fun t => State.opAsk_only (by decide) t _ _⟩
theorem opResume_acts (s : State) (a : Instant) (req : Req) : ActsApart (.opResume a req) s :=
  ⟨1, (·.opAsk .resume req), rfl, fun t => State.opAsk_only (by decide) t _ _⟩
theorem opCancel_acts (s : State) (a : Instant) (req : Req) : ActsApart (.opCancel a req) s :=
  ⟨1, (·.opAsk .cancel req), rfl, fun t => State.opAsk_only (by decide) t _ _⟩
theorem opStatus_acts (s : State) (a : Instant) (req : Req) : ActsApart (.opStatus a req) s :=
  ⟨1, (·.opStatus req), rfl, fun t => State.opStatus_only (by decide) t _⟩
theorem subscribeEvents_acts (s : State) (a : Instant) (req : Req) : ActsApart (.subscribeEvents a req) s :=
  ⟨1, (·.subscribe req), rfl, fun t => State.subscribe_only (by decide) t _⟩
theorem sessionOpen_acts (s : State) (a : Instant) (req : Req) : ActsApart (.sessionOpen a req) s :=
  ⟨1, (·.sessionOpen req), rfl, fun t => State.sessionOpen_only (by decide) t _⟩
theorem sessionClose_acts (s : State) (a : Instant) (req : Req) : ActsApart (.sessionClose a req) s :=
  ⟨1, (·.sessionClose req), rfl, fun t => State.sessionClose_only (by decide) t _⟩
theorem keepalive_acts (s : State) (a : Instant) (req : Req) : ActsApart (.keepalive a req) s :=
  ⟨1, (·.keepalive req), rfl, fun t => State.keepalive_only (by decide) t _⟩
theorem unsupportedOpcode_acts (s : State) (a : Instant) (opcode : Nat) (req : Req) : ActsApart (.unsupportedOpcode a opcode req) s :=
  ⟨1, (·.unsupported opcode req), rfl, fun t => State.unsupported_only (by decide) t _ _⟩
theorem sessionTimeout_acts (s : State) (a : Instant) (session : Nat) : ActsApart (.sessionTimeout a session) s :=
  ⟨1, (·.sessionTimeout session), rfl, fun t => State.sessionTimeout_only (by decide) t _⟩
theorem sessionOpenTimeout_acts (s : State) (a : Instant) (session : Nat) : ActsApart (.sessionOpenTimeout a session) s :=
  ⟨1, (·.openTimeout session), rfl, fun t => State.openTimeout_only (by decide) t _⟩
theorem blockTransferTimeout_acts (s : State) (a : Instant) (session : Nat) : ActsApart (.blockTransferTimeout a session) s :=
  ⟨1, (·.transferTimeout session), rfl, fun t => State.transferTimeout_only (by decide) t _⟩
theorem readSnapshotTimeout_acts (s : State) (a : Instant) (session : Nat) : ActsApart (.readSnapshotTimeout a session) s :=
  ⟨1, (·.snapshotTimeout session), rfl, fun t => State.snapshotTimeout_only (by decide) t _⟩
theorem eventHoldExpiry_acts (s : State) (a : Instant) (session source : Nat) : ActsApart (.eventHoldExpiry a session source) s :=
  ⟨1, (·.holdExpiry session source), rfl, fun t => State.holdExpiry_only (by decide) t _ _⟩
theorem eventStatusWrite_acts (s : State) (a : Instant) (source value setMeanwhile : Nat) : ActsApart
  (.eventStatusWrite a source value setMeanwhile) s :=
  ⟨1, (·.statusWrite source value setMeanwhile), rfl, fun t => State.statusWrite_only (by decide) t _ _ _⟩
theorem enableMaskWrite_acts (s : State) (a : Instant) (source value : Nat) : ActsApart (.enableMaskWrite a source value) s :=
  ⟨1, fun s => s.writeEnableMask source (value % 2 ^ 32), rfl, fun t => State.writeEnableMask_only (by decide) t _ _⟩
theorem powerRequestRun_acts (s : State) (a : Instant) (start : StartUp) : ActsApart (.powerRequestRun a start) s :=
  ⟨1, fun s => (s.writePower 0 start).told, rfl, fun t => (Answer.told_only (by decide) _).trans (State.writePower_only (by decide) t _ _)⟩
theorem powerRequestHold_acts (s : State) (a : Instant) : ActsApart (.powerRequestHold a) s :=
  ⟨1, fun s => (s.writePower 1 cleanStart).told, rfl, fun t => (Answer.told_only (by decide) _).trans
    (State.writePower_only (by decide) t _ _)⟩
theorem powerRequestOff_acts (s : State) (a : Instant) : ActsApart (.powerRequestOff a) s :=
  ⟨1, fun s => (s.writePower 2 cleanStart).told, rfl, fun t => (Answer.told_only (by decide) _).trans
    (State.writePower_only (by decide) t _ _)⟩
theorem vddAonLoss_acts (s : State) (a : Instant) : ActsApart (.vddAonLoss a) s :=
  ⟨0, (·.enterBattery), rfl, fun t => State.enterBattery_only (by decide) t⟩
theorem railOutOfRange_acts (s : State) (a : Instant) (rail : Nat) : ActsApart (.railOutOfRange a rail) s :=
  ⟨1, (·.railOut rail), rfl, fun t => State.railOut_only (by decide) t _⟩
theorem pwrFail_acts (s : State) (a : Instant) : ActsApart (.pwrFail a) s :=
  ⟨1, (·.failWarned), rfl, fun t => State.failWarned_only (by decide) t⟩
theorem pwrFailSustained_acts (s : State) (a : Instant) : ActsApart (.pwrFailSustained a) s :=
  ⟨1, (·.failSustained), rfl, fun t => State.failSustained_only (by decide) t⟩
theorem pwrFailReleased_acts (s : State) (a : Instant) : ActsApart (.pwrFailReleased a) s :=
  ⟨1, (·.failReleased), rfl, fun t => State.failReleased_only (by decide) t⟩
theorem porst_acts (s : State) (a : Instant) (width : Nat) : ActsApart (.porst a width) s :=
  ⟨0, (·.resetPulse width), rfl, fun t => State.resetPulse_only (by decide) t _⟩
theorem refclk25mLost_acts (s : State) (a : Instant) : ActsApart (.refclk25mLost a) s :=
  ⟨1, fun s => s.clockLost.setHealth fun h => { h with refclkLost := true }, rfl, fun t => (State.setHealth_only (by decide) _ _).trans
    (State.clockLost_only (by decide) t)⟩
theorem osc10mLost_acts (s : State) (a : Instant) : ActsApart (.osc10mLost a) s :=
  ⟨1, fun s => (s.clockLost.setPower fun p => { p with osc10Lost := true }).setTimeUnit fun u => { u with frozen := true }, rfl, fun t =>
    (State.setTimeUnit_only (by decide) _ _).trans ((State.setPower_only (by decide) _ _).trans (State.clockLost_only (by decide) t))⟩
theorem environmentRefresh_acts (s : State) (a : Instant) (env : Env) : ActsApart (.environmentRefresh a env) s :=
  ⟨1, (·.refreshEnv env), rfl, fun t => State.refreshEnv_only (by decide) t _⟩
theorem registerWrite_acts (s : State) (a : Instant) (space offset value : Nat) : ActsApart (.registerWrite a space offset value) s :=
  ⟨(spaceDomain space), (·.registerWrite space offset value), rfl, fun t => State.registerWrite_only (by decide) t _ _ _⟩
theorem refclk25mRestored_acts (s : State) (a : Instant) : ActsApart (.refclk25mRestored a) s :=
  ⟨1, fun s => s.setHealth fun h => { h with refclkLost := false }, rfl, fun t => State.setHealth_only (by decide) t _⟩
theorem osc10mRestored_acts (s : State) (a : Instant) : ActsApart (.osc10mRestored a) s :=
  ⟨1, fun s => (s.setPower fun p => { p with osc10Lost := false }).setTimeUnit fun u => { u with frozen := false }, rfl, fun t =>
    (State.setTimeUnit_only (by decide) _ _).trans (State.setPower_only (by decide) t _)⟩
theorem testOverdue_acts (s : State) (a : Instant) : ActsApart (.testOverdue a) s :=
  ⟨10, (·.testAge), rfl, fun t => State.testAge_only (by decide) t⟩
theorem badOpcode_acts (s : State) (a : Instant) (pail queue : Nat) : ActsApart (.badOpcode a pail queue) s :=
  ⟨10, (·.badOpcode pail queue), rfl, fun t => State.badOpcode_only (by decide) t _ _⟩

/-- Every command but POWER_GOOD and TAP_INSTRUCTION acts. -/
theorem actsApart_of_ne (c : Instr) (s : State) (hpower : ∀ a st, c ≠ .powerGood a st) (htap : ∀ a k, c ≠ .tapInstruction a k) :
    ActsApart c s := by
  cases c with
  | powerGood a st => exact absurd rfl (hpower a st)
  | tapInstruction a k => exact absurd rfl (htap a k)
  | workTickBoundary a => exact workTickBoundary_acts s a
  | alignmentWindowClose a image => exact alignmentWindowClose_acts s a image
  | imageRelease a image => exact imageRelease_acts s a image
  | phasorRelease a image => exact phasorRelease_acts s a image
  | residueMismatch a slice group => exact residueMismatch_acts s a slice group
  | fallbackHandover a slice => exact fallbackHandover_acts s a slice
  | fallbackReturn a slice => exact fallbackReturn_acts s a slice
  | curdFrameWrite a firstTick => exact curdFrameWrite_acts s a firstTick
  | triggerNow a value => exact triggerNow_acts s a value
  | releaseWindow a window => exact releaseWindow_acts s a window
  | dcFreezeMapWrite a map => exact dcFreezeMapWrite_acts s a map
  | rxFrameStart a port => exact rxFrameStart_acts s a port
  | rxClassified a port frame => exact rxClassified_acts s a port frame
  | rxFrameEnd a port ending => exact rxFrameEnd_acts s a port ending
  | cutThroughStart a ingress egress => exact cutThroughStart_acts s a ingress egress
  | egressTxStart a port => exact egressTxStart_acts s a port
  | txFrameEnd a port => exact txFrameEnd_acts s a port
  | timestampCollect a port owner => exact timestampCollect_acts s a port owner
  | timestampUncollected a port => exact timestampUncollected_acts s a port
  | residenceDiscard a port => exact residenceDiscard_acts s a port
  | pauseReceived a port pauseTime => exact pauseReceived_acts s a port pauseTime
  | pauseExpiry a port => exact pauseExpiry_acts s a port
  | pauseRepeat a port => exact pauseRepeat_acts s a port
  | speedLower a port => exact speedLower_acts s a port
  | speedRaise a port => exact speedRaise_acts s a port
  | sgmiiSpeedReport a port speed fullDuplex => exact sgmiiSpeedReport_acts s a port speed fullDuplex
  | linkDown a port => exact linkDown_acts s a port
  | linkUp a port => exact linkUp_acts s a port
  | serdesLockLost a port => exact serdesLockLost_acts s a port
  | halfRangeMapWrite a port value => exact halfRangeMapWrite_acts s a port value
  | staticEntryWrite a entry value => exact staticEntryWrite_acts s a entry value
  | multicastGroupWrite a group value => exact multicastGroupWrite_acts s a group value
  | clearTables a value => exact clearTables_acts s a value
  | tableBarrier a generation => exact tableBarrier_acts s a generation
  | barrierDone a => exact barrierDone_acts s a
  | residenceLimitWrite a value => exact residenceLimitWrite_acts s a value
  | supervisionFrameSend a group => exact supervisionFrameSend_acts s a group
  | lanSilent a group => exact lanSilent_acts s a group
  | entryForget a group mac => exact entryForget_acts s a group mac
  | ptpMessageReceived a port msg => exact ptpMessageReceived_acts s a port msg
  | ptpSyncSend a port => exact ptpSyncSend_acts s a port
  | ptpAnnounceSend a port => exact ptpAnnounceSend_acts s a port
  | pdelayReqSend a port => exact pdelayReqSend_acts s a port
  | announceReceiptTimeout a port => exact announceReceiptTimeout_acts s a port
  | holdoverOutOfSpec a => exact holdoverOutOfSpec_acts s a
  | frequencyStore a => exact frequencyStore_acts s a
  | setTime a time => exact setTime_acts s a time
  | stepNow a value => exact stepNow_acts s a value
  | ppsInEdge a edge => exact ppsInEdge_acts s a edge
  | ppsInInvalid a => exact ppsInInvalid_acts s a
  | ppsOutRise a => exact ppsOutRise_acts s a
  | ppsOutFall a => exact ppsOutFall_acts s a
  | tickRateChange a => exact tickRateChange_acts s a
  | svAsduReceived a asdu => exact svAsduReceived_acts s a asdu
  | gooseMessageReceived a msg => exact gooseMessageReceived_acts s a msg
  | info a partition => exact info_acts s a partition
  | tick a partition => exact tick_acts s a partition
  | tickDone a partition => exact tickDone_acts s a partition
  | yield a partition => exact yield_acts s a partition
  | timerSet a partition time => exact timerSet_acts s a partition time
  | timerCancel a partition => exact timerCancel_acts s a partition
  | stateDeclare a partition region address length => exact stateDeclare_acts s a partition region address length
  | stateStatus a partition => exact stateStatus_acts s a partition
  | portSend a partition dest address length => exact portSend_acts s a partition dest address length
  | portRecv a partition address length => exact portRecv_acts s a partition address length
  | log a partition address => exact log_acts s a partition address
  | health a partition => exact health_acts s a partition
  | watchdogKick a partition => exact watchdogKick_acts s a partition
  | restartSelf a partition => exact restartSelf_acts s a partition
  | configRead a partition index sub address length => exact configRead_acts s a partition index sub address length
  | migrateReady a partition => exact migrateReady_acts s a partition
  | invalidMonitorCall a partition number => exact invalidMonitorCall_acts s a partition number
  | windowStart a partition window => exact windowStart_acts s a partition window
  | windowEnd a partition window => exact windowEnd_acts s a partition window
  | vsTimerInterrupt a partition => exact vsTimerInterrupt_acts s a partition
  | partitionException a exception => exact partitionException_acts s a exception
  | partitionRestart a partition => exact partitionRestart_acts s a partition
  | partitionWatchdogExpiry a partition => exact partitionWatchdogExpiry_acts s a partition
  | pailReset a pail => exact pailReset_acts s a pail
  | pailResetComplete a pail => exact pailResetComplete_acts s a pail
  | freeze a pail => exact freeze_acts s a pail
  | pailFrozen a pail => exact pailFrozen_acts s a pail
  | freezeRelease a pail => exact freezeRelease_acts s a pail
  | stateRecordWrite a pail record => exact stateRecordWrite_acts s a pail record
  | txDbWrite a pail queue value => exact txDbWrite_acts s a pail queue value
  | rxDbWrite a pail queue value => exact rxDbWrite_acts s a pail queue value
  | qCtrlWrite a pail queue value => exact qCtrlWrite_acts s a pail queue value
  | imageCopy a pail queue => exact imageCopy_acts s a pail queue
  | phasorCopy a pail queue => exact phasorCopy_acts s a pail queue
  | freqCopy a pail queue => exact freqCopy_acts s a pail queue
  | rxBuffer a pail queue => exact rxBuffer_acts s a pail queue
  | txFrame a pail queue answered => exact txFrame_acts s a pail queue answered
  | cryptoSeal a pail queue answered => exact cryptoSeal_acts s a pail queue answered
  | cryptoOpen a pail queue answered => exact cryptoOpen_acts s a pail queue answered
  | hmacGenerate a pail queue answered => exact hmacGenerate_acts s a pail queue answered
  | hmacVerify a pail queue answered => exact hmacVerify_acts s a pail queue answered
  | rxFrameCompletion a pail => exact rxFrameCompletion_acts s a pail
  | txTimestampCompletion a pail => exact txTimestampCompletion_acts s a pail
  | pubCommit a pail value => exact pubCommit_acts s a pail value
  | histTrigger a pail value => exact histTrigger_acts s a pail value
  | dcFreezeWrite a pail value => exact dcFreezeWrite_acts s a pail value
  | evqHeadWrite a pail value => exact evqHeadWrite_acts s a pail value
  | dirtySwap a pail => exact dirtySwap_acts s a pail
  | dirtySwapComplete a pail => exact dirtySwapComplete_acts s a pail
  | functionLevelReset a => exact functionLevelReset_acts s a
  | mbxDoorbell a value => exact mbxDoorbell_acts s a value
  | churnCycleBoundary a => exact churnCycleBoundary_acts s a
  | churnEvalDone a => exact churnEvalDone_acts s a
  | onlineBatch a batch => exact onlineBatch_acts s a batch
  | forceWrite a entry value => exact forceWrite_acts s a entry value
  | releaseAll a value => exact releaseAll_acts s a value
  | restart a value => exact restart_acts s a value
  | gpioSample a levels => exact gpioSample_acts s a levels
  | unitComputation a head => exact unitComputation_acts s a head
  | generatorComputation a gen => exact generatorComputation_acts s a gen
  | loopOverrun a head => exact loopOverrun_acts s a head
  | loopRelease a loop value => exact loopRelease_acts s a loop value
  | groupRelease a group value => exact groupRelease_acts s a group value
  | modeRequest a loop value => exact modeRequest_acts s a loop value
  | manualValue a loop value => exact manualValue_acts s a loop value
  | valueEntryWrite a index sub value => exact valueEntryWrite_acts s a index sub value
  | tuningWrite a loop sub value => exact tuningWrite_acts s a loop sub value
  | heartbeatSend a => exact heartbeatSend_acts s a
  | heartbeat a hdr hb => exact heartbeat_acts s a hdr hb
  | hbWaitExpiry a => exact hbWaitExpiry_acts s a
  | digestSend a => exact digestSend_acts s a
  | digest a hdr dig => exact digest_acts s a hdr dig
  | state a hdr frag => exact state_acts s a hdr frag
  | relinquish a hdr msg => exact relinquish_acts s a hdr msg
  | swapRequest a hdr msg => exact swapRequest_acts s a hdr msg
  | swapAccept a hdr msg => exact swapAccept_acts s a hdr msg
  | swapRefuse a hdr msg => exact swapRefuse_acts s a hdr msg
  | ack a hdr msg => exact ack_acts s a hdr msg
  | selftest a hdr msg => exact selftest_acts s a hdr msg
  | regions a hdr msg => exact regions_acts s a hdr msg
  | changeAck a hdr msg => exact changeAck_acts s a hdr msg
  | roleRepeat a => exact roleRepeat_acts s a
  | migrateData a hdr msg => exact migrateData_acts s a hdr msg
  | migrateAck a hdr msg => exact migrateAck_acts s a hdr msg
  | migrateAbort a hdr msg => exact migrateAbort_acts s a hdr msg
  | migrateResend a => exact migrateResend_acts s a
  | pailMove a value => exact pailMove_acts s a value
  | laneLost a lane => exact laneLost_acts s a lane
  | laneRestored a lane => exact laneRestored_acts s a lane
  | revertDelayExpiry a => exact revertDelayExpiry_acts s a
  | swapIntervalExpiry a => exact swapIntervalExpiry_acts s a
  | swapNow a value => exact swapNow_acts s a value
  | lcToShipped a session req => exact lcToShipped_acts s a session req
  | lcToOwned a session req => exact lcToOwned_acts s a session req
  | lcReown a session req => exact lcReown_acts s a session req
  | lcToReturn a session req => exact lcToReturn_acts s a session req
  | lcDecommission a session req => exact lcDecommission_acts s a session req
  | lcRevoke a session req => exact lcRevoke_acts s a session req
  | derive a session cmd => exact derive_acts s a session cmd
  | load a session cmd => exact load_acts s a session cmd
  | generate a session cmd => exact generate_acts s a session cmd
  | destroy a session cmd => exact destroy_acts s a session cmd
  | bump a session cmd => exact bump_acts s a session cmd
  | keyExport a session cmd => exact keyExport_acts s a session cmd
  | keyImport a session cmd => exact keyImport_acts s a session cmd
  | journalCommit a => exact journalCommit_acts s a
  | tamperAlarm a sources => exact tamperAlarm_acts s a sources
  | tamperLoopCheck a faults => exact tamperLoopCheck_acts s a faults
  | tamperClear a session value => exact tamperClear_acts s a session value
  | attestSign a req => exact attestSign_acts s a req
  | keygenSlhdsa a req => exact keygenSlhdsa_acts s a req
  | firmwareInstall a req => exact firmwareInstall_acts s a req
  | fullSelfTest a req => exact fullSelfTest_acts s a req
  | historyExport a req => exact historyExport_acts s a req
  | partitionMigrate a req => exact partitionMigrate_acts s a req
  | configApply a req => exact configApply_acts s a req
  | memoryScrub a req => exact memoryScrub_acts s a req
  | opSafePoint a slot => exact opSafePoint_acts s a slot
  | opComplete a slot => exact opComplete_acts s a slot
  | opResultExpiry a slot => exact opResultExpiry_acts s a slot
  | opSuspendExpiry a slot => exact opSuspendExpiry_acts s a slot
  | lockstepMismatch a unit => exact lockstepMismatch_acts s a unit
  | spareTakeover a herd => exact spareTakeover_acts s a herd
  | partitionRelocate a herd => exact partitionRelocate_acts s a herd
  | regionLost a region => exact regionLost_acts s a region
  | managerMoved a => exact managerMoved_acts s a
  | eccCorrected a memory row bitPos => exact eccCorrected_acts s a memory row bitPos
  | doubleBitError a memory row place => exact doubleBitError_acts s a memory row place
  | dieLinkFailed a link => exact dieLinkFailed_acts s a link
  | selfTestSlotStart a unit => exact selfTestSlotStart_acts s a unit
  | selfTestEnd a unit ending => exact selfTestEnd_acts s a unit ending
  | sliceSelfTestStart a slice => exact sliceSelfTestStart_acts s a slice
  | patrolScrub a memory row errors => exact patrolScrub_acts s a memory row errors
  | clearRetirement a unit => exact clearRetirement_acts s a unit
  | hardRepair a record => exact hardRepair_acts s a record
  | manualRun a value => exact manualRun_acts s a value
  | supWatchdogKick a manager => exact supWatchdogKick_acts s a manager
  | supWatchdogExpiry a => exact supWatchdogExpiry_acts s a
  | restartModule a value => exact restartModule_acts s a value
  | read a req => exact read_acts s a req
  | write a req => exact write_acts s a req
  | readBlock a req => exact readBlock_acts s a req
  | writeBlock a req => exact writeBlock_acts s a req
  | stage a req => exact stage_acts s a req
  | commit a req => exact commit_acts s a req
  | commitApply a => exact commitApply_acts s a
  | discard a req => exact discard_acts s a req
  | opSuspend a req => exact opSuspend_acts s a req
  | opResume a req => exact opResume_acts s a req
  | opCancel a req => exact opCancel_acts s a req
  | opStatus a req => exact opStatus_acts s a req
  | subscribeEvents a req => exact subscribeEvents_acts s a req
  | sessionOpen a req => exact sessionOpen_acts s a req
  | sessionClose a req => exact sessionClose_acts s a req
  | keepalive a req => exact keepalive_acts s a req
  | unsupportedOpcode a opcode req => exact unsupportedOpcode_acts s a opcode req
  | sessionTimeout a session => exact sessionTimeout_acts s a session
  | sessionOpenTimeout a session => exact sessionOpenTimeout_acts s a session
  | blockTransferTimeout a session => exact blockTransferTimeout_acts s a session
  | readSnapshotTimeout a session => exact readSnapshotTimeout_acts s a session
  | eventHoldExpiry a session source => exact eventHoldExpiry_acts s a session source
  | eventStatusWrite a source value setMeanwhile => exact eventStatusWrite_acts s a source value setMeanwhile
  | enableMaskWrite a source value => exact enableMaskWrite_acts s a source value
  | powerRequestRun a start => exact powerRequestRun_acts s a start
  | powerRequestHold a => exact powerRequestHold_acts s a
  | powerRequestOff a => exact powerRequestOff_acts s a
  | vddAonLoss a => exact vddAonLoss_acts s a
  | railOutOfRange a rail => exact railOutOfRange_acts s a rail
  | pwrFail a => exact pwrFail_acts s a
  | pwrFailSustained a => exact pwrFailSustained_acts s a
  | pwrFailReleased a => exact pwrFailReleased_acts s a
  | porst a width => exact porst_acts s a width
  | refclk25mLost a => exact refclk25mLost_acts s a
  | osc10mLost a => exact osc10mLost_acts s a
  | environmentRefresh a env => exact environmentRefresh_acts s a env
  | registerWrite a space offset value => exact registerWrite_acts s a space offset value
  | refclk25mRestored a => exact refclk25mRestored_acts s a
  | osc10mRestored a => exact osc10mRestored_acts s a
  | testOverdue a => exact testOverdue_acts s a
  | badOpcode a pail queue => exact badOpcode_acts s a pail queue

theorem State.pending_of_only {s t : State} (h : t.only .pending = s.only .pending) : t.pending = s.pending := by
  have hpending := congrArg State.pending h
  exact hpending

/-- With no power domain up no block is powered. -/
theorem State.powered_of_domains_zero {s : State} (h : s.power.domains = 0) (d : Nat) : s.powered d = false := by
  simp [State.powered, h, bit]

theorem exec_fault_of_actsApart {c : Instr} {s : State} (h : ActsApart c s) (hname : c.namesInstance = false) :
    exec c s = .fault .noSuchInstance := by
  obtain ⟨d, f, hexec, -⟩ := h
  rw [hexec, act_cases, hname]
  rfl

theorem yields_pending_of_actsApart {c : Instr} {s : State} (h : ActsApart c s) (hname : c.namesInstance = true) :
    Yields c s fun t => t.pending = s.pending := by
  obtain ⟨d, f, hexec, hf⟩ := h
  have harrive : (s.arrive c.instant).only .pending = s.only .pending := State.arrive_only (by decide) _ _
  refine ⟨_, hexec.trans ((act_cases ..).trans (if_pos hname)), State.pending_of_only ?_⟩
  change (if (s.arrive c.instant).powered d then f (s.arrive c.instant) else s.arrive c.instant).only .pending = s.only .pending
  exact State.ite_only ((hf _).trans harrive) harrive

theorem does_arrive_of_actsApart {c : Instr} {s : State} (h : ActsApart c s) (hname : c.namesInstance = true)
    (hdark : s.power.domains = 0) : Does c s (s.arrive c.instant) := by
  obtain ⟨d, f, hexec, -⟩ := h
  exact hexec.trans (act_off hname (by rw [State.arrive_powered, State.powered_of_domains_zero hdark]))

theorem yields_pending_powerGood (s : State) (a : Instant) (start : StartUp) :
    Yields (.powerGood a start) s fun t => t.pending = s.pending := by
  refine ⟨_, rfl, State.pending_of_only ?_⟩
  change ((s.arrive a).when_ s.mayStart fun t => (t.setPower fun p => { p with badRails := [], pwrFail := false }).startUp start).only .pending =
    s.only .pending
  rw [State.when_only, State.arrive_only (by decide)]
  rw [State.startUp_only (by decide), State.setPower_only (by decide)]

theorem yields_pending_tapInstruction (s : State) (a : Instant) (code : Nat) (h : code < 2 ∨ s.testAccess = false) :
    Yields (.tapInstruction a code) s fun t => t.pending = s.pending := by
  refine ⟨_, if_neg ?_, State.pending_of_only ?_⟩
  · rcases h with h | h <;> simp [h]
  · change ((s.arrive a).setPower fun p => { p with tapRegister := if code = 1 then 0x1096155B else 0 }).only .pending = s.only .pending
    rw [State.setPower_only (by decide), State.arrive_only (by decide)]

/-- Settles O4: every command but POWER_GOOD and TAP_INSTRUCTION is `act` with the test of its operands and an effect that leaves
the queue alone; these two answer by their own definitions. -/
theorem everyCommandAnswers : Obligations.EveryCommandAnswers := by
  unfold Obligations.EveryCommandAnswers
  intro c s
  by_cases hpower : ∃ a st, c = .powerGood a st
  · obtain ⟨a, st, rfl⟩ := hpower
    exact ⟨nofun, fun _ _ => yields_pending_powerGood s a st, nofun, fun _ _ h => absurd rfl (h a st)⟩
  by_cases htap : ∃ a k, c = .tapInstruction a k
  · obtain ⟨a, k, rfl⟩ := htap
    refine ⟨nofun, fun _ h => yields_pending_tapInstruction s a k (h a k rfl), ?_, fun _ _ _ h => absurd rfl (h a k)⟩
    rintro _ _ ⟨⟩ hcode htest
    exact if_pos (by simp [hcode, htest])
  · have h := actsApart_of_ne c s (fun a st e => hpower ⟨a, st, e⟩) fun a k e => htap ⟨a, k, e⟩
    exact ⟨exec_fault_of_actsApart h, fun hname _ => yields_pending_of_actsApart h hname, fun a k e => absurd ⟨a, k, e⟩ htap,
      fun hname hdark _ _ => does_arrive_of_actsApart h hname hdark⟩

/-! ### O5: a commit that takes effect writes the journalled configuration (R390) -/

theorem State.power_of_only {s t : State} (h : t.only .power = s.only .power) : t.power = s.power := by
  have hpower := congrArg State.power h
  exact hpower

/-- A stage that takes effect is journalled: the sequence number of the configuration rises. -/
theorem State.commitApply_configSeq {s : State} {c : PendingCommit} (hcommit : s.edp.commit = some c) (hdue : c.applyAt ≤ s.now)
    (hop : c.op = none) : s.commitApply.power.configSeq = (s.power.configSeq + 1) % 2 ^ 64 := by
  have hdropped : ((s.applyStage s.edp.stage c.acceptedAt c.applyTick).setEdp fun e => { e with commit := none }).dropStage.power = s.power :=
    State.power_of_only (by
      rw [State.dropStage_only (by decide), State.setEdp_only (by decide), State.applyStage_only (by decide)])
  unfold State.commitApply
  simp only [hcommit, hop, if_neg (Nat.not_lt.mpr hdue)]
  rw [State.power_of_only (State.commitReply_only (by decide) _ c)]
  change (_ + 1) % 2 ^ 64 = _
  rw [hdropped]

/-- A module with the supervisor die powered in which an empty stage has been committed and its boundary has come. -/
def dueCommitState : State :=
  { edp := { commit := some { session := 0, seq := 0, acceptedAt := 0, applyTick := 0, applyAt := 0, op := none } }, power := { domains := 2 } }

/-- Refutes O5: COMMIT_APPLY is not among the commands that may change the power part, but it raises the sequence number of the journalled
configuration there. -/
theorem not_onlyTheseCommandsReachABlock : ¬ Obligations.OnlyTheseCommandsReachABlock := by
  unfold Obligations.OnlyTheseCommandsReachABlock
  intro h
  have hexec : act true 1 (dueCommitState.arrive 0) (·.commitApply) = .next (dueCommitState.arrive 0).commitApply.settle :=
    act_on rfl (by decide)
  obtain ⟨-, -, -, -, -, -, -, -, -, hpower, -⟩ := h (.commitApply 0) dueCommitState _ hexec
  refine hpower fun hsame => ?_
  have hseq : (dueCommitState.arrive 0).commitApply.power.configSeq = 1 := State.commitApply_configSeq rfl (by decide) rfl
  rw [State.settle_power] at hsame
  rw [hsame] at hseq
  exact absurd hseq (by decide)

end Sys2Proof.Machine
end

section
set_option Elab.async false
namespace Sys2Proof.Machine

/-! ### O24: a subscription of more channels than its mapping has entries (R147, R157)

The mapping of entry `n` is read at subindex `0x20 + i`, and FRAMES stands at 0x41. With CHANNELS above 33 the count of the frame itself is
read as a mapping, so counting a frame can take a channel out of the mapping that R157 consults. -/

/-- Subscription 0 with 34 channels, the first 33 of them unmapped and FRAMES at 8191; its ring holds sample 64, which image 0 and later need. -/
def wideStreamState : State :=
  { power := { domains := 2 ^ 3, state := .run }
    regs := [(Od.svEnable 0, 1), (Od.svChannels 0, 34), (Od.svIngressMask 0, 1), (Od.svFrames 0, 8191)] ++
      (List.range 33).map (fun i => (Od.svMap 0 i, 8192))
    dp := { lastReleased := some 0, streams := [(0, { ring := [(64, ⟨⟨0, 0, 0, 0, []⟩, true, 0, false, false, [], .waiting, false⟩)] })] } }

/-- An ASDU of that subscription with sample number 0, whose position in the ring is that of sample 64. -/
def wideAsdu : Asdu := ⟨0, 0x010CCD040000, 0x4000, none, false, none, 0, 0, 0, [], 0, 0, 1, 8 * 34, []⟩

/-- The ASDU passes every check of R150, and its position is taken as it arrives. -/
theorem wideAsdu_accepted :
    (wideStreamState.svMatch wideAsdu = some 0 ∧
      sampleNumber (wideStreamState.reg (Od.svStreamRate 0)) 0 ((wideStreamState.arrive 0).svArrival wideAsdu) = some 0 ∧
      wideStreamState.reg (Od.svAuthMode 0) = 0) ∧
    (wideStreamState.arrive 0).positionTaken 0 0 (wideStreamState.streamKeys 0) = true := by
  decide +kernel

/-- It is stored nevertheless. -/
theorem wideAsdu_stored :
    (match exec (.svAsduReceived 0 wideAsdu) wideStreamState with
      | .next t => (t.stream 0).ring.length
      | _ => 0) = 2 := by
  decide +kernel

/-- Refutes O24: CHANNELS of 34 makes FRAMES itself the last mapping of the entry, and the count of the frame from 8191 to 8192 unmaps the
channel for which the position was taken before the count. -/
theorem not_acceptedAsduIsStoredOnce : ¬ Obligations.AcceptedAsduIsStoredOnce := by
  unfold Obligations.AcceptedAsduIsStoredOnce
  intro h
  obtain ⟨⟨hmatch, hnumber, hauth⟩, htaken⟩ := wideAsdu_accepted
  obtain ⟨t, ht, -, -, -, -, -, -, hring⟩ :=
    h wideStreamState (wideStreamState.arrive 0) (wideStreamState.arrive 0) 0 wideAsdu 0 0 (by decide) (by decide) rfl rfl hmatch
      (by decide) (by decide) (Or.inl (by decide)) (by decide) hnumber (Or.inl (by decide)) (Or.inl (ne_of_eq_of_ne hauth (by decide)))
  obtain ⟨-, -, -, htakenRing, -⟩ := hring rfl
  obtain ⟨-, hkept⟩ := htakenRing (by decide) (by decide) htaken
  have hlength := wideAsdu_stored
  rw [ht] at hlength
  exact absurd (hlength.symm.trans (congrArg List.length hkept)) (by decide)

end Sys2Proof.Machine
end

section
set_option Elab.async false
namespace Sys2Proof.Machine

/-! ### O30: a subscription whose mapping reaches another chapter's registers (R147, R206)

The mapping of entry `n` is read at `svMap n i` for every `i` below CHANNELS. With CHANNELS large enough the range reaches EVENT_STATUS of
slice 0, which the handover for a test writes before it fixes the channels to serve. -/

/-- A standing condition of a source leaves every entry but the source's STATUS, LAST_SET and RESETS. -/
theorem State.reg_stand (s : State) (n f : Nat) (b : Bool) (i : Option Nat) {k : Nat} (hstatus : k ≠ Od.evStatus n)
    (hlast : k ≠ Od.evLastSet n) (hresets : k ≠ Od.evResets n) : (s.stand n f b i).reg k = s.reg k := by
  unfold State.stand
  dsimp only
  split
  · split
    · rfl
    · exact s.reg_setFlag n f i hstatus hlast hresets
  · split
    · exact State.reg_setReg_ne _ _ hstatus
    · rfl

/-- FALLBACK_CHANNELS after the channels are fixed: those wanted up to the capacity (R206). -/
theorem State.fixShed_channels (s : State) (b : Nat) :
    (s.fixShed b).reg Od.fbFallbackChannels =
      min (((s.mapped.map (·.1)).filter fun c => (s.fbService (c % 4)).isSome).length) (fbCapacity s.rate) := by
  unfold State.fixShed
  rw [State.reg_stand _ _ _ _ _ (by decide) (by decide) (by decide), State.reg_setReg_ne _ _ (by decide),
    State.reg_setReg_ne _ _ (by decide), State.reg_setReg_self, List.length_take, List.length_mergeSort]
  omega

/-- The channel that mapping `i` of entry 0 names. -/
def State.mapsTo (s : State) (i : Nat) : Option Nat := if s.reg (Od.svMap 0 i) < 8192 then some (s.reg (Od.svMap 0 i)) else none

/-- The channels of slice 0 below the channel limit. -/
def State.sliceChannel (s : State) (c : Nat) : Bool := decide (c < channelLimit s.rate) && decide (c % 4 = 0)

/-- The mapped channels of slice 0 that the first `n` mappings of entry 0 name, in order. -/
def State.firstMaps (s : State) (n : Nat) : List Nat := ((List.range n).filterMap s.mapsTo).filter s.sliceChannel

/-- With entry 0 alone enabled, its mappings give the mapped channels of slice 0. -/
theorem State.mapped_filter_slice (s : State) (h : s.svEntries = [0]) :
    (s.mapped.map (·.1)).filter (fun c => decide (c % 4 = 0)) = s.firstMaps (s.reg (Od.svChannels 0)) := by
  simp only [State.mapped, State.mapTable, h, List.flatMap_cons, List.flatMap_nil, List.append_nil, State.svMapOf, State.firstMaps,
    List.map_filterMap, List.filter_filterMap]
  refine List.filterMap_congr fun i _ => ?_
  by_cases hc : s.reg (Od.svMap 0 i) < 8192
  · simp only [State.mapsTo, hc, if_true, Option.map_some, Option.filter_some, State.sliceChannel]
    by_cases hl : s.reg (Od.svMap 0 i) < channelLimit s.rate <;> simp [hl, Option.filter]
  · simp [State.mapsTo, hc]

/-- EVENT_STATUS of slice 0 is this mapping of entry 0. -/
def statusPlace : Nat := 8400865

/-- A running module at a tick rate of 1 with one subscription, whose last mapping is EVENT_STATUS of slice 0, there with INFO 1 and so not
the number of a channel; a test of slice 0 is planned for now. -/
def wideMapState : State :=
  { power := { domains := 2 ^ 10, state := .run }
    regs := [(Od.svEnable 0, 1), (Od.svChannels 0, statusPlace + 1), (Od.evStatus 48, 2 ^ 16), (Od.tickRate, 1)]
    pair := { plans := [⟨0, 0, false⟩] } }

/-- The state in which the handover fixes the channels to serve. -/
def wideMapServed : State :=
  let u := wideMapState.arrive 0
  let served := u.setDp fun d => { d with fb := Tab.insert d.fb 0 ((⟨.test, u.tickNow, none⟩ :: u.endService 0 u.tickNow).take 4) }
  (served.setPair fun p => { p with plans := p.plans.filter fun q => q.slice ≠ 0 }).sliceFlag 0 3 0

theorem handover_wideMapState :
    (wideMapState.arrive 0).handover 0 = (wideMapServed.fixShed (wideMapState.arrive 0).tickNow).fbFlag 0 := by
  have hkind : (wideMapState.arrive 0).handoverKind 0 = some .test := by decide +kernel
  unfold State.handover
  rw [hkind]
  rfl

/-- The flag of the test reaches EVENT_STATUS of slice 0 alone among the mappings of entry 0. -/
theorem wideMapServed_mapsTo {i : Nat} (hi : i < statusPlace) : wideMapServed.mapsTo i = wideMapState.mapsTo i := by
  have hkey : wideMapServed.reg (Od.svMap 0 i) = wideMapState.reg (Od.svMap 0 i) := by
    unfold statusPlace at hi
    unfold wideMapServed State.sliceFlag
    rw [State.reg_setFlag _ _ _ _ (by unfold Od.svMap Od.evStatus; omega) (by unfold Od.svMap Od.evLastSet; omega)
      (by unfold Od.svMap Od.evResets; omega)]
    exact State.arrive_reg wideMapState 0 _
  unfold State.mapsTo
  rw [hkey]

/-- One more channel is wanted once the flag stands: EVENT_STATUS of slice 0 has become the number of channel 8. -/
theorem wideMapServed_firstMaps :
    (wideMapServed.firstMaps (statusPlace + 1)).length = (wideMapState.firstMaps (statusPlace + 1)).length + 1 := by
  have hsame : (List.range statusPlace).filterMap wideMapServed.mapsTo = (List.range statusPlace).filterMap wideMapState.mapsTo :=
    List.filterMap_congr fun i hi => wideMapServed_mapsTo (List.mem_range.mp hi)
  have hbefore : wideMapState.mapsTo statusPlace = none := by decide +kernel
  have hafter : wideMapServed.mapsTo statusPlace = some 8 := by decide +kernel
  have hslice : wideMapServed.sliceChannel = wideMapState.sliceChannel := by
    unfold State.sliceChannel
    rw [show wideMapServed.rate = wideMapState.rate by decide +kernel]
  have height : wideMapState.sliceChannel 8 = true := by decide +kernel
  simp [State.firstMaps, List.range_succ, List.filterMap_append, hsame, hbefore, hafter, hslice, height]

/-- The channels of the slices in service while slice 0 alone is. -/
theorem wideMapState_wanted :
    (wideMapState.mapped.map (·.1)).filter (fun c => decide (c % 4 = 0) || (wideMapState.fbService (c % 4)).isSome) =
      wideMapState.firstMaps (statusPlace + 1) := by
  have hchannels : wideMapState.reg (Od.svChannels 0) = statusPlace + 1 := by decide +kernel
  rw [← hchannels, ← State.mapped_filter_slice _ (by decide +kernel)]
  refine List.filter_congr fun c _ => ?_
  rw [show wideMapState.fbService (c % 4) = none from rfl]
  simp

theorem wideMapServed_wanted :
    (wideMapServed.mapped.map (·.1)).filter (fun c => (wideMapServed.fbService (c % 4)).isSome) =
      wideMapServed.firstMaps (statusPlace + 1) := by
  have hchannels : wideMapServed.reg (Od.svChannels 0) = statusPlace + 1 := by decide +kernel
  rw [← hchannels, ← State.mapped_filter_slice _ (by decide +kernel)]
  refine List.filter_congr fun c _ => ?_
  have hservice : ∀ n < 4, (wideMapServed.fbService n).isSome = decide (n = 0) := by decide +kernel
  exact hservice _ (Nat.mod_lt _ (by decide))

theorem wideMapState_firstMaps_length : (wideMapState.firstMaps (statusPlace + 1)).length ≤ statusPlace + 1 := by
  unfold State.firstMaps
  refine (List.length_filter_le _ _).trans ((List.length_filterMap_le _ _).trans ?_)
  rw [List.length_range]

/-- Refutes O30: the channels are fixed by the mapping after the handover has set the slice's flag, and with CHANNELS of 8400866 that flag is
itself a mapping: one channel more is served than the mapping before the handover names. -/
theorem not_fallbackServiceAndShedding : ¬ Obligations.FallbackServiceAndShedding := by
  unfold Obligations.FallbackServiceAndShedding
  intro h
  obtain ⟨-, hover, -⟩ := h wideMapState (wideMapState.arrive 0) 0 0 (by decide) (by decide) rfl
  obtain ⟨t, ht, -, -, ⟨hchannels, -⟩, -⟩ := hover .test (by decide +kernel)
  have hrate : wideMapState.rate = 1 := by decide +kernel
  have hrateServed : wideMapServed.rate = 1 := by decide +kernel
  have hexec : act true 10 (wideMapState.arrive 0) (·.handover 0) = .next ((wideMapState.arrive 0).handover 0).settle :=
    act_on rfl (by decide)
  have hstate : ((wideMapState.arrive 0).handover 0).settle = t := Host.Outcome.next.inj (hexec.symm.trans ht)
  rw [handover_wideMapState] at hstate
  rw [← hstate, State.settle_reg] at hchannels
  have hfixed := wideMapServed.fixShed_channels (wideMapState.arrive 0).tickNow
  rw [wideMapServed_wanted, wideMapServed_firstMaps, hrateServed] at hfixed
  have hkept : ((wideMapServed.fixShed (wideMapState.arrive 0).tickNow).fbFlag 0).reg Od.fbFallbackChannels =
      (wideMapServed.fixShed (wideMapState.arrive 0).tickNow).reg Od.fbFallbackChannels :=
    State.reg_setFlag _ 52 0 _ (by decide) (by decide) (by decide)
  rw [hkept, hfixed, wideMapState_wanted, hrate] at hchannels
  have hlength := wideMapState_firstMaps_length
  generalize (wideMapState.firstMaps (statusPlace + 1)).length = n at hchannels hlength
  unfold fbCapacity at hchannels
  unfold statusPlace at hlength
  omega

end Sys2Proof.Machine
end

section
set_option Elab.async false
namespace Sys2Proof.Machine

/-! ### O33: monitor calls (R226, R231, R232) -/

/-- A call is open to a partition that runs in an open window, past the manager's 2 µs. -/
theorem State.calling_arrive (s : State) (a : Instant) (n : Nat) :
    (s.arrive a).calling n = true ↔
      (s.part n).window.isSome = true ∧ (s.part n).runs = true ∧ (s.part n).runsFrom ≤ (s.arrive a).now := by
  simp [State.calling, and_assoc]

section
variable {s : State} {a : Instant} {n : Nat} {f : State → State}

/-- A call in an open window has its effect. -/
theorem callAct_of_calling (hn : n < 96) (hpower : s.powered 10 = true) (hcall : (s.arrive a).calling n = true) :
    callAct a n s f = .next (f (s.arrive a)).settle := by
  refine (act_on (decide_eq_true hn) (by rw [State.arrive_powered, hpower])).trans ?_
  rw [if_pos hcall]

/-- A call outside an open window does not take place. -/
theorem callAct_of_not_calling (hn : n < 96) (hcall : ¬(s.arrive a).calling n = true) : callAct a n s f = .next (s.arrive a).settle := by
  rw [callAct, act_cases, if_pos (decide_eq_true hn), if_neg hcall, ite_self]

theorem does_of_calling {c : Instr} (hn : n < 96) (hpower : s.powered 10 = true) (hcall : (s.arrive a).calling n = true)
    (hexec : exec c s = callAct a n s f) : Does c s (f (s.arrive a)) := hexec.trans (callAct_of_calling hn hpower hcall)

theorem does_of_not_calling {c : Instr} (hn : n < 96) (hcall : ¬(s.arrive a).calling n = true) (hexec : exec c s = callAct a n s f) :
    Does c s (s.arrive a) := hexec.trans (callAct_of_not_calling hn hcall)

/-! #### The calls of R232 -/

theorem exec_info : exec (.info a n) s = callAct a n s fun s => s.callInfo n := rfl
theorem exec_tick : exec (.tick a n) s = callAct a n s fun s => s.callTick n := rfl
theorem exec_tickDone : exec (.tickDone a n) s = callAct a n s fun s => s.tickDone n := rfl
theorem exec_yield : exec (.yield a n) s = callAct a n s fun s => (s.modPart n fun x => { x with window := none }).callReturn n 0 [] := rfl
theorem exec_timerSet (time : Nat) : exec (.timerSet a n time) s = callAct a n s fun s =>
    (s.modPart n fun x => { x with timer := some (time % 2 ^ 64), timerPending := false }).callReturn n 0 [] := rfl
theorem exec_timerCancel : exec (.timerCancel a n) s = callAct a n s fun s =>
    (s.modPart n fun x => { x with timer := none, timerPending := false }).callReturn n 0 [] := rfl
theorem exec_stateStatus : exec (.stateStatus a n) s = callAct a n s fun s =>
    s.callReturn n 0 [((s.part n).resyncs : Int), ((s.part n).lastResync : Int)] := rfl
theorem exec_health : exec (.health a n) s = callAct a n s fun s => s.callReturn n 0 [(s.healthWord n : Int)] := rfl
theorem exec_watchdogKick : exec (.watchdogKick a n) s = callAct a n s fun s =>
    (s.modPart n fun x => { x with watchdog := 0 }).callReturn n 0 [] := rfl
theorem exec_restartSelf : exec (.restartSelf a n) s = callAct a n s fun s => (s.callReturn n 0 []).askRestart n 2 (s.workTick + 1) := rfl
theorem exec_migrateReady : exec (.migrateReady a n) s = callAct a n s fun s => s.migrateReady n := rfl
theorem exec_invalidMonitorCall (number : Nat) : exec (.invalidMonitorCall a n number) s = callAct a n s fun s =>
    if 15 < number then s.callReturn n callInvalid [] else s := rfl
theorem exec_log (address : Nat) : exec (.log a n address) s = callAct a n s fun s => s.callLog n address := rfl
theorem exec_portSend (dest address length : Nat) : exec (.portSend a n dest address length) s = callAct a n s fun s =>
    s.portSend n dest address length := rfl
theorem exec_portRecv (address length : Nat) : exec (.portRecv a n address length) s = callAct a n s fun s =>
    s.portRecv n address length := rfl
theorem exec_stateDeclare (region address length : Nat) : exec (.stateDeclare a n region address length) s = callAct a n s fun s =>
    s.stateDeclare n region address length := rfl
theorem exec_configRead (index sub address length : Nat) : exec (.configRead a n index sub address length) s = callAct a n s fun s =>
    s.configRead n index sub address length := rfl

end

/-- INFO reads nothing that the arrival changes. -/
theorem State.callInfo_arrive (s : State) (a : Instant) (n : Nat) :
    (s.arrive a).callInfo n =
      (s.arrive a).callReturn n 0 [((n + s.pailNumber n * 2 ^ 8 + (s.openWindow n).unit * 2 ^ 16 + (s.openWindow n).unit / 4 * 2 ^ 24 : Nat) : Int),
        (s.rate : Int), (s.lag : Int)] := by
  unfold State.arrive
  split <;> rfl

theorem State.migrateReady_of_none {s : State} {n : Nat} (h : (s.part n).migrateTo = none) :
    s.migrateReady n = (s.modPart n fun y => y).callReturn n 0 [] := by
  simp only [State.migrateReady, State.modPart_eq, h]

/-- MIGRATE_READY takes the windows of the migration's target. -/
theorem State.migrateReady_part {s : State} {n : Nat} {l : List Nat} (h : (s.part n).migrateTo = some l) :
    (s.migrateReady n).part n =
      { s.part n with migrateTo := none, windowsNext := some l, regs := ([0] ++ [] ++ (s.part n).regs.drop 1).take 4 } := by
  rw [State.migrateReady, State.callReturn, State.part_modPart_self, State.part_modPart_self, h]
  rfl

/-- A word of five flags, bit by bit. -/
theorem maskOf_five_flags (b c d e f : Bool) :
    let w := maskOf ((if b then [0] else []) ++ (if c then [1] else []) ++ (if d then [2] else []) ++ (if e then [3] else []) ++
      (if f then [4] else []))
    w < 32 ∧ bit w 0 = b ∧ bit w 1 = c ∧ bit w 2 = d ∧ bit w 3 = e ∧ bit w 4 = f := by
  revert b c d e f
  decide

/-- The HEALTH word, bit by bit (R232). -/
theorem State.healthWord_bits (s : State) (n : Nat) :
    s.healthWord n < 32 ∧ bit (s.healthWord n) 0 = s.degraded ((s.openWindow n).unit / 4) ∧ bit (s.healthWord n) 1 = s.grantedFallback n ∧
      bit (s.healthWord n) 2 = decide (s.pair.role = .lead) ∧ bit (s.healthWord n) 3 = s.partnerHealthy ∧
      bit (s.healthWord n) 4 = (s.partSuppressed n || s.pairSuppresses) := by
  have h := maskOf_five_flags (s.degraded ((s.openWindow n).unit / 4)) (s.grantedFallback n) (decide (s.pair.role = .lead)) s.partnerHealthy
    (s.partSuppressed n || s.pairSuppresses)
  simpa [State.healthWord] using h

/-- Settles O33: each call is `callAct` of its effect; HEALTH is read bit by bit. -/
theorem monitorCallsAnswer : Obligations.MonitorCallsAnswer := by
  unfold Obligations.MonitorCallsAnswer
  rintro s _ a n time number hpower hn rfl
  dsimp only
  constructor
  · intro hclosed c hc
    have hcall : ¬(s.arrive a).calling n = true := by
      rw [State.calling_arrive]
      rintro ⟨hwindow, hruns, hfrom⟩
      rcases hclosed with h | h | h
      · simp [h] at hwindow
      · simp [h] at hruns
      · omega
    simp only [List.mem_cons, List.not_mem_nil, or_false] at hc
    rcases hc with rfl | rfl | rfl | rfl | rfl | rfl | rfl | rfl | rfl | rfl | rfl | rfl | rfl | rfl | rfl | rfl | rfl
    · exact does_of_not_calling hn hcall exec_info
    · exact does_of_not_calling hn hcall exec_tick
    · exact does_of_not_calling hn hcall exec_tickDone
    · exact does_of_not_calling hn hcall exec_yield
    · exact does_of_not_calling hn hcall (exec_timerSet _)
    · exact does_of_not_calling hn hcall exec_timerCancel
    · exact does_of_not_calling hn hcall exec_stateStatus
    · exact does_of_not_calling hn hcall exec_health
    · exact does_of_not_calling hn hcall exec_watchdogKick
    · exact does_of_not_calling hn hcall exec_restartSelf
    · exact does_of_not_calling hn hcall exec_migrateReady
    · exact does_of_not_calling hn hcall (exec_invalidMonitorCall _)
    · exact does_of_not_calling hn hcall (exec_log _)
    · exact does_of_not_calling hn hcall (exec_portSend _ _ _)
    · exact does_of_not_calling hn hcall (exec_portRecv _ _)
    · exact does_of_not_calling hn hcall (exec_stateDeclare _ _ _)
    · exact does_of_not_calling hn hcall (exec_configRead _ _ _ _)
  · intro hwindow hruns hfrom
    have hcall : (s.arrive a).calling n = true := (s.calling_arrive a n).mpr ⟨hwindow, hruns, hfrom⟩
    have does {c : Instr} {f : State → State} (hexec : exec c s = callAct a n s f) : Does c s (f (s.arrive a)) :=
      does_of_calling hn hpower hcall hexec
    have htick : (s.arrive a).workTick = s.workTick := State.arrive_eq (·.workTick) (fun _ => rfl) a
    refine ⟨?_, ?_, does exec_yield, does (exec_timerSet _), does exec_timerCancel, ?_, ?_, does exec_watchdogKick, ?_, ?_, ?_, ?_, ?_⟩
    · have h := does exec_info
      rw [State.callInfo_arrive] at h
      exact h
    · have h := does exec_tick
      simp only [State.callTick, State.arrive_part, htick] at h
      exact h
    · have h := does exec_stateStatus
      simp only [State.arrive_part] at h
      exact h
    · obtain ⟨hsmall, hdegraded, hgranted, hlead, hhealthy, hsuppressed⟩ := (s.arrive a).healthWord_bits n
      refine ⟨_, does exec_health, hsmall, ?_, ?_, ?_, ?_, hsuppressed⟩
      · rw [hdegraded, State.openWindow, State.arrive_part]
        exact State.arrive_eq (·.degraded _) (fun _ => rfl) a
      · exact hgranted.trans (State.arrive_eq (·.grantedFallback n) (fun _ => rfl) a)
      · exact hlead.trans (State.arrive_eq (fun t => decide (t.pair.role = .lead)) (fun _ => rfl) a)
      · exact hhealthy.trans (State.arrive_eq (·.partnerHealthy) (fun _ => rfl) a)
    · have h := does exec_restartSelf
      simp only [htick] at h
      exact h
    · intro hnone
      have h := does exec_migrateReady
      rw [State.migrateReady_of_none ((s.arrive_part a n).symm ▸ hnone)] at h
      exact h
    · intro l hsome
      refine ⟨_, does exec_migrateReady, ?_⟩
      simp only [State.settle_part, State.migrateReady_part ((s.arrive_part a n).symm ▸ hsome)]
      simp
    · intro hlarge
      have h := does (exec_invalidMonitorCall number)
      rwa [if_pos hlarge] at h
    · intro hsmall
      have h := does (exec_invalidMonitorCall number)
      rwa [if_neg (Nat.not_lt.mpr hsmall)] at h

end Sys2Proof.Machine
end

section
set_option Elab.async false
namespace Sys2Proof.Machine

/-! ### O45: GOOSE messages received (R465 to R467) -/

/-- The register block of a GOOSE subscription is no source's. -/
theorem not_ownsEntry_of_gs {n k : Nat} (hn : n < 128) (hk : 0xE00000 ≤ k) : ¬ownsEntry n k := by
  unfold ownsEntry Od.evStatus Od.evLastSet Od.evResets
  omega

theorem State.sub_of_only {s t : State} (h : t.only .subs = s.only .subs) (n : Nat) : t.sub n = s.sub n := by
  have hsubs := congrArg (fun u => State.sub u n) h
  exact hsubs

@[simp] theorem State.settle_sub (s : State) (n : Nat) : s.settle.sub n = s.sub n := rfl
@[simp] theorem State.gsCount_sub (s : State) (k n i : Nat) : (s.gsCount k n).sub i = s.sub i :=
  State.sub_of_only (State.gsCount_only (by decide) _ _ _) i
@[simp] theorem State.gsFlag_sub (s : State) (f n i : Nat) : (s.gsFlag f n).sub i = s.sub i :=
  State.sub_of_only (State.gsFlag_only (by decide) _ _ _) i
@[simp] theorem State.verifyAuth_sub (s : State) (a b : Nat) (c : Consumer) (x : Option AuthExt) (n : Nat) :
    (s.verifyAuth a b c x).2.sub n = s.sub n :=
  State.sub_of_only (State.verifyAuth_only (by decide) _ _ _ _ _) n
@[simp] theorem State.gsMark_sub_self (s : State) (n f : Nat) :
    (s.gsMark n f).sub n = { s.sub n with flags := setBit (s.sub n).flags f true } := s.sub_setSub_self n _
theorem State.gsMark_sub_ne (s : State) {i n : Nat} (f : Nat) (h : i ≠ n) : (s.gsMark n f).sub i = s.sub i := Tab.look_put_ne _ _ _ h

theorem State.gsCount_reg_self (s : State) (n : Nat) {k : Nat} (hk : 0xE00000 ≤ k) : (s.gsCount k n).reg k = (s.reg k + 1) % 2 ^ 32 :=
  s.reg_countEv_self 36 _ (not_ownsEntry_of_gs (by decide) hk)
theorem State.gsCount_reg_ne (s : State) (n : Nat) {j k : Nat} (hj : 0xE00000 ≤ j) (hne : j ≠ k) : (s.gsCount k n).reg j = s.reg j :=
  s.reg_countEv_ne 36 _ (not_ownsEntry_of_gs (by decide) hj) hne
theorem State.gsFlag_reg (s : State) (f n : Nat) {k : Nat} (hk : 0xE00000 ≤ k) : (s.gsFlag f n).reg k = s.reg k :=
  s.reg_setFlag_of_not_owns 36 f _ (not_ownsEntry_of_gs (by decide) hk)

/-- A use of a key slot touches the entries of the key manager and of its event source only. -/
theorem State.useSlot_reg (s : State) (slot : Nat) (c : Consumer) {k : Nat} (hk : 0xE00000 ≤ k) : (s.useSlot slot c).2.reg k = s.reg k := by
  unfold State.useSlot
  split
  · rfl
  · rfl
  · refine (State.reg_setFlag_of_not_owns _ 96 1 _ (not_ownsEntry_of_gs (by decide) hk)).trans (State.reg_setReg_ne _ _ ?_)
    unfold Od.keysOrphanDenials
    omega

theorem State.verifyAuth_reg (s : State) (a b : Nat) (c : Consumer) (x : Option AuthExt) {k : Nat} (hk : 0xE00000 ≤ k) :
    (s.verifyAuth a b c x).2.reg k = s.reg k := by
  unfold State.verifyAuth
  split
  · rfl
  · dsimp only
    split
    · exact State.useSlot_reg _ _ _ hk
    · exact (State.useSlot_reg _ _ _ hk).trans (State.useSlot_reg _ _ _ hk)

/-- What a check of R466 that fails leaves: one more in its counter, the data of the subscription, and the others. -/
def GsFailed (s : State) (n k : Nat) (t : State) : Prop :=
  t.reg k = (s.reg k + 1) % 2 ^ 32 ∧ (t.sub n).cells = (s.sub n).cells ∧ (t.sub n).stNum = (s.sub n).stNum ∧
    (t.sub n).sqNum = (s.sub n).sqNum ∧ (t.sub n).lastRx = (s.sub n).lastRx ∧ ∀ i, i ≠ n → t.sub i = s.sub i

section
variable {s v : State} {n k : Nat} (hk : 0xE00000 ≤ k) (hreg : v.reg k = s.reg k) (hsub : ∀ i, v.sub i = s.sub i)
include hk hreg hsub

theorem gsFailed_count : GsFailed s n k (v.gsCount k n).settle := by
  simp [GsFailed, State.gsCount_reg_self v n hk, hreg, hsub]

theorem gsFailed_mark (f g : Nat) : GsFailed s n k (((v.gsMark n f).gsCount k n).gsFlag g n).settle := by
  have hmark : (v.gsMark n f).reg k = s.reg k := hreg
  refine ⟨?_, ?_, ?_, ?_, ?_, fun i hi => ?_⟩
  · rw [State.settle_reg, State.gsFlag_reg _ _ _ hk, State.gsCount_reg_self _ _ hk, hmark]
  · simp [hsub]
  · simp [hsub]
  · simp [hsub]
  · simp [hsub]
  · rw [State.settle_sub, State.gsFlag_sub, State.gsCount_sub, State.gsMark_sub_ne _ _ hi, hsub]

end

/-- An accepted message replaces the data of its subscription and of no other (R467). -/
theorem State.gsAccept_sub (s : State) (n : Nat) (m : GooseMsg) (i : Nat) :
    (s.gsAccept n m).sub i = if i = n then { s.sub n with
      cells := memberCells m.members, stNum := m.stNum, sqNum := m.sqNum, ttl := m.ttl, flags := messageFlags m
      lastRx := some s.now, lastTick := s.tickNow } else s.sub i := by
  have hgap (t : State) (c : Bool) : (t.when_ c fun t => (t.gsCount (Od.gsSeqGap n) n).gsFlag 5 n).sub i = t.sub i := by
    unfold State.when_
    split <;> simp
  have hregs (t : State) (k v : Nat) : (t.setReg k v).sub i = t.sub i := rfl
  simp only [State.gsAccept, hgap, hregs, State.gsCount_sub]
  split
  · subst i
    exact State.sub_setSub_self _ _ _
  · exact Tab.look_put_ne _ _ _ ‹_›

theorem State.gsAccept_frames (s : State) (n : Nat) (m : GooseMsg) :
    (s.gsAccept n m).reg (Od.gsFrames n) = (s.reg (Od.gsFrames n) + 1) % 2 ^ 32 := by
  have hkey : 0xE00000 ≤ Od.gsFrames n := by unfold Od.gsFrames; omega
  have hgap (t : State) (c : Bool) :
      (t.when_ c fun t => (t.gsCount (Od.gsSeqGap n) n).gsFlag 5 n).reg (Od.gsFrames n) = t.reg (Od.gsFrames n) := by
    unfold State.when_
    split
    · rw [State.gsFlag_reg _ _ _ hkey, State.gsCount_reg_ne _ _ hkey (by unfold Od.gsFrames Od.gsSeqGap; omega)]
    · rfl
  simp only [State.gsAccept, hgap]
  rw [State.reg_setReg_ne _ _ (by unfold Od.gsFrames Od.gsLastRx; omega), State.reg_setReg_ne _ _ (by unfold Od.gsFrames Od.gsSqnum; omega),
    State.reg_setReg_ne _ _ (by unfold Od.gsFrames Od.gsStnum; omega), State.gsCount_reg_self _ _ hkey]
  rfl

/-- Where the key slots of a subscription are checked, the check; elsewhere a message passes. -/
def State.gsVerify (s : State) (n : Nat) (m : GooseMsg) : Bool × State :=
  if s.on (Od.gsAuthMode n) then s.verifyAuth (s.reg (Od.gsKeySlotA n)) (s.reg (Od.gsKeySlotB n)) .gooseVerify m.auth else (true, s)

theorem State.gsVerify_reg (s : State) (n : Nat) (m : GooseMsg) {k : Nat} (hk : 0xE00000 ≤ k) : (s.gsVerify n m).2.reg k = s.reg k := by
  unfold State.gsVerify
  split
  · exact s.verifyAuth_reg _ _ _ _ hk
  · rfl

theorem State.gsVerify_sub (s : State) (n : Nat) (m : GooseMsg) (i : Nat) : (s.gsVerify n m).2.sub i = s.sub i := by
  unfold State.gsVerify
  split <;> simp

theorem State.gsVerify_now (s : State) (n : Nat) (m : GooseMsg) : (s.gsVerify n m).2.now = s.now := by
  have h : (s.gsVerify n m).2.only .time = s.only .time := by
    unfold State.gsVerify
    split
    · exact State.verifyAuth_only (by decide) _ _ _ _ _
    · rfl
  have hnow := congrArg State.now h
  exact hnow

/-- The checks of R466 in order, for a message that matches subscription `n`. -/
theorem State.gsReceive_of_match {s : State} {m : GooseMsg} {n : Nat} (hcut : s.cut 0 = false) (hmatch : s.gsMatch m = some n) :
    s.gsReceive m =
      if ¬bit (s.reg (Od.gsIngressMask n)) m.port = true then s.gsCount (Od.gsWrongPort n) n
      else if ¬((s.reg (Od.gsConfRev n) = 0 ∨ s.reg (Od.gsConfRev n) = m.confRev) ∧
          (s.blob (Od.gsDatset n) = [] ∨ s.blob (Od.gsDatset n) = m.datSet)) then
        ((s.gsMark n 3).gsCount (Od.gsConfRevMismatch n) n).gsFlag 4 n
      else if ¬m.members.map (·.type) = s.subTypes n then s.gsCount (Od.gsMalformed n) n
      else if ¬(m.sim = s.on (Od.gsSimAccept n) ∧ (m.test = true → s.on (Od.gsTestAccept n) = true)) then
        s.gsCount (Od.gsTestSimDiscard n) n
      else if ¬(s.gsVerify n m).1 = true then (((s.gsVerify n m).2.gsMark n 4).gsCount (Od.gsAuthFail n) n).gsFlag 3 n
      else if (s.sub n).inSequence s.now m = true then (s.gsVerify n m).2.gsAccept n m
      else if m.stNum = (s.sub n).stNum ∧ m.sqNum = (s.sub n).sqNum then (s.gsVerify n m).2.gsCount (Od.gsDuplicate n) n
      else (s.gsVerify n m).2.gsCount (Od.gsStale n) n := by
  have hfound : (if s.cut 0 then none else s.gsMatch m) = some n := by rw [hcut, hmatch]; rfl
  unfold State.gsReceive
  rw [hfound]
  refine if_congr (by simp) rfl (if_congr ?_ rfl (if_congr Iff.rfl rfl (if_congr ?_ rfl (if_congr (by simp [State.gsVerify]) rfl
    (if_congr Iff.rfl rfl (if_congr (by simp) rfl rfl))))))
  · simp [not_and_or, -not_and]
  · by_cases ht : m.test = true <;> by_cases hs : m.sim = s.on (Od.gsSimAccept n) <;> simp [ht, hs]

/-- A message that matches no subscription, or finds link 0 failed, changes nothing (R28, R465). -/
theorem State.gsReceive_of_unmatched {s : State} {m : GooseMsg} (h : s.gsMatch m = none ∨ s.cut 0 = true) : s.gsReceive m = s := by
  have hnone : (if s.cut 0 then none else s.gsMatch m) = none := by
    rcases h with h | h <;> simp [h]
  unfold State.gsReceive
  rw [hnone]

theorem State.gsVerify_iff (s : State) (n : Nat) (m : GooseMsg) :
    (s.gsVerify n m).1 = true ↔
      s.on (Od.gsAuthMode n) = false ∨ (s.verifyAuth (s.reg (Od.gsKeySlotA n)) (s.reg (Od.gsKeySlotB n)) .gooseVerify m.auth).1 = true := by
  unfold State.gsVerify
  split <;> simp [*]

theorem exec_gooseMessageReceived (s : State) (a : Instant) (m : GooseMsg) :
    exec (.gooseMessageReceived a m) s = act (m.port < 32) 3 (s.arrive a) fun s => s.gsReceive m := rfl

/-- Settles O45: the checks of R466 are followed in order, each of which counts in its counter alone; a publication follows the cases of
`State.pubStep`. -/
theorem gooseChecksAndIntervals : Obligations.GooseChecksAndIntervals := by
  unfold Obligations.GooseChecksAndIntervals
  refine ⟨?_, ?_⟩
  · rintro s _ a m hpower hport rfl
    have hexec : exec (.gooseMessageReceived a m) s = .next ((s.arrive a).gsReceive m).settle :=
      (exec_gooseMessageReceived s a m).trans (act_on (decide_eq_true hport) (by rw [State.arrive_powered, hpower]))
    refine ⟨fun hnone => ?_, fun n hmatch hcut => ?_⟩
    · rw [← State.arrive_cut s a] at hnone
      exact hexec.trans (by rw [State.gsReceive_of_unmatched hnone])
    have hauth := (s.arrive a).gsVerify_iff n m
    have hreg {k : Nat} (hk : 0xE00000 ≤ k) : ((s.arrive a).gsVerify n m).2.reg k = s.reg k :=
      (State.gsVerify_reg _ _ _ hk).trans (s.arrive_reg a k)
    have hsub (i : Nat) : ((s.arrive a).gsVerify n m).2.sub i = s.sub i := (State.gsVerify_sub _ _ _ _).trans (s.arrive_sub a i)
    rw [State.gsReceive_of_match ((s.arrive_cut a 0).trans hcut) hmatch] at hexec
    simp only [State.arrive_reg, State.arrive_blob, State.arrive_on, State.arrive_sub, State.subTypes] at hexec hauth
    dsimp only [State.subTypes]
    refine ⟨fun hport => ⟨_, hexec, ?_⟩, fun hport hconf => ⟨_, hexec, ?_⟩, fun hport hconf hform => ⟨_, hexec, ?_⟩,
      fun hport hconf hform hsim => ⟨_, hexec, ?_⟩, fun hport hconf hform hsim hbad => ⟨_, hexec, ?_⟩,
      fun hport hconf hform hsim hgood => ⟨fun hseq => ⟨_, hexec, ?_⟩, fun hseq hst hsq => ⟨_, hexec, ?_⟩, fun hseq hne => ⟨_, hexec, ?_⟩⟩⟩
    · rw [if_pos hport]
      exact gsFailed_count (by unfold Od.gsWrongPort; omega) (s.arrive_reg a _) (s.arrive_sub a)
    · rw [if_neg (not_not.mpr hport), if_pos hconf]
      exact gsFailed_mark (by unfold Od.gsConfRevMismatch; omega) (s.arrive_reg a _) (s.arrive_sub a) 3 4
    · rw [if_neg (not_not.mpr hport), if_neg (not_not.mpr hconf), if_pos hform]
      exact gsFailed_count (by unfold Od.gsMalformed; omega) (s.arrive_reg a _) (s.arrive_sub a)
    · rw [if_neg (not_not.mpr hport), if_neg (not_not.mpr hconf), if_neg (not_not.mpr hform), if_pos hsim]
      exact gsFailed_count (by unfold Od.gsTestSimDiscard; omega) (s.arrive_reg a _) (s.arrive_sub a)
    · rw [if_neg (not_not.mpr hport), if_neg (not_not.mpr hconf), if_neg (not_not.mpr hform), if_neg (not_not.mpr hsim),
        if_pos (mt hauth.mp hbad)]
      have hk : 0xE00000 ≤ Od.gsAuthFail n := by unfold Od.gsAuthFail; omega
      exact gsFailed_mark hk (hreg hk) hsub 4 3
    all_goals
      rw [if_neg (not_not.mpr hport), if_neg (not_not.mpr hconf), if_neg (not_not.mpr hform), if_neg (not_not.mpr hsim),
        if_neg (not_not.mpr (hauth.mpr hgood))]
    · have hnow := (s.arrive a).gsVerify_now n m
      rw [if_pos hseq]
      refine ⟨?_, ?_⟩
      · rw [State.settle_reg, State.gsAccept_frames, hreg (by unfold Od.gsFrames; omega)]
      · simp +contextual [State.gsAccept_sub, hsub, hnow]
    · have hk : 0xE00000 ≤ Od.gsDuplicate n := by unfold Od.gsDuplicate; omega
      rw [if_neg (by simp [hseq]), if_pos ⟨hst, hsq⟩]
      exact gsFailed_count hk (hreg hk) hsub
    · have hk : 0xE00000 ≤ Od.gsStale n := by unfold Od.gsStale; omega
      rw [if_neg (by simp [hseq]), if_neg fun h => hne.elim (absurd h.1) (absurd h.2)]
      exact gsFailed_count hk (hreg hk) hsub
  · intro s j hold
    dsimp only
    refine ⟨fun hchanged => ?_, fun hchanged hdue => ?_, fun hchanged hwaits => ?_, ?_⟩
    · simp [State.pubStep, hold, hchanged]
    · simp [State.pubStep, hold, hchanged, hdue]
    · simp [State.pubStep, hold, hchanged, Nat.not_le.mpr hwaits]
      omega
    · simp only [State.pubStep]
      split
      · rfl
      · split
        · rfl
        · split <;> rfl

end Sys2Proof.Machine
end

section
set_option Elab.async false
namespace Sys2Proof.Machine

/-! ### O48: a lost lane of a pair link that has failed otherwise (R29, R359) -/

/-- A running module of a pair whose two lanes work while the link to the I/O die that holds them has failed, so that the pair link is down. -/
def cutPairState : State :=
  { power := { state := .run, domains := 2 ^ 11 }, pair := { enabled := true, lanesUp := [true, true] }, health := { linksFailed := [1] } }

/-- Losing lane 0 there leaves PAIR_LINK_LOST standing, though lane 1 works. -/
theorem laneLost_cutPairState_linkLost :
    (match exec (.laneLost 0 0) cutPairState with
      | .next t => bit (t.reg (Od.evStatus 81)) 1
      | _ => false) = true := by
  decide +kernel

/-- Refutes O48: PAIR_LINK_LOST stands while the pair link is down, which a failed link 1 (R29) brings about with a lane still working; the
statement ties the flag to the other lane alone. -/
theorem not_heartbeatsDigestsAndLanes : ¬ Obligations.HeartbeatsDigestsAndLanes := by
  unfold Obligations.HeartbeatsDigestsAndLanes
  intro h
  obtain ⟨-, -, -, -, -, -, -, -, -, hlanes⟩ :=
    h cutPairState (cutPairState.arrive 0) 0 ⟨false, false, false, none, 0, 0⟩ ⟨0, 0, 0, 0, 0, 0, 0, none⟩ ⟨[], [], false, false⟩ (by decide) rfl
  obtain ⟨-, hlost, -⟩ := hlanes 0 (by decide) rfl
  obtain ⟨t, ht, -, -, -, -, -, hflag⟩ := hlost rfl
  have hset := laneLost_cutPairState_linkLost
  rw [ht] at hset
  exact absurd (hset.symm.trans (hflag rfl).2) (by decide)

end Sys2Proof.Machine
end

section
set_option Elab.async false
namespace Sys2Proof.Machine

/-! ### Single parts of the state -/

theorem State.regs_of_only {s t : State} (h : t.only .regs = s.only .regs) : t.regs = s.regs := by
  have h := congrArg State.regs h
  exact h
theorem State.parts_of_only {s t : State} (h : t.only .parts = s.only .parts) : t.parts = s.parts := by
  have h := congrArg State.parts h
  exact h
theorem State.pair_of_only {s t : State} (h : t.only .pair = s.only .pair) : t.pair = s.pair := by
  have h := congrArg State.pair h
  exact h
theorem State.health_of_only {s t : State} (h : t.only .health = s.only .health) : t.health = s.health := by
  have h := congrArg State.health h
  exact h
theorem State.workTick_of_only {s t : State} (h : t.only .workTick = s.only .workTick) : t.workTick = s.workTick := by
  have h := congrArg State.workTick h
  exact h
theorem State.time_of_only {s t : State} (h : t.only .time = s.only .time) : t.time = s.time := by
  have h := congrArg State.time h
  exact h
theorem State.dp_of_only {s t : State} (h : t.only .dp = s.only .dp) : t.dp = s.dp := by
  have h := congrArg State.dp h
  exact h
theorem State.sw_of_only {s t : State} (h : t.only .sw = s.only .sw) : t.sw = s.sw := by
  have h := congrArg State.sw h
  exact h
theorem State.sec_of_only {s t : State} (h : t.only .sec = s.only .sec) : t.sec = s.sec := by
  have h := congrArg State.sec h
  exact h
theorem State.loops_of_only {s t : State} (h : t.only .loops = s.only .loops) : t.loops = s.loops := by
  have h := congrArg State.loops h
  exact h
theorem State.churn_of_only {s t : State} (h : t.only .churn = s.only .churn) : t.churn = s.churn := by
  have h := congrArg State.churn h
  exact h
theorem State.out_of_only {s t : State} (h : t.only .out = s.only .out) : t.out = s.out := by
  have h := congrArg State.out h
  exact h
theorem State.majorFrame_of_only {s t : State} (h : t.only .majorFrame = s.only .majorFrame) : t.majorFrame = s.majorFrame := by
  have h := congrArg State.majorFrame h
  exact h
theorem State.reg_of_only {s t : State} (h : t.only .regs = s.only .regs) (k : Nat) : t.reg k = s.reg k := by
  unfold State.reg
  rw [State.regs_of_only h]
theorem State.part_of_only {s t : State} (h : t.only .parts = s.only .parts) (n : Nat) : t.part n = s.part n := by
  unfold State.part
  rw [State.parts_of_only h]

/-- A table without a key holds nothing there. -/
theorem Tab.find_eq_none {α : Type} {t : Tab α} {j : Nat} (h : j ∉ t.map (·.1)) : Tab.find t j = none := by
  induction t with
  | nil => rfl
  | cons e t ih =>
    rw [List.map_cons, List.mem_cons, not_or] at h
    rw [Tab.find, if_neg (Ne.symm h.1), ih h.2]

/-! ### A partition, but for the interrupt that an event may raise in it -/

/-- A partition without its pending external interrupt, the one thing of it that an event may change (R251). -/
def State.quiet (s : State) (n : Nat) : Partition := { s.part n with extPending := false }

theorem State.quiet_of_only {s t : State} (h : t.only .parts = s.only .parts) (n : Nat) : t.quiet n = s.quiet n := by
  rw [State.quiet, State.part_of_only h, State.quiet]

theorem State.run_of_quiet {s t : State} {n : Nat} (h : t.quiet n = s.quiet n) : (t.part n).run = (s.part n).run := by
  have hrun := congrArg Partition.run h
  exact hrun
theorem State.window_of_quiet {s t : State} {n : Nat} (h : t.quiet n = s.quiet n) : (t.part n).window = (s.part n).window := by
  have hwindow := congrArg Partition.window h
  exact hwindow

/-- What no partition but for its pending interrupt tells, a fold that keeps it step by step keeps. -/
theorem State.foldl_quiet {α β : Type} (proj : β → State) {f : β → α → β} {n : Nat} (h : ∀ x a, (proj (f x a)).quiet n = (proj x).quiet n)
    (l : List α) (x : β) : (proj (l.foldl f x)).quiet n = (proj x).quiet n := by
  induction l generalizing x with
  | nil => rfl
  | cons a l ih => rw [List.foldl_cons, ih, h]

theorem State.ringInterrupt_quiet (s : State) (p n : Nat) : (s.ringInterrupt p).quiet n = s.quiet n := by
  unfold State.ringInterrupt
  split
  · split
    · exact State.quiet_of_only (State.msix_only (by decide) s p) n
    · split
      · by_cases hn : n = s.reg (Od.pailPartition p)
        · rw [State.quiet, hn, State.part_modPart_self]
          rfl
        · rw [State.quiet, State.part_modPart_ne _ _ hn]
          rfl
      · rfl
  · rfl

theorem State.overflowEntry_quiet (s : State) (p n : Nat) : (s.overflowEntry p).1.quiet n = s.quiet n := by
  unfold State.overflowEntry
  dsimp only
  split
  · rw [State.ringInterrupt_quiet]
    exact State.quiet_of_only ((State.modPail_only (by decide) _ _ _).trans (State.ringEntry_only (by decide) ..)) n
  · rfl

theorem State.ringPost_quiet (s : State) (p type source data time n : Nat) :
    (s.ringPost p type source data time).1.quiet n = s.quiet n := by
  unfold State.ringPost
  dsimp only
  split
  · rfl
  · split
    · exact State.quiet_of_only (State.modPail_only (by decide) _ _ _) n
    · rw [State.ringInterrupt_quiet, State.quiet_of_only (State.ringEntry_only (by decide) ..), State.overflowEntry_quiet]

theorem State.quiet_ite_fst {β : Type} (c : Prop) [Decidable c] (x y : State × β) (n : Nat) :
    (if c then x else y).1.quiet n = if c then x.1.quiet n else y.1.quiet n := apply_ite (fun z => State.quiet z.1 n) c x y

theorem State.foldl_fst_quiet {α β : Type} {f : State × β → α → State × β} {n : Nat} (h : ∀ x a, (f x a).1.quiet n = x.1.quiet n)
    (l : List α) (x : State × β) : (l.foldl f x).1.quiet n = x.1.quiet n := State.foldl_quiet Prod.fst h l x

theorem State.moduleEntry_quiet (s : State) (p source data time n : Nat) : (s.moduleEntry p source data time).1.quiet n = s.quiet n := by
  have hrun (t : State) (e : Nat × Nat × Nat × Bool) := State.quiet_of_only (State.runEntry_only (part := .parts) (by decide) t p time e) n
  have hpail (t : State) (f : Pail → Pail) := State.quiet_of_only (State.modPail_only (part := .parts) (by decide) t p f) n
  simp only [State.moduleEntry, State.quiet_ite_fst, State.ringPost_quiet, hpail, State.foldl_fst_quiet, hrun, implies_true, ite_self]

theorem State.post_quiet (s : State) (p type source data time n : Nat) : (s.post p type source data time).quiet n = s.quiet n := by
  unfold State.post
  dsimp only
  split
  · rw [State.ringPost_quiet, State.ringPost_quiet]
  · rw [State.ringPost_quiet]

theorem State.postModule_quiet (s : State) (p source data time n : Nat) : (s.postModule p source data time).quiet n = s.quiet n := by
  unfold State.postModule
  dsimp only
  split
  · rw [State.ringPost_quiet, State.moduleEntry_quiet]
  · rw [State.moduleEntry_quiet]

theorem State.quiet_ite (c : Prop) [Decidable c] (s t : State) (n : Nat) :
    (if c then s else t).quiet n = if c then s.quiet n else t.quiet n := apply_ite (State.quiet · n) c s t

theorem State.foldl_state_quiet {α : Type} {f : State → α → State} {n : Nat} (h : ∀ t a, (f t a).quiet n = t.quiet n) (l : List α)
    (s : State) : (l.foldl f s).quiet n = s.quiet n := State.foldl_quiet id h l s

theorem State.notify_quiet (s : State) (m n : Nat) : (s.notify m).quiet n = s.quiet n := by
  have hsession (t : State) (sid : Nat) := State.quiet_of_only (State.notifySession_only (part := .parts) (by decide) t sid m) n
  have hmsix (t : State) (v : Nat) := State.quiet_of_only (State.msix_only (part := .parts) (by decide) t v) n
  simp only [State.notify, State.quiet_ite, State.foldl_state_quiet, State.postModule_quiet, hsession, hmsix, implies_true, ite_self]

theorem State.setFlag_quiet (s : State) (m flag : Nat) (info : Option Nat) (n : Nat) : (s.setFlag m flag info).quiet n = s.quiet n := by
  have hreg (t : State) (k v : Nat) := State.quiet_of_only (State.setReg_only (part := .parts) (by decide) t k v) n
  have hhealth (t : State) (x : Health) := State.quiet_of_only (State.with_health_only (part := .parts) (by decide) t x) n
  simp only [State.setFlag, State.quiet_ite, State.notify_quiet, hreg, hhealth, ite_self]

theorem State.stand_quiet (s : State) (m flag : Nat) (holds : Bool) (info : Option Nat) (n : Nat) :
    (s.stand m flag holds info).quiet n = s.quiet n := by
  have hreg (t : State) (k v : Nat) := State.quiet_of_only (State.setReg_only (part := .parts) (by decide) t k v) n
  simp only [State.stand, State.quiet_ite, State.setFlag_quiet, hreg, ite_self]

end Sys2Proof.Machine
end

section
set_option Elab.async false
namespace Sys2Proof.Machine

/-! ### Bits of a word with a field replaced -/

/-- A word is what lies above a field, the field, and what lies below it. -/
theorem word_eq_around_field (w lo n : Nat) : w = 2 ^ lo * (2 ^ n * (w / 2 ^ (lo + n)) + field w lo n) + w % 2 ^ lo := by
  have hhigh : w / 2 ^ lo / 2 ^ n = w / 2 ^ (lo + n) := by rw [Nat.div_div_eq_div_mul, ← Nat.pow_add]
  have hfield : field w lo n = w / 2 ^ lo % 2 ^ n := by rw [field, Nat.shiftRight_eq_div_pow]
  rw [hfield, ← hhigh, Nat.div_add_mod, Nat.div_add_mod]

theorem setField_eq (w lo n v : Nat) : setField w lo n v = 2 ^ lo * (2 ^ n * (w / 2 ^ (lo + n)) + v % 2 ^ n) + w % 2 ^ lo := by
  have hw := word_eq_around_field w lo n
  have hle : field w lo n * 2 ^ lo ≤ w := by
    rw [field, Nat.shiftRight_eq_div_pow]
    exact (Nat.mul_le_mul_right _ (Nat.mod_le _ _)).trans (Nat.div_mul_le_self w _)
  rw [Nat.mul_add] at hw ⊢
  rw [setField, Nat.mul_comm (v % 2 ^ n)]
  rw [Nat.mul_comm] at hle ⊢
  generalize hA : 2 ^ lo * (2 ^ n * (w / 2 ^ (lo + n))) = A at *
  generalize hB : 2 ^ lo * field w lo n = B at *
  omega

theorem bit_around_field {hi mid lo n j low : Nat} (hlow : low < 2 ^ lo) (hmid : mid < 2 ^ n) :
    Nat.testBit (2 ^ lo * (2 ^ n * hi + mid) + low) j =
      if j < lo then low.testBit j else if j - lo < n then mid.testBit (j - lo) else hi.testBit (j - lo - n) := by
  rw [Nat.testBit_two_pow_mul_add _ hlow, Nat.testBit_two_pow_mul_add _ hmid]

theorem bit_setField_of_lt {lo j : Nat} (h : j < lo) (w n v : Nat) : bit (setField w lo n v) j = bit w j := by
  have hlow : w % 2 ^ lo < 2 ^ lo := Nat.mod_lt _ (Nat.two_pow_pos lo)
  rw [setField_eq, bit, Nat.testBit_two_pow_mul_add _ hlow, if_pos h, Nat.testBit_mod_two_pow]
  simp [h, bit]

theorem bit_setBit (w i j : Nat) (b : Bool) : bit (setBit w i b) j = if j = i then b else bit w j := by
  have hlow : w % 2 ^ i < 2 ^ i := Nat.mod_lt _ (Nat.two_pow_pos i)
  have hfield : field w i 1 < 2 ^ 1 := Nat.mod_lt _ (by decide)
  have hb : b2n b % 2 ^ 1 < 2 ^ 1 := Nat.mod_lt _ (by decide)
  conv_rhs => rw [word_eq_around_field w i 1]
  rw [setBit, setField_eq, bit, bit, bit_around_field hlow hb, bit_around_field hlow hfield]
  rcases Nat.lt_trichotomy j i with hj | rfl | hj
  · simp [hj, hj.ne]
  · cases b <;> simp [b2n]
  · have h1 : ¬j - i < 1 := by omega
    have h2 : ¬j < i := by omega
    simp only [h1, h2, hj.ne', if_false]

/-- A status word keeps its flags when one is set; INFO lies above them. -/
theorem bit_statusSet {f j : Nat} (hj : j < 16) (w : Nat) (info : Option Nat) :
    bit (statusSet w f info) j = (decide (j = f) || bit w j) := by
  have hset : bit (setBit w f true) j = (decide (j = f) || bit w j) := by
    rw [bit_setBit]
    split <;> simp_all
  cases info with
  | none => exact hset
  | some i => exact (bit_setField_of_lt hj _ _ _).trans hset

end Sys2Proof.Machine
end

section
set_option Elab.async false
namespace Sys2Proof.Machine

/-! ### The entries and flags that tell of faults, which the rest of a fault's handling leaves as they are -/

/-- The entries that count errors and tests and name the manager's herd. -/
def faultCounts : List Nat := [Od.healthCorrectedErrors, Od.healthUncorrectedErrors, Od.healthMemDiscard, Od.stPasses, Od.stFails, Od.stDeferred,
  Od.mgrManagerHerd]

/-- The flags, by their source, that are not standing: nothing but a write of STATUS ends them. -/
def faultFlags : List (Nat × Nat) := [(112, 4), (112, 5), (112, 6), (112, 7), (112, 10), (113, 0), (113, 1)]

/-- The entries a step from `s` to `t` has to leave alone to keep these. -/
def faultEntries : List Nat := faultCounts ++ faultFlags.map fun e => Od.evStatus e.1

/-- The counts are as before, no flag has ended, no unit retired is back, and the rows' spares are those of before. -/
structure FaultsKept (s t : State) : Prop where
  counts : ∀ k ∈ faultCounts, t.reg k = s.reg k
  flags : ∀ e ∈ faultFlags, bit (s.reg (Od.evStatus e.1)) e.2 = true → bit (t.reg (Od.evStatus e.1)) e.2 = true
  out : ∀ n ∈ s.health.out, n ∈ t.health.out
  spares : t.health.spareRows = s.health.spareRows

namespace FaultsKept

variable {s t u : State}

theorem refl (s : State) : FaultsKept s s := ⟨fun _ _ => rfl, fun _ _ h => h, fun _ h => h, rfl⟩

theorem trans (h : FaultsKept s t) (h' : FaultsKept t u) : FaultsKept s u where
  counts k hk := (h'.counts k hk).trans (h.counts k hk)
  flags e he hb := h'.flags e he (h.flags e he hb)
  out n hn := h'.out n (h.out n hn)
  spares := h'.spares.trans h.spares

theorem of_reg (h : ∀ k ∈ faultEntries, t.reg k = s.reg k) (hout : ∀ n ∈ s.health.out, n ∈ t.health.out)
    (hspares : t.health.spareRows = s.health.spareRows) : FaultsKept s t where
  counts k hk := h k (List.mem_append_left _ hk)
  flags _ he hb := (h _ (List.mem_append_right _ (List.mem_map_of_mem he))).symm ▸ hb
  out := hout
  spares := hspares

/-- What changes neither an entry nor the faults' record keeps them. -/
theorem of_only {l : List StatePart} (h : ∀ {part}, part ∉ l → t.only part = s.only part) (hl : .regs ∉ l ∧ .health ∉ l := by decide) :
    FaultsKept s t := by
  have hhealth := State.health_of_only (h hl.2)
  exact of_reg (fun k _ => State.reg_of_only (h hl.1) k) (fun n hn => hhealth ▸ hn) (hhealth ▸ rfl)

theorem ite {c : Prop} [Decidable c] (h : FaultsKept s t) (h' : FaultsKept s u) : FaultsKept s (if c then t else u) := by
  split
  · exact h
  · exact h'

theorem each {α : Type} {f : α → State → State} (h : ∀ a t, FaultsKept t (f a t)) (s : State) (l : List α) : FaultsKept s (s.each l f) := by
  induction l generalizing s with
  | nil => exact refl s
  | cons a l ih => exact (h a s).trans (ih (f a s))

end FaultsKept

theorem State.setHealth_faults (s : State) (f : Health → Health) (hout : ∀ n ∈ s.health.out, n ∈ (f s.health).out)
    (hspares : (f s.health).spareRows = s.health.spareRows) : FaultsKept s (s.setHealth f) :=
  .of_reg (fun _ _ => rfl) hout hspares

theorem State.setHerd_faults (s : State) (h : Nat) (x : Herd) : FaultsKept s (s.setHerd h x) := .of_reg (fun _ _ => rfl) (fun _ hn => hn) rfl

theorem State.setReg_faults (s : State) {k : Nat} (hk : k ∉ faultEntries) (v : Nat) : FaultsKept s (s.setReg k v) :=
  .of_reg (fun _ hj => State.reg_setReg_ne s v (ne_of_mem_of_not_mem hj hk)) (fun _ hn => hn) rfl

/-- Subindices from 0x10 on belong to none of them. -/
theorem not_mem_faultEntries {k : Nat} (h : 0x10 ≤ k % 256) : k ∉ faultEntries := by
  intro hk
  have hsmall : ∀ j ∈ faultEntries, j % 256 < 0x10 := by decide
  exact absurd (hsmall k hk) (Nat.not_lt.mpr h)

/-- An event changes nothing of the faults' record but the log of latest sources. -/
theorem State.setFlag_health (s : State) (n f : Nat) (info : Option Nat) :
    ∃ l, (s.setFlag n f info).health = { s.health with lastEvents := l } := by
  unfold State.setFlag
  dsimp only
  split
  · exact ⟨_, rfl⟩
  · refine ⟨(n :: s.health.lastEvents).take 16, ?_⟩
    rw [apply_ite State.health, State.notify_health, ite_self]
    split <;> rfl

theorem State.stand_health (s : State) (n f : Nat) (holds : Bool) (info : Option Nat) :
    ∃ l, (s.stand n f holds info).health = { s.health with lastEvents := l } := by
  unfold State.stand
  dsimp only
  repeat' split
  · exact ⟨_, rfl⟩
  · exact s.setFlag_health n f info
  all_goals exact ⟨_, rfl⟩

theorem State.setFlag_faults (s : State) (n f : Nat) (info : Option Nat) : FaultsKept s (s.setFlag n f info) := by
  obtain ⟨l, hl⟩ := s.setFlag_health n f info
  refine ⟨fun k hk => ?_, fun e he hb => ?_, fun n hn => hl ▸ hn, hl ▸ rfl⟩
  · have hlow : ∀ j ∈ faultCounts, j < 0xB00000 := by decide
    have hk := hlow k hk
    refine State.reg_setFlag_of_not_owns s n f info fun h => ?_
    unfold ownsEntry Od.evStatus Od.evLastSet Od.evResets at h
    omega
  · have hlt : ∀ e ∈ faultFlags, e.2 < 16 := by decide
    by_cases hn : e.1 = n
    · subst hn
      cases hup : s.sourceUp e.1
      · simp only [State.setFlag, hup, Bool.not_false, if_true, hb]
      · rw [State.status_setFlag s _ _ _ hup, bit_statusSet (hlt e he), hb, Bool.or_true]
    · have hne : Od.evStatus e.1 ≠ Od.evStatus n := by unfold Od.evStatus; omega
      have hlast : Od.evStatus e.1 ≠ Od.evLastSet n := by unfold Od.evStatus Od.evLastSet; omega
      have hresets : Od.evStatus e.1 ≠ Od.evResets n := by unfold Od.evStatus Od.evResets; omega
      rw [State.reg_setFlag s n f info hne hlast hresets, hb]

theorem State.stand_faults (s : State) {n f : Nat} (h : (n, f) ∉ faultFlags) (hn : Od.evStatus n ∉ faultCounts) (holds : Bool)
    (info : Option Nat) : FaultsKept s (s.stand n f holds info) := by
  unfold State.stand
  dsimp only
  split
  · exact .ite (.refl s) (s.setFlag_faults ..)
  · refine .ite ⟨fun k hk => State.reg_setReg_ne s _ fun e => hn (e ▸ hk), fun e he hb => ?_, fun _ hn => hn, rfl⟩ (.refl s)
    by_cases he1 : e.1 = n
    · subst he1
      have he2 : e.2 ≠ f := fun hf => h (hf ▸ he)
      rw [State.reg_setReg_self, bit_setBit, if_neg he2, hb]
    · rw [State.reg_setReg_ne s _ (by unfold Od.evStatus; omega), hb]

theorem State.countPort_faults (s : State) (p : Nat) {sub : Nat} (h : 0x10 ≤ sub) (hsub : sub < 0x100) (n : Nat) :
    FaultsKept s (s.countPort p sub n) := by
  have hk : (0x2040 + p) * 256 + sub ∉ faultEntries := not_mem_faultEntries (by omega)
  have hmap : Od.cntHalfRangeMap p ∉ faultEntries := not_mem_faultEntries (by unfold Od.cntHalfRangeMap; omega)
  unfold State.countPort
  dsimp only
  refine .ite ?_ (s.setReg_faults hk _)
  refine .trans ?_ (State.setFlag_faults ..)
  refine .trans ?_ (.of_only fun hpart => State.modPort_only hpart ..)
  exact (s.setReg_faults hk _).trans (State.setReg_faults _ hmap _)

/-! ### What the operations of a fault keep of them -/

theorem State.healthFlag_faults (s : State) (f : Nat) (info : Option Nat) : FaultsKept s (s.healthFlag f info) := s.setFlag_faults ..

theorem State.recordRetirement_faults (s : State) (unit cause count : Nat) : FaultsKept s (s.recordRetirement unit cause count) :=
  .ite (.refl s) (.trans (State.setHealth_faults _ _ (fun _ hn => List.mem_append_left _ hn) rfl) (State.healthFlag_faults ..))

theorem State.coverage_faults (s : State) : FaultsKept s s.coverage :=
  (s.setReg_faults (by decide) _).trans (State.stand_faults _ (by decide) (by decide) _ _)

theorem State.displace_faults (s : State) (u : Nat) : FaultsKept s (s.displace u) := .of_only fun hpart => State.displace_only hpart ..

theorem State.loseUnit_faults (s : State) (u cause count : Nat) : FaultsKept s (s.loseUnit u cause count) := by
  have hwork (n : Nat) (t : State) : FaultsKept t ((t.modPart n fun y => { y with regs := y.checkpoint, window := none }).loseWork n
      (t.workTick + 1)) :=
    .trans (.of_only fun hpart => State.modPart_only hpart ..) (.of_only fun hpart => State.loseWork_only hpart ..)
  have hlost := fun x l => (s.setHerd_faults (u / 4) x).trans (.each hwork _ l)
  exact .ite ((hlost _ _).trans (State.displace_faults ..)) (hlost _ _)

theorem State.retireCore_faults (s : State) (unit cause count : Nat) : FaultsKept s (s.retireCore unit cause count) := by
  unfold State.retireCore
  dsimp only
  split
  · exact .ite (.refl s) (State.loseUnit_faults ..)
  · refine .trans ?_ (State.coverage_faults _)
    exact (s.recordRetirement_faults ..).trans (State.setHerd_faults ..)

theorem State.retireSlice_faults (s : State) (slice cause count group : Nat) : FaultsKept s (s.retireSlice slice cause count group) :=
  (s.recordRetirement_faults ..).trans (State.setFlag_faults ..)

theorem State.stomp_faults (s : State) (id p octets : Nat) : FaultsKept s (s.stomp id p octets) := by
  unfold State.stomp
  dsimp only
  refine .trans ?_ (.of_only fun hpart => State.emit_only hpart _ rfl)
  refine .trans ?_ (.of_only fun hpart => State.leave_only hpart ..)
  refine .trans ?_ (State.countPort_faults _ _ (by decide) (by decide) _)
  refine .trans ?_ (.of_only fun hpart => State.noteLoad_only hpart ..)
  refine .ite (.trans ?_ (.of_only fun hpart => State.pauseBegins_only hpart ..)) (.refl s)
  exact .of_only fun hpart => State.modPort_only hpart ..

theorem State.badFrame_faults (s : State) (id octets : Nat) : FaultsKept s (s.badFrame id octets) := by
  unfold State.badFrame
  split
  · exact .refl s
  · exact .each (fun e t => .ite (t.stomp_faults ..) (.of_only fun hpart => State.leave_only hpart ..)) s _

theorem State.timeFlag_faults (s : State) (f : Nat) : FaultsKept s (s.timeFlag f) := s.setFlag_faults ..

theorem State.setTimeUnit_faults (s : State) (f : TimeUnit → TimeUnit) : FaultsKept s (s.setTimeUnit f) :=
  .of_only fun hpart => State.setTimeUnit_only hpart ..

theorem State.setServo_faults (s : State) (v : Servo) : FaultsKept s (s.setServo v) := by
  refine .ite (.refl s) ?_
  refine .trans ?_ (State.stand_faults _ (by decide) (by decide) _ _)
  refine .trans ?_ (State.timeFlag_faults _ _)
  refine .trans ?_ (State.setTimeUnit_faults ..)
  refine .trans ?_ (State.setTimeUnit_faults ..)
  exact .of_only fun hpart => State.ppsRefresh_only hpart _

theorem State.loseSource_faults (s : State) : FaultsKept s s.loseSource := by
  unfold State.loseSource
  dsimp only
  split
  · exact ((State.setTimeUnit_faults ..).trans (State.setTimeUnit_faults ..)).trans (State.setServo_faults ..)
  · exact ((State.setTimeUnit_faults ..).trans (State.setTimeUnit_faults ..)).trans (State.setServo_faults ..)
  · exact State.setTimeUnit_faults ..

theorem State.takeSource_faults (s : State) (src : TimeSource) : FaultsKept s (s.takeSource src) := by
  have htime : FaultsKept s (s.setTimeUnit fun t => { t with
    source := some src, sourceValid := true, setOffset := 0, offset := if t.setOffset = 0 then t.offset else 0
    ppsLocked := t.ppsLocked || (decide (t.servo = .locked) && decide (src = .pps)) }) := State.setTimeUnit_faults ..
  have hflag := FaultsKept.ite (c := s.time.source ≠ some src) (htime.trans (State.timeFlag_faults _ 6)) htime
  unfold State.takeSource
  dsimp only
  split
  · exact hflag
  · exact hflag
  · exact hflag.trans (State.setServo_faults ..)

theorem State.reselect_faults (s : State) : FaultsKept s s.reselect := by
  have hs := FaultsKept.ite (c := (s.bestPort.map TimeSource.ptp).isSome) (.refl s)
    (s.setTimeUnit_faults fun t => { t with ptpOffset := none })
  unfold State.reselect
  dsimp only
  refine hs.trans ?_
  generalize (if (s.bestPort.map TimeSource.ptp).isSome then s else s.setTimeUnit fun t => { t with ptpOffset := none }) = t
  split
  · split
    · split
      · exact (State.takeSource_faults ..).trans (State.setReg_faults _ (k := Od.timeUtcOffset) (by decide) _)
      · exact State.takeSource_faults ..
    · exact State.takeSource_faults ..
  · exact .ite (State.loseSource_faults _) (.refl _)

theorem State.ptpLinkDown_faults (s : State) {p : Nat} (hp : p < 32) : FaultsKept s (s.ptpLinkDown p) := by
  have hdelay : Od.ptpPortMeanLinkDelay p ∉ faultEntries := fun h => by
    have hout : ∀ k ∈ faultEntries, k < 0x112000 ∨ 0x114000 ≤ k := by decide
    have := hout _ h
    unfold Od.ptpPortMeanLinkDelay at this
    omega
  have hrate : Od.ptpPortRateRatio p ∉ faultEntries := fun h => by
    have hout : ∀ k ∈ faultEntries, k < 0x112000 ∨ 0x114000 ≤ k := by decide
    have := hout _ h
    unfold Od.ptpPortRateRatio at this
    omega
  unfold State.ptpLinkDown
  dsimp only
  have hcleared (x : PtpPort) : FaultsKept s (((s.setPtpPort p x).setReg (Od.ptpPortMeanLinkDelay p) 0).setReg (Od.ptpPortRateRatio p) 0) :=
    .trans (.trans (.of_only fun hpart => State.setPtpPort_only hpart ..) (State.setReg_faults _ hdelay _)) (State.setReg_faults _ hrate _)
  exact .ite ((hcleared _).trans (State.reselect_faults _)) (hcleared _)

theorem State.linkLoss_faults (s : State) {p : Nat} (hp : p < 32) : FaultsKept s (s.linkLoss p) := by
  unfold State.linkLoss
  refine .ite (.refl s) ?_
  refine .trans ?_ (State.setFlag_faults ..)
  refine .trans ?_ (State.ptpLinkDown_faults _ hp)
  refine .trans ?_ (.of_only fun hpart => State.modPort_only hpart ..)
  have hcount (t : State) {sub : Nat} (h : 0x10 ≤ sub) (hs : sub < 0x100) : FaultsKept t (t.countPort p sub) := t.countPort_faults p h hs 1
  have hpause : FaultsKept s (match (s.port p).tx with
      | some (.pause _) => s.countPort p 0x27
      | _ => s) := by
    split
    · exact hcount s (by decide) (by decide)
    · exact .refl s
  have hqueued (t : State) (l : List Nat) : FaultsKept t (t.each l fun id t => (t.leave id p).countPort p 0x27) :=
    .each (fun id t => .trans (.of_only fun hpart => State.leave_only hpart ..) (hcount _ (by decide) (by decide))) t l
  dsimp only
  refine (hpause.trans (hqueued _ (s.framesAt p))).trans ?_
  generalize State.each _ (s.framesAt p) _ = t
  split
  · exact .refl t
  · refine .trans ?_ (.of_only fun hpart => State.dropLocal_only hpart ..)
    have hrx (t : State) (c : Prop) [Decidable c] (n : Nat) :
        FaultsKept t (if c then t else t.countPort p (if n < 64 then 0x23 else 0x21)) :=
      .ite (.refl t) (hcount t (by split <;> decide) (by split <;> decide))
    split
    · exact (hrx _ _ _).trans (State.badFrame_faults ..)
    · exact hrx _ _ _

theorem State.retirePort_faults (s : State) {p : Nat} (hp : p < 32) (cause count : Nat) : FaultsKept s (s.retirePort p cause count) := by
  unfold State.retirePort
  refine .trans ?_ (State.setFlag_faults ..)
  refine .trans ?_ (.of_only fun hpart => State.modPort_only hpart ..)
  exact (s.recordRetirement_faults ..).trans (State.linkLoss_faults _ hp)

end Sys2Proof.Machine
end

section
set_option Elab.async false
namespace Sys2Proof.Machine

/-! ### The commands -/

section
variable (s : State) (a : Instant) (m row b l : Nat) (place : MemPlace)

theorem exec_eccCorrected : exec (.eccCorrected a m row b) s =
    act (memOk m) (memDomain m) (s.arrive a) fun s => s.correctError m row b := rfl
theorem exec_patrolScrub : exec (.patrolScrub a m row b) s =
    act (memOk m) (memDomain m) (s.arrive a) fun s => s.scrubRow m row b := rfl
theorem exec_doubleBitError : exec (.doubleBitError a m row place) s =
    act (memOk m && row < 2 ^ 32 && memPlaceOk place) (memDomain m) (s.arrive a) fun s => s.doubleBit place := rfl
theorem exec_dieLinkFailed : exec (.dieLinkFailed a l) s = act (l < 6) 1 (s.arrive a) fun s => s.linkFails l := rfl

end

/-! ### A fault that is counted and flagged -/

/-- Counter `k` and flag `f` of HEALTH tell of one fault since `s`. -/
def FaultTold (k f : Nat) (s t : State) : Prop :=
  t.reg k = (s.reg k + 1) % 2 ^ 32 ∧ (s.sourceUp 112 = true → bit (t.reg (Od.evStatus 112)) f = true)

namespace FaultTold

variable {k f : Nat} {s t u : State}

theorem of_healthFlag (s : State) (hk : k ∈ faultCounts) (hf : f < 16) : FaultTold k f s ((s.count 32 k).healthFlag f) := by
  have hlow : ∀ j ∈ faultCounts, j < 0xB00000 := by decide
  have hk := hlow k hk
  refine ⟨?_, fun hup => ?_⟩
  · rw [State.healthFlag, State.reg_setFlag_of_not_owns _ _ _ _ fun h => ?_, State.count, State.reg_setReg_self]
    unfold ownsEntry Od.evStatus Od.evLastSet Od.evResets at h
    omega
  · rw [State.healthFlag, State.status_setFlag (s.count 32 k) _ _ _ hup, bit_statusSet hf, decide_eq_true rfl, Bool.true_or]

theorem kept (h : FaultTold k f s t) (hk : k ∈ faultCounts) (hf : (112, f) ∈ faultFlags) (hkept : FaultsKept t u) : FaultTold k f s u :=
  ⟨(hkept.counts k hk).trans h.1, fun hup => hkept.flags (112, f) hf (h.2 hup)⟩

theorem of_reg (h : FaultTold k f s t) (hreg : ∀ j, u.reg j = t.reg j) : FaultTold k f s u := by
  rw [FaultTold, hreg, hreg]
  exact h

theorem of_arrive {a : Instant} (h : FaultTold k f (s.arrive a) t) : FaultTold k f s t := by
  have hup : (s.arrive a).sourceUp 112 = s.sourceUp 112 := by unfold State.sourceUp; rw [State.arrive_power]
  rw [FaultTold, State.arrive_reg, hup] at h
  exact h

end FaultTold

/-! ### Corrected errors (R402, R414 to R416) -/

theorem memIndex_lt {m : Nat} (hm : memOk m = true) : memIndex m < memCount (memClass m) := of_decide_eq_true hm

theorem State.writeRepair_faults (s : State) (r : Repair) : FaultsKept s (s.writeRepair r) :=
  .ite (s.healthFlag_faults ..) (s.setHealth_faults _ (fun _ hn => hn) rfl)

theorem State.noSpareRow_faults (s : State) {m : Nat} (hm : memOk m = true) (row count : Nat) : FaultsKept s (s.noSpareRow m row count) := by
  unfold State.noSpareRow
  split
  · exact s.retireCore_faults ..
  · exact s.retireCore_faults ..
  · next h =>
      have hlt := memIndex_lt hm
      rw [h] at hlt
      exact s.retirePort_faults hlt ..
  · exact s.retireSlice_faults ..
  · exact .trans (s.setHealth_faults _ (fun _ hn => hn) rfl) (State.recordRetirement_faults ..)

/-- The retirement record of a unit takes it out. -/
theorem State.mem_out_recordRetirement (s : State) (unit cause count : Nat) : unit ∈ (s.recordRetirement unit cause count).health.out := by
  unfold State.recordRetirement
  split
  · next h => exact List.contains_iff_mem.mp h
  · exact (State.healthFlag_faults _ 0 (some unit)).out _ (List.mem_append_right _ (List.mem_singleton_self unit))

/-- A retirement changes of the faults' record the retirements, beside the log of latest sources. -/
theorem State.recordRetirement_health (s : State) (unit cause count : Nat) : ∃ l o r, (s.recordRetirement unit cause count).health =
    { s.health with lastEvents := l, out := o, retired := r } := by
  unfold State.recordRetirement
  split
  · exact ⟨_, _, _, rfl⟩
  · obtain ⟨l, hl⟩ := (s.setHealth fun h => { h with
      out := h.out ++ [unit]
      retired := h.retired ++ [⟨unit, cause, count % 256, s.now, s.reg Od.healthStartCount % 2 ^ 16⟩] }).setFlag_health 112 0 (some unit)
    exact ⟨l, _, _, hl⟩

/-- What a port without a spare row comes to: it is retired. -/
theorem State.retired_retirePort (s : State) (p cause count : Nat) : ((s.retirePort p cause count).port p).retired = true := by
  unfold State.retirePort
  rw [State.port, State.setFlag_ports]
  exact congrArg Port.retired (State.port_setPort_self _ p _)

/-! #### One corrected error -/

/-- The corrected errors at a row within the last 24 h, this one included. -/
def State.rowTimes (s : State) (m row : Nat) : List Nat :=
  s.now :: (Tab.look s.health.rowErrors (rowKey m row) []).filter fun e => s.now ≤ e + 86400 * second

/-- The state once a corrected error is counted, flagged and noted at its row. -/
def State.rowNoted (s : State) (m row : Nat) : State :=
  ((s.count 32 Od.healthCorrectedErrors).healthFlag 6).setHealth fun h => { h with
    rowErrors := Tab.put h.rowErrors (rowKey m row) (s.rowTimes m row) [] }

theorem State.correctError_of_out {s : State} {m row : Nat} (h : s.holderOut m = true ∨ rowKey m row ∈ s.health.lockedRows) (b : Nat) :
    s.correctError m row b = (s.count 32 Od.healthCorrectedErrors).healthFlag 6 := by
  rw [← List.contains_iff_mem, ← Bool.or_eq_true] at h
  exact if_pos h

theorem State.healthFlag_health (s : State) (f : Nat) (info : Option Nat) :
    ∃ l, (s.healthFlag f info).health = { s.health with lastEvents := l } := s.setFlag_health ..

theorem State.correctError_of_in {s : State} {m row : Nat} (hout : s.holderOut m = false) (hlock : rowKey m row ∉ s.health.lockedRows)
    (b : Nat) : s.correctError m row b =
      if (s.rowTimes m row).length < 4 then s.rowNoted m row
      else (s.rowNoted m row).repairRow m row b 7 (s.rowTimes m row).length := by
  obtain ⟨l, hl⟩ := (s.count 32 Od.healthCorrectedErrors).healthFlag_health 6 none
  have hnow : ((s.count 32 Od.healthCorrectedErrors).healthFlag 6).now = s.now := by
    rw [State.now, State.time_of_only (State.healthFlag_only (by decide) ..)]
    rfl
  have hc : ¬(s.holderOut m || s.health.lockedRows.contains (rowKey m row)) = true := by simp [hout, hlock]
  unfold State.correctError
  dsimp only
  rw [if_neg hc, hnow, hl]
  rfl

theorem State.rowNoted_told (s : State) (m row : Nat) : FaultTold Od.healthCorrectedErrors 6 s (s.rowNoted m row) :=
  (FaultTold.of_healthFlag s (by decide) (by decide)).of_reg fun _ => rfl

theorem State.rowNoted_health (s : State) (m row : Nat) : ∃ l, (s.rowNoted m row).health =
    { s.health with lastEvents := l, rowErrors := Tab.put s.health.rowErrors (rowKey m row) (s.rowTimes m row) [] } := by
  obtain ⟨l, hl⟩ := (s.count 32 Od.healthCorrectedErrors).healthFlag_health 6 none
  refine ⟨l, ?_⟩
  rw [State.rowNoted, State.setHealth_health, hl]
  rfl

/-- A repair record goes to the end of a log that has room. -/
theorem State.writeRepair_repairs {s : State} (h : s.health.repairs.length < 512) (r : Repair) :
    (s.writeRepair r).health.repairs = s.health.repairs ++ [r] := by
  rw [State.writeRepair, if_neg (Nat.not_le.mpr h), State.setHealth_health]

/-- A repair record leaves the rows and the retirements. -/
theorem State.writeRepair_health (s : State) (r : Repair) : ∃ l l', (s.writeRepair r).health =
    { s.health with lastEvents := l, repairs := l' } := by
  unfold State.writeRepair
  split
  · obtain ⟨l, hl⟩ := s.healthFlag_health 8 none
    exact ⟨l, _, hl⟩
  · exact ⟨_, _, rfl⟩

/-! #### The repair of a row -/

section
variable {s : State} {m row : Nat} (b : Nat)

/-- A row that has a spare is redirected to it. -/
theorem State.repairRow_of_spare (h : Tab.look s.health.spareRows (rowBankKey m row) 0 < memSpares (memClass m)) (count : Nat) :
    s.repairRow m row b 7 count = (s.setHealth fun h => { h with
        spareRows := Tab.put h.spareRows (rowBankKey m row) (Tab.look s.health.spareRows (rowBankKey m row) 0 + 1) 0
        rowErrors := Tab.put h.rowErrors (rowKey m row) [] [] }).writeRepair
      ⟨m, row, b, 7, 1, Tab.look s.health.spareRows (rowBankKey m row) 0, s.tickNow % 2 ^ 32⟩ := if_pos h

theorem State.repairRow_of_no_spare (h : memSpares (memClass m) ≤ Tab.look s.health.spareRows (rowBankKey m row) 0) (count : Nat) :
    s.repairRow m row b 7 count =
      (s.writeRepair ⟨m, row, b, 7, 3, 0xFFFF, s.tickNow % 2 ^ 32⟩).noSpareRow m row count := if_neg (Nat.not_lt.mpr h)

theorem State.repairRow_told (hm : memOk m = true) {s0 : State} (h : FaultTold Od.healthCorrectedErrors 6 s0 s) (count : Nat) :
    FaultTold Od.healthCorrectedErrors 6 s0 (s.repairRow m row b 7 count) := by
  rcases Nat.lt_or_ge (Tab.look s.health.spareRows (rowBankKey m row) 0) (memSpares (memClass m)) with hspare | hnone
  · rw [State.repairRow_of_spare b hspare]
    exact (h.of_reg (u := s.setHealth _) fun _ => rfl).kept (by decide) (by decide) (State.writeRepair_faults ..)
  · rw [State.repairRow_of_no_spare b hnone]
    exact h.kept (by decide) (by decide) ((s.writeRepair_faults _).trans (State.noSpareRow_faults _ hm ..))

theorem State.correctError_told (s : State) (hm : memOk m = true) : FaultTold Od.healthCorrectedErrors 6 s (s.correctError m row b) := by
  by_cases hout : s.holderOut m = true ∨ rowKey m row ∈ s.health.lockedRows
  · rw [State.correctError_of_out hout]
    exact .of_healthFlag s (by decide) (by decide)
  · obtain ⟨hout, hlock⟩ := not_or.mp hout
    rw [State.correctError_of_in (Bool.eq_false_iff.mpr hout) hlock]
    split
    · exact s.rowNoted_told m row
    · exact State.repairRow_told b hm (s.rowNoted_told m row) _

/-- What a row without a spare left comes to. -/
theorem State.noSpareRow_out (s : State) (m row count : Nat) :
    (memClass m = 5 → ((s.noSpareRow m row count).port (memIndex m)).retired = true) ∧
    (memClass m = 6 → sliceId (memIndex m) ∈ (s.noSpareRow m row count).health.out) ∧
    (memClass m ∈ [2, 3, 4, 7] → rowKey m row ∈ (s.noSpareRow m row count).health.lockedRows ∧
      unitId 7 m ∈ (s.noSpareRow m row count).health.out) := by
  refine ⟨fun h => ?_, fun h => ?_, fun h => ?_⟩
  · rw [State.noSpareRow, h]
    exact s.retired_retirePort ..
  · rw [State.noSpareRow, h]
    exact (State.setFlag_faults ..).out _ (s.mem_out_recordRetirement ..)
  · have hdefault : s.noSpareRow m row count = (s.setHealth fun h => { h with
        lockedRows := if h.lockedRows.contains (rowKey m row) then h.lockedRows else h.lockedRows ++ [rowKey m row]
        }).recordRetirement (unitId 7 m) 6 count := by
      simp only [List.mem_cons, List.not_mem_nil, or_false] at h
      rcases h with h | h | h | h <;> rw [State.noSpareRow, h] <;> rfl
    rw [hdefault]
    refine ⟨?_, State.mem_out_recordRetirement ..⟩
    obtain ⟨l, o, r, hl⟩ := State.recordRetirement_health (s.setHealth fun h => { h with
        lockedRows := if h.lockedRows.contains (rowKey m row) then h.lockedRows else h.lockedRows ++ [rowKey m row] }) (unitId 7 m) 6 count
    rw [hl, State.setHealth_health]
    dsimp only
    split
    · next h => exact List.contains_iff_mem.mp h
    · exact List.mem_append_right _ (List.mem_singleton_self _)

end

/-- A corrected error at a row whose memory is in use: noted, and from the fourth in 24 h on repaired. -/
theorem State.correctError_row {s : State} {m row : Nat} (hout : s.holderOut m = false) (hlock : rowKey m row ∉ s.health.lockedRows)
    (hm : memOk m = true) (b : Nat) :
    let t := s.correctError m row b
    let errs := (s.rowTimes m row).length
    let used := Tab.look s.health.spareRows (rowBankKey m row) 0
    (errs < 4 → (Tab.look t.health.rowErrors (rowKey m row) []).length = errs ∧ t.health.repairs = s.health.repairs ∧
      t.health.out = s.health.out ∧ t.health.spareRows = s.health.spareRows) ∧
    (4 ≤ errs → used < memSpares (memClass m) → Tab.look t.health.spareRows (rowBankKey m row) 0 = used + 1 ∧
      t.health.out = s.health.out ∧ Tab.look t.health.rowErrors (rowKey m row) [] = [] ∧
      (s.health.repairs.length < 512 → t.health.repairs = s.health.repairs ++ [⟨m, row, b, 7, 1, used, s.tickNow % 2 ^ 32⟩])) ∧
    (4 ≤ errs → memSpares (memClass m) ≤ used → t.health.spareRows = s.health.spareRows ∧
      (memClass m = 5 → (t.port (memIndex m)).retired = true) ∧ (memClass m = 6 → sliceId (memIndex m) ∈ t.health.out) ∧
      (memClass m ∈ [2, 3, 4, 7] → rowKey m row ∈ t.health.lockedRows ∧ unitId 7 m ∈ t.health.out)) := by
  obtain ⟨l, hl⟩ := s.rowNoted_health m row
  have htick : (s.rowNoted m row).tickNow = s.tickNow := by
    have htime : (s.rowNoted m row).time = s.time := State.time_of_only ((State.setHealth_only (by decide) ..).trans
      ((State.healthFlag_only (by decide) ..).trans (State.count_only (by decide) ..)))
    have hrate : (s.rowNoted m row).reg Od.tickRate = s.reg Od.tickRate := by
      refine (State.reg_setFlag _ _ _ _ (by decide) (by decide) (by decide)).trans ?_
      exact State.reg_setReg_ne s _ (by decide)
    rw [State.tickNow, State.rate, State.now, hrate, htime]
    rfl
  dsimp only
  rw [State.correctError_of_in hout hlock]
  refine ⟨fun hfew => ?_, fun hmany hspare => ?_, fun hmany hnone => ?_⟩
  · rw [if_pos hfew, hl]
    dsimp only
    exact ⟨by rw [Tab.look_put_self], rfl, rfl, rfl⟩
  · have hused : Tab.look (s.rowNoted m row).health.spareRows (rowBankKey m row) 0 = Tab.look s.health.spareRows (rowBankKey m row) 0 := by
      rw [hl]
    rw [if_neg (Nat.not_lt.mpr hmany), State.repairRow_of_spare b (hused ▸ hspare), hused, htick]
    generalize hr : Repair.mk m row b 7 1 (Tab.look s.health.spareRows (rowBankKey m row) 0) (s.tickNow % 2 ^ 32) = r
    obtain ⟨l1, l2, hw⟩ := State.writeRepair_health ((s.rowNoted m row).setHealth fun h => { h with
        spareRows := Tab.put h.spareRows (rowBankKey m row) (Tab.look s.health.spareRows (rowBankKey m row) 0 + 1) 0
        rowErrors := Tab.put h.rowErrors (rowKey m row) [] [] }) r
    refine ⟨?_, ?_, ?_, fun hroom => ?_⟩
    · rw [hw, State.setHealth_health]
      dsimp only
      rw [Tab.look_put_self]
    · rw [hw, State.setHealth_health, hl]
    · rw [hw, State.setHealth_health]
      dsimp only
      rw [Tab.look_put_self]
    · rw [State.writeRepair_repairs] <;> rw [State.setHealth_health, hl]
      exact hroom
  · have hused : Tab.look (s.rowNoted m row).health.spareRows (rowBankKey m row) 0 = Tab.look s.health.spareRows (rowBankKey m row) 0 := by
      rw [hl]
    rw [if_neg (Nat.not_lt.mpr hmany), State.repairRow_of_no_spare b (hused ▸ hnone)]
    refine ⟨?_, State.noSpareRow_out ..⟩
    rw [((State.writeRepair_faults ..).trans (State.noSpareRow_faults _ hm ..)).spares, hl]

/-! #### Patrol scrub -/

theorem State.scrubRow_of_not_patrolled {s : State} {m e : Nat} (h : memClass m ≠ 3 ∧ memClass m ≠ 7 ∨ e = 0) (row : Nat) :
    s.scrubRow m row e = s := by
  unfold State.scrubRow
  rcases h with ⟨h3, h7⟩ | rfl
  · rw [if_neg (by simp [h3, h7])]
  · exact ite_self s

theorem State.scrubRow_count {m : Nat} (hm : memOk m = true) (h : memClass m = 3 ∨ memClass m = 7) (s : State) (row : Nat) {e : Nat}
    (he : e ≠ 0) : (s.scrubRow m row e).reg Od.healthCorrectedErrors = (s.reg Od.healthCorrectedErrors + e) % 2 ^ 32 := by
  have hstep (t : State) : (t.drew.correctError m row (t.freeBelow (2 ^ 16))).reg Od.healthCorrectedErrors =
      (t.reg Od.healthCorrectedErrors + 1) % 2 ^ 32 := (State.correctError_told _ t.drew hm).1
  have hfold (l : List Nat) (t : State) (hl : l ≠ []) :
      (t.each l fun _ t => t.drew.correctError m row (t.freeBelow (2 ^ 16))).reg Od.healthCorrectedErrors =
        (t.reg Od.healthCorrectedErrors + l.length) % 2 ^ 32 := by
    induction l generalizing t with
    | nil => exact absurd rfl hl
    | cons x l ih =>
      rcases l with _ | ⟨y, l⟩
      · exact hstep t
      · refine (ih _ (List.cons_ne_nil _ _)).trans ?_
        rw [hstep, Nat.mod_add_mod, List.length_cons (a := x)]
        congr 1
        omega
  unfold State.scrubRow
  rw [if_pos (by simpa using h), hfold _ _ (by simpa using he), List.length_range]

/-! ### Double-bit errors (R402) -/

section
variable (s : State)

/-- A double-bit error, counted and flagged. -/
def State.doubleNoted : State := (s.count 32 Od.healthUncorrectedErrors).healthFlag 7

theorem State.doubleNoted_told : FaultTold Od.healthUncorrectedErrors 7 s s.doubleNoted := .of_healthFlag s (by decide) (by decide)

theorem State.doubleNoted_only {part : StatePart} (h : part ∉ [.regs, .parts, .pails, .health, .edp, .mem, .out]) :
    s.doubleNoted.only part = s.only part := (State.healthFlag_only h ..).trans (State.count_only (outside h) ..)

theorem State.doubleNoted_calm : s.doubleNoted.calm = s.calm := by rw [State.doubleNoted, State.healthFlag, setFlag_calm]; rfl

theorem State.doubleNoted_run (n : Nat) : (s.doubleNoted.part n).run = (s.part n).run :=
  State.run_of_quiet ((State.setFlag_quiet ..).trans (State.quiet_of_only (State.count_only (by decide) ..) n))

/-- What neither changes an entry nor takes back a flag still tells of the double-bit error. -/
theorem State.doubleNoted_kept {s t : State} (h : FaultsKept s.doubleNoted t) : FaultTold Od.healthUncorrectedErrors 7 s t :=
  s.doubleNoted_told.kept (by decide) (by decide) h

end

end Sys2Proof.Machine
end

section
set_option Elab.async false
namespace Sys2Proof.Machine

/-! ### Double-bit errors at their places -/

/-- The domain of a memory is one of those a start brings up. -/
theorem memDomain_range {m : Nat} (hm : memOk m = true) : 1 ≤ memDomain m ∧ memDomain m ≤ 11 := by
  have hlt {c : Nat} (hclass : memClass m = c) : memIndex m < memCount c := hclass ▸ memIndex_lt hm
  unfold memDomain
  split
  · next h =>
    have hindex : memIndex m < 60 := hlt h
    omega
  · next h =>
    have hindex : memIndex m < 60 := hlt h
    omega
  · next h =>
    have hindex : memIndex m < 12 := hlt h
    omega
  · decide
  · decide
  · decide
  · next h =>
    have hindex : memIndex m < 4 := hlt h
    omega
  · decide

theorem yields_doubleBit {s : State} {a : Instant} {m row : Nat} {place : MemPlace} {P : State → Prop}
    (hpower : ∀ d, 1 ≤ d → d ≤ 11 → s.powered d = true) (hm : memOk m = true) (hrow : row < 2 ^ 32) (hplace : memPlaceOk place = true)
    (h : P ((s.arrive a).doubleBit place).settle) : Yields (.doubleBitError a m row place) s P := by
  have hdomain := memDomain_range hm
  refine ⟨_, (exec_doubleBitError s a m row place).trans (act_on ?_ ?_), h⟩
  · rw [hm, hplace, decide_eq_true hrow]
    rfl
  · rw [State.arrive_powered, hpower _ hdomain.1 hdomain.2]

section
variable {s : State} {a : Instant}

/-- Every part that an event leaves alone is as before the error was noted. -/
theorem State.doubleNoted_arrive_only {part : StatePart} (h : part ∉ [.regs, .time, .parts, .pails, .health, .edp, .mem, .out]) :
    (s.arrive a).doubleNoted.only part = s.only part :=
  (State.doubleNoted_only _ (outside h)).trans (State.arrive_only (outside h) ..)

theorem FaultTold.settle {k f : Nat} {t : State} (h : FaultTold k f (s.arrive a) t) : FaultTold k f s t.settle :=
  (h.of_reg fun _ => rfl).of_arrive

/-- The error is told of wherever what follows keeps the entries of the faults. -/
theorem lost_of_kept {t : State} (h : FaultsKept (s.arrive a).doubleNoted t) : FaultTold Od.healthUncorrectedErrors 7 s t.settle :=
  (State.doubleNoted_kept h).settle

theorem State.settle_calm (t : State) : t.settle.calm = { t.calm with pins := t.settle.pins } := rfl

theorem doubleNoted_settle_calm : (s.arrive a).doubleNoted.settle.calm =
    { (s.arrive a).calm with pins := (s.arrive a).doubleNoted.settle.pins } := by
  rw [State.settle_calm, State.doubleNoted_calm]

theorem State.unitAt_settle_latchStand (t : State) (h g : Nat) : (t.latchStand h).settle.unitAt g = t.unitAt g := by
  unfold State.unitAt
  rw [State.settle_loops, State.latchStand, State.stand_loops]

/-! #### A partition's memory -/

theorem State.doubleBit_partition_of_stopped {n : Nat} (h : (s.part n).run = .stopped) : s.doubleBit (.partition n) = s.doubleNoted :=
  if_pos ((s.doubleNoted_run n).trans h)

theorem State.doubleBit_partition_of_not_stopped {n : Nat} (h : (s.part n).run ≠ .stopped) : s.doubleBit (.partition n) =
    (s.doubleNoted.modPart n fun x => { x with suppressedTo := max x.suppressedTo (s.doubleNoted.workTick + 1), held := true }).askRestart n 3
      (s.doubleNoted.workTick + 1) := if_neg fun hs => h ((s.doubleNoted_run n).symm.trans hs)

/-! #### Slots and records -/

theorem field_missingStatus (old : Nat) : field (missingStatus old) 0 2 = 1 ∧ field (missingStatus old) 8 3 = 2 := by
  have hlow : (old &&& 0x7880) % 2 ^ 7 = 0 := by
    rw [Nat.and_mod_two_pow]
    exact Nat.and_zero _
  have hbyte : (old &&& 0x7880) % 2 ^ 8 ≤ 0x80 := by
    rw [Nat.and_mod_two_pow]
    exact Nat.and_le_right
  have hcause : (old &&& 0x7880) / 2 ^ 8 % 2 ^ 3 = 0 := by
    rw [Nat.and_div_two_pow, Nat.and_mod_two_pow]
    exact Nat.and_zero _
  unfold missingStatus field
  rw [Nat.shiftRight_eq_div_pow, Nat.shiftRight_eq_div_pow]
  omega

theorem State.loseSlot_of_image {tick c : Nat} {im : ImageSlot} (him : Tab.find s.dp.images (tick % 64) = some im) (ht : im.tick = tick) :
    ((s.loseSlot tick c).chan c).restartDue = true ∧ Tab.find (s.loseSlot tick c).dp.images (tick % 64) =
      some { im with slots := Tab.insert im.slots c ⟨0, missingStatus (Tab.look im.slots c unmappedSlot).status⟩ } := by
  simp only [State.loseSlot, him, ht, ne_eq, not_true_eq_false, if_false]
  exact ⟨congrArg Channel.restartDue (State.chan_setChan_self ..), Tab.find_insert_self ..⟩

theorem State.loseRecord_of_record {tick c : Nat} {w : PhasorRec} (hw : Tab.find s.dp.phasors (tick % 64 * 8192 + c) = some w)
    (ht : w.tickLow = tick % 2 ^ 32) : Tab.find (s.loseRecord tick c).dp.phasors (tick % 64 * 8192 + c) =
      some { w with real := 0, imag := 0, mag := 0, angle := 0, status := missingStatus w.status } := by
  simp only [State.loseRecord, hw, ht, ne_eq, not_true_eq_false, if_false]
  exact Tab.find_insert_self ..

/-! #### Key cells and switch frames -/

theorem State.doubleBit_keyCell (s : State) (n : Nat) :
    n ∈ (s.doubleBit (.keyCell n)).sec.brokenCells ∧ (s.doubleBit (.keyCell n)).sec.cells = s.doubleNoted.sec.cells ∧
      (s.doubleBit (.keyCell n)).keyHolds n = false := by
  have hbroken : n ∈ (s.doubleBit (.keyCell n)).sec.brokenCells := by
    change n ∈ if s.doubleNoted.sec.brokenCells.contains n then s.doubleNoted.sec.brokenCells else s.doubleNoted.sec.brokenCells ++ [n]
    split
    · next h => exact List.contains_iff_mem.mp h
    · exact List.mem_append_right _ (List.mem_singleton_self n)
  exact ⟨hbroken, rfl, by rw [State.keyHolds, List.contains_iff_mem.mpr hbroken, Bool.not_true, Bool.and_false]⟩

theorem State.doubleBit_switchFrame_of_none {id : Nat} (h : Tab.find s.doubleNoted.sw.frames id = none) :
    s.doubleBit (.switchFrame id) = s.doubleNoted := by
  change (match Tab.find s.doubleNoted.sw.frames id with
    | none => s.doubleNoted
    | some f => (s.doubleNoted.badFrame id f.bytesIn).count 32 Od.healthMemDiscard) = _
  rw [h]

theorem State.doubleBit_switchFrame_of_some {id : Nat} {f : SwFrame} (h : Tab.find s.doubleNoted.sw.frames id = some f) :
    s.doubleBit (.switchFrame id) = (s.doubleNoted.badFrame id f.bytesIn).count 32 Od.healthMemDiscard := by
  change (match Tab.find s.doubleNoted.sw.frames id with
    | none => s.doubleNoted
    | some f => (s.doubleNoted.badFrame id f.bytesIn).count 32 Od.healthMemDiscard) = _
  rw [h]

theorem FaultTold.count {k f j : Nat} {s t : State} (h : FaultTold k f s t) (hk : k ≠ j) (hs : Od.evStatus 112 ≠ j) :
    FaultTold k f s (t.count 32 j) := by
  rw [FaultTold, State.count, State.reg_setReg_ne _ _ hk, State.reg_setReg_ne _ _ hs]
  exact h

/-- The noted error leaves the other entries below the event sources. -/
theorem State.reg_doubleNoted (s : State) {k : Nat} (hk : k < 0xB00000) (hne : k ≠ Od.healthUncorrectedErrors) :
    s.doubleNoted.reg k = s.reg k := by
  refine (State.reg_setFlag_of_not_owns _ _ _ _ fun ho => ?_).trans (State.reg_setReg_ne s _ hne)
  unfold ownsEntry Od.evStatus Od.evLastSet Od.evResets at ho
  omega

/-! #### Engines -/

section
variable {mark restart : State → State}

theorem State.engineLost_of_partner (h : s.hasPartner = true) : s.engineLost mark restart =
    if (mark s).pair.role = Role.lead then ((mark s).newRole 1 1 0 0).setPair fun p => { p with relinquishSent := true } else mark s := by
  simp [State.engineLost, h]

theorem State.engineLost_of_no_partner (h : s.hasPartner = false) : s.engineLost mark restart = restart s := by
  simp [State.engineLost, h]

/-- With a partner the engine is marked, and a lead gives up its role. -/
theorem State.engineLost_marks (h : s.hasPartner = true) (hmark : (mark s).pair = s.pair) :
    FaultsKept (mark s) (s.engineLost mark restart) ∧ (∀ {part}, part ∉ [.pair, .out] →
      (s.engineLost mark restart).only part = (mark s).only part) ∧
    (s.engineLost mark restart).pair.relinquishSent = (s.pair.relinquishSent || decide (s.pair.role = .lead)) := by
  rw [State.engineLost_of_partner h]
  split
  · next hlead =>
    refine ⟨.trans (.of_only fun hpart => State.newRole_only hpart ..) (.of_only fun hpart => State.setPair_only hpart ..),
      fun hpart => (State.setPair_only (outside hpart) ..).trans (State.newRole_only hpart ..), ?_⟩
    rw [hmark] at hlead
    simp [hlead, State.setPair]
  · next hlead =>
    rw [hmark] at hlead ⊢
    exact ⟨.refl _, fun _ => rfl, by simp [hlead]⟩

end

/-- What a loss of the churn engine's state does to it while the partner can replace it, and what it comes to without one. -/
theorem State.doubleBit_churn (s : State) : s.doubleBit .churn = s.doubleNoted.engineLost (fun t => t.setChurn fun c => { c with poisoned := true })
    fun t => if t.churn.state = .stopped then t else t.applyRestart 1 := by
  simp only [State.doubleBit, State.doubleNoted, decide_eq_true_eq]

theorem State.doubleBit_loops (s : State) : s.doubleBit .loops = s.doubleNoted.engineLost (fun t => t.setLoops fun l => { l with poisoned := true })
    fun t => (t.each t.heads fun h u => u.restartUnit h).latchStand 0 := rfl

theorem State.hasPartner_of_pair {s t : State} (h : t.pair = s.pair) : t.hasPartner = s.hasPartner := by
  unfold State.hasPartner State.paired
  rw [h]

/-- The heads of the units follow from the entries that enable and group the loops. -/
theorem State.heads_of_reg {s t : State} (h : ∀ l < 32, t.reg (Od.loopEnable l) = s.reg (Od.loopEnable l) ∧
    t.reg (Od.loopGroup l) = s.reg (Od.loopGroup l)) : t.heads = s.heads := by
  have hon (l : Nat) (hl : l < 32) : t.loopOn l = s.loopOn l := by
    unfold State.loopOn State.on
    rw [(h l hl).1]
  have hgroup (g : Nat) : t.groupLoops g = s.groupLoops g :=
    List.filter_congr fun l hl => by rw [hon l (List.mem_range.mp hl), (h l (List.mem_range.mp hl)).2]
  refine List.filter_congr fun l hl => ?_
  have hl := List.mem_range.mp hl
  unfold State.headOf
  rw [hon l hl, (h l hl).2, hgroup]

theorem State.lt_of_mem_heads {s : State} {g : Nat} (h : g ∈ s.heads) : g < 32 := by
  unfold State.heads at h
  exact List.mem_range.mp (List.mem_filter.mp h).1

/-- A restart leaves the entries below the event sources. -/
theorem State.reg_restartUnit (s : State) (h : Nat) {k : Nat} (hk : k < 0xB00000) : (s.restartUnit h).reg k = s.reg k := by
  have hunit (t : State) (l : List Nat) (x : Unit_) : ((t.each l fun l t => t.setLoop l {}).setUnit h x).reg k = t.reg k :=
    State.reg_of_only ((State.setUnit_only (by decide) ..).trans (State.each_only (fun _ _ => State.setLoop_only (by decide) ..) ..)) k
  unfold State.restartUnit
  dsimp only
  cases s.loopsOn
  · exact hunit ..
  · refine (State.reg_setFlag_of_not_owns _ _ _ _ fun ho => ?_).trans (hunit ..)
    unfold ownsEntry Od.evStatus Od.evLastSet Od.evResets at ho
    omega

theorem State.unitAt_restartUnit (s : State) (h g : Nat) :
    ((s.restartUnit h).unitAt g).out = if g = h then s.reg (Od.loopInitOutput g) else (s.unitAt g).out := by
  have hloops (t : State) : (t.when_ s.loopsOn fun t => t.loopFlag 4 h).unitAt g = t.unitAt g := by
    cases s.loopsOn
    · rfl
    · unfold State.unitAt
      rw [State.when_, if_pos rfl, State.loopFlag, State.setFlag_loops]
  have hmembers (l : List Nat) (t : State) : (t.each l fun l t => t.setLoop l {}).unitAt g = t.unitAt g := by
    induction l generalizing t with
    | nil => rfl
    | cons x l ih => exact ih (t.setLoop x {})
  unfold State.restartUnit
  dsimp only
  rw [hloops]
  split
  · next hg =>
    subst hg
    exact congrArg Unit_.out (Tab.look_put_self _ g _ _)
  · next hg => exact congrArg Unit_.out ((Tab.look_put_ne _ _ _ hg).trans (hmembers _ s))

/-- Every unit restarted puts out its initial output. -/
theorem State.unitAt_each_restartUnit {g : Nat} (hg : g < 32) (l : List Nat) (s : State)
    (h : g ∈ l ∨ (s.unitAt g).out = s.reg (Od.loopInitOutput g)) :
    ((s.each l fun h u => u.restartUnit h).unitAt g).out = s.reg (Od.loopInitOutput g) := by
  induction l generalizing s with
  | nil => exact h.resolve_left (List.not_mem_nil)
  | cons x l ih =>
    have hreg : (s.restartUnit x).reg (Od.loopInitOutput g) = s.reg (Od.loopInitOutput g) :=
      s.reg_restartUnit x (by unfold Od.loopInitOutput; omega)
    refine (ih (s.restartUnit x) ?_).trans hreg
    rw [hreg, State.unitAt_restartUnit]
    rcases h with h | h
    · rcases List.mem_cons.mp h with rfl | h
      · exact .inr (if_pos rfl)
      · exact .inl h
    · split
      · exact .inr rfl
      · exact .inr h

theorem State.restartUnit_faults (s : State) (h : Nat) : FaultsKept s (s.restartUnit h) := by
  have hunit (l : List Nat) (x : Unit_) : FaultsKept s ((s.each l fun l t => t.setLoop l {}).setUnit h x) :=
    .trans (.each (fun _ _ => .of_only fun hpart => State.setLoop_only hpart ..) s l) (.of_only fun hpart => State.setUnit_only hpart ..)
  unfold State.restartUnit
  dsimp only
  cases s.loopsOn
  · exact hunit ..
  · exact (hunit ..).trans (State.setFlag_faults ..)

end

end Sys2Proof.Machine
end

section
set_option Elab.async false
namespace Sys2Proof.Machine

/-! ### Die links (R27 to R30) -/

section
variable (s : State)

theorem State.lastGasp_faults (cause : Nat) : FaultsKept s (s.lastGasp cause) :=
  .ite (.refl s) (s.setHealth_faults _ (fun _ hn => hn) rfl)

theorem State.withdraw_faults (cause : Nat) : FaultsKept s (s.withdraw cause) := by
  refine .ite (s.lastGasp_faults cause) (.trans ?_ (State.lastGasp_faults _ cause))
  refine .trans (.ite ?_ (.refl s)) (.of_only fun hpart => State.setPower_only hpart ..)
  exact .of_only fun hpart => State.newRole_only hpart ..

theorem State.lastGasp_linksFailed (cause : Nat) : (s.lastGasp cause).health.linksFailed = s.health.linksFailed := by
  unfold State.lastGasp
  split <;> rfl

theorem State.withdraw_linksFailed (cause : Nat) : (s.withdraw cause).health.linksFailed = s.health.linksFailed := by
  unfold State.withdraw
  split
  · exact s.lastGasp_linksFailed cause
  · rw [State.lastGasp_linksFailed, State.setPower_health]
    split
    · rw [State.health_of_only (State.newRole_only (by decide) ..)]
    · rfl

/-- A module that withdraws stays withdrawn until its next start, whose cause is that of the first withdrawal. -/
theorem State.withdraw_power (cause : Nat) : (s.withdraw cause).power.withdrawn = true ∧
    (s.power.withdrawn = false → (s.withdraw cause).power.nextCause = cause) := by
  unfold State.withdraw
  split
  · next h =>
    rw [State.power_of_only (State.lastGasp_only (by decide) ..)]
    exact ⟨h, fun h' => absurd h (by simp [h'])⟩
  · rw [State.power_of_only (State.lastGasp_only (by decide) ..)]
    exact ⟨rfl, fun _ => rfl⟩

/-- A withdrawn module drops OUT_ENABLE and MOD_OK. -/
theorem State.settle_pins_of_withdrawn {s : State} (h : s.power.withdrawn = true) :
    s.settle.pins.outEnable = false ∧ s.settle.pins.modOk = false := by
  simp [State.settle, State.pinsOf, h]

/-- A standing condition that holds shows in STATUS where the source's block can set it. -/
theorem State.bit_stand {n f : Nat} (hf : f < 16) (hup : s.sourceUp n = true) (info : Option Nat) :
    bit ((s.stand n f true info).reg (Od.evStatus n)) f = true := by
  unfold State.stand
  dsimp only
  rw [if_pos rfl]
  split
  · assumption
  · rw [State.status_setFlag s n f info hup, bit_statusSet hf, decide_eq_true rfl, Bool.true_or]

/-- A link that fails, noted and reported. -/
def State.linkNoted (l : Nat) : State :=
  ((s.setHealth fun h => { h with linksFailed := h.linksFailed ++ [l] }).recordRetirement (unitId 6 l) 5 1).healthFlag 5 (some (unitId 6 l))

theorem State.linkNoted_only {part : StatePart} (h : part ∉ [.regs, .parts, .pails, .health, .edp, .mem, .out]) (l : Nat) :
    (s.linkNoted l).only part = s.only part :=
  (State.healthFlag_only h ..).trans ((State.recordRetirement_only h ..).trans (State.setHealth_only (outside h) ..))

theorem State.linkNoted_linksFailed (l : Nat) : (s.linkNoted l).health.linksFailed = s.health.linksFailed ++ [l] := by
  obtain ⟨e, he⟩ := ((s.setHealth fun h => { h with linksFailed := h.linksFailed ++ [l] }).recordRetirement (unitId 6 l) 5 1).healthFlag_health
    5 (some (unitId 6 l))
  obtain ⟨e', o, r, hr⟩ := (s.setHealth fun h => { h with linksFailed := h.linksFailed ++ [l] }).recordRetirement_health (unitId 6 l) 5 1
  rw [State.linkNoted, he]
  dsimp only
  rw [hr]
  rfl

theorem State.linkNoted_out (l : Nat) : unitId 6 l ∈ (s.linkNoted l).health.out :=
  (State.healthFlag_faults _ 5 (some (unitId 6 l))).out _ (State.mem_out_recordRetirement ..)

theorem State.linkNoted_flag (l : Nat) (hup : s.sourceUp 112 = true) : bit ((s.linkNoted l).reg (Od.evStatus 112)) 5 = true := by
  have hsource : ((s.setHealth fun h => { h with linksFailed := h.linksFailed ++ [l] }).recordRetirement (unitId 6 l) 5 1).sourceUp 112 =
      true := by
    unfold State.sourceUp at hup ⊢
    rw [State.power_of_only (State.recordRetirement_only (by decide) ..), State.setHealth_power]
    exact hup
  rw [State.linkNoted, State.healthFlag, State.status_setFlag _ _ _ _ hsource, bit_statusSet (by decide), decide_eq_true rfl, Bool.true_or]

/-- What a failed link has brought about, whichever link it is. -/
theorem State.linkNoted_kept {t : State} {l : Nat} (h : FaultsKept (s.linkNoted l) t)
    (hlinks : t.health.linksFailed = (s.linkNoted l).health.linksFailed) : t.health.linksFailed = s.health.linksFailed ++ [l] ∧
      t.cut l = true ∧ unitId 6 l ∈ t.health.out ∧ (s.sourceUp 112 = true → bit (t.reg (Od.evStatus 112)) 5 = true) := by
  have hlinks := hlinks.trans (s.linkNoted_linksFailed l)
  refine ⟨hlinks, ?_, h.out _ (s.linkNoted_out l), fun hup => h.flags (112, 5) (by decide) (s.linkNoted_flag l hup)⟩
  rw [State.cut, hlinks]
  exact List.contains_iff_mem.mpr (List.mem_append_right _ (List.mem_singleton_self l))

end

section
variable {s : State} {l : Nat}

theorem State.linkFails_of_failed (h : l ∈ s.health.linksFailed) : s.linkFails l = s := if_pos (List.contains_iff_mem.mpr h)

/-- A link between compute, network and I/O withdraws the module. -/
theorem State.linkFails_withdraws (h : l ∉ s.health.linksFailed) (hl : l = 0 ∨ l = 3) : s.linkFails l = (s.linkNoted l).withdraw 8 := by
  have hc : ¬s.health.linksFailed.contains l = true := fun hc => h (List.contains_iff_mem.mp hc)
  have h1 : l ≠ 1 := by omega
  unfold State.linkFails
  dsimp only
  rw [if_neg hc, if_neg h1, if_pos (by simpa using hl)]
  rfl

/-- Every window is shut. -/
def State.windowsShut (s : State) : State := s.each (s.parts.map (·.1)) fun n t => t.modPart n fun x => { x with window := none }

theorem State.part_each_shut (l : List Nat) (t : State) (p : Nat) :
    ((t.each l fun n t => t.modPart n fun x => { x with window := none }).part p).window =
      if p ∈ l then none else (t.part p).window := by
  induction l generalizing t with
  | nil => rfl
  | cons x l ih =>
    refine (ih _).trans ?_
    by_cases hp : p = x
    · subst hp
      simp
    · rw [State.part_modPart_ne _ _ hp]
      simp [hp]

theorem State.window_windowsShut (t : State) (p : Nat) : (t.windowsShut.part p).window = none := by
  rw [State.windowsShut, State.part_each_shut]
  split
  · rfl
  · next h => rw [State.part, Tab.look, Tab.find_eq_none h, Option.getD_none]

/-- Without its link to the I/O die the module withdraws, and no partition runs. -/
theorem State.linkFails_one (h : 1 ∉ s.health.linksFailed) : s.linkFails 1 =
    ((((s.linkNoted 1).withdraw 8).windowsShut).setHist fun h => { h with frames := [] }).linkStand 0 := by
  have hc : ¬s.health.linksFailed.contains 1 = true := fun hc => h (List.contains_iff_mem.mp hc)
  have hparts : ((s.linkNoted 1).withdraw 8).parts = (s.linkNoted 1).parts := State.parts_of_only (State.withdraw_only (by decide) ..)
  unfold State.linkFails State.windowsShut
  dsimp only
  rw [if_neg hc, if_pos rfl, hparts]
  rfl

/-- A link of the security die cuts it off. -/
theorem State.linkFails_security (h : l ∉ s.health.linksFailed) (hl : l ∉ [0, 1, 3]) :
    s.linkFails l = ((s.linkNoted l).setSec fun x => { x with secLost := true }).stand 96 0 true := by
  have hc : ¬s.health.linksFailed.contains l = true := fun hc => h (List.contains_iff_mem.mp hc)
  simp only [List.mem_cons, List.not_mem_nil, or_false, not_or] at hl
  obtain ⟨h0, h1, h3⟩ := hl
  unfold State.linkFails
  dsimp only
  rw [if_neg hc, if_neg h1, if_neg (by simp [h0, h3])]
  rfl

end

end Sys2Proof.Machine
end

section
set_option Elab.async false
namespace Sys2Proof.Machine

/-! ### The commands of a double-bit error, place by place -/

section
variable {s : State} {a : Instant} {m row : Nat} (hpower : ∀ d, 1 ≤ d → d ≤ 11 → s.powered d = true) (hm : memOk m = true)
  (hrow : row < 2 ^ 32)

theorem doubleNoted_arrive_dp : (s.arrive a).doubleNoted.dp = s.dp := State.dp_of_only (State.doubleNoted_arrive_only (by decide))
theorem doubleNoted_arrive_pair : (s.arrive a).doubleNoted.pair = s.pair := State.pair_of_only (State.doubleNoted_arrive_only (by decide))
theorem doubleNoted_arrive_churn : (s.arrive a).doubleNoted.churn = s.churn :=
  State.churn_of_only (State.doubleNoted_arrive_only (by decide))
theorem doubleNoted_arrive_loops : (s.arrive a).doubleNoted.loops = s.loops :=
  State.loops_of_only (State.doubleNoted_arrive_only (by decide))
theorem doubleNoted_arrive_sw : (s.arrive a).doubleNoted.sw = s.sw := State.sw_of_only (State.doubleNoted_arrive_only (by decide))
theorem doubleNoted_arrive_sec : (s.arrive a).doubleNoted.sec = s.sec := State.sec_of_only (State.doubleNoted_arrive_only (by decide))
theorem doubleNoted_arrive_workTick : (s.arrive a).doubleNoted.workTick = s.workTick :=
  State.workTick_of_only (State.doubleNoted_arrive_only (by decide))
theorem doubleNoted_arrive_hasPartner : (s.arrive a).doubleNoted.hasPartner = s.hasPartner :=
  State.hasPartner_of_pair doubleNoted_arrive_pair

/-- An entry between those of HEALTH and those of the event sources is as before. -/
theorem reg_doubleNoted_arrive {k : Nat} (hlow : 0x600000 ≤ k) (hhigh : k < 0xB00000) : (s.arrive a).doubleNoted.reg k = s.reg k :=
  (State.reg_doubleNoted _ hhigh (by unfold Od.healthUncorrectedErrors; omega)).trans (State.arrive_reg ..)

theorem doubleNoted_arrive_heads : (s.arrive a).doubleNoted.heads = s.heads :=
  State.heads_of_reg fun l hl => ⟨reg_doubleNoted_arrive (by unfold Od.loopEnable; omega) (by unfold Od.loopEnable; omega),
    reg_doubleNoted_arrive (by unfold Od.loopGroup; omega) (by unfold Od.loopGroup; omega)⟩

include hpower hm hrow

theorem yields_manager : Yields (.doubleBitError a m row .manager) s fun t => FaultTold Od.healthUncorrectedErrors 7 s t ∧
    t.calm = { (s.arrive a).calm with pins := t.pins } :=
  yields_doubleBit hpower hm hrow rfl ⟨lost_of_kept (.refl _), doubleNoted_settle_calm⟩

theorem yields_partition {n : Nat} (hn : n < 96) : Yields (.doubleBitError a m row (.partition n)) s fun t =>
    FaultTold Od.healthUncorrectedErrors 7 s t ∧
      ((s.part n).run = .stopped → t.calm = { (s.arrive a).calm with pins := t.pins }) ∧
      ((s.part n).run ≠ .stopped → (t.part n).run = .restarting ∧ (t.part n).held = true ∧ (t.part n).window = none ∧
        (t.part n).restartDue = some 3 ∧ s.workTick + 1 ≤ (t.part n).suppressedTo) := by
  refine yields_doubleBit hpower hm hrow (decide_eq_true hn) ?_
  by_cases hrun : (s.part n).run = .stopped
  · rw [State.doubleBit_partition_of_stopped (by rw [State.arrive_part, hrun])]
    exact ⟨lost_of_kept (.refl _), fun _ => doubleNoted_settle_calm, fun h => absurd hrun h⟩
  · rw [State.doubleBit_partition_of_not_stopped (by rw [State.arrive_part]; exact hrun)]
    refine ⟨lost_of_kept (a := a) ?_, fun h => absurd h hrun, fun _ => ?_⟩
    · exact .trans (.of_only fun hpart => State.modPart_only hpart ..) (.of_only fun hpart => State.askRestart_only hpart ..)
    · rw [State.settle_part, State.askRestart, State.part_modPart_self, State.part_modPart_self, doubleNoted_arrive_workTick]
      exact ⟨rfl, rfl, rfl, rfl, Nat.le_max_right ..⟩

theorem yields_imageSlot {tick c : Nat} {im : ImageSlot} (him : Tab.find s.dp.images (tick % 64) = some im) (ht : im.tick = tick)
    (hc : c < 8192) : Yields (.doubleBitError a m row (.imageSlot tick c)) s fun t => FaultTold Od.healthUncorrectedErrors 7 s t ∧
      (t.chan c).restartDue = true ∧ ∃ z, Tab.find t.dp.images (tick % 64) = some { im with slots := Tab.insert im.slots c ⟨0, z⟩ } ∧
        z = missingStatus (Tab.look im.slots c unmappedSlot).status ∧ field z 0 2 = 1 ∧ field z 8 3 = 2 := by
  rw [← doubleNoted_arrive_dp (a := a)] at him
  obtain ⟨hdue, hslot⟩ := State.loseSlot_of_image (c := c) him ht
  obtain ⟨hinvalid, hmissing⟩ := field_missingStatus (Tab.look im.slots c unmappedSlot).status
  refine yields_doubleBit hpower hm hrow (decide_eq_true hc) ⟨lost_of_kept (a := a) ?_, hdue, _, hslot, rfl, hinvalid, hmissing⟩
  exact .of_only fun hpart => State.loseSlot_only hpart ..

theorem yields_rawRing {tick c : Nat} (hraw : ∀ j, s.dp.lastReleased = some j → j < tick) (hc : c < 8192) :
    Yields (.doubleBitError a m row (.rawRing tick c)) s fun t => FaultTold Od.healthUncorrectedErrors 7 s t ∧
      t.dp = { s.dp with damaged := s.dp.damaged ++ [(tick, c)] } := by
  have hopen : ¬((s.arrive a).doubleNoted.dp.lastReleased.any fun i => tick ≤ i) = true := by
    rw [doubleNoted_arrive_dp]
    cases hlast : s.dp.lastReleased with
    | none => exact Bool.false_ne_true
    | some j => simp [hraw j hlast]
  have hring : (s.arrive a).doubleBit (.rawRing tick c) =
      (s.arrive a).doubleNoted.setDp fun d => { d with damaged := d.damaged ++ [(tick, c)] } := if_neg hopen
  refine yields_doubleBit hpower hm hrow (decide_eq_true hc) ?_
  rw [hring]
  refine ⟨lost_of_kept (.of_only fun hpart => State.setDp_only hpart ..), ?_⟩
  rw [State.settle_dp, State.setDp_dp, doubleNoted_arrive_dp]

theorem yields_phasorRecord {tick c : Nat} {w : PhasorRec} (hw : Tab.find s.dp.phasors (tick % 64 * 8192 + c) = some w)
    (ht : w.tickLow = tick % 2 ^ 32) (hc : c < 8192) : Yields (.doubleBitError a m row (.phasorRecord tick c)) s fun t =>
      FaultTold Od.healthUncorrectedErrors 7 s t ∧ Tab.find t.dp.phasors (tick % 64 * 8192 + c) =
        some { w with real := 0, imag := 0, mag := 0, angle := 0, status := missingStatus w.status } := by
  rw [← doubleNoted_arrive_dp (a := a)] at hw
  refine yields_doubleBit hpower hm hrow (decide_eq_true hc) ⟨lost_of_kept (a := a) ?_, State.loseRecord_of_record hw ht⟩
  exact .of_only fun hpart => State.loseRecord_only hpart ..

theorem yields_keyCell {n : Nat} (hn : n < 256) : Yields (.doubleBitError a m row (.keyCell n)) s fun t =>
    FaultTold Od.healthUncorrectedErrors 7 s t ∧ n ∈ t.sec.brokenCells ∧ t.sec.cells = s.sec.cells ∧ (2 ≤ n → t.keyHolds n = false) := by
  have hcell := (s.arrive a).doubleBit_keyCell n
  have hkept : FaultsKept (s.arrive a).doubleNoted ((s.arrive a).doubleBit (.keyCell n)) := .of_only fun hpart => State.setSec_only hpart ..
  refine yields_doubleBit hpower hm hrow (decide_eq_true hn) ?_
  generalize (s.arrive a).doubleBit (.keyCell n) = t at hcell hkept ⊢
  obtain ⟨hbroken, hcells, hunusable⟩ := hcell
  rw [doubleNoted_arrive_sec] at hcells
  exact ⟨lost_of_kept hkept, hbroken, hcells, fun _ => hunusable⟩

theorem yields_switchFrame_of_none {id : Nat} (hnone : Tab.find s.sw.frames id = none) :
    Yields (.doubleBitError a m row (.switchFrame id)) s fun t => FaultTold Od.healthUncorrectedErrors 7 s t ∧ t.sw = s.sw := by
  rw [← doubleNoted_arrive_sw (a := a)] at hnone
  refine yields_doubleBit hpower hm hrow rfl ?_
  rw [State.doubleBit_switchFrame_of_none hnone]
  exact ⟨lost_of_kept (.refl _), doubleNoted_arrive_sw⟩

theorem yields_switchFrame_of_some {id : Nat} (hsome : (Tab.find s.sw.frames id).isSome = true) :
    Yields (.doubleBitError a m row (.switchFrame id)) s fun t => FaultTold Od.healthUncorrectedErrors 7 s t ∧
      t.reg Od.healthMemDiscard = (s.reg Od.healthMemDiscard + 1) % 2 ^ 32 := by
  rw [← doubleNoted_arrive_sw (a := a)] at hsome
  obtain ⟨f, hf⟩ := Option.isSome_iff_exists.mp hsome
  have hbad := (s.arrive a).doubleNoted.badFrame_faults id f.bytesIn
  refine yields_doubleBit hpower hm hrow rfl ?_
  rw [State.doubleBit_switchFrame_of_some hf]
  refine ⟨((State.doubleNoted_kept hbad).count (by decide) (by decide)).settle, ?_⟩
  rw [State.settle_reg, State.count, State.reg_setReg_self, hbad.counts _ (by decide), State.reg_doubleNoted _ (by decide) (by decide),
    State.arrive_reg]

theorem yields_churn_of_partner (hp : s.hasPartner = true) : Yields (.doubleBitError a m row .churn) s fun t =>
    FaultTold Od.healthUncorrectedErrors 7 s t ∧ t.churn = { s.churn with poisoned := true } ∧ t.loops = s.loops ∧
      t.pair.relinquishSent = (s.pair.relinquishSent || decide (s.pair.role = .lead)) := by
  obtain ⟨hkept, hrest, hgives⟩ := State.engineLost_marks (s := (s.arrive a).doubleNoted)
    (mark := fun t => t.setChurn fun c => { c with poisoned := true })
    (restart := fun t => if t.churn.state = .stopped then t else t.applyRestart 1)
    (doubleNoted_arrive_hasPartner.trans hp) rfl
  rw [doubleNoted_arrive_pair] at hgives
  refine yields_doubleBit hpower hm hrow rfl ?_
  rw [State.doubleBit_churn]
  refine ⟨lost_of_kept (a := a) (.trans ?_ hkept), ?_, ?_, hgives⟩
  · exact .of_only fun hpart => State.setChurn_only hpart ..
  · exact (State.churn_of_only (hrest (by decide))).trans (by rw [State.setChurn_churn, doubleNoted_arrive_churn])
  · exact (State.loops_of_only (hrest (by decide))).trans doubleNoted_arrive_loops

theorem yields_loops_of_partner (hp : s.hasPartner = true) : Yields (.doubleBitError a m row .loops) s fun t =>
    FaultTold Od.healthUncorrectedErrors 7 s t ∧ t.loops = { s.loops with poisoned := true } ∧ t.churn = s.churn ∧
      t.pair.relinquishSent = (s.pair.relinquishSent || decide (s.pair.role = .lead)) := by
  obtain ⟨hkept, hrest, hgives⟩ := State.engineLost_marks (s := (s.arrive a).doubleNoted)
    (mark := fun t => t.setLoops fun c => { c with poisoned := true })
    (restart := fun t => (t.each t.heads fun h u => u.restartUnit h).latchStand 0) (doubleNoted_arrive_hasPartner.trans hp) rfl
  rw [doubleNoted_arrive_pair] at hgives
  refine yields_doubleBit hpower hm hrow rfl ?_
  rw [State.doubleBit_loops]
  refine ⟨lost_of_kept (a := a) (.trans ?_ hkept), ?_, ?_, hgives⟩
  · exact .of_only fun hpart => State.setLoops_only hpart ..
  · exact (State.loops_of_only (hrest (by decide))).trans (by rw [State.setLoops_loops, doubleNoted_arrive_loops])
  · exact (State.churn_of_only (hrest (by decide))).trans doubleNoted_arrive_churn

theorem yields_churn_of_no_partner (hp : s.hasPartner = false) : Yields (.doubleBitError a m row .churn) s fun t =>
    FaultTold Od.healthUncorrectedErrors 7 s t ∧ t.pair = s.pair ∧ (s.churn.state = .stopped → t.churn = s.churn) := by
  refine yields_doubleBit hpower hm hrow rfl ?_
  rw [State.doubleBit_churn, State.engineLost_of_no_partner (doubleNoted_arrive_hasPartner.trans hp), doubleNoted_arrive_churn]
  split
  · exact ⟨lost_of_kept (.refl _), doubleNoted_arrive_pair, fun _ => doubleNoted_arrive_churn⟩
  · next hruns =>
    refine ⟨lost_of_kept (a := a) ?_, ?_, fun h => absurd h hruns⟩
    · exact (State.setReg_faults _ (k := Od.churnMaxEvalNs) (by decide) 0).trans (.of_only fun hpart => State.setChurn_only hpart ..)
    · exact (State.pair_of_only (State.applyRestart_only (by decide) ..)).trans doubleNoted_arrive_pair

theorem yields_loops_of_no_partner (hp : s.hasPartner = false) : Yields (.doubleBitError a m row .loops) s fun t =>
    FaultTold Od.healthUncorrectedErrors 7 s t ∧ t.pair = s.pair ∧ ∀ g ∈ s.heads, (t.unitAt g).out = s.reg (Od.loopInitOutput g) := by
  refine yields_doubleBit hpower hm hrow rfl ?_
  rw [State.doubleBit_loops, State.engineLost_of_no_partner (doubleNoted_arrive_hasPartner.trans hp)]
  refine ⟨lost_of_kept (a := a) ?_, ?_, fun g hg => ?_⟩
  · exact .trans (.each (fun h t => t.restartUnit_faults h) _ _) (State.stand_faults _ (by decide) (by decide) _ _)
  · refine (State.pair_of_only ((State.latchStand_only (by decide) ..).trans (State.each_only (fun _ _ => ?_) ..))).trans
      doubleNoted_arrive_pair
    exact State.restartUnit_only (by decide) ..
  · have hg32 := State.lt_of_mem_heads hg
    have hunit := State.unitAt_each_restartUnit hg32 (s.arrive a).doubleNoted.heads (s.arrive a).doubleNoted
      (.inl (by rw [doubleNoted_arrive_heads]; exact hg))
    rw [reg_doubleNoted_arrive (by unfold Od.loopInitOutput; omega) (by unfold Od.loopInitOutput; omega)] at hunit
    rw [State.unitAt_settle_latchStand, hunit]

end

/-! ### The failure of a die link -/

section
variable {s : State} {a : Instant} {l : Nat} (hpower : ∀ d, 1 ≤ d → d ≤ 11 → s.powered d = true) (hl : l < 6)
include hpower hl

theorem exec_dieLinkFailed_next : exec (.dieLinkFailed a l) s = .next ((s.arrive a).linkFails l).settle :=
  (exec_dieLinkFailed s a l).trans (act_on (decide_eq_true hl) (by rw [State.arrive_powered, hpower 1 (by decide) (by decide)]))

end

section
variable {s : State} {l : Nat}

theorem State.linkNoted_power (s : State) (l : Nat) : (s.linkNoted l).power = s.power := State.power_of_only (s.linkNoted_only (by decide) l)

/-- The module withdraws with links 0 and 3. -/
theorem State.linkFails_withdraws_effects (h : l ∉ s.health.linksFailed) (hl : l = 0 ∨ l = 3) :
    FaultsKept (s.linkNoted l) (s.linkFails l) ∧ (s.linkFails l).health.linksFailed = (s.linkNoted l).health.linksFailed ∧
      (s.linkFails l).power.withdrawn = true ∧ (s.power.withdrawn = false → (s.linkFails l).power.nextCause = 8) := by
  rw [State.linkFails_withdraws h hl, ← s.linkNoted_power l]
  exact ⟨State.withdraw_faults .., State.withdraw_linksFailed .., State.withdraw_power ..⟩

/-- With link 1 it withdraws, and loses the curd store and what the partitions were doing. -/
theorem State.linkFails_one_effects (h : 1 ∉ s.health.linksFailed) :
    FaultsKept (s.linkNoted 1) (s.linkFails 1) ∧ (s.linkFails 1).health.linksFailed = (s.linkNoted 1).health.linksFailed ∧
      ((s.linkFails 1).power.withdrawn = true ∧ (s.power.withdrawn = false → (s.linkFails 1).power.nextCause = 8)) ∧
      (s.linkFails 1).hist.frames = [] ∧ ∀ p, ((s.linkFails 1).part p).window = none := by
  have hshut (t : State) : FaultsKept t t.windowsShut := .each (fun _ _ => .of_only fun hpart => State.modPart_only hpart ..) _ _
  have honly (t : State) {part : StatePart} (hpart : part ∉ [.parts]) : t.windowsShut.only part = t.only part :=
    State.each_only (fun _ _ => State.modPart_only hpart ..) ..
  have hlinks (t : State) : (t.linkStand 0).health.linksFailed = t.health.linksFailed := by
    obtain ⟨e, he⟩ := t.stand_health 81 1 (!t.linkUp) (some 0)
    rw [State.linkStand, he]
  rw [State.linkFails_one h, ← s.linkNoted_power 1]
  refine ⟨?_, ?_, ?_, ?_, fun p => ?_⟩
  · refine .trans ?_ (State.stand_faults _ (by decide) (by decide) _ _)
    refine .trans ?_ (.of_only fun hpart => State.setHist_only hpart ..)
    exact (State.withdraw_faults ..).trans (hshut _)
  · rw [hlinks, State.setHist_health, State.health_of_only (honly _ (by decide)), State.withdraw_linksFailed]
  · rw [State.power_of_only (State.linkStand_only (by decide) ..), State.setHist_power, State.power_of_only (honly _ (by decide))]
    exact State.withdraw_power ..
  · rw [State.linkStand, State.stand_hist]
    rfl
  · rw [State.linkStand, State.window_of_quiet (State.stand_quiet ..)]
    exact State.window_windowsShut _ p

/-- The others cut off the security die. -/
theorem State.linkFails_security_effects (h : l ∉ s.health.linksFailed) (hl : l ∉ [0, 1, 3]) :
    FaultsKept (s.linkNoted l) (s.linkFails l) ∧ (s.linkFails l).health.linksFailed = (s.linkNoted l).health.linksFailed ∧
      (s.linkFails l).sec.secLost = true ∧ (s.linkFails l).power = s.power ∧
      (s.sourceUp 96 = true → bit ((s.linkFails l).reg (Od.evStatus 96)) 0 = true) := by
  rw [State.linkFails_security h hl]
  refine ⟨?_, ?_, ?_, ?_, fun hup => State.bit_stand _ (by decide) ?_ none⟩
  · exact .trans (.of_only fun hpart => State.setSec_only hpart ..) (State.stand_faults _ (by decide) (by decide) _ _)
  · obtain ⟨e, he⟩ := ((s.linkNoted l).setSec fun x => { x with secLost := true }).stand_health 96 0 true none
    rw [he]
    rfl
  · rw [State.stand_sec]
    rfl
  · rw [State.stand_power, State.setSec_power, State.linkNoted_power]
  · unfold State.sourceUp at hup ⊢
    rw [State.setSec_power, State.linkNoted_power]
    exact hup

end

theorem yields_dieLinkFailed {s : State} {a : Instant} {l : Nat} (hpower : ∀ d, 1 ≤ d → d ≤ 11 → s.powered d = true) (hl : l < 6)
    (h : l ∉ s.health.linksFailed) : Yields (.dieLinkFailed a l) s fun t => t.health.linksFailed = s.health.linksFailed ++ [l] ∧
      t.cut l = true ∧ unitId 6 l ∈ t.health.out ∧ (s.sourceUp 112 = true → bit (t.reg (Od.evStatus 112)) 5 = true) ∧
      (l ∈ [0, 1, 3] → t.power.withdrawn = true ∧ t.pins.outEnable = false ∧ t.pins.modOk = false ∧
        (s.power.withdrawn = false → t.power.nextCause = 8)) ∧
      (l = 1 → t.hist.frames = [] ∧ t.linkUp = false ∧ ∀ p ∈ t.parts.map (·.1), (t.part p).window = none ∧ t.partSuppressed p = true) ∧
      (l ∈ [2, 4, 5] → t.sec.secLost = true ∧ t.power = s.power ∧ (s.sourceUp 96 = true → bit (t.reg (Od.evStatus 96)) 0 = true)) := by
  have hhealth : (s.arrive a).health = s.health := State.health_of_only (State.arrive_only (by decide) ..)
  have hpow : (s.arrive a).power = s.power := State.arrive_power ..
  have hup (n : Nat) : (s.arrive a).sourceUp n = s.sourceUp n := by
    unfold State.sourceUp
    rw [hpow]
  refine ⟨_, exec_dieLinkFailed_next hpower hl, ?_⟩
  rw [← hhealth] at h ⊢
  rw [← hpow, ← hup, ← hup]
  have hwithdraws {t : State} (ht : t.power.withdrawn = true ∧ ((s.arrive a).power.withdrawn = false → t.power.nextCause = 8)) :
      t.settle.power.withdrawn = true ∧ t.settle.pins.outEnable = false ∧ t.settle.pins.modOk = false ∧
        ((s.arrive a).power.withdrawn = false → t.settle.power.nextCause = 8) :=
    ⟨ht.1, (State.settle_pins_of_withdrawn ht.1).1, (State.settle_pins_of_withdrawn ht.1).2, ht.2⟩
  by_cases h1 : l = 1
  · subst h1
    obtain ⟨hkept, hlinks, hpowers, hframes, hwindows⟩ := State.linkFails_one_effects h
    obtain ⟨hnoted, hcut, hout, hflag⟩ := State.linkNoted_kept _ hkept hlinks
    generalize (s.arrive a).linkFails 1 = t at *
    refine ⟨hnoted, hcut, hout, hflag, fun _ => hwithdraws hpowers, fun _ => ⟨hframes, ?_, fun p _ => ⟨hwindows p, ?_⟩⟩, fun h => absurd h (by decide)⟩
    · change ((t.laneUp 0 || t.laneUp 1) && !t.cut 1) = false
      rw [hcut, Bool.not_true, Bool.and_false]
    · change ((t.part p).displaced || (t.part p).held || decide (t.workTick < (t.part p).suppressedTo) || t.cut 1) = true
      rw [hcut, Bool.or_true]
  · by_cases h03 : l = 0 ∨ l = 3
    · obtain ⟨hkept, hlinks, hpowers⟩ := State.linkFails_withdraws_effects h h03
      obtain ⟨hnoted, hcut, hout, hflag⟩ := State.linkNoted_kept _ hkept hlinks
      generalize (s.arrive a).linkFails l = t at *
      refine ⟨hnoted, hcut, hout, hflag, fun _ => hwithdraws hpowers, fun h => absurd h h1, fun h => ?_⟩
      rcases h03 with rfl | rfl <;> exact absurd h (by decide)
    · have hsec : l ∉ [0, 1, 3] := by simp [h1, not_or.mp h03]
      obtain ⟨hkept, hlinks, hsecurity⟩ := State.linkFails_security_effects h hsec
      obtain ⟨hnoted, hcut, hout, hflag⟩ := State.linkNoted_kept _ hkept hlinks
      generalize (s.arrive a).linkFails l = t at *
      exact ⟨hnoted, hcut, hout, hflag, fun h => absurd h hsec, fun h => absurd h h1, fun _ => hsecurity⟩

/-! ### Corrected errors -/

section
variable {s : State} {a : Instant} {m row : Nat} (hpower : ∀ d, 1 ≤ d → d ≤ 11 → s.powered d = true) (hm : memOk m = true)
include hpower hm

theorem memory_powered : (s.arrive a).powered (memDomain m) = true := by
  have hdomain := memDomain_range hm
  rw [State.arrive_powered, hpower _ hdomain.1 hdomain.2]

theorem exec_eccCorrected_next (b : Nat) : exec (.eccCorrected a m row b) s = .next ((s.arrive a).correctError m row b).settle :=
  (exec_eccCorrected s a m row b).trans (act_on hm (memory_powered hpower hm))

theorem exec_patrolScrub_next (e : Nat) : exec (.patrolScrub a m row e) s = .next ((s.arrive a).scrubRow m row e).settle :=
  (exec_patrolScrub s a m row e).trans (act_on hm (memory_powered hpower hm))

theorem yields_eccCorrected_of_out (b : Nat) (hout : s.holderOut m = true ∨ rowKey m row ∈ s.health.lockedRows) :
    Yields (.eccCorrected a m row b) s fun t => FaultTold Od.healthCorrectedErrors 6 s t ∧
      t.health.rowErrors = s.health.rowErrors ∧ t.health.repairs = s.health.repairs ∧ t.health.out = s.health.out := by
  have hhealth : (s.arrive a).health = s.health := State.health_of_only (State.arrive_only (by decide) ..)
  have hholder : (s.arrive a).holderOut m = s.holderOut m := State.arrive_eq (·.holderOut m) (fun _ => rfl) a
  rw [← hholder, ← hhealth] at hout
  refine ⟨_, exec_eccCorrected_next hpower hm b, (State.correctError_told b _ hm).settle, ?_⟩
  obtain ⟨i, hi⟩ := ((s.arrive a).count 32 Od.healthCorrectedErrors).healthFlag_health 6 none
  rw [State.settle_health, State.correctError_of_out hout, hi]
  dsimp only
  rw [State.count, State.setReg_health, hhealth]
  exact ⟨rfl, rfl, rfl⟩

theorem yields_patrolScrub {e : Nat} (hclass : memClass m = 3 ∨ memClass m = 7) : Yields (.patrolScrub a m row e) s fun t =>
    t.reg Od.healthCorrectedErrors = (s.reg Od.healthCorrectedErrors + e) % 2 ^ 32 ∨ e = 0 := by
  refine ⟨_, exec_patrolScrub_next hpower hm e, ?_⟩
  by_cases he : e = 0
  · exact .inr he
  · left
    rw [State.settle_reg, State.scrubRow_count hm hclass _ _ he, State.arrive_reg]

end

/-- Settles O54: each command is the operation it names on the state as its instant arrived; the counters and flags that tell of the fault are
kept by whatever a row without a spare, a lost engine or a failed link comes to. -/
theorem memoryErrorsAndDieLinks : Obligations.MemoryErrorsAndDieLinks := by
  unfold Obligations.MemoryErrorsAndDieLinks
  rintro s u a m row b e n id tick c l rfl hpower hm hrow hn hc hl
  have hhealth : (s.arrive a).health = s.health := State.health_of_only (State.arrive_only (by decide) ..)
  have hholder : (s.arrive a).holderOut m = s.holderOut m := State.arrive_eq (·.holderOut m) (fun _ => rfl) a
  dsimp only
  refine ⟨yields_eccCorrected_of_out hpower hm b, fun hin hlock => ?_, fun hnone => ?_, yields_patrolScrub hpower hm,
    yields_manager hpower hm hrow, yields_partition hpower hm hrow hn, fun im him ht => yields_imageSlot hpower hm hrow him ht hc,
    fun hraw => yields_rawRing hpower hm hrow hraw hc, fun w hw ht => yields_phasorRecord hpower hm hrow hw ht hc,
    yields_keyCell hpower hm hrow, yields_switchFrame_of_none hpower hm hrow, yields_switchFrame_of_some hpower hm hrow,
    fun hp => ⟨yields_churn_of_partner hpower hm hrow hp, yields_loops_of_partner hpower hm hrow hp⟩,
    fun hp => ⟨yields_churn_of_no_partner hpower hm hrow hp, yields_loops_of_no_partner hpower hm hrow hp⟩, fun hfailed => ?_,
    yields_dieLinkFailed hpower hl⟩
  · rw [← hholder] at hin
    rw [← hhealth] at hlock ⊢
    exact ⟨_, exec_eccCorrected_next hpower hm b, (State.correctError_told b _ hm).settle, State.correctError_row hin hlock hm b⟩
  · exact (exec_patrolScrub_next hpower hm e).trans (by rw [State.scrubRow_of_not_patrolled hnone])
  · rw [← hhealth] at hfailed
    exact (exec_dieLinkFailed_next hpower hl).trans (by rw [State.linkFails_of_failed hfailed])

end Sys2Proof.Machine
end

section
set_option Elab.async false
namespace Sys2Proof.Machine

/-! ### What a run over partitions comes to for one of them -/

/-- What every step of a run keeps holds at its end. -/
theorem State.each_keeps {α : Type} {P : State → Prop} {f : α → State → State} (hkeep : ∀ y t, P t → P (f y t)) (l : List α) {s : State}
    (h : P s) : P (s.each l f) := by
  induction l generalizing s with
  | nil => exact h
  | cons y l ih => exact ih (hkeep y s h)

/-- What one step of a run establishes and the others keep holds at its end. -/
theorem State.each_establishes {α : Type} {I P : State → Prop} {f : α → State → State} {x : α} (hinv : ∀ y t, I t → I (f y t))
    (hset : ∀ t, I t → P (f x t)) (hkeep : ∀ y t, I t → P t → P (f y t)) {l : List α} (hx : x ∈ l) {s : State} (h : I s) :
    P (s.each l f) := by
  induction l generalizing s with
  | nil => exact absurd hx (List.not_mem_nil)
  | cons y l ih =>
    rcases List.mem_cons.mp hx with rfl | hx
    · exact (State.each_keeps (P := fun t => I t ∧ P t) (fun y t ht => ⟨hinv y t ht.1, hkeep y t ht.1 ht.2⟩) l ⟨hinv x s h, hset s h⟩).2
    · exact ih hx (hinv y s h)

theorem State.part_each_modPart {f : Partition → Partition} (hf : ∀ x, f (f x) = f x) (l : List Nat) (s : State) (p : Nat) :
    (s.each l fun n t => t.modPart n f).part p = if p ∈ l then f (s.part p) else s.part p := by
  induction l generalizing s with
  | nil => rfl
  | cons x l ih =>
    refine (ih _).trans ?_
    by_cases hp : p = x
    · subst hp
      simp [hf]
    · rw [State.part_modPart_ne _ _ hp]
      simp [hp]

/-! ### The partitions on a unit -/

/-- A partition that is not as at reset has an entry. -/
theorem State.mem_parts_of_part {s : State} {p : Nat} (h : s.part p ≠ {}) : p ∈ s.parts.map (·.1) := by
  by_contra hp
  exact h (by rw [State.part, Tab.look, Tab.find_eq_none hp, Option.getD_none])

theorem State.mem_partsOn {s : State} {p u : Nat} : p ∈ s.partsOn u ↔ (s.part p).run ≠ .stopped ∧ u ∈ s.partUnits p := by
  unfold State.partsOn
  rw [List.mem_filter, Bool.and_eq_true, decide_eq_true_eq, List.contains_iff_mem]
  refine ⟨fun h => h.2, fun h => ⟨State.mem_parts_of_part fun he => h.1 ?_, h⟩⟩
  rw [he]

/-- A partition's place in the reserve and its run state tell which units it is on. -/
theorem State.mem_partsOn_congr {s t : State} {p : Nat} (u : Nat) (hrun : (t.part p).run = (s.part p).run)
    (hwindows : (t.part p).windows = (s.part p).windows) : p ∈ t.partsOn u ↔ p ∈ s.partsOn u := by
  rw [State.mem_partsOn, State.mem_partsOn, State.partUnits, State.partUnits, hrun, hwindows]

theorem State.part_displace (s : State) (u p : Nat) :
    (s.displace u).part p = if p ∈ s.partsOn u then { s.part p with displaced := true, window := none } else s.part p :=
  State.part_each_modPart (f := fun x => { x with displaced := true, window := none }) (fun _ => rfl) (s.partsOn u) s p

theorem State.part_loseWork_ne (s : State) {n p : Nat} (to_ : Nat) (hp : p ≠ n) : (s.loseWork n to_).part p = s.part p := by
  unfold State.loseWork
  dsimp only
  split
  · rw [State.part_of_only (State.newRole_only (by decide) ..), State.part_modPart_ne _ _ hp, State.part_modPart_ne _ _ hp]
  · rw [State.part_modPart_ne _ _ hp]

/-- The loss of a tick's work changes of a partition how long it is suppressed and whether it waits for the partner's regions. -/
theorem State.part_loseWork_self (s : State) (n to_ : Nat) : ∃ b, (s.loseWork n to_).part n =
    { s.part n with suppressedTo := max (s.part n).suppressedTo to_, awaitingRegions := b } := by
  unfold State.loseWork
  dsimp only
  split
  · exact ⟨true, by rw [State.part_of_only (State.newRole_only (by decide) ..), State.part_modPart_self, State.part_modPart_self]⟩
  · exact ⟨(s.part n).awaitingRegions, by rw [State.part_modPart_self]⟩

/-! ### LOCKSTEP_MISMATCH (R20, R21, R23) -/

/-- What the loss of a unit does to each partition at work on it: back at its checkpoint, and suppressed in this tick. -/
def State.backAtCheckpoint (s : State) (l : List Nat) : State := s.each l fun n t =>
  (t.modPart n fun y => { y with regs := y.checkpoint, window := none }).loseWork n (t.workTick + 1)

theorem State.backAtCheckpoint_only {part : StatePart} (h : part ∉ [.parts, .pair, .out]) (s : State) (l : List Nat) :
    (s.backAtCheckpoint l).only part = s.only part :=
  State.each_only (fun _ _ => (State.loseWork_only h ..).trans (State.modPart_only (outside h) ..)) s l

/-- It leaves of every partition what it runs and where. -/
def Partition.SamePlace (x y : Partition) : Prop :=
  y.run = x.run ∧ y.windows = x.windows ∧ y.checkpoint = x.checkpoint ∧ y.displaced = x.displaced

/-- Back at its checkpoint without a window, and suppressed before tick `k`. -/
def Partition.Lost (x : Partition) (k : Nat) : Prop := x.window = none ∧ x.regs = x.checkpoint ∧ k ≤ x.suppressedTo

section
variable (s : State) (n p : Nat)

theorem State.samePlace_step : Partition.SamePlace (s.part p)
    (((s.modPart n fun y => { y with regs := y.checkpoint, window := none }).loseWork n (s.workTick + 1)).part p) := by
  by_cases hp : p = n
  · subst hp
    obtain ⟨b, hb⟩ := (s.modPart p fun y => { y with regs := y.checkpoint, window := none }).part_loseWork_self p (s.workTick + 1)
    rw [hb, State.part_modPart_self]
    exact ⟨rfl, rfl, rfl, rfl⟩
  · rw [State.part_loseWork_ne _ _ hp, State.part_modPart_ne _ _ hp]
    exact ⟨rfl, rfl, rfl, rfl⟩

theorem State.lost_step : Partition.Lost
    (((s.modPart p fun y => { y with regs := y.checkpoint, window := none }).loseWork p (s.workTick + 1)).part p) (s.workTick + 1) := by
  obtain ⟨b, hb⟩ := (s.modPart p fun y => { y with regs := y.checkpoint, window := none }).part_loseWork_self p (s.workTick + 1)
  rw [hb, State.part_modPart_self]
  exact ⟨rfl, rfl, Nat.le_max_right ..⟩

theorem State.lost_step_kept {k : Nat} (h : Partition.Lost (s.part p) k) : Partition.Lost
    (((s.modPart n fun y => { y with regs := y.checkpoint, window := none }).loseWork n (s.workTick + 1)).part p) k := by
  by_cases hp : p = n
  · subst hp
    obtain ⟨b, hb⟩ := (s.modPart p fun y => { y with regs := y.checkpoint, window := none }).part_loseWork_self p (s.workTick + 1)
    rw [hb, State.part_modPart_self]
    exact ⟨rfl, rfl, h.2.2.trans (Nat.le_max_left ..)⟩
  · rw [State.part_loseWork_ne _ _ hp, State.part_modPart_ne _ _ hp]
    exact h

end

theorem State.samePlace_backAtCheckpoint (s : State) (l : List Nat) (p : Nat) :
    Partition.SamePlace (s.part p) ((s.backAtCheckpoint l).part p) := by
  refine State.each_keeps (P := fun t => Partition.SamePlace (s.part p) (t.part p)) (fun n t ht => ?_) l ⟨rfl, rfl, rfl, rfl⟩
  obtain ⟨hrun, hwindows, hcheckpoint, hdisplaced⟩ := ht
  obtain ⟨hrun', hwindows', hcheckpoint', hdisplaced'⟩ := t.samePlace_step n p
  exact ⟨hrun'.trans hrun, hwindows'.trans hwindows, hcheckpoint'.trans hcheckpoint, hdisplaced'.trans hdisplaced⟩

theorem State.lost_backAtCheckpoint (s : State) {l : List Nat} {p : Nat} (hp : p ∈ l) :
    Partition.Lost ((s.backAtCheckpoint l).part p) (s.workTick + 1) := by
  refine State.each_establishes (I := fun t => t.workTick = s.workTick) (fun n t ht => ?_) (fun t ht => ?_)
    (fun n t _ hlost => t.lost_step_kept n p hlost) hp rfl
  · exact (State.workTick_of_only ((State.loseWork_only (by decide) ..).trans (State.modPart_only (by decide) ..))).trans ht
  · exact ht ▸ t.lost_step p

theorem State.loseUnit_eq (s : State) (u cause count : Nat) : s.loseUnit u cause count =
    let s1 := s.setHerd (u / 4) { s.herd (u / 4) with
      pending := some (u % 4), pendingAt := s.tickNow, pendingCause := cause, pendingCount := count }
    let s2 := s1.backAtCheckpoint ((s1.partsOn u).filter fun n => s1.worksOn n u)
    if s2.degraded (u / 4) then s2.displace u else s2 := rfl

theorem State.loseUnit_health (s : State) (u cause count : Nat) : (s.loseUnit u cause count).health = (s.setHerd (u / 4) { s.herd (u / 4) with
    pending := some (u % 4), pendingAt := s.tickNow, pendingCause := cause, pendingCount := count }).health := by
  have hback (t : State) (l : List Nat) : (t.backAtCheckpoint l).health = t.health := State.health_of_only (t.backAtCheckpoint_only (by decide) l)
  rw [State.loseUnit_eq]
  dsimp only
  split
  · exact (State.health_of_only (State.displace_only (by decide) ..)).trans (hback ..)
  · exact hback ..

/-- The loss of a unit: its herd's retirement waits for the boundary; the partitions at work on it are back at their checkpoints, and with a
degraded herd every partition on it leaves for the reserve. -/
theorem State.loseUnit_effects (s : State) (u cause count : Nat) :
    let t := s.loseUnit u cause count
    t.herd (u / 4) = { s.herd (u / 4) with
      pending := some (u % 4), pendingAt := s.tickNow, pendingCause := cause, pendingCount := count } ∧
    (∀ p ∈ s.partsOn u, s.worksOn p u = true → (t.part p).window = none ∧ (t.part p).regs = (s.part p).checkpoint ∧
      s.workTick + 1 ≤ (t.part p).suppressedTo) ∧
    (t.degraded (u / 4) = true → ∀ p ∈ s.partsOn u, (t.part p).displaced = true ∧ (t.part p).window = none) := by
  rw [State.loseUnit_eq]
  dsimp only
  generalize hx : ({ s.herd (u / 4) with
      pending := some (u % 4), pendingAt := s.tickNow, pendingCause := cause, pendingCount := count } : Herd) = x
  generalize hl : (((s.setHerd (u / 4) x).partsOn u).filter fun n => (s.setHerd (u / 4) x).worksOn n u) = l
  have hmem (p : Nat) (hp : p ∈ s.partsOn u) (hw : s.worksOn p u = true) : p ∈ l := hl ▸ List.mem_filter.mpr ⟨hp, hw⟩
  have hhealth : ((s.setHerd (u / 4) x).backAtCheckpoint l).health = (s.setHerd (u / 4) x).health :=
    State.health_of_only (State.backAtCheckpoint_only (by decide) ..)
  have hlost (p : Nat) (hp : p ∈ s.partsOn u) (hw : s.worksOn p u = true) :=
    (s.setHerd (u / 4) x).lost_backAtCheckpoint (hmem p hp hw)
  have hplace (p : Nat) := (s.setHerd (u / 4) x).samePlace_backAtCheckpoint l p
  have hon (p : Nat) (hp : p ∈ s.partsOn u) : p ∈ ((s.setHerd (u / 4) x).backAtCheckpoint l).partsOn u :=
    (State.mem_partsOn_congr u (hplace p).1 (hplace p).2.1).mpr hp
  have hherd (t : State) (ht : t.health = (s.setHerd (u / 4) x).health) : t.herd (u / 4) = x := by
    rw [State.herd, ht]
    exact s.herd_setHerd_self (u / 4) x
  generalize (s.setHerd (u / 4) x).backAtCheckpoint l = t at *
  split
  · refine ⟨hherd _ ((State.health_of_only (State.displace_only (by decide) ..)).trans hhealth), fun p hp hw => ?_, fun _ p hp => ?_⟩
    · obtain ⟨-, hregs, hsuppressed⟩ := hlost p hp hw
      rw [State.part_displace, if_pos (hon p hp)]
      exact ⟨rfl, hregs.trans (hplace p).2.2.1, hsuppressed⟩
    · rw [State.part_displace, if_pos (hon p hp)]
      exact ⟨rfl, rfl⟩
  · next hfit =>
    refine ⟨hherd _ hhealth, fun p hp hw => ?_, fun h => absurd h hfit⟩
    obtain ⟨hwindow, hregs, hsuppressed⟩ := hlost p hp hw
    exact ⟨hwindow, hregs.trans (hplace p).2.2.1, hsuppressed⟩

end Sys2Proof.Machine
end

section
set_option Elab.async false
namespace Sys2Proof.Machine

/-! ### LOCKSTEP_MISMATCH -/

section
variable {s : State} {n l : Nat}

theorem Herd.runs_lt {x : Herd} {pos : Nat} (h : x.runs pos = some l) : l < 4 := List.mem_range.mp (List.mem_of_find?_eq_some h)

theorem State.lockstep_of_idle (h : (s.herd (n / 5)).runs (n % 5) = none ∨ (s.herd (n / 5)).pending.isSome = true ∨ unitId 1 n ∈ s.health.out) :
    s.lockstep n = s := by
  unfold State.lockstep
  dsimp only
  split
  · rfl
  · next l hl =>
    rw [if_pos]
    rw [hl] at h
    simpa [State.isOut] using h

/-- A mismatch noted, the windows of the unit done again from their checkpoints. -/
def State.mismatchNoted (s : State) (n u : Nat) : State :=
  (s.noteError (unitId 1 n) (10 * second)).1.each (s.runningOn u) fun n t => t.modPart n fun y => { y with regs := y.checkpoint }

/-- The mismatches of a unit within the last 10 s, this one included. -/
def State.mismatches (s : State) (n : Nat) : Nat := (s.noteError (unitId 1 n) (10 * second)).2

theorem State.lockstep_of_work (hruns : (s.herd (n / 5)).runs (n % 5) = some l) (hpending : (s.herd (n / 5)).pending = none)
    (hout : unitId 1 n ∉ s.health.out) : s.lockstep n =
      if s.mismatches n < 3 then s.mismatchNoted n (4 * (n / 5) + l)
      else (s.mismatchNoted n (4 * (n / 5) + l)).retireCore n 1 (s.mismatches n) := by
  have hidle : ¬((s.herd (n / 5)).pending.isSome || s.isOut (unitId 1 n)) = true := by simp [hpending, State.isOut, hout]
  unfold State.lockstep
  dsimp only
  rw [hruns]
  exact if_neg hidle

theorem State.mismatchNoted_only {part : StatePart} (h : part ∉ [.parts, .health]) (s : State) (n u : Nat) :
    (s.mismatchNoted n u).only part = s.only part :=
  (State.each_only (fun _ _ => State.modPart_only (outside h) ..) ..).trans (State.noteError_only (outside h) ..)

theorem State.part_mismatchNoted (s : State) (n u p : Nat) : (s.mismatchNoted n u).part p =
    if p ∈ s.runningOn u then { s.part p with regs := (s.part p).checkpoint } else s.part p :=
  State.part_each_modPart (f := fun y => { y with regs := y.checkpoint }) (fun _ => rfl) _ (s.noteError (unitId 1 n) (10 * second)).1 p

theorem State.herd_mismatchNoted (s : State) (n u h : Nat) : (s.mismatchNoted n u).herd h = s.herd h := by
  have hhealth : (s.mismatchNoted n u).health = (s.noteError (unitId 1 n) (10 * second)).1.health :=
    State.health_of_only (State.each_only (fun _ _ => State.modPart_only (by decide) ..) ..)
  rw [State.herd, hhealth]
  rfl

/-- The third mismatch within 10 s retires the unit. -/
theorem State.retireCore_of_runs {cause count : Nat} (hruns : (s.herd (n / 5)).runs (n % 5) = some l)
    (hpending : (s.herd (n / 5)).pending = none) : s.retireCore n cause count = s.loseUnit (4 * (n / 5) + l) cause count := by
  unfold State.retireCore
  dsimp only
  rw [hruns]
  exact if_neg (by rw [hpending]; exact Bool.false_ne_true)

theorem State.worksOn_congr {t : State} {p : Nat} (u : Nat) (hwindows : (t.part p).windows = (s.part p).windows)
    (hmajor : t.majorFrame = s.majorFrame) (htick : t.workTick = s.workTick) : t.worksOn p u = s.worksOn p u := by
  unfold State.worksOn State.windowIn State.major
  rw [hwindows, hmajor, htick]

/-- The few mismatches of a unit leave it at work; its windows begin again at their checkpoints. -/
theorem State.lockstep_few (hruns : (s.herd (n / 5)).runs (n % 5) = some l) (hpending : (s.herd (n / 5)).pending = none)
    (hout : unitId 1 n ∉ s.health.out) (hfew : s.mismatches n < 3) :
    (s.lockstep n).herd (n / 5) = s.herd (n / 5) ∧ (s.lockstep n).out = s.out ∧
      (∀ p ∈ s.runningOn (4 * (n / 5) + l), ((s.lockstep n).part p).regs = (s.part p).checkpoint) ∧
      ∀ p ∉ s.runningOn (4 * (n / 5) + l), (s.lockstep n).part p = s.part p := by
  rw [State.lockstep_of_work hruns hpending hout, if_pos hfew]
  refine ⟨s.herd_mismatchNoted .., State.out_of_only (s.mismatchNoted_only (by decide) ..), fun p hp => ?_, fun p hp => ?_⟩
  · rw [State.part_mismatchNoted, if_pos hp]
  · rw [State.part_mismatchNoted, if_neg hp]

/-- The third one retires it. -/
theorem State.lockstep_third (hruns : (s.herd (n / 5)).runs (n % 5) = some l) (hpending : (s.herd (n / 5)).pending = none)
    (hout : unitId 1 n ∉ s.health.out) (hthird : 3 ≤ s.mismatches n) :
    let t := s.lockstep n
    (t.herd (n / 5)).pending = some l ∧ (t.herd (n / 5)).pendingAt = s.tickNow ∧ (t.herd (n / 5)).pendingCause = 1 ∧
      (∀ p ∈ s.partsOn (4 * (n / 5) + l), s.worksOn p (4 * (n / 5) + l) = true → (t.part p).window = none ∧
        (t.part p).regs = (s.part p).checkpoint ∧ s.workTick + 1 ≤ (t.part p).suppressedTo) ∧
      (t.degraded (n / 5) = true → ∀ p ∈ s.partsOn (4 * (n / 5) + l), (t.part p).displaced = true ∧ (t.part p).window = none) := by
  have hl := Herd.runs_lt hruns
  have hlost : s.lockstep n = (s.mismatchNoted n (4 * (n / 5) + l)).loseUnit (4 * (n / 5) + l) 1 (s.mismatches n) := by
    rw [State.lockstep_of_work hruns hpending hout, if_neg (Nat.not_lt.mpr hthird)]
    refine State.retireCore_of_runs ?_ ?_ <;> rw [State.herd_mismatchNoted] <;> assumption
  have hsame (p : Nat) : ((s.mismatchNoted n (4 * (n / 5) + l)).part p).run = (s.part p).run ∧
      ((s.mismatchNoted n (4 * (n / 5) + l)).part p).windows = (s.part p).windows ∧
      ((s.mismatchNoted n (4 * (n / 5) + l)).part p).checkpoint = (s.part p).checkpoint := by
    rw [State.part_mismatchNoted]
    split <;> exact ⟨rfl, rfl, rfl⟩
  have htick : (s.mismatchNoted n (4 * (n / 5) + l)).workTick = s.workTick := State.workTick_of_only (s.mismatchNoted_only (by decide) ..)
  have hnow : (s.mismatchNoted n (4 * (n / 5) + l)).tickNow = s.tickNow := by
    rw [State.tickNow, State.rate, State.now, State.reg_of_only (s.mismatchNoted_only (by decide) ..),
      State.time_of_only (s.mismatchNoted_only (by decide) ..)]
    rfl
  have hmajor : (s.mismatchNoted n (4 * (n / 5) + l)).majorFrame = s.majorFrame :=
    State.majorFrame_of_only (s.mismatchNoted_only (by decide) ..)
  have hon (p : Nat) := State.mem_partsOn_congr (4 * (n / 5) + l) (hsame p).1 (hsame p).2.1
  have hworks (p : Nat) := State.worksOn_congr (4 * (n / 5) + l) (hsame p).2.1 hmajor htick
  have hherd := s.herd_mismatchNoted n (4 * (n / 5) + l) (n / 5)
  have hunit : (4 * (n / 5) + l) / 4 = n / 5 := by omega
  have hlogical : (4 * (n / 5) + l) % 4 = l := by omega
  rw [hlost]
  generalize s.mismatchNoted n (4 * (n / 5) + l) = m at *
  obtain ⟨hpend, hback, hleave⟩ := m.loseUnit_effects (4 * (n / 5) + l) 1 (s.mismatches n)
  rw [hunit] at hpend hleave
  rw [hlogical, hnow] at hpend
  refine ⟨by rw [hpend], by rw [hpend], by rw [hpend], fun p hp hw => ?_, fun hd p hp => hleave hd p ((hon p).mpr hp)⟩
  rw [← htick, ← (hsame p).2.2]
  exact hback p ((hon p).mpr hp) ((hworks p).trans hw)

end

end Sys2Proof.Machine
end

section
set_option Elab.async false
namespace Sys2Proof.Machine

/-! ### Coverage (R22, R410) -/

theorem State.degraded_congr {s t : State} (hherds : t.health.herds = s.health.herds) (hretest : t.health.retest = s.health.retest) :
    t.degraded = s.degraded := by
  funext h
  unfold State.degraded State.testSpare State.herd
  rw [hherds, hretest]

theorem State.coverage_health (s : State) : ∃ l, s.coverage.health = { s.health with lastEvents := l } := State.stand_health ..

theorem State.herd_congr {s t : State} (hherds : t.health.herds = s.health.herds) (h : Nat) : t.herd h = s.herd h := by
  rw [State.herd, hherds]
  rfl

theorem State.herd_coverage (s : State) (h : Nat) : s.coverage.herd h = s.herd h := by
  obtain ⟨l, hl⟩ := s.coverage_health
  exact State.herd_congr (by rw [hl]) h

theorem State.degraded_coverage (s : State) : s.coverage.degraded = s.degraded := by
  obtain ⟨l, hl⟩ := s.coverage_health
  exact State.degraded_congr (by rw [hl]) (by rw [hl])

theorem State.reg_stand_of_not_owns (s : State) {n k : Nat} (h : ¬ownsEntry n k) (f : Nat) (holds : Bool) (info : Option Nat) :
    (s.stand n f holds info).reg k = s.reg k := by
  have hstatus : k ≠ Od.evStatus n := fun e => h (.inl e)
  unfold State.stand
  dsimp only
  repeat' split
  · rfl
  · exact State.reg_setFlag_of_not_owns s n f info h
  · exact State.reg_setReg_ne s _ hstatus
  · rfl

/-- The entry of coverage names the degraded herds. -/
theorem State.reg_coverage (s : State) : s.coverage.reg Od.stCoverageDegraded = maskOf ((List.range 12).filter s.coverage.degraded) := by
  rw [State.degraded_coverage, State.coverage, State.reg_stand_of_not_owns _ (by unfold ownsEntry; decide), State.reg_setReg_self]

theorem State.quiet_coverage (s : State) (p : Nat) : s.coverage.quiet p = s.quiet p :=
  (State.stand_quiet ..).trans (State.quiet_of_only (State.setReg_only (by decide) ..) p)

theorem State.quiet_recordRetirement (s : State) (unit cause count p : Nat) : (s.recordRetirement unit cause count).quiet p = s.quiet p := by
  unfold State.recordRetirement
  split
  · rfl
  · exact (State.setFlag_quiet ..).trans (State.quiet_of_only (State.setHealth_only (by decide) ..) p)

theorem State.reg_recordRetirement (s : State) (unit cause count : Nat) {k : Nat} (h : ¬ownsEntry 112 k) :
    (s.recordRetirement unit cause count).reg k = s.reg k := by
  unfold State.recordRetirement
  split
  · rfl
  · exact State.reg_setFlag_of_not_owns _ 112 0 _ h

/-! ### SPARE_TAKEOVER (R20, R22, R411) -/

section
variable {s : State} {h l q : Nat}

theorem State.takeSpare_of_spare (hspare : (s.herd h).spare = some q) :
    s.takeSpare h = some (q, s.setHerd h { s.herd h with spare := none }) := by
  unfold State.takeSpare
  dsimp only
  rw [hspare]

theorem State.takeSpare_of_degraded (hd : s.degraded h = true) : s.takeSpare h = none := by
  unfold State.degraded at hd
  rw [Bool.and_eq_true, Option.isNone_iff_eq_none, Option.isNone_iff_eq_none] at hd
  unfold State.takeSpare
  dsimp only
  rw [hd.1, hd.2]

/-- The unit under its first test serves as the spare; its test counts as abandoned. -/
theorem State.takeSpare_of_test (hspare : (s.herd h).spare = none) (htest : s.testSpare h = some q) : ∃ t, s.takeSpare h = some (q, t) ∧
    t.herd h = { s.herd h with testing := none } ∧ t.health.results.head?.any (fun w => w.unit_ = coreId h q && w.result = 3) = true := by
  refine ⟨_, by unfold State.takeSpare; dsimp only; rw [hspare, htest], ?_, ?_⟩
  · refine (State.herd_congr (s := State.setHerd _ h _) rfl h).trans ((State.herd_setHerd_self ..).trans ?_)
    dsimp only
    rw [hspare]
  · simp [State.writeResult, State.setHealth, State.setHerd, State.drew]

theorem State.takeover_of_none (hnone : s.retires h = none ∨ s.degraded h = true) : s.takeover h = s := by
  unfold State.takeover
  rcases hnone with hnone | hd
  · rw [hnone]
  · rw [State.takeSpare_of_degraded hd]
    split <;> rfl

/-- The herd whose logical unit `l` position `q` takes. -/
def Herd.taken (x : Herd) (l q : Nat) : Herd := { x with units := x.units.set l q, pending := none }

/-- The spare takes the logical unit, and the unit it had is retired. -/
theorem State.takeover_effects {t : State} (hretires : s.retires h = some l) (htake : s.takeSpare h = some (q, t)) :
    (s.takeover h).herd h = (t.herd h).taken l q ∧ coreId h ((t.herd h).units.getD l 0) ∈ (s.takeover h).health.out ∧
      (s.takeover h).health.results = t.health.results ∧
      (s.takeover h).reg Od.stCoverageDegraded = maskOf ((List.range 12).filter (s.takeover h).degraded) := by
  have heq : s.takeover h = (((t.recordRetirement (coreId h ((t.herd h).units.getD l 0)) (t.herd h).pendingCause (t.herd h).pendingCount).setHerd h
      ((t.herd h).taken l q)).coverage).replace := by
    unfold State.takeover
    rw [hretires, htake]
    rfl
  have hout := t.mem_out_recordRetirement (coreId h ((t.herd h).units.getD l 0)) (t.herd h).pendingCause (t.herd h).pendingCount
  obtain ⟨e, o, r, hrec⟩ := t.recordRetirement_health (coreId h ((t.herd h).units.getD l 0)) (t.herd h).pendingCause (t.herd h).pendingCount
  rw [heq]
  generalize t.recordRetirement (coreId h ((t.herd h).units.getD l 0)) (t.herd h).pendingCause (t.herd h).pendingCount = t1 at *
  obtain ⟨e', hcov⟩ := (t1.setHerd h ((t.herd h).taken l q)).coverage_health
  have hhealth : ((t1.setHerd h ((t.herd h).taken l q)).coverage).replace.health = (t1.setHerd h ((t.herd h).taken l q)).coverage.health :=
    State.health_of_only (State.replace_only (by decide) _)
  refine ⟨?_, ?_, ?_, ?_⟩
  · rw [State.herd_congr (congrArg Health.herds hhealth), State.herd_coverage, State.herd_setHerd_self]
  · rw [hhealth, hcov]
    exact hout
  · rw [hhealth, hcov]
    change t1.health.results = t.health.results
    rw [hrec]
  · rw [State.reg_of_only (State.replace_only (by decide) _), State.reg_coverage,
      State.degraded_congr (congrArg Health.herds hhealth) (congrArg Health.retest hhealth)]

end

end Sys2Proof.Machine
end

section
set_option Elab.async false
namespace Sys2Proof.Machine

/-! ### PARTITION_RELOCATE (R23, R230) -/

theorem State.mem_partsOn_of_quiet {s t : State} {p : Nat} (h : t.quiet p = s.quiet p) (u : Nat) : p ∈ t.partsOn u ↔ p ∈ s.partsOn u :=
  State.mem_partsOn_congr u (State.run_of_quiet h) (by
    have hwindows := congrArg Partition.windows h
    exact hwindows)

/-- In the reserve a partition's windows do not fall together, or it waits. -/
def Partition.Placed (x : Partition) (major : Nat) : Prop :=
  x.window = none ∧ (x.displaced = true ∨ noClash major (x.windows.map winRec) = true)

theorem State.noClash_of_windowsFit {s : State} {n : Nat} {l : List Nat} (h : s.windowsFit n l = true) :
    noClash s.majorSet (l.map winRec) = true := by
  simp only [State.windowsFit, Bool.and_eq_true] at h
  exact h.1.2

theorem State.placed_placeReserve {s : State} {p : Nat} (n : Nat) (h : Partition.Placed (s.part p) s.majorSet) :
    Partition.Placed ((s.placeReserve n).part p) s.majorSet := by
  have hset (l : List Nat) (hl : s.windowsFit n l = true) :
      Partition.Placed ((s.drew.setPart n { s.part n with windows := l, displaced := false }).part p) s.majorSet := by
    by_cases hp : p = n
    · subst hp
      rw [State.part_setPart_self]
      exact ⟨h.1, .inr (State.noClash_of_windowsFit hl)⟩
    · rw [State.part_setPart_ne _ _ hp]
      exact h
  unfold State.placeReserve
  dsimp only
  split
  · exact hset _ ‹_›
  · split
    · exact hset _ ‹_›
    · exact h

theorem State.majorSet_of_reg {s t : State} (h : t.reg Od.mgrMajorFrame = s.reg Od.mgrMajorFrame) : t.majorSet = s.majorSet := by
  rw [State.majorSet, h]
  rfl

theorem State.placed_each_placeReserve {s : State} {p : Nat} (l : List Nat) (h : Partition.Placed (s.part p) s.majorSet) :
    Partition.Placed ((s.each l fun n t => t.placeReserve n).part p) s.majorSet := by
  refine (State.each_keeps (P := fun t => t.majorSet = s.majorSet ∧ Partition.Placed (t.part p) s.majorSet) (fun n t ht => ?_) l ⟨rfl, h⟩).2
  refine ⟨(State.majorSet_of_reg (State.reg_of_only (t.placeReserve_only (by decide) n) _)).trans ht.1, ?_⟩
  have hplaced := ht.2
  rw [← ht.1] at hplaced ⊢
  exact State.placed_placeReserve n hplaced

section
variable {s : State} {h l : Nat}

theorem State.relocate_idle (hnone : s.retires h = none ∨ s.degraded h = false)
    (hplaced : ∀ p ∈ s.parts.map (·.1), (s.part p).displaced = false) : s.relocate h = s := by
  have hstay : (match s.retires h with
      | none => s
      | some l =>
        if !s.degraded h then s
        else (((s.recordRetirement (coreId h ((s.herd h).units.getD l 0)) (s.herd h).pendingCause (s.herd h).pendingCount).setHerd h
          { s.herd h with pending := none }).coverage).displace (4 * h + l)) = s := by
    rcases hnone with hnone | hd
    · rw [hnone]
    · rw [hd]
      split <;> rfl
  unfold State.relocate
  dsimp only
  refine (congrArg (fun t : State => t.each ((t.parts.map (·.1)).filter fun n => (t.part n).displaced &&
    (t.partUnits n).any fun u => u / 4 = h && !t.unitUsable u) fun n u => u.placeReserve n) hstay).trans ?_
  have hnil : ((s.parts.map (·.1)).filter fun n => (s.part n).displaced && (s.partUnits n).any fun u => u / 4 = h && !s.unitUsable u) =
      [] := List.filter_eq_nil_iff.mpr fun p hp => by simp [hplaced p hp]
  rw [hnil]
  rfl

/-- The unit of a herd without a spare is retired; its partitions wait for the reserve or run there. -/
theorem State.relocate_effects (hretires : s.retires h = some l) (hd : s.degraded h = true) :
    ((s.relocate h).herd h).pending = none ∧ coreId h ((s.herd h).units.getD l 0) ∈ (s.relocate h).health.out ∧
      ∀ p ∈ s.partsOn (4 * h + l), Partition.Placed ((s.relocate h).part p) s.majorSet := by
  obtain ⟨todo, heq⟩ : ∃ todo, s.relocate h = State.each ((((s.recordRetirement (coreId h ((s.herd h).units.getD l 0))
      (s.herd h).pendingCause (s.herd h).pendingCount).setHerd h { s.herd h with pending := none }).coverage).displace (4 * h + l)) todo
      fun n t => t.placeReserve n := by
    unfold State.relocate
    dsimp only
    rw [hretires, hd]
    exact ⟨_, rfl⟩
  have hout := s.mem_out_recordRetirement (coreId h ((s.herd h).units.getD l 0)) (s.herd h).pendingCause (s.herd h).pendingCount
  have hquiet := s.quiet_recordRetirement (coreId h ((s.herd h).units.getD l 0)) (s.herd h).pendingCause (s.herd h).pendingCount
  have hmajor : (s.recordRetirement (coreId h ((s.herd h).units.getD l 0)) (s.herd h).pendingCause (s.herd h).pendingCount).reg
      Od.mgrMajorFrame = s.reg Od.mgrMajorFrame := State.reg_recordRetirement s _ _ _ (by unfold ownsEntry; decide)
  rw [heq]
  generalize s.recordRetirement (coreId h ((s.herd h).units.getD l 0)) (s.herd h).pendingCause (s.herd h).pendingCount = t at *
  generalize hy : ({ s.herd h with pending := none } : Herd) = y
  obtain ⟨e, hcov⟩ := (t.setHerd h y).coverage_health
  have hhealth : (State.each (((t.setHerd h y).coverage).displace (4 * h + l)) todo fun n t => t.placeReserve n).health =
      (t.setHerd h y).coverage.health :=
    State.health_of_only ((State.each_only (fun _ _ => State.placeReserve_only (by decide) ..) ..).trans (State.displace_only (by decide) ..))
  refine ⟨?_, ?_, fun p hp => ?_⟩
  · rw [State.herd_congr (congrArg Health.herds hhealth), State.herd_coverage, State.herd_setHerd_self, ← hy]
  · rw [hhealth, hcov]
    exact hout
  · have hon : p ∈ ((t.setHerd h y).coverage).partsOn (4 * h + l) :=
      (State.mem_partsOn_of_quiet (((t.setHerd h y).quiet_coverage p).trans (hquiet p)) _).mpr hp
    have hsame : (((t.setHerd h y).coverage).displace (4 * h + l)).majorSet = s.majorSet := State.majorSet_of_reg
      ((State.reg_of_only (State.displace_only (by decide) ..) _).trans ((State.reg_stand_of_not_owns _ (by unfold ownsEntry; decide) ..).trans
        ((State.reg_setReg_ne _ _ (by decide)).trans hmajor)))
    rw [← hsame]
    refine State.placed_each_placeReserve todo ?_
    rw [State.part_displace, if_pos hon]
    exact ⟨rfl, .inl rfl⟩

end

/-! ### REGION_LOST (R24) -/

section
variable {s : State} {r : Nat}

theorem State.regionFails_of_lost (h : r ∈ s.health.lostRegions) : s.regionFails r = s := if_pos (List.contains_iff_mem.mpr h)

/-- A region that fails, noted and reported. -/
def State.regionNoted (s : State) (r : Nat) : State :=
  (s.setHealth fun h => { h with lostRegions := h.lostRegions ++ [r] }).healthFlag 4 (some (unitId 3 r))

theorem State.regionFails_eq (h : r ∉ s.health.lostRegions) : s.regionFails r =
    (((s.regionNoted r).each ((((List.range 12).map fun i => 12 * r + i).flatMap (s.regionNoted r).partsOn).dedup) fun n t =>
      t.loseWork n (t.workTick + 1)).each ((List.range 12).map fun i => 12 * r + i) fun u t => t.displace u) :=
  if_neg fun hc => h (List.contains_iff_mem.mp hc)

/-- The partitions of a lost region leave it, and what they did in this tick is lost. -/
theorem State.regionFails_effects (h : r ∉ s.health.lostRegions) :
    (s.regionFails r).health.lostRegions = s.health.lostRegions ++ [r] ∧
      (s.sourceUp 112 = true → bit ((s.regionFails r).reg (Od.evStatus 112)) 4 = true) ∧
      ∀ j < 12, ∀ p ∈ s.partsOn (12 * r + j), ((s.regionFails r).part p).displaced = true ∧ ((s.regionFails r).part p).window = none ∧
        s.workTick + 1 ≤ ((s.regionFails r).part p).suppressedTo := by
  rw [State.regionFails_eq h]
  generalize hus : (List.range 12).map (fun i => 12 * r + i) = us
  generalize hns : (us.flatMap (s.regionNoted r).partsOn).dedup = ns
  have honly {part : StatePart} (hpart : part ∉ [.parts, .pair, .out]) : (((s.regionNoted r).each ns fun n t =>
      t.loseWork n (t.workTick + 1)).each us fun u t => t.displace u).only part = (s.regionNoted r).only part :=
    (State.each_only (fun _ _ => State.displace_only (outside hpart) ..) ..).trans (State.each_only (fun _ _ => State.loseWork_only hpart ..) ..)
  have hflag : s.sourceUp 112 = true → bit ((s.regionNoted r).reg (Od.evStatus 112)) 4 = true := fun hup => by
    rw [State.regionNoted, State.healthFlag, State.status_setFlag (s.setHealth _) _ _ _ hup, bit_statusSet (by decide),
      decide_eq_true rfl, Bool.true_or]
  obtain ⟨e, hhealth⟩ := (s.setHealth fun h => { h with lostRegions := h.lostRegions ++ [r] }).healthFlag_health 4 (some (unitId 3 r))
  refine ⟨?_, fun hup => ?_, fun j hj p hp => ?_⟩
  · rw [State.health_of_only (honly (by decide)), State.regionNoted, hhealth]
    rfl
  · rw [State.reg_of_only (honly (by decide))]
    exact hflag hup
  · have hquiet : (s.regionNoted r).quiet p = s.quiet p :=
      (State.setFlag_quiet ..).trans (State.quiet_of_only (State.setHealth_only (by decide) ..) p)
    have htick : (s.regionNoted r).workTick = s.workTick :=
      State.workTick_of_only ((State.healthFlag_only (by decide) ..).trans (State.setHealth_only (by decide) ..))
    have hon : p ∈ (s.regionNoted r).partsOn (12 * r + j) := (State.mem_partsOn_of_quiet hquiet _).mpr hp
    have hju : 12 * r + j ∈ us := hus ▸ List.mem_map_of_mem (List.mem_range.mpr hj)
    have hpn : p ∈ ns := hns ▸ List.mem_dedup.mpr (List.mem_flatMap.mpr ⟨_, hju, hon⟩)
    rw [← htick]
    generalize s.regionNoted r = t at *
    -- of a partition on the region, what says where it is stays while the work of its units is given up
    have hwork : ((t.each ns fun n t => t.loseWork n (t.workTick + 1)).part p).run = (t.part p).run ∧
        ((t.each ns fun n t => t.loseWork n (t.workTick + 1)).part p).windows = (t.part p).windows ∧
        t.workTick + 1 ≤ ((t.each ns fun n t => t.loseWork n (t.workTick + 1)).part p).suppressedTo := by
      refine State.each_establishes (I := fun v => v.workTick = t.workTick ∧ (v.part p).run = (t.part p).run ∧
          (v.part p).windows = (t.part p).windows)
        (P := fun v => (v.part p).run = (t.part p).run ∧ (v.part p).windows = (t.part p).windows ∧
          t.workTick + 1 ≤ (v.part p).suppressedTo) (fun n v hv => ?_) (fun v hv => ?_) (fun n v hv hP => ?_) hpn ⟨rfl, rfl, rfl⟩
      · refine ⟨(State.workTick_of_only (v.loseWork_only (by decide) ..)).trans hv.1, ?_⟩
        by_cases hn : p = n
        · subst hn
          obtain ⟨b, hb⟩ := v.part_loseWork_self p (v.workTick + 1)
          rw [hb]
          exact hv.2
        · rw [State.part_loseWork_ne _ _ hn]
          exact hv.2
      · obtain ⟨b, hb⟩ := v.part_loseWork_self p (v.workTick + 1)
        rw [hb]
        exact ⟨hv.2.1, hv.2.2, hv.1 ▸ Nat.le_max_right ..⟩
      · by_cases hn : p = n
        · subst hn
          obtain ⟨b, hb⟩ := v.part_loseWork_self p (v.workTick + 1)
          rw [hb]
          exact ⟨hP.1, hP.2.1, hP.2.2.trans (Nat.le_max_left ..)⟩
        · rw [State.part_loseWork_ne _ _ hn]
          exact hP
    obtain ⟨hrun, hwindows, hsuppressed⟩ := hwork
    have hon := (State.mem_partsOn_congr _ hrun hwindows).mpr hon
    generalize t.each ns (fun n t => t.loseWork n (t.workTick + 1)) = v at *
    have hkeep (u : Nat) (w : State) : ((w.displace u).part p).run = (w.part p).run ∧ ((w.displace u).part p).windows = (w.part p).windows ∧
        ((w.displace u).part p).suppressedTo = (w.part p).suppressedTo := by
      rw [State.part_displace]
      split <;> exact ⟨rfl, rfl, rfl⟩
    refine State.each_establishes (I := fun w => p ∈ w.partsOn (12 * r + j) ∧ t.workTick + 1 ≤ (w.part p).suppressedTo)
      (P := fun w => (w.part p).displaced = true ∧ (w.part p).window = none ∧ t.workTick + 1 ≤ (w.part p).suppressedTo)
      (fun u w hw => ?_) (fun w hw => ?_) (fun u w hw hP => ?_) hju ⟨hon, hsuppressed⟩
    · obtain ⟨hr, hw', hs⟩ := hkeep u w
      exact ⟨(State.mem_partsOn_congr _ hr hw').mpr hw.1, hs ▸ hw.2⟩
    · rw [State.part_displace, if_pos hw.1]
      exact ⟨rfl, rfl, hw.2⟩
    · rw [State.part_displace]
      split
      · exact ⟨rfl, rfl, hP.2.2⟩
      · exact hP

end

end Sys2Proof.Machine
end

section
set_option Elab.async false
namespace Sys2Proof.Machine

/-! ### MANAGER_MOVED (R26) -/

section
variable {s : State}

theorem State.moveManager_idle (h : 0 ∉ s.health.lostRegions ∨ s.health.managerHerd ≠ 0) : s.moveManager = s := by
  refine if_pos ?_
  rw [Bool.or_eq_true, Bool.not_eq_true', decide_eq_true_eq, ← Bool.not_eq_true, List.contains_iff_mem]
  exact h

/-- The manager at its new herd, reported. -/
def State.managerAt (t : State) (h : Nat) (lent : Bool) : State :=
  (((t.setHealth fun x => { x with managerHerd := h, managerLent := lent }).setReg Od.mgrManagerHerd h).coverage).healthFlag 10

theorem State.managerAt_effects (t : State) (h : Nat) (lent : Bool) : (t.managerAt h lent).health.managerHerd = h ∧
    (t.managerAt h lent).health.managerLent = lent ∧ (t.managerAt h lent).reg Od.mgrManagerHerd = h ∧
    (t.sourceUp 112 = true → bit ((t.managerAt h lent).reg (Od.evStatus 112)) 10 = true) := by
  obtain ⟨e, he⟩ := ((t.setHealth fun x => { x with managerHerd := h, managerLent := lent }).setReg Od.mgrManagerHerd h).coverage.healthFlag_health
    10 none
  obtain ⟨e', he'⟩ := ((t.setHealth fun x => { x with managerHerd := h, managerLent := lent }).setReg Od.mgrManagerHerd h).coverage_health
  have hkept := (State.coverage_faults ((t.setHealth fun x => { x with managerHerd := h, managerLent := lent }).setReg Od.mgrManagerHerd
    h)).trans (State.healthFlag_faults _ 10 none)
  refine ⟨?_, ?_, ?_, fun hup => ?_⟩
  · rw [State.managerAt, he, he']
    rfl
  · rw [State.managerAt, he, he']
    rfl
  · rw [State.managerAt, hkept.counts _ (by decide), State.reg_setReg_self]
  · have hsource : ((t.setHealth fun x => { x with managerHerd := h, managerLent := lent }).setReg Od.mgrManagerHerd h).coverage.sourceUp 112 =
        true := by
      unfold State.sourceUp at hup ⊢
      rw [State.power_of_only (State.coverage_only (by decide) _)]
      exact hup
    rw [State.managerAt, State.healthFlag, State.status_setFlag _ _ _ _ hsource, bit_statusSet (by decide), decide_eq_true rfl, Bool.true_or]

theorem State.moveManager_of_lender {k : Nat} (hlost : 0 ∈ s.health.lostRegions) (hat : s.health.managerHerd = 0)
    (hlender : s.managerLender = some k) : ∃ t : State, s.moveManager = t.managerAt k true ∧ t.power = s.power ∧ 3 ≤ k ∧ k < 12 := by
  have hc : ¬(!s.health.lostRegions.contains 0 || decide (s.health.managerHerd ≠ 0)) = true := by
    simp [hlost, hat]
  have hspare := List.find?_some hlender
  rw [Bool.and_eq_true] at hspare
  obtain ⟨⟨q, t⟩, ht⟩ := Option.isSome_iff_exists.mp hspare.2
  obtain ⟨i, hi, rfl⟩ := List.mem_map.mp (List.mem_of_find?_eq_some hlender)
  have hi := List.mem_range.mp hi
  refine ⟨t, ?_, State.power_of_only (State.takeSpare_only (by decide) ht), by omega, by omega⟩
  unfold State.moveManager
  dsimp only
  rw [if_neg hc, hlender]
  dsimp only
  rw [ht]
  rfl

theorem State.moveManager_of_no_lender (hlost : 0 ∈ s.health.lostRegions) (hat : s.health.managerHerd = 0)
    (hlender : s.managerLender = none) : s.moveManager = (s.managerAt 3 false).displace 12 := by
  have hc : ¬(!s.health.lostRegions.contains 0 || decide (s.health.managerHerd ≠ 0)) = true := by
    simp [hlost, hat]
  unfold State.moveManager
  dsimp only
  rw [if_neg hc, hlender]
  rfl

theorem State.quiet_managerAt (t : State) (h : Nat) (lent : Bool) (p : Nat) : (t.managerAt h lent).quiet p = t.quiet p := by
  refine (State.setFlag_quiet ..).trans ((State.quiet_coverage _ p).trans (State.quiet_of_only (State.setReg_only (by decide) ..) p |>.trans ?_))
  exact State.quiet_of_only (State.setHealth_only (by decide) ..) p

end

/-! ### SELF_TEST_SLOT_START (R408, R410) -/

section
variable {s : State} {n l q : Nat}

theorem State.slotStart_idle (h : s.testsOn = false ∨ unitId 1 n ∈ s.health.out ∨ (s.herd (n / 5)).testing.isSome = true ∨
    (s.herd (n / 5)).pending.isSome = true) : s.slotStart n = s := by
  refine if_pos ?_
  simp only [Bool.or_eq_true, Bool.not_eq_true', State.isOut, List.contains_iff_mem]
  rcases h with h | h | h | h
  · exact .inl (.inl (.inl h))
  · exact .inl (.inl (.inr h))
  · exact .inl (.inr h)
  · exact .inr h

theorem State.slotStart_of_spare (hon : s.testsOn = true) (hout : unitId 1 n ∉ s.health.out) (htesting : (s.herd (n / 5)).testing = none)
    (hpending : (s.herd (n / 5)).pending = none) (hruns : (s.herd (n / 5)).runs (n % 5) = some l) (hspare : (s.herd (n / 5)).spare = some q) :
    s.slotStart n = s.setHerd (n / 5) { s.herd (n / 5) with
      units := (s.herd (n / 5)).units.set l q, spare := none, testing := some (n % 5) } := by
  have hfree : s.slotFree n = true := by simp [State.slotFree, State.isOut, hout, htesting, hpending, hruns, hspare]
  have hstart : s.startSlot n false = s.setHerd (n / 5) { s.herd (n / 5) with
      units := (s.herd (n / 5)).units.set l q, spare := none, testing := some (n % 5) } := by
    unfold State.startSlot
    dsimp only
    rw [hruns]
    dsimp only
    rw [hspare]
    rfl
  unfold State.slotStart
  dsimp only
  rw [if_neg (by simp [hon, State.isOut, hout, htesting, hpending]), if_pos hfree, hstart]

theorem State.slotStart_deferred (hon : s.testsOn = true) (hout : unitId 1 n ∉ s.health.out) (htesting : (s.herd (n / 5)).testing = none)
    (hpending : (s.herd (n / 5)).pending = none) (hruns : (s.herd (n / 5)).runs (n % 5) = some l) (hspare : (s.herd (n / 5)).spare = none) :
    s.slotStart n = (s.deferTest (unitId 1 n)).coverage := by
  have hfree : ¬s.slotFree n = true := by simp [State.slotFree, State.isOut, hout, htesting, hpending, hruns, hspare]
  unfold State.slotStart
  dsimp only
  rw [if_neg (by simp [hon, State.isOut, hout, htesting, hpending]), if_neg hfree, if_pos (by simp [hruns, hspare])]

theorem State.testFlag_faults (s : State) (flag unit : Nat) : FaultsKept s (s.testFlag flag unit) := s.setFlag_faults ..

/-- A test that has to wait is counted and reported. -/
theorem State.deferTest_told (s : State) (unit : Nat) : (s.deferTest unit).reg Od.stDeferred = (s.reg Od.stDeferred + 1) % 2 ^ 32 ∧
    (s.sourceUp 113 = true → bit ((s.deferTest unit).reg (Od.evStatus 113)) 1 = true) := by
  refine ⟨?_, fun hup => ?_⟩
  · rw [State.deferTest, (State.testFlag_faults _ 1 unit).counts Od.stDeferred (by decide), State.count, State.reg_setReg_self]
  · rw [State.deferTest, State.testFlag, State.status_setFlag (s.count 32 Od.stDeferred) _ _ _ hup, bit_statusSet (by decide),
      decide_eq_true rfl, Bool.true_or]

theorem State.deferTest_health (s : State) (unit : Nat) : ∃ e, (s.deferTest unit).health = { s.health with lastEvents := e } :=
  (s.count 32 Od.stDeferred).setFlag_health 113 1 (some unit)

end

/-! ### SELF_TEST_END (R407, R408, R412, R413) -/

section
variable (s : State) (unit : Nat) (e : TestEnd)

/-- A test's end, recorded: its result, its part in a manual run and whether a second test is due. -/
def State.testRecorded : State :=
  let s1 := s.writeResult unit (s.testResult unit e) (s.testFlags unit) e.patterns e.misr
  (if s.health.manual = some unit then s1.setReg Od.manualMisr (e.misr % 2 ^ 64) else s1).setHealth fun h => { h with
    manual := h.manual.filter fun u => u ≠ unit
    retest := if s.testResult unit e = 3 then h.retest else h.retest.filter fun u => u ≠ unit }

/-- The unit out of its test. -/
def State.testLeft : State :=
  (s.testRecorded unit e).leaveTest unit (s.testResult unit e = 0 || (s.testResult unit e = 3 && !s.retests unit))

/-- A test passed. -/
def State.testPassed : State :=
  (((s.testLeft unit e).count 32 Od.stPasses).setHealth fun h => { h with
    lastPass := Tab.insert h.lastPass unit (s.testLeft unit e).now }).when_ (s.retests unit) fun t => t.testFlag 2 unit

/-- A test failed. -/
def State.testFailed : State := ((s.testLeft unit e).count 32 Od.stFails).testFlag 0 unit

variable {s unit e}

theorem State.testEnd_idle (h : s.underTest unit = false) : s.testEnd unit e = s := if_pos (by rw [h]; rfl)

theorem State.testEnd_eq (h : s.underTest unit = true) : s.testEnd unit e =
    if s.testResult unit e = 3 then s.testLeft unit e
    else if s.testResult unit e = 0 then s.testPassed unit e
    else if !s.retests unit then (s.testFailed unit e).setHealth fun h => { h with retest := h.retest ++ [unit] }
    else if unit / 4096 = 1 then (s.testFailed unit e).retireCore (unit % 4096) 2 0
    else (s.testFailed unit e).retireSlice (unit % 4096) 2 0 0 := if_neg (by rw [h]; exact Bool.false_ne_true)

theorem State.testRecorded_health : (s.testRecorded unit e).health = { s.health with
    results := (⟨unit, s.testResult unit e, s.testFlags unit, e.patterns % 2 ^ 32, e.misr % 2 ^ 64, s.tickNow⟩ :: s.health.results).take 256
    manual := s.health.manual.filter fun u => u ≠ unit
    retest := if s.testResult unit e = 3 then s.health.retest else s.health.retest.filter fun u => u ≠ unit } := by
  unfold State.testRecorded
  dsimp only
  split <;> rfl

theorem State.testRecorded_faults : FaultsKept s (s.testRecorded unit e) := by
  unfold State.testRecorded
  dsimp only
  have hresult : FaultsKept s (s.writeResult unit (s.testResult unit e) (s.testFlags unit) e.patterns e.misr) :=
    s.setHealth_faults _ (fun _ hn => hn) rfl
  refine .trans ?_ (State.setHealth_faults _ _ (fun _ hn => hn) rfl)
  exact .ite (hresult.trans (State.setReg_faults _ (k := Od.manualMisr) (by decide) _)) hresult

theorem State.leaveTest_faults (s : State) (unit : Nat) (good : Bool) : FaultsKept s (s.leaveTest unit good) :=
  .ite ((s.setHerd_faults ..).trans (State.coverage_faults _)) (s.setHealth_faults _ (fun _ hn => hn) rfl)

theorem State.testLeft_faults : FaultsKept s (s.testLeft unit e) := State.testRecorded_faults.trans (State.leaveTest_faults ..)

/-- What a failure keeps of the faults' record, and what tells of it. -/
theorem State.testFailed_told : (s.testFailed unit e).reg Od.stFails = (s.reg Od.stFails + 1) % 2 ^ 32 ∧
    (s.sourceUp 113 = true → bit ((s.testFailed unit e).reg (Od.evStatus 113)) 0 = true) := by
  refine ⟨?_, fun hup => ?_⟩
  · rw [State.testFailed, (State.testFlag_faults _ 0 unit).counts Od.stFails (by decide), State.count, State.reg_setReg_self,
      State.testLeft_faults.counts _ (by decide)]
  · have hsource : ((s.testLeft unit e).count 32 Od.stFails).sourceUp 113 = true := by
      have hpower : (s.testLeft unit e).power = s.power := by
        refine (State.power_of_only (State.leaveTest_only (by decide) ..)).trans ?_
        unfold State.testRecorded
        dsimp only
        split <;> rfl
      unfold State.sourceUp at hup ⊢
      rw [State.count, State.setReg_power, hpower]
      exact hup
    rw [State.testFailed, State.testFlag, State.status_setFlag _ _ _ _ hsource, bit_statusSet (by decide), decide_eq_true rfl, Bool.true_or]

theorem State.testFailed_health : ∃ l, (s.testFailed unit e).health = { (s.testLeft unit e).health with lastEvents := l } :=
  ((s.testLeft unit e).count 32 Od.stFails).setFlag_health 113 0 (some unit)

theorem State.testPassed_reg : (s.testPassed unit e).reg Od.stPasses = (s.reg Od.stPasses + 1) % 2 ^ 32 := by
  have hcount (f : Health → Health) : (((s.testLeft unit e).count 32 Od.stPasses).setHealth f).reg Od.stPasses =
      (s.reg Od.stPasses + 1) % 2 ^ 32 := by
    refine (State.reg_setReg_self ..).trans ?_
    rw [State.testLeft_faults.counts _ (by decide)]
  unfold State.testPassed
  cases s.retests unit
  · exact hcount _
  · exact ((State.setFlag_faults _ 113 2 (some unit)).counts _ (by decide)).trans (hcount _)

theorem State.testPassed_health : ∃ l, (s.testPassed unit e).health = { (s.testLeft unit e).health with
    lastEvents := l, lastPass := Tab.insert (s.testLeft unit e).health.lastPass unit (s.testLeft unit e).now } := by
  unfold State.testPassed
  cases s.retests unit
  · exact ⟨_, rfl⟩
  · obtain ⟨l, hl⟩ := (((s.testLeft unit e).count 32 Od.stPasses).setHealth fun h => { h with
      lastPass := Tab.insert h.lastPass unit (s.testLeft unit e).now }).setFlag_health 113 2 (some unit)
    exact ⟨l, hl⟩

theorem State.testLeft_now : (s.testLeft unit e).now = s.now := by
  have htime : (s.testLeft unit e).time = s.time := by
    refine (State.time_of_only (State.leaveTest_only (by decide) ..)).trans ?_
    unfold State.testRecorded
    dsimp only
    split <;> rfl
  rw [State.now, htime]
  rfl

end

end Sys2Proof.Machine
end

section
set_option Elab.async false
namespace Sys2Proof.Machine

/-! ### The end of a core unit's test -/

section
variable {s : State} {n : Nat} {e : TestEnd}

/-- The herd once the unit at a position is out of its test. -/
def Herd.leave (x : Herd) (pos : Nat) (good : Bool) : Herd := { x with testing := none, spare := if good then some pos else x.spare }

theorem State.testLeft_core (hn : n < 60) : s.testLeft (unitId 1 n) e = ((s.testRecorded (unitId 1 n) e).setHerd (n / 5)
    ((s.herd (n / 5)).leave (n % 5) (s.testResult (unitId 1 n) e = 0 || (s.testResult (unitId 1 n) e = 3 && !s.retests (unitId 1 n))))).coverage := by
  have hclass : unitId 1 n / 4096 = 1 := by unfold unitId; omega
  have hindex : unitId 1 n % 4096 = n := by unfold unitId; omega
  have hherd : (s.testRecorded (unitId 1 n) e).herd (n / 5) = s.herd (n / 5) := State.herd_congr (by rw [State.testRecorded_health]) _
  unfold State.testLeft State.leaveTest
  dsimp only
  rw [if_pos hclass, hindex, hherd]
  rfl

theorem State.testLeft_core_health (hn : n < 60) : ∃ l, (s.testLeft (unitId 1 n) e).health = { (s.testRecorded (unitId 1 n) e).health with
    herds := (s.testLeft (unitId 1 n) e).health.herds, lastEvents := l } := by
  rw [State.testLeft_core hn]
  obtain ⟨l, hl⟩ := ((s.testRecorded (unitId 1 n) e).setHerd (n / 5) ((s.herd (n / 5)).leave (n % 5)
    (s.testResult (unitId 1 n) e = 0 || (s.testResult (unitId 1 n) e = 3 && !s.retests (unitId 1 n))))).coverage_health
  exact ⟨l, by rw [hl]; rfl⟩

theorem State.testLeft_core_herd (hn : n < 60) : (s.testLeft (unitId 1 n) e).herd (n / 5) = (s.herd (n / 5)).leave (n % 5)
    (s.testResult (unitId 1 n) e = 0 || (s.testResult (unitId 1 n) e = 3 && !s.retests (unitId 1 n))) := by
  rw [State.testLeft_core hn, State.herd_coverage, State.herd_setHerd_self]

/-- The newest result is this test's. -/
def State.TestShown (s t : State) (unit : Nat) (e : TestEnd) : Prop :=
  t.health.results.head?.any (fun z => z.unit_ = unit && z.result = s.testResult unit e && z.tick = s.tickNow) = true

theorem State.testShown_of_results {t : State} {unit : Nat} (h : t.health.results = (s.testRecorded unit e).health.results) :
    s.TestShown t unit e := by
  rw [State.TestShown, h, State.testRecorded_health]
  simp

/-- A core unit that retires leaves the results and the herd's test as they are. -/
theorem State.retireCore_keeps (t : State) (unit cause count : Nat) : (t.retireCore unit cause count).health.results = t.health.results ∧
    ((t.herd (unit / 5)).testing = none → ((t.retireCore unit cause count).herd (unit / 5)).testing = none) := by
  unfold State.retireCore
  dsimp only
  split
  · next l hl =>
    have hl := Herd.runs_lt hl
    split
    · exact ⟨rfl, fun h => h⟩
    · obtain ⟨hherd, -, -⟩ := t.loseUnit_effects (4 * (unit / 5) + l) cause count
      have hunit : (4 * (unit / 5) + l) / 4 = unit / 5 := by omega
      rw [hunit] at hherd
      refine ⟨?_, fun h => by rw [hherd]; exact h⟩
      have hhealth := State.loseUnit_health t (4 * (unit / 5) + l) cause count
      rw [hhealth]
      rfl
  · obtain ⟨e1, o, r, hrec⟩ := t.recordRetirement_health (unitId 1 unit) cause count
    refine ⟨?_, fun h => ?_⟩
    · obtain ⟨e2, hcov⟩ := ((t.recordRetirement (unitId 1 unit) cause count).setHerd (unit / 5) { t.herd (unit / 5) with
        spare := (t.herd (unit / 5)).spare.filter fun q => q ≠ unit % 5
        testing := (t.herd (unit / 5)).testing.filter fun q => q ≠ unit % 5 }).coverage_health
      rw [hcov]
      change (t.recordRetirement (unitId 1 unit) cause count).health.results = t.health.results
      rw [hrec]
    · rw [State.herd_coverage, State.herd_setHerd_self, h]
      rfl

theorem State.out_retireCore {t : State} {unit : Nat} (h : (t.herd (unit / 5)).runs (unit % 5) = none) (cause count : Nat) :
    unitId 1 unit ∈ (t.retireCore unit cause count).health.out := by
  unfold State.retireCore
  dsimp only
  rw [h]
  exact ((State.setHerd_faults ..).trans (State.coverage_faults _)).out _ (t.mem_out_recordRetirement ..)

theorem State.testPassed_core (hn : n < 60) (hw : s.testResult (unitId 1 n) e = 0) :
    s.TestShown (s.testPassed (unitId 1 n) e) (unitId 1 n) e ∧
      (s.testPassed (unitId 1 n) e).herd (n / 5) = (s.herd (n / 5)).leave (n % 5) true ∧
      unitId 1 n ∉ (s.testPassed (unitId 1 n) e).health.retest ∧
      Tab.find (s.testPassed (unitId 1 n) e).health.lastPass (unitId 1 n) = some s.now := by
  obtain ⟨l, hl⟩ := State.testPassed_health (s := s) (unit := unitId 1 n) (e := e)
  obtain ⟨l', hleft⟩ := State.testLeft_core_health (s := s) (e := e) hn
  have hherd := State.testLeft_core_herd (s := s) (e := e) hn
  rw [hw] at hherd
  refine ⟨State.testShown_of_results ?_, ?_, ?_, ?_⟩
  · rw [hl]
    change (s.testLeft (unitId 1 n) e).health.results = _
    rw [hleft]
  · have hherds : (s.testPassed (unitId 1 n) e).health.herds = (s.testLeft (unitId 1 n) e).health.herds := by rw [hl]
    exact (State.herd_congr hherds _).trans hherd
  · rw [hl]
    change unitId 1 n ∉ (s.testLeft (unitId 1 n) e).health.retest
    rw [hleft]
    change unitId 1 n ∉ (s.testRecorded (unitId 1 n) e).health.retest
    rw [State.testRecorded_health, hw]
    simp
  · rw [hl, ← State.testLeft_now (s := s) (unit := unitId 1 n) (e := e)]
    exact Tab.find_insert_self ..

theorem State.testFailed_core (hn : n < 60) : (s.testFailed (unitId 1 n) e).health.results = (s.testRecorded (unitId 1 n) e).health.results ∧
    (s.testFailed (unitId 1 n) e).herd (n / 5) = (s.testLeft (unitId 1 n) e).herd (n / 5) ∧
    (s.testFailed (unitId 1 n) e).health.out = s.health.out := by
  obtain ⟨l, hl⟩ := State.testFailed_health (s := s) (unit := unitId 1 n) (e := e)
  obtain ⟨l', hleft⟩ := State.testLeft_core_health (s := s) (e := e) hn
  have hherds : (s.testFailed (unitId 1 n) e).health.herds = (s.testLeft (unitId 1 n) e).health.herds := by rw [hl]
  refine ⟨?_, State.herd_congr hherds _, ?_⟩
  · rw [hl]
    change (s.testLeft (unitId 1 n) e).health.results = _
    rw [hleft]
  · rw [hl]
    change (s.testLeft (unitId 1 n) e).health.out = _
    rw [hleft]
    change (s.testRecorded (unitId 1 n) e).health.out = _
    rw [State.testRecorded_health]

/-- A core unit's test ends: recorded and out of the test; abandoned, passed, to be tested again, or the second failure. -/
theorem State.testEnd_core (hn : n < 60) (hunder : s.underTest (unitId 1 n) = true) :
    let t := s.testEnd (unitId 1 n) e
    let w := s.testResult (unitId 1 n) e
    s.TestShown t (unitId 1 n) e ∧ (t.herd (n / 5)).testing = none ∧
      (w = 3 → t.reg Od.stPasses = s.reg Od.stPasses ∧ t.reg Od.stFails = s.reg Od.stFails ∧ t.health.retest = s.health.retest) ∧
      (w = 0 → t.reg Od.stPasses = (s.reg Od.stPasses + 1) % 2 ^ 32 ∧ (t.herd (n / 5)).spare = some (n % 5) ∧
        unitId 1 n ∉ t.health.retest ∧ Tab.find t.health.lastPass (unitId 1 n) = some s.now) ∧
      (w = 1 ∨ w = 2 → t.reg Od.stFails = (s.reg Od.stFails + 1) % 2 ^ 32 ∧
        (s.sourceUp 113 = true → bit (t.reg (Od.evStatus 113)) 0 = true) ∧
        (unitId 1 n ∉ s.health.retest → unitId 1 n ∈ t.health.retest ∧ t.health.out = s.health.out) ∧
        (unitId 1 n ∈ s.health.retest → (s.herd (n / 5)).runs (n % 5) = none → unitId 1 n ∈ t.health.out)) := by
  have hclass : unitId 1 n / 4096 = 1 := by unfold unitId; omega
  have hindex : unitId 1 n % 4096 = n := by unfold unitId; omega
  have hherd := State.testLeft_core_herd (s := s) (e := e) hn
  dsimp only
  rw [State.testEnd_eq hunder]
  by_cases h3 : s.testResult (unitId 1 n) e = 3
  · rw [if_pos h3]
    obtain ⟨l, hleft⟩ := State.testLeft_core_health (s := s) (e := e) hn
    refine ⟨State.testShown_of_results (by rw [hleft]), by rw [hherd]; rfl, fun _ => ⟨State.testLeft_faults.counts _ (by decide),
      State.testLeft_faults.counts _ (by decide), ?_⟩, fun h0 => by omega, fun h12 => by omega⟩
    rw [hleft]
    change (s.testRecorded (unitId 1 n) e).health.retest = _
    rw [State.testRecorded_health]
    exact if_pos h3
  rw [if_neg h3]
  by_cases h0 : s.testResult (unitId 1 n) e = 0
  · obtain ⟨hshown, hherd, hretest, hpass⟩ := State.testPassed_core hn h0
    rw [if_pos h0]
    exact ⟨hshown, by rw [hherd]; rfl, fun h => absurd h h3, fun _ => ⟨State.testPassed_reg, by rw [hherd]; rfl, hretest, hpass⟩,
      fun h12 => by omega⟩
  rw [if_neg h0]
  obtain ⟨hresults, hfailed, hout⟩ := State.testFailed_core (s := s) (e := e) hn
  obtain ⟨hfails, hflag⟩ := State.testFailed_told (s := s) (unit := unitId 1 n) (e := e)
  have htesting : ((s.testFailed (unitId 1 n) e).herd (n / 5)).testing = none := by rw [hfailed, hherd]; rfl
  by_cases hagain : unitId 1 n ∈ s.health.retest
  · have hretests : ¬(!s.retests (unitId 1 n)) = true := by simp [State.retests, hagain]
    rw [if_neg hretests, if_pos hclass, hindex]
    obtain ⟨hkeepsResults, hkeepsTest⟩ := (s.testFailed (unitId 1 n) e).retireCore_keeps n 2 0
    have hkept := (s.testFailed (unitId 1 n) e).retireCore_faults n 2 0
    refine ⟨State.testShown_of_results (hkeepsResults.trans hresults), hkeepsTest htesting, fun h => absurd h h3, fun h => absurd h h0,
      fun _ => ⟨(hkept.counts _ (by decide)).trans hfails, fun hup => hkept.flags (113, 0) (by decide) (hflag hup),
        fun h => absurd hagain h, fun _ hruns => State.out_retireCore ?_ 2 0⟩⟩
    rw [hfailed, hherd]
    exact hruns
  · have hretests : (!s.retests (unitId 1 n)) = true := by simp [State.retests, hagain]
    rw [if_pos hretests]
    exact ⟨State.testShown_of_results hresults, htesting, fun h => absurd h h3, fun h => absurd h h0,
      fun _ => ⟨hfails, hflag, fun _ => ⟨List.mem_append_right _ (List.mem_singleton_self _), hout⟩, fun h => absurd h hagain⟩⟩

end

/-! ### The end of a slice's test -/

section
variable {s : State} {i : Nat} {e : TestEnd}

theorem State.testLeft_slice_health (hi : i < 4) : (s.testLeft (unitId 3 i) e).health =
    { (s.testRecorded (unitId 3 i) e).health with sliceTest := none } := by
  have hclass : unitId 3 i / 4096 ≠ 1 := by unfold unitId; omega
  unfold State.testLeft State.leaveTest
  rw [if_neg hclass]
  rfl

/-- A slice's test ends as a core unit's does. -/
theorem State.testEnd_slice (hi : i < 4) (hunder : s.underTest (unitId 3 i) = true) :
    let t := s.testEnd (unitId 3 i) e
    let w := s.testResult (unitId 3 i) e
    t.health.sliceTest = none ∧ (w = 0 → t.reg Od.stPasses = (s.reg Od.stPasses + 1) % 2 ^ 32) ∧
      (w = 1 ∨ w = 2 → t.reg Od.stFails = (s.reg Od.stFails + 1) % 2 ^ 32 ∧
        (unitId 3 i ∈ s.health.retest → unitId 3 i ∈ t.health.out)) := by
  have hclass : unitId 3 i / 4096 ≠ 1 := by unfold unitId; omega
  have hindex : unitId 3 i % 4096 = i := by unfold unitId; omega
  have hleft : (s.testLeft (unitId 3 i) e).health.sliceTest = none := by rw [State.testLeft_slice_health hi]
  dsimp only
  rw [State.testEnd_eq hunder]
  by_cases h3 : s.testResult (unitId 3 i) e = 3
  · rw [if_pos h3]
    exact ⟨hleft, fun h0 => by omega, fun h12 => by omega⟩
  rw [if_neg h3]
  by_cases h0 : s.testResult (unitId 3 i) e = 0
  · obtain ⟨l, hl⟩ := State.testPassed_health (s := s) (unit := unitId 3 i) (e := e)
    rw [if_pos h0]
    exact ⟨(congrArg Health.sliceTest hl).trans hleft, fun _ => State.testPassed_reg, fun h12 => by omega⟩
  rw [if_neg h0]
  obtain ⟨l, hl⟩ := State.testFailed_health (s := s) (unit := unitId 3 i) (e := e)
  obtain ⟨hfails, -⟩ := State.testFailed_told (s := s) (unit := unitId 3 i) (e := e)
  have hslice : (s.testFailed (unitId 3 i) e).health.sliceTest = none := (congrArg Health.sliceTest hl).trans hleft
  by_cases hagain : unitId 3 i ∈ s.health.retest
  · have hretests : ¬(!s.retests (unitId 3 i)) = true := by simp [State.retests, hagain]
    rw [if_neg hretests, if_neg hclass, hindex]
    have hkept := (s.testFailed (unitId 3 i) e).retireSlice_faults i 2 0 0
    obtain ⟨e1, o, r, hrec⟩ := (s.testFailed (unitId 3 i) e).recordRetirement_health (sliceId i) 2 0
    obtain ⟨e2, hflag⟩ := ((s.testFailed (unitId 3 i) e).recordRetirement (sliceId i) 2 0).setFlag_health (48 + i) 2 (some 0)
    refine ⟨?_, fun h => absurd h h0, fun _ => ⟨(hkept.counts _ (by decide)).trans hfails, fun _ => ?_⟩⟩
    · refine (congrArg Health.sliceTest hflag).trans ?_
      change ((s.testFailed (unitId 3 i) e).recordRetirement (sliceId i) 2 0).health.sliceTest = none
      rw [hrec]
      exact hslice
    · exact (State.setFlag_faults ..).out _ (State.mem_out_recordRetirement ..)
  · have hretests : (!s.retests (unitId 3 i)) = true := by simp [State.retests, hagain]
    rw [if_pos hretests]
    exact ⟨hslice, fun h => absurd h h0, fun _ => ⟨hfails, fun h => absurd h hagain⟩⟩

end

end Sys2Proof.Machine
end

section
set_option Elab.async false
namespace Sys2Proof.Machine

/-! ### SLICE_SELF_TEST_START and TEST_OVERDUE (R409, R410) -/

section
variable {s : State} {i : Nat}

theorem State.sliceTestStart_idle (h : s.testsOn = false ∨ s.sliceOut i = true ∨ s.health.sliceTest.isSome = true) : s.sliceTestStart i = s := by
  refine if_pos ?_
  rw [Bool.or_eq_true, Bool.or_eq_true, Bool.not_eq_true']
  exact h.elim (fun h => .inl (.inl h)) fun h => h.elim (fun h => .inl (.inr h)) .inr

section
variable (hon : s.testsOn = true) (hin : s.sliceOut i = false) (hnone : s.health.sliceTest = none)
include hon hin hnone

theorem State.sliceTestStart_not_idle : ¬(!s.testsOn || s.sliceOut i || s.health.sliceTest.isSome) = true := by simp [hon, hin, hnone]

theorem State.sliceTestStart_of_held {f : FbServe} (hheld : s.fbService i = some f) (hkind : f.kind = .test) (hfrom : f.from_ ≤ s.tickNow) :
    s.sliceTestStart i = s.setHealth fun h => { h with sliceTest := some i } := by
  unfold State.sliceTestStart
  rw [if_neg (State.sliceTestStart_not_idle hon hin hnone), if_pos (by simp [hheld, hkind, hfrom])]

theorem State.sliceTestStart_of_retired (hfree : s.fbService i = none) (hretired : ∃ k < 4, s.sliceOut k = true) :
    s.sliceTestStart i = s.deferTest (sliceId i) := by
  have hany : (List.range 4).any s.sliceOut = true := by simpa using hretired
  unfold State.sliceTestStart
  rw [if_neg (State.sliceTestStart_not_idle hon hin hnone), if_neg (by simp [hfree]), if_pos hany]

theorem State.sliceTestStart_of_free (hi : i < 4) (halone : s.paired = false)
    (hfree : ∀ k < 4, s.fbService k = none ∧ s.sliceOut k = false) (hplans : s.pair.plans = []) :
    s.sliceTestStart i = s.setPair fun p => { p with plans := [⟨i, s.workTick + 16, false⟩] } := by
  have hout : ¬(List.range 4).any s.sliceOut = true := by
    simp only [List.any_eq_true, List.mem_range, not_exists, not_and]
    exact fun k hk => by simp [(hfree k hk).2]
  have hbusy : ¬((List.range 4).any (fun n => (s.fbService n).isSome) || !s.pair.plans.isEmpty) = true := by
    simp only [hplans, List.isEmpty_nil, Bool.not_true, Bool.or_false, List.any_eq_true, List.mem_range, not_exists, not_and]
    exact fun k hk => by simp [(hfree k hk).1]
  unfold State.sliceTestStart
  rw [if_neg (State.sliceTestStart_not_idle hon hin hnone), if_neg (by simp [(hfree i hi).1]), if_neg hout, if_neg hbusy]
  unfold State.planSlice
  simp only [halone, Bool.false_and, Bool.false_eq_true, if_false, State.setPair, hplans, List.filter_nil, List.nil_append]

end

/-- A standing condition shows in STATUS exactly while it holds. -/
theorem State.bit_stand_iff {n f : Nat} (hf : f < 16) (hup : s.sourceUp n = true) (holds : Bool) (info : Option Nat) :
    bit ((s.stand n f holds info).reg (Od.evStatus n)) f = holds := by
  cases holds
  · unfold State.stand
    dsimp only
    rw [if_neg Bool.false_ne_true]
    split
    · rw [State.reg_setReg_self, bit_setBit, if_pos rfl]
    · next h => exact Bool.eq_false_iff.mpr h
  · exact State.bit_stand s hf hup info

theorem State.testAge_effects (s : State) : s.testAge.reg Od.stOldestTestAge = s.oldestAge % 2 ^ 32 ∧
    (s.sourceUp 113 = true → bit (s.testAge.reg (Od.evStatus 113)) 3 = decide (s.reg Od.stPeriod * 60 < s.oldestAge)) := by
  refine ⟨?_, fun hup => ?_⟩
  · rw [State.testAge, State.reg_stand_of_not_owns _ (by unfold ownsEntry; decide), State.reg_setReg_self]
  · rw [State.testAge]
    exact State.bit_stand_iff (s := s.setReg Od.stOldestTestAge (s.oldestAge % 2 ^ 32)) (by decide) hup _ _

end

/-! ### MANUAL_RUN (R418, R427) -/

/-- A manual run of a core unit that is free for it. -/
theorem State.startSlot_manual {s : State} {n : Nat} (hfree : s.slotFree n = true) :
    (s.startSlot n true).health.manual = some (unitId 1 n) ∧ ((s.startSlot n true).herd (n / 5)).testing = some (n % 5) := by
  unfold State.slotFree at hfree
  dsimp only at hfree
  unfold State.startSlot
  dsimp only
  split
  · next l hl =>
    rw [hl, Bool.and_eq_true] at hfree
    obtain ⟨q, hq⟩ := Option.isSome_iff_exists.mp hfree.2
    rw [hq]
    exact ⟨rfl, congrArg Herd.testing (State.herd_setHerd_self ..)⟩
  · refine ⟨rfl, ?_⟩
    have hherd := ((s.setHerd (n / 5) { s.herd (n / 5) with testing := some (n % 5) }).herd_coverage (n / 5)).trans
      (s.herd_setHerd_self (n / 5) _)
    exact congrArg Herd.testing hherd

theorem State.takeSpare_isSome (s : State) (h : Nat) : (s.takeSpare h).isSome = ((s.herd h).spare.isSome || (s.testSpare h).isSome) := by
  unfold State.takeSpare
  dsimp only
  split
  · next q hq => rw [hq, Option.isSome_some, Option.isSome_some, Bool.true_or]
  · next hq =>
    rw [hq, Option.isSome_none, Bool.false_or]
    split
    · next hnone => rw [hnone, Option.isSome_none, Option.isSome_none]
    · next q hsome => rw [hsome, Option.isSome_some, Option.isSome_some]

/-- Whether a herd has a spare to give does not depend on the time. -/
theorem State.managerLender_setNow (s : State) (now : Nat) : (s.setNow now).managerLender = s.managerLender := by
  unfold State.managerLender
  congr 1
  funext h
  rw [State.takeSpare_isSome, State.takeSpare_isSome]
  rfl

/-! ### SPARE_TAKEOVER, MANAGER_MOVED and the slots that find no spare -/

section
variable {s : State} {h l q k n i : Nat}

theorem State.takeover_of_spare (hretires : s.retires h = some l) (hspare : (s.herd h).spare = some q) :
    let t := s.takeover h
    (t.herd h).units = (s.herd h).units.set l q ∧ (t.herd h).spare = none ∧ (t.herd h).pending = none ∧
      coreId h ((s.herd h).units.getD l 0) ∈ t.health.out ∧ t.reg Od.stCoverageDegraded = maskOf ((List.range 12).filter t.degraded) := by
  obtain ⟨hherd, hout, -, hcoverage⟩ := State.takeover_effects hretires (State.takeSpare_of_spare hspare)
  rw [State.herd_setHerd_self] at hherd hout
  dsimp only
  rw [hherd]
  exact ⟨rfl, rfl, rfl, hout, hcoverage⟩

theorem State.takeover_of_test (hretires : s.retires h = some l) (hspare : (s.herd h).spare = none) (htest : s.testSpare h = some q) :
    let t := s.takeover h
    (t.herd h).units = (s.herd h).units.set l q ∧ (t.herd h).testing = none ∧ (t.herd h).pending = none ∧
      coreId h ((s.herd h).units.getD l 0) ∈ t.health.out ∧
      t.health.results.head?.any (fun w => w.unit_ = coreId h q && w.result = 3) = true := by
  obtain ⟨t, htake, htaken, hresult⟩ := State.takeSpare_of_test hspare htest
  obtain ⟨hherd, hout, hresults, -⟩ := State.takeover_effects hretires htake
  rw [htaken] at hherd hout
  dsimp only
  rw [hherd, hresults]
  exact ⟨rfl, rfl, rfl, hout, hresult⟩

theorem State.moveManager_lent (hlost : 0 ∈ s.health.lostRegions) (hat : s.health.managerHerd = 0) (hlender : s.managerLender = some k) :
    let t := s.moveManager
    t.health.managerHerd = k ∧ t.health.managerLent = true ∧ t.reg Od.mgrManagerHerd = k ∧ 3 ≤ k ∧ k < 12 ∧
      (s.sourceUp 112 = true → bit (t.reg (Od.evStatus 112)) 10 = true) := by
  obtain ⟨t, ht, hpower, h3, h12⟩ := State.moveManager_of_lender hlost hat hlender
  obtain ⟨hherd, hlent, hshown, hflag⟩ := t.managerAt_effects k true
  have hsource : t.sourceUp 112 = s.sourceUp 112 := by
    unfold State.sourceUp
    rw [hpower]
  dsimp only
  rw [ht]
  exact ⟨hherd, hlent, hshown, h3, h12, fun hup => hflag (hsource.trans hup)⟩

theorem State.moveManager_unlent (hlost : 0 ∈ s.health.lostRegions) (hat : s.health.managerHerd = 0) (hlender : s.managerLender = none) :
    let t := s.moveManager
    t.health.managerHerd = 3 ∧ t.health.managerLent = false ∧ t.reg Od.mgrManagerHerd = 3 ∧
      ∀ p ∈ s.partsOn 12, (t.part p).displaced = true := by
  obtain ⟨hherd, hlent, hshown, -⟩ := s.managerAt_effects 3 false
  have hkept : ((s.managerAt 3 false).displace 12).health = (s.managerAt 3 false).health := State.health_of_only (State.displace_only (by decide) ..)
  dsimp only
  rw [State.moveManager_of_no_lender hlost hat hlender, hkept, State.reg_of_only (State.displace_only (by decide) ..)]
  refine ⟨hherd, hlent, hshown, fun p hp => ?_⟩
  rw [State.part_displace, if_pos ((State.mem_partsOn_of_quiet (s.quiet_managerAt 3 false p) 12).mpr hp)]

theorem State.slotStart_no_spare (hon : s.testsOn = true) (hout : unitId 1 n ∉ s.health.out) (htesting : (s.herd (n / 5)).testing = none)
    (hpending : (s.herd (n / 5)).pending = none) (hruns : (s.herd (n / 5)).runs (n % 5) = some l) (hspare : (s.herd (n / 5)).spare = none) :
    let t := s.slotStart n
    t.herd (n / 5) = s.herd (n / 5) ∧ t.reg Od.stDeferred = (s.reg Od.stDeferred + 1) % 2 ^ 32 ∧
      (s.sourceUp 113 = true → bit (t.reg (Od.evStatus 113)) 1 = true) := by
  obtain ⟨hcount, hflag⟩ := s.deferTest_told (unitId 1 n)
  obtain ⟨e, he⟩ := s.deferTest_health (unitId 1 n)
  have hkept := (s.deferTest (unitId 1 n)).coverage_faults
  dsimp only
  rw [State.slotStart_deferred hon hout htesting hpending hruns hspare]
  refine ⟨?_, (hkept.counts _ (by decide)).trans hcount, fun hup => hkept.flags (113, 1) (by decide) (hflag hup)⟩
  rw [State.herd_coverage]
  exact State.herd_congr (by rw [he]) _

theorem State.sliceTestStart_no_fallback (hon : s.testsOn = true) (hin : s.sliceOut i = false) (hnone : s.health.sliceTest = none)
    (hfree : s.fbService i = none) (hretired : ∃ k < 4, s.sliceOut k = true) :
    let t := s.sliceTestStart i
    t.reg Od.stDeferred = (s.reg Od.stDeferred + 1) % 2 ^ 32 ∧ t.health.sliceTest = none ∧ t.pair = s.pair := by
  obtain ⟨e, he⟩ := s.deferTest_health (sliceId i)
  dsimp only
  rw [State.sliceTestStart_of_retired hon hin hnone hfree hretired]
  exact ⟨(s.deferTest_told (sliceId i)).1, by rw [he]; exact hnone, State.pair_of_only (State.deferTest_only (by decide) ..)⟩

end

/-! ### The writes of CLEAR_RETIREMENT, HARD_REPAIR and MANUAL_RUN -/

section
variable {s : State} {v : Nat}

theorem State.told_ok (s : State) : s.ok.told = s.emit (.status 0 []) := rfl
theorem State.told_refuse (s : State) (code : Nat) : (s.refuse code).told = s.emit (.status code []) := rfl

theorem State.whileRunning_of_stopped (h : s.power.bootStopped = true) (w : Answer) : s.whileRunning w = s.refuse stBusy := if_pos h
theorem State.whileRunning_of_not_stopped (h : s.power.bootStopped = false) (w : Answer) : s.whileRunning w = w :=
  if_neg (by rw [h]; exact Bool.false_ne_true)

theorem State.writeClearRetirement_of_listed (h : ∃ w ∈ s.health.retired, w.unit_ = v) : s.writeClearRetirement v =
    (s.setHealth fun z => { z with retired := z.retired.filter fun w => w.unit_ ≠ v }).ok := if_pos (by simpa using h)
theorem State.writeClearRetirement_of_not_listed (h : ∀ w ∈ s.health.retired, w.unit_ ≠ v) :
    s.writeClearRetirement v = s.refuse stInvalidValue := if_neg (by simpa using h)

theorem State.writeHardRepair_closed (h : s.testAccess = false) : s.writeHardRepair v = s.refuse stNoEntry := if_pos (by rw [h]; rfl)

theorem State.writeHardRepair_of_soft (h : s.testAccess = true) {w : Repair} (hw : s.health.repairs[v]? = some w) (hsoft : w.repair = 1) :
    s.writeHardRepair v = (s.setHealth fun z => { z with repairs := z.repairs.set v { w with repair := 2 } }).ok := by
  unfold State.writeHardRepair
  rw [if_neg (by simp [h]), hw]
  exact if_neg (by simp [hsoft])

theorem State.writeHardRepair_of_none (h : s.testAccess = true) (hnone : ∀ w, s.health.repairs[v]? = some w → w.repair ≠ 1) :
    s.writeHardRepair v = s.refuse stInvalidValue := by
  unfold State.writeHardRepair
  rw [if_neg (by simp [h])]
  cases hw : s.health.repairs[v]? with
  | none => rfl
  | some w => exact if_pos (hnone w hw)

theorem State.writeManualRun_closed (h : s.testAccess = false) : s.writeManualRun v = s.refuse stNoEntry := if_pos (by rw [h]; rfl)

section
variable (h : s.testAccess = true)
include h

theorem State.writeManualRun_large (hv : 2 ≤ v) : s.writeManualRun v = s.refuse stTypeMismatch := by
  unfold State.writeManualRun
  dsimp only
  rw [if_neg (by simp [h]), if_pos hv]

theorem State.writeManualRun_zero : s.writeManualRun 0 = s.ok := by
  unfold State.writeManualRun
  dsimp only
  rw [if_neg (by simp [h]), if_neg (by decide), if_pos rfl]

theorem State.writeManualRun_busy (hmanual : s.health.manual.isSome = true) : s.writeManualRun 1 = s.refuse stBusy := by
  unfold State.writeManualRun
  dsimp only
  rw [if_neg (by simp [h]), if_neg (by decide), if_neg Nat.one_ne_zero, if_pos hmanual]

theorem State.writeManualRun_core {n : Nat} (hn : n < 60) (hmanual : s.health.manual = none) (hunit : s.reg Od.manualUnit = unitId 1 n) :
    s.writeManualRun 1 = if s.slotFree n then (s.startSlot n true).ok else s.refuse stBusy := by
  have hclass : unitId 1 n / 4096 = 1 := by unfold unitId; omega
  have hindex : unitId 1 n % 4096 = n := by unfold unitId; omega
  unfold State.writeManualRun
  dsimp only
  rw [if_neg (by simp [h]), if_neg (by decide), if_neg Nat.one_ne_zero, if_neg (by simp [hmanual]), hunit, hclass, hindex, if_pos (by simp [hn])]

end
end

/-! ### The commands -/

section
variable (s : State) (a : Instant) (n h r i v unit : Nat) (e : TestEnd)

theorem exec_lockstepMismatch : exec (.lockstepMismatch a n) s = act (n < 60) (6 + n / 15) (s.arrive a) fun s => s.lockstep n := rfl
theorem exec_spareTakeover : exec (.spareTakeover a h) s = act (h < 12) (6 + h / 3) (s.arrive a) fun s => s.takeover h := rfl
theorem exec_partitionRelocate : exec (.partitionRelocate a h) s = act (h < 12) 10 (s.arrive a) fun s => s.relocate h := rfl
theorem exec_regionLost : exec (.regionLost a r) s = act (r < 4) 10 (s.arrive a) fun s => s.regionFails r := rfl
theorem exec_managerMoved : exec (.managerMoved a) s = act true 10 (s.arrive a) fun s => s.moveManager := rfl
theorem exec_selfTestSlotStart : exec (.selfTestSlotStart a n) s = act (n < 60) (6 + n / 15) (s.arrive a) fun s => s.slotStart n := rfl
theorem exec_selfTestEnd : exec (.selfTestEnd a unit e) s =
    act ((unit / 4096 = 1 && unit % 4096 < 60) || (unit / 4096 = 3 && unit % 4096 < 4)) 10 (s.arrive a) fun s => s.testEnd unit e := rfl
theorem exec_sliceSelfTestStart : exec (.sliceSelfTestStart a i) s = act (i < 4) (6 + i) (s.arrive a) fun s => s.sliceTestStart i := rfl
theorem exec_testOverdue : exec (.testOverdue a) s = act true 10 (s.arrive a) fun s => s.testAge := rfl
theorem exec_clearRetirement : exec (.clearRetirement a v) s =
    act true 1 (s.arrive a) fun s => (s.whileRunning (s.writeClearRetirement v)).told := rfl
theorem exec_hardRepair : exec (.hardRepair a v) s = act true 2 (s.arrive a) fun s => (s.whileRunning (s.writeHardRepair v)).told := rfl
theorem exec_manualRun : exec (.manualRun a v) s = act true 10 (s.arrive a) fun s => (s.writeManualRun v).told := rfl

end

/-- Settles O53: each command is the operation it names on the state as its instant arrived, which but for the time is the state before it. -/
theorem unitsRetireAndSparesTake : Obligations.UnitsRetireAndSparesTake := by
  unfold Obligations.UnitsRetireAndSparesTake
  intro s u a n h r i v e hu hpower hn hh hr hi
  have hup (d : Nat) (h1 : 1 ≤ d) (h10 : d ≤ 10) : (s.arrive a).powered d = true := by rw [State.arrive_powered, hpower d h1 h10]
  have hlockstep : exec (.lockstepMismatch a n) s = .next (u.lockstep n).settle :=
    hu ▸ (exec_lockstepMismatch s a n).trans (act_on (decide_eq_true hn) (hup _ (by omega) (by omega)))
  have htakeover : exec (.spareTakeover a h) s = .next (u.takeover h).settle :=
    hu ▸ (exec_spareTakeover s a h).trans (act_on (decide_eq_true hh) (hup _ (by omega) (by omega)))
  have hrelocate : exec (.partitionRelocate a h) s = .next (u.relocate h).settle :=
    hu ▸ (exec_partitionRelocate s a h).trans (act_on (decide_eq_true hh) (hup _ (by omega) (by omega)))
  have hregion : exec (.regionLost a r) s = .next (u.regionFails r).settle :=
    hu ▸ (exec_regionLost s a r).trans (act_on (decide_eq_true hr) (hup _ (by omega) (by omega)))
  have hmanager : exec (.managerMoved a) s = .next u.moveManager.settle :=
    hu ▸ (exec_managerMoved s a).trans (act_on rfl (hup _ (by omega) (by omega)))
  have hslot : exec (.selfTestSlotStart a n) s = .next (u.slotStart n).settle :=
    hu ▸ (exec_selfTestSlotStart s a n).trans (act_on (decide_eq_true hn) (hup _ (by omega) (by omega)))
  have hcoreEnd : exec (.selfTestEnd a (unitId 1 n) e) s = .next (u.testEnd (unitId 1 n) e).settle := by
    have hclass : unitId 1 n / 4096 = 1 := by unfold unitId; omega
    have hindex : unitId 1 n % 4096 = n := by unfold unitId; omega
    exact hu ▸ (exec_selfTestEnd s a (unitId 1 n) e).trans (act_on (by simp [hclass, hindex, hn]) (hup _ (by omega) (by omega)))
  have hsliceEnd : exec (.selfTestEnd a (unitId 3 i) e) s = .next (u.testEnd (unitId 3 i) e).settle := by
    have hclass : unitId 3 i / 4096 = 3 := by unfold unitId; omega
    have hindex : unitId 3 i % 4096 = i := by unfold unitId; omega
    exact hu ▸ (exec_selfTestEnd s a (unitId 3 i) e).trans (act_on (by simp [hclass, hindex, hi]) (hup _ (by omega) (by omega)))
  have hsliceStart : exec (.sliceSelfTestStart a i) s = .next (u.sliceTestStart i).settle :=
    hu ▸ (exec_sliceSelfTestStart s a i).trans (act_on (decide_eq_true hi) (hup _ (by omega) (by omega)))
  have hoverdue : exec (.testOverdue a) s = .next u.testAge.settle :=
    hu ▸ (exec_testOverdue s a).trans (act_on rfl (hup _ (by omega) (by omega)))
  have hclear : exec (.clearRetirement a v) s = .next (u.whileRunning (u.writeClearRetirement v)).told.settle :=
    hu ▸ (exec_clearRetirement s a v).trans (act_on rfl (hup _ (by omega) (by omega)))
  have hrepair : exec (.hardRepair a v) s = .next (u.whileRunning (u.writeHardRepair v)).told.settle :=
    hu ▸ (exec_hardRepair s a v).trans (act_on rfl (hup _ (by omega) (by omega)))
  have hmanual : exec (.manualRun a v) s = .next (u.writeManualRun v).told.settle :=
    hu ▸ (exec_manualRun s a v).trans (act_on rfl (hup _ (by omega) (by omega)))
  have same {α : Type} (g : State → α) (hg : ∀ t, g (s.setNow t) = g s) : g s = g u := hu ▸ (State.arrive_eq g hg a).symm
  have hhealth := same State.health fun _ => rfl
  have hherd := fun k => same (·.herd k) fun _ => rfl
  have hpart := fun k => same (·.part k) fun _ => rfl
  have hparts := same State.parts fun _ => rfl
  have hrunning := fun k => same (·.runningOn k) fun _ => rfl
  have hon := fun k => same (·.partsOn k) fun _ => rfl
  have hworks := fun k l => same (·.worksOn k l) fun _ => rfl
  have hout := same State.out fun _ => rfl
  have htick := same State.workTick fun _ => rfl
  have hdegraded := fun k => same (·.degraded k) fun _ => rfl
  have htestSpare := fun k => same (·.testSpare k) fun _ => rfl
  have hreg := fun k => same (·.reg k) fun _ => rfl
  have hmajor := same State.majorSet fun _ => rfl
  have hsource := fun k => same (·.sourceUp k) fun _ => rfl
  have hlender := same State.managerLender s.managerLender_setNow
  have htests := same State.testsOn fun _ => rfl
  have hunder := fun k => same (·.underTest k) fun _ => rfl
  have hsliceOut := fun k => same (·.sliceOut k) fun _ => rfl
  have hfb := fun k => same (·.fbService k) fun _ => rfl
  have hpaired := same State.paired fun _ => rfl
  have hpair := same State.pair fun _ => rfl
  have hpower := same State.power fun _ => rfl
  have haccess := same State.testAccess fun _ => rfl
  have hfree := fun k => same (·.slotFree k) fun _ => rfl
  dsimp only at *
  simp only [hhealth, hherd, hpart, hparts, hrunning, hon, hworks, hout, htick, hdegraded, htestSpare, hreg, hmajor, hsource, hlender, htests,
    hunder, hsliceOut, hfb, hpaired, hpair, hpower, haccess, hfree]
  refine ⟨fun hidle => ?_, fun l hruns hpending hin => ?_, fun hnone => ?_, fun l q hretires hspare => ?_, fun l q hretires hspare htest => ?_,
    fun hnone hplaced => ?_, fun l hretires hd => ?_, fun hlost => ?_, fun hlost => ?_, fun hidle => ?_,
    fun hlost hat => ⟨fun k hk => ?_, fun hk => ?_⟩,
    fun hidle => ?_, fun hstarts hin htesting hpending l hruns => ⟨fun q hspare => ?_, fun hspare => ?_⟩, fun hidle => ?_, fun hidle => ?_,
    fun htest => ?_, fun htest => ?_, fun hidle => ?_,
    fun hstarts hin hidle => ⟨fun f hheld hkind hfrom => ?_, fun halone hnone hplans => ?_, fun hnone hretired => ?_⟩, ?_,
    fun hstopped => ⟨?_, ?_⟩, fun hruns hlisted => ?_, fun hruns hlisted => ?_, fun hclosed => ⟨fun hruns => ?_, ?_⟩,
    fun hopen => ⟨fun hruns w hw hsoft => ?_, fun hruns hw => ?_, fun hv => ?_, ?_, ?_, ?_⟩⟩
  · exact hlockstep.trans (by rw [State.lockstep_of_idle hidle])
  · exact ⟨_, hlockstep, State.lockstep_few hruns hpending hin, State.lockstep_third hruns hpending hin⟩
  · exact htakeover.trans (by rw [State.takeover_of_none hnone])
  · exact ⟨_, htakeover, State.takeover_of_spare hretires hspare⟩
  · exact ⟨_, htakeover, State.takeover_of_test hretires hspare htest⟩
  · exact hrelocate.trans (by rw [State.relocate_idle hnone hplaced])
  · exact ⟨_, hrelocate, State.relocate_effects hretires hd⟩
  · exact hregion.trans (by rw [State.regionFails_of_lost hlost])
  · exact ⟨_, hregion, State.regionFails_effects hlost⟩
  · exact hmanager.trans (by rw [State.moveManager_idle hidle])
  · exact ⟨_, hmanager, State.moveManager_lent hlost hat hk⟩
  · exact ⟨_, hmanager, State.moveManager_unlent hlost hat hk⟩
  · exact hslot.trans (by rw [State.slotStart_idle hidle])
  · exact hslot.trans (by rw [State.slotStart_of_spare hstarts hin htesting hpending hruns hspare])
  · exact ⟨_, hslot, State.slotStart_no_spare hstarts hin htesting hpending hruns hspare⟩
  · exact hcoreEnd.trans (by rw [State.testEnd_idle hidle])
  · exact hsliceEnd.trans (by rw [State.testEnd_idle hidle])
  · exact ⟨_, hcoreEnd, State.testEnd_core (e := e) hn htest⟩
  · exact ⟨_, hsliceEnd, State.testEnd_slice (e := e) hi htest⟩
  · exact hsliceStart.trans (by rw [State.sliceTestStart_idle hidle])
  · exact hsliceStart.trans (by rw [State.sliceTestStart_of_held hstarts hin hidle hheld hkind hfrom])
  · exact hsliceStart.trans (by rw [State.sliceTestStart_of_free hstarts hin hidle hi halone hnone hplans])
  · exact ⟨_, hsliceStart, State.sliceTestStart_no_fallback hstarts hin hidle hnone hretired⟩
  · exact ⟨_, hoverdue, u.testAge_effects⟩
  · exact hclear.trans (by rw [State.whileRunning_of_stopped hstopped, State.told_refuse])
  · exact hrepair.trans (by rw [State.whileRunning_of_stopped hstopped, State.told_refuse])
  · exact hclear.trans (by rw [State.whileRunning_of_not_stopped hruns, State.writeClearRetirement_of_listed hlisted, State.told_ok])
  · exact hclear.trans (by rw [State.whileRunning_of_not_stopped hruns, State.writeClearRetirement_of_not_listed hlisted, State.told_refuse])
  · exact hrepair.trans (by rw [State.whileRunning_of_not_stopped hruns, State.writeHardRepair_closed hclosed, State.told_refuse])
  · exact hmanual.trans (by rw [State.writeManualRun_closed hclosed, State.told_refuse])
  · exact hrepair.trans (by rw [State.whileRunning_of_not_stopped hruns, State.writeHardRepair_of_soft hopen hw hsoft, State.told_ok])
  · exact hrepair.trans (by rw [State.whileRunning_of_not_stopped hruns, State.writeHardRepair_of_none hopen hw, State.told_refuse])
  · exact hmanual.trans (by rw [State.writeManualRun_large hopen hv, State.told_refuse])
  · rintro rfl
    exact hmanual.trans (by rw [State.writeManualRun_zero hopen, State.told_ok])
  · rintro rfl hbusy
    exact hmanual.trans (by rw [State.writeManualRun_busy hopen hbusy, State.told_refuse])
  · rintro rfl hnone hunit
    have hcore := State.writeManualRun_core hopen hn hnone hunit
    refine ⟨fun hbusy => hmanual.trans ?_, fun hfree => ⟨_, hmanual, ?_⟩⟩
    · rw [hcore, hbusy, if_neg Bool.false_ne_true, State.told_refuse]
    · obtain ⟨hrun, htesting⟩ := State.startSlot_manual hfree
      rw [hcore, if_pos hfree, State.told_ok]
      generalize u.startSlot n true = t at hrun htesting
      exact ⟨hrun, htesting, rfl⟩

end Sys2Proof.Machine
end

section
set_option Elab.async false
namespace Sys2Proof.Machine

/-! ### Partitions at a boundary (R227, R235) -/

/-- After every partition has entered the work tick, no more than a pending interrupt of one changes: a step that keeps the others' view. -/
theorem State.each_quiet {α : Type} {f : α → State → State} {n : Nat} (h : ∀ a t, (f a t).quiet n = t.quiet n) (s : State) (l : List α) :
    (s.each l f).quiet n = s.quiet n := State.foldl_state_quiet (fun t a => h a t) l s

theorem State.when_quiet {f : State → State} {s : State} {n : Nat} (h : (f s).quiet n = s.quiet n) (c : Bool) :
    (s.when_ c f).quiet n = s.quiet n := by
  cases c
  · rfl
  · exact h

section
variable (s : State) (n : Nat)

theorem State.setReg_quiet (k v : Nat) : (s.setReg k v).quiet n = s.quiet n := State.quiet_of_only (State.setReg_only (by decide) ..) n
theorem State.count_quiet (w k : Nat) : (s.count w k).quiet n = s.quiet n := State.quiet_of_only (State.count_only (by decide) ..) n
theorem State.modPail_quiet (p : Nat) (f : Pail → Pail) : (s.modPail p f).quiet n = s.quiet n :=
  State.quiet_of_only (State.modPail_only (by decide) ..) n

theorem State.countPort_quiet (p sub by_ : Nat) : (s.countPort p sub by_).quiet n = s.quiet n := by
  have hport (t : State) (f : Port → Port) := State.quiet_of_only (State.modPort_only (part := .parts) (by decide) t p f) n
  simp only [State.countPort, State.quiet_ite, State.setFlag_quiet, State.setReg_quiet, hport, ite_self]

theorem State.overflowDrop_quiet (p : Nat) : (s.overflowDrop p).quiet n = s.quiet n := by
  rw [State.overflowDrop, State.setFlag_quiet, State.countPort_quiet]

theorem State.admitCopies_quiet (cells : Nat) (dests : List Dest) : (s.admitCopies cells dests).state.quiet n = s.quiet n := by
  refine State.foldl_quiet Admission.state (fun a d => ?_) _ _
  dsimp only
  split
  · rw [State.countPort_quiet]
  · rfl
  · rfl

theorem State.sendOwn_quiet (f : Frame) (direct : Option (List Nat)) (owner : Option Nat) (tag : Nat) (ptp : Option PtpTx) :
    (s.sendOwn f direct owner tag ptp).state.quiet n = s.quiet n := by
  unfold State.sendOwn
  dsimp only
  rw [State.quiet_of_only ((State.enqueue_only (by decide) ..).trans (State.takeSeqs_only (by decide) ..)),
    State.each_quiet fun _ _ => State.overflowDrop_quiet .., State.admitCopies_quiet, State.each_quiet fun _ _ => State.countPort_quiet ..]
  exact State.quiet_of_only (State.useMemory_only (by decide) ..) n

theorem State.useSlot_quiet (slot : Nat) (c : Consumer) : (s.useSlot slot c).2.quiet n = s.quiet n := by
  unfold State.useSlot
  split
  · rfl
  · rfl
  · rw [State.keysFlag, State.setFlag_quiet, State.count_quiet]

theorem State.sendGoose_quiet (j : Nat) (x : Pub) : (s.sendGoose j x).quiet n = s.quiet n := by
  unfold State.sendGoose
  dsimp only
  split
  · rfl
  · rw [State.gpFlag, State.setFlag_quiet, State.useSlot_quiet]
  · rw [State.sendOwn_quiet]
    rfl

theorem State.formPub_quiet (j : Nat) : (s.formPub j).quiet n = s.quiet n := by
  have hpub (x : Pub) := State.quiet_of_only (State.setPub_only (part := .parts) (by decide) s j x) n
  simp only [State.formPub, State.quiet_ite, State.sendGoose_quiet, State.gpFlag, State.setFlag_quiet, State.count_quiet, State.setReg_quiet, hpub,
    ite_self]

theorem State.formPubs_quiet (owned : Bool) : (s.formPubs owned).quiet n = s.quiet n := State.each_quiet (fun _ _ => State.formPub_quiet ..) ..

theorem State.postChange_quiet (j stNum : Nat) : (s.postChange j stNum).quiet n = s.quiet n :=
  State.each_quiet (fun _ _ => State.each_quiet (fun _ _ => State.post_quiet ..) ..) ..

theorem State.snapSub_quiet (j : Nat) : (s.snapSub j).quiet n = s.quiet n := by
  have hsub (x : Sub) := State.quiet_of_only (State.setSub_only (part := .parts) (by decide) s j x) n
  simp only [State.snapSub, State.postChange_quiet, State.when_quiet, State.quiet_ite, State.gsFlag, State.setFlag_quiet, State.setReg_quiet, hsub,
    ite_self]

theorem State.snapSubs_quiet : s.snapSubs.quiet n = s.quiet n := State.each_quiet (fun _ _ => State.snapSub_quiet ..) ..

theorem State.enterPail_quiet (p : Nat) : (s.enterPail p).quiet n = s.quiet n := by
  have hfreeze (t : State) := State.quiet_of_only (State.freezeBound_only (part := .parts) (by decide) t p) n
  have hreset (t : State) := State.quiet_of_only (State.finishReset_only (part := .parts) (by decide) t p) n
  simp only [State.enterPail, State.post_quiet, State.when_quiet, State.modPail_quiet, hfreeze, hreset]

theorem State.enterPails_quiet : s.enterPails.quiet n = s.quiet n := State.each_quiet (fun _ _ => State.enterPail_quiet ..) ..

theorem State.takeCommit_quiet (p value : Nat) : (s.takeCommit p value).quiet n = s.quiet n := by
  have hslots (i : Nat) := State.quiet_of_only (State.commitSlots_only (part := .parts) (by decide) s p i) n
  simp only [State.takeCommit, State.quiet_ite, State.post_quiet, State.modPail_quiet, State.count_quiet, hslots, ite_self]

theorem State.lateCommits_quiet : s.lateCommits.quiet n = s.quiet n := by
  refine State.each_quiet (fun e t => ?_) ..
  rw [State.each_quiet fun _ _ => State.takeCommit_quiet .., State.modPail_quiet]

end

/-- A table of partitions, each having entered work tick `k`, holds none with a window open or with TICK_DONE made in it. -/
theorem Partition.enter_table (k : Nat) (frame : Bool) (n : Nat) (t : Tab Partition) :
    (Tab.look (t.map fun e : Nat × Partition => (e.1, e.2.enter k frame)) n {}).window = none ∧
      (Tab.look (t.map fun e : Nat × Partition => (e.1, e.2.enter k frame)) n {}).done = false := by
  induction t with
  | nil => exact ⟨rfl, rfl⟩
  | cons e t ih =>
    unfold Tab.look at ih ⊢
    rw [List.map_cons, Tab.find]
    split
    · exact ⟨rfl, rfl⟩
    · exact ih

theorem State.part_enterParts (s : State) (n : Nat) : (s.enterParts.part n).window = none ∧ (s.enterParts.part n).done = false :=
  Partition.enter_table s.workTick _ n s.parts

end Sys2Proof.Machine
end

section
set_option Elab.async false
namespace Sys2Proof.Machine

/-! ### The entries a role is found from (R331, R333, R352)

The configuration entries that the roles and the paths read are no counters and no event registers: the end of a work tick leaves them. -/

/-- By its subindex one of PREFERRED_LEAD, SIDE, HB_PORTS and ROLE of a port, below the entries of the event sources. -/
def RoleEntry (k : Nat) : Prop := k < 0xB00000 ∧ k % 256 ∈ [1, 2, 3, 9]

/-- The entries of the roles and the failed links of the module are as before. -/
structure Steady (s t : State) : Prop where
  entries : ∀ k, RoleEntry k → t.reg k = s.reg k
  links : t.health.linksFailed = s.health.linksFailed

namespace Steady

variable {s t u : State}

theorem refl (s : State) : Steady s s := ⟨fun _ _ => rfl, rfl⟩

theorem trans (h : Steady s t) (h' : Steady t u) : Steady s u :=
  ⟨fun k hk => (h'.entries k hk).trans (h.entries k hk), h'.links.trans h.links⟩

theorem of_only {l : List StatePart} (h : ∀ {part}, part ∉ l → t.only part = s.only part) (hl : .regs ∉ l ∧ .health ∉ l := by decide) :
    Steady s t := ⟨fun k _ => State.reg_of_only (h hl.1) k, congrArg Health.linksFailed (State.health_of_only (h hl.2))⟩

theorem ite {c : Prop} [Decidable c] (h : Steady s t) (h' : Steady s u) : Steady s (if c then t else u) := by
  split
  · exact h
  · exact h'

theorem when_ {f : State → State} (h : Steady s (f s)) (c : Bool) : Steady s (s.when_ c f) := h.ite (refl s)

theorem each {α : Type} {f : α → State → State} (h : ∀ a t, Steady t (f a t)) (s : State) (l : List α) : Steady s (s.each l f) :=
  State.each_keeps (P := Steady s) (fun a t ht => ht.trans (h a t)) l (refl s)

end Steady

theorem not_ownsEntry_of_role {n k : Nat} (h : RoleEntry k) : ¬ownsEntry n k := by
  obtain ⟨hk, -⟩ := h
  unfold ownsEntry Od.evStatus Od.evLastSet Od.evResets
  omega

section
variable (s : State)

theorem State.setPair_steady (f : Pair → Pair) : Steady s (s.setPair f) := ⟨fun _ _ => rfl, rfl⟩

theorem State.count_steady {k : Nat} (h : ¬RoleEntry k) (w : Nat) : Steady s (s.count w k) :=
  ⟨fun _ hj => State.reg_setReg_ne s _ (fun e => h (e ▸ hj)), rfl⟩

theorem State.setFlag_steady (n f : Nat) (info : Option Nat) : Steady s (s.setFlag n f info) := by
  obtain ⟨l, hl⟩ := s.setFlag_health n f info
  exact ⟨fun k hk => s.reg_setFlag_of_not_owns n f info (not_ownsEntry_of_role hk), by rw [hl]⟩

theorem State.stand_steady (n f : Nat) (holds : Bool) (info : Option Nat) : Steady s (s.stand n f holds info) := by
  obtain ⟨l, hl⟩ := s.stand_health n f holds info
  exact ⟨fun k hk => s.reg_stand_of_not_owns (not_ownsEntry_of_role hk) f holds info, by rw [hl]⟩

theorem State.pairFlag_steady (f : Nat) : Steady s (s.pairFlag f) := s.setFlag_steady ..
theorem State.pairStand_steady (f : Nat) (holds : Bool) : Steady s (s.pairStand f holds) := s.stand_steady ..
theorem State.latchStand_steady (h : Nat) : Steady s (s.latchStand h) := s.stand_steady ..

theorem State.overrunUnit_steady (h : Nat) : Steady s (s.overrunUnit h) := by
  have hmember (l : Nat) : ¬RoleEntry (Od.loopOverruns l) := by
    have hlow : Od.loopOverruns l % 256 = 0x25 := by unfold Od.loopOverruns; omega
    simp [RoleEntry, hlow]
  unfold State.overrunUnit
  dsimp only
  refine .trans ?_ (.of_only fun hpart => State.sendLoops_only hpart ..)
  refine .trans ?_ (.when_ (.trans (.of_only fun hpart => State.setUnit_only hpart ..) (State.latchStand_steady ..)) _)
  refine .trans ?_ ((State.count_steady _ (by unfold RoleEntry; decide) 32).trans (State.setFlag_steady ..))
  exact .trans (.of_only fun hpart => State.setUnit_only hpart ..) (.each (fun l t => t.count_steady (hmember l) 32) _ _)

theorem State.overrunRest_steady : Steady s s.overrunRest := .each (fun h t => t.overrunUnit_steady h) ..

theorem State.judgePaths_steady (t : Nat) : Steady s (s.judgePaths t) := by
  unfold State.judgePaths
  dsimp only
  exact .trans ((s.setPair_steady _).trans (State.pairStand_steady ..)) (.when_ (State.pairFlag_steady ..) _)

theorem State.judgePartner_steady (t : Nat) : Steady s (s.judgePartner t) := by
  unfold State.judgePartner
  dsimp only
  exact .trans ((s.setPair_steady _).trans (State.pairStand_steady ..)) (State.pairStand_steady ..)

theorem State.judgeDigest_steady (t : Nat) : Steady s (s.judgeDigest t) := by
  have hmissing : ¬RoleEntry Od.pairDigestMissing := by unfold RoleEntry; decide
  have hdiverged : ¬RoleEntry Od.pairDivergences := by unfold RoleEntry; decide
  unfold State.judgeDigest
  dsimp only
  split
  · exact (s.setPair_steady _).trans (.when_ ((State.count_steady _ hmissing 32).trans (State.setFlag_steady ..)) _)
  · refine (s.setPair_steady _).trans (.when_ ?_ _)
    exact ((State.count_steady _ hdiverged 32).trans (State.setPair_steady ..)).trans (State.pairFlag_steady ..)

theorem State.sectionLate_steady : Steady s s.sectionLate :=
  (s.count_steady (by unfold RoleEntry; decide) 32).trans (State.pairFlag_steady ..)

theorem State.sectionDiffers_steady (differs : Bool) : Steady s (s.sectionDiffers differs) :=
  .when_ (s.count_steady (by unfold RoleEntry; decide) 32) _

theorem State.adoptOr_steady (t kind id : Nat) {f : List Byte → Adoption} (hf : ∀ bs, Steady s (f bs).1) :
    Steady s (s.adoptOr t kind id f).1 := by
  unfold State.adoptOr
  split
  · exact hf _
  · exact s.sectionLate_steady

theorem State.adoptLoops_steady (bs : List Byte) : Steady s (s.adoptLoops bs) := by
  unfold State.adoptLoops
  dsimp only
  refine .trans ?_ (State.latchStand_steady ..)
  refine .trans ?_ (.each (fun _ _ => .of_only fun hpart => State.setGen_only hpart ..) _ _)
  refine .trans ?_ (.each (fun _ _ => .of_only fun hpart => State.setUnit_only hpart ..) _ _)
  refine .trans ?_ (.each (fun _ _ => .of_only fun hpart => State.setLoop_only hpart ..) _ _)
  exact .of_only fun hpart => State.setLoops_only hpart ..

theorem State.takeLoops_steady (t : Nat) : Steady s (s.takeLoops t).1 := by
  unfold State.takeLoops
  split
  · exact .refl s
  · exact s.adoptOr_steady t 1 0 fun bs => (s.sectionDiffers_steady _).trans (State.adoptLoops_steady ..)

theorem State.takeChurn_steady (t : Nat) : Steady s (s.takeChurn t).1 := by
  unfold State.takeChurn
  split
  · exact .refl s
  · refine s.adoptOr_steady t 2 0 fun bs => ?_
    split
    · exact .refl s
    · exact (s.sectionDiffers_steady _).trans (.of_only fun hpart => State.setChurn_only hpart ..)

theorem State.takeCounters_steady (t : Nat) : Steady s (s.takeCounters t).1 :=
  s.adoptOr_steady t 3 0 fun _ => (s.sectionDiffers_steady _).trans (.of_only fun hpart => State.adoptCounters_only hpart ..)

theorem State.takeRegion_steady (n r : Nat) (bs : List Byte) : Steady s (s.takeRegion n r bs) := by
  unfold State.takeRegion
  dsimp only
  refine .ite (.refl s) (.trans ((s.sectionDiffers_steady true).trans ?_) (.when_ (State.pairFlag_steady ..) _))
  exact .of_only fun hpart => State.modPart_only hpart ..

theorem State.takeRegions_steady (t n : Nat) (expects : Bool) : Steady s (s.takeRegions t n expects).1 := by
  unfold State.takeRegions
  dsimp only
  refine .trans (.trans (.each (fun _ u => u.takeRegion_steady ..) _ _) (.when_ ?_ _)) (.each (fun _ u => u.sectionLate_steady) _ _)
  exact .of_only fun hpart => State.modPart_only hpart ..

/-- What every step of a fold whose accumulator holds a state keeps. -/
theorem Steady.foldl {α β : Type} (proj : β → State) {f : β → α → β} (h : ∀ x a, Steady (proj x) (proj (f x a))) (l : List α) (x : β) :
    Steady (proj x) (proj (l.foldl f x)) := by
  induction l generalizing x with
  | nil => exact .refl _
  | cons a l ih => exact (h x a).trans (ih _)

theorem State.adopt_steady (t : Nat) : Steady s (s.adopt t).1 := by
  unfold State.adopt
  dsimp only
  split
  · refine .trans ?_ (.foldl Prod.fst ?_ _ _)
    · exact (s.takeLoops_steady t).trans ((State.takeChurn_steady _ t).trans (State.takeCounters_steady _ t))
    · exact fun x n => x.1.takeRegions_steady t n true
  · exact .foldl id (fun u n => State.takeRegions_steady ..) _ _

theorem State.pairEnd_steady (t : Nat) : Steady s (s.pairEnd t) := by
  unfold State.pairEnd
  dsimp only
  refine .ite (.refl s) (.trans (.trans ?_ (State.setPair_steady ..)) (State.setPair_steady ..))
  exact (((s.judgePaths_steady t).trans (State.judgePartner_steady _ t)).trans (State.judgeDigest_steady _ t)).trans (State.adopt_steady _ t)

end

/-- The heartbeat ports are found from the entries of the roles. -/
theorem Steady.hasStationPath {s t : State} (h : Steady s t) : t.hasStationPath = s.hasStationPath := by
  have hports : t.hbPorts = s.hbPorts := by
    unfold State.hbPorts
    rw [h.entries Od.pairHbPorts (by unfold RoleEntry; decide)]
    refine List.filter_congr fun p hp => ?_
    have hp : p < 32 := List.mem_range.mp (List.mem_of_mem_filter hp)
    have hrole : RoleEntry (Od.portRole p) := by
      have hlow : Od.portRole p % 256 = 1 := by unfold Od.portRole; omega
      exact ⟨by unfold Od.portRole; omega, by simp [hlow]⟩
    rw [h.entries _ hrole]
  rw [State.hasStationPath, hports, State.cut, h.links]
  rfl

theorem Steady.winsTie {s t : State} (h : Steady s t) (hside : t.pair.sideClash = s.pair.sideClash) (hb : Heartbeat) :
    t.winsTie hb = s.winsTie hb := by
  have hpreferred : t.on Od.pairPreferredLead = s.on Od.pairPreferredLead := by
    rw [State.on, h.entries _ (by unfold RoleEntry; decide), State.on]
  unfold State.winsTie
  dsimp only
  rw [hpreferred, hside, h.entries Od.pairSide (by unfold RoleEntry; decide)]

end Sys2Proof.Machine
end

section
set_option Elab.async false
namespace Sys2Proof.Machine

/-! ### What the end of a work tick leaves of the pair (R330, R331) -/

/-- The pair but for the frames it sent and those it is to repeat. -/
def State.unsent (s : State) : Pair := { s.pair with seq := 0, opId := 0, kept := [], roleOut := [] }

theorem State.unsent_of_only {s t : State} (h : t.only .pair = s.only .pair) : t.unsent = s.unsent := by
  rw [State.unsent, State.pair_of_only h, State.unsent]

theorem State.role_of_unsent {s t : State} (h : t.unsent = s.unsent) : t.pair.role = s.pair.role := by
  have hrole := congrArg Pair.role h
  exact hrole

theorem State.each_unsent {α : Type} {f : α → State → State} (h : ∀ a t, (f a t).unsent = t.unsent) (s : State) (l : List α) :
    (s.each l f).unsent = s.unsent := State.each_keeps (P := fun t => t.unsent = s.unsent) (fun a t ht => (h a t).trans ht) l rfl

theorem State.when_unsent {f : State → State} {s : State} (h : (f s).unsent = s.unsent) (c : Bool) : (s.when_ c f).unsent = s.unsent := by
  cases c
  · rfl
  · exact h

section
variable (s : State)

theorem State.nextSeq_unsent : s.nextSeq.unsent = s.unsent := rfl
theorem State.emit_unsent (o : Out) : (s.emit o).unsent = s.unsent := rfl

theorem State.sendSection_unsent (kind id tick : Nat) (data : List Byte) : (s.sendSection kind id tick data).unsent = s.unsent := by
  unfold State.sendSection
  split
  · refine State.each_unsent (fun f t => ?_) ..
    rw [State.emit_unsent, State.nextSeq_unsent]
    rfl
  · rfl

theorem State.sendChange_unsent (c : Change) : (s.sendChange c).unsent = s.unsent := s.sendSection_unsent ..

theorem State.sendLoops_unsent : s.sendLoops.unsent = s.unsent := by
  unfold State.sendLoops
  split
  · exact s.sendSection_unsent ..
  · rfl

theorem State.sendChurn_unsent : s.sendChurn.unsent = s.unsent := by
  unfold State.sendChurn
  split
  · split
    · exact s.sendSection_unsent ..
    · rfl
  · rfl

theorem State.sendCounters_unsent : s.sendCounters.unsent = s.unsent := by
  unfold State.sendCounters
  split
  · exact s.sendSection_unsent ..
  · rfl

theorem State.roleFrame_unsent (op : Nat) (m : RoleMsg) : (s.roleFrame op m).unsent = s.unsent := by
  unfold State.roleFrame
  split
  · rw [State.emit_unsent, State.nextSeq_unsent]
  · rfl

theorem State.sendRole_unsent (op : Nat) (m : RoleMsg) : (s.sendRole op m).unsent = s.unsent := by
  have hframe := s.roleFrame_unsent op m
  unfold State.sendRole
  dsimp only
  generalize s.roleFrame op m = t at hframe
  split
  · split
    · exact hframe
    · exact Eq.trans rfl hframe
  · rfl

theorem State.newRole_unsent (op reason atTick arg : Nat) : (s.newRole op reason atTick arg).unsent = s.unsent :=
  (State.sendRole_unsent ..).trans rfl

theorem State.overrunUnit_unsent (h : Nat) : (s.overrunUnit h).unsent = s.unsent := by
  unfold State.overrunUnit
  dsimp only
  rw [State.sendLoops_unsent]
  refine State.unsent_of_only ?_
  simp only [State.setLatch_only (part := .pair) (by decide), State.loopFlag_only (part := .pair) (by decide),
    State.count_only (part := .pair) (by decide), State.setUnit_only (part := .pair) (by decide), implies_true, State.each_only, State.when_only]

theorem State.overrunRest_unsent : s.overrunRest.unsent = s.unsent := State.each_unsent (fun _ _ => State.overrunUnit_unsent ..) ..

theorem State.leadSections_unsent (churn : Bool) : (s.leadSections churn).unsent = s.unsent := by
  unfold State.leadSections
  dsimp only
  exact (State.when_unsent (State.sendChurn_unsent _) _).trans ((State.sendLoops_unsent _).trans (State.when_unsent s.sendCounters_unsent _))

end

/-! ### The partner judged -/

/-- The pair but for what the end of a work tick judges and counts anew. -/
def State.standing (s : State) : Pair := { s.pair with
  link := {}, station := {}, partnerFailed := false, swap := none, partnerShown := 0, partnerRun := 0, withhold := false, lastDiverged := 0
  syncRun := 0, followClean := 0, outputValid := false, sections := [], kept := [], regionsWanted := [], seq := 0, opId := 0, roleOut := [] }

/-- What was found of the partner: the swap with it, whether it failed, and the state it shows. -/
def State.found (s : State) : Option Swap × Bool × Nat := (s.pair.swap, s.pair.partnerFailed, s.pair.partnerShown)

section
variable (s : State) (t : Nat)

theorem State.judgePaths_pair : (s.judgePaths t).standing = s.standing ∧ (s.pair.swap = none → (s.judgePaths t).pair.swap = none) ∧
    (s.pair.partnerFailed = true ∨ s.pair.partner.isSome = true ∧ 3 ≤ (s.pair.link.judge t).lacked ∧
      (s.hasStationPath = false ∨ 3 ≤ (s.pair.station.judge t).lacked) → (s.judgePaths t).pair.partnerFailed = true) := by
  have hpair {u : State} (c : Bool) (k : Nat) (b : Bool) : ((u.pairStand k b).when_ c fun v => v.pairFlag 1).pair = u.pair :=
    State.pair_of_only (by
      simp only [State.pairStand_only (part := .pair) (by decide), State.pairFlag_only (part := .pair) (by decide), State.when_only])
  unfold State.judgePaths State.standing
  dsimp only
  rw [hpair]
  refine ⟨rfl, fun hswap => ?_, fun hfailed => ?_⟩
  · simp [State.setPair, hswap]
  · rcases hfailed with hfailed | ⟨hpartner, hlink, hstation⟩
    · simp [State.setPair, hfailed]
    · cases hbefore : s.pair.partnerFailed
      · rcases hstation with hstation | hstation <;> simp [State.setPair, hbefore, hpartner, hlink, hstation]
      · simp [State.setPair, hbefore]

theorem State.judgePartner_pair : (s.judgePartner t).standing = s.standing ∧
    (s.judgePartner t).found = (s.pair.swap, s.pair.partnerFailed, (s.pair.partner.map (·.state)).getD 0) := by
  have hpair {u : State} (a b : Nat) (x y : Bool) : ((u.pairStand a x).pairStand b y).pair = u.pair :=
    State.pair_of_only (by simp only [State.pairStand_only (part := .pair) (by decide)])
  unfold State.judgePartner State.standing State.found
  dsimp only
  rw [hpair]
  exact ⟨rfl, rfl⟩

theorem State.judgeDigest_pair : (s.judgeDigest t).standing = s.standing ∧ (s.judgeDigest t).found = s.found := by
  unfold State.judgeDigest
  dsimp only
  split
  · have hpair (c : Bool) := State.pair_of_only (State.when_only (s := s.setPair fun p => { p with withhold := false })
      (f := fun u => (u.count 32 Od.pairDigestMissing).setFlag 81 3)
      (by simp only [State.setFlag_only (part := .pair) (by decide), State.count_only (part := .pair) (by decide)]) c)
    unfold State.standing State.found
    rw [hpair]
    exact ⟨rfl, rfl⟩
  · unfold State.when_
    split
    · unfold State.standing State.found
      rw [State.pair_of_only (State.pairFlag_only (by decide) ..)]
      exact ⟨rfl, rfl⟩
    · exact ⟨rfl, rfl⟩

end

theorem State.pair_setRole (s : State) (r : Role) : (s.setRole r).pair.role = r := by
  unfold State.setRole
  split
  · next h => exact h
  · dsimp only
    rw [State.pair_of_only (State.pairFlag_only (by decide) ..)]
    rfl

/-! ### The role after it was set -/

section
variable (s : State)

theorem State.role_endSwap : s.endSwap.pair.role = s.pair.role := by
  unfold State.endSwap
  split
  · rfl
  · split
    · rfl
    · dsimp only
      rw [State.pair_of_only (State.when_only (State.pairFlag_only (by decide) ..) _)]
      rfl

theorem State.role_safeStopYield : s.safeStopYield.pair.role = s.pair.role := by
  unfold State.safeStopYield
  extract_lets able
  split
  · have hrole := State.role_of_unsent (s.newRole_unsent 1 2 s.workTick 0)
    generalize s.newRole 1 2 s.workTick 0 = t at hrole
    exact hrole
  · rfl

theorem State.role_runChanges : s.runChanges.pair.role = s.pair.role := by
  have hset (t : State) (f : Pair → Pair) (hf : (f t.pair).role = t.pair.role) : (t.setPair f).pair.role = t.pair.role := hf
  have heach {α : Type} (t : State) (l : List α) {f : α → State → State} (hf : ∀ a u, (f a u).pair.role = u.pair.role) :
      (t.each l f).pair.role = t.pair.role :=
    State.each_keeps (P := fun u => u.pair.role = t.pair.role) (fun a u hu => (hf a u).trans hu) l rfl
  unfold State.runChanges
  dsimp only
  rw [hset _ _ rfl, heach _ _ fun _ u => congrArg Pair.role (State.pair_of_only (u.pairFlag_only (by decide) 4)),
    heach _ _ fun c u => State.role_of_unsent (u.sendChange_unsent c),
    heach _ _ fun c u => congrArg Pair.role (State.pair_of_only (u.applyChange_only (by decide) c)), hset _ _ rfl]

end

end Sys2Proof.Machine
end

section
set_option Elab.async false
namespace Sys2Proof.Machine

/-! ### The pair at the end of a work tick -/

section
variable {s t : State}

theorem State.standing_of_unsent (h : t.unsent = s.unsent) : t.standing = s.standing := by
  have hstanding := congrArg (fun p : Pair => { p with
    link := {}, station := {}, partnerFailed := false, swap := none, partnerShown := 0, partnerRun := 0, withhold := false, lastDiverged := 0
    syncRun := 0, followClean := 0, outputValid := false, sections := [], regionsWanted := [] }) h
  exact hstanding

theorem State.paths_of_unsent (h : t.unsent = s.unsent) : t.pair.link = s.pair.link ∧ t.pair.station = s.pair.station ∧
    t.pair.swap = s.pair.swap ∧ t.pair.partnerFailed = s.pair.partnerFailed :=
  ⟨(congrArg Pair.link h :), (congrArg Pair.station h :), (congrArg Pair.swap h :), (congrArg Pair.partnerFailed h :)⟩

/-- The fields of the pair that roles are found from and that the end of a work tick leaves. -/
theorem State.fields_of_standing (h : t.standing = s.standing) : t.pair.role = s.pair.role ∧ t.pair.enabled = s.pair.enabled ∧
    t.pair.relinquished = s.pair.relinquished ∧ t.pair.relinquishSent = s.pair.relinquishSent ∧ t.pair.hbWaited = s.pair.hbWaited ∧
    t.pair.partner = s.pair.partner ∧ t.pair.sideClash = s.pair.sideClash :=
  ⟨(congrArg Pair.role h :), (congrArg Pair.enabled h :), (congrArg Pair.relinquished h :), (congrArg Pair.relinquishSent h :),
    (congrArg Pair.hbWaited h :), (congrArg Pair.partner h :), (congrArg Pair.sideClash h :)⟩

end

section
variable {s : State}

theorem State.pairEnd_idle (h : s.paired = false ∨ s.pair.role = .withdrawn) (t : Nat) : s.pairEnd t = s := by
  refine if_pos ?_
  rcases h with h | h <;> simp [h]

theorem State.pairEnd_of_paired (hpaired : s.paired = true) (hrole : s.pair.role ≠ .withdrawn) (t : Nat) :
    (s.pairEnd t).standing = s.standing ∧ (s.pairEnd t).found = ((s.judgePaths t).pair.swap, (s.judgePaths t).pair.partnerFailed,
      (s.pair.partner.map (·.state)).getD 0) := by
  obtain ⟨hpaths, -⟩ := s.judgePaths_pair t
  obtain ⟨hpartner, hshown⟩ := (s.judgePaths t).judgePartner_pair t
  obtain ⟨hdigest, hfound⟩ := ((s.judgePaths t).judgePartner t).judgeDigest_pair t
  have hadopt (u : State) : (u.adopt t).1.pair = u.pair := State.pair_of_only (u.adopt_only (by decide) t)
  obtain ⟨-, -, -, -, -, hsame, -⟩ := State.fields_of_standing hpaths
  rw [hsame] at hshown
  unfold State.pairEnd
  rw [if_neg (by simp [hpaired, hrole])]
  dsimp only
  rw [← hshown, ← hfound, ← hpaths, ← hpartner, ← hdigest]
  generalize ((s.judgePaths t).judgePartner t).judgeDigest t = u
  have hkept : (u.adopt t).1.standing = u.standing ∧ (u.adopt t).1.found = u.found := by
    unfold State.standing State.found
    rw [hadopt]
    exact ⟨rfl, rfl⟩
  generalize (u.adopt t).2 = adopted
  generalize (u.adopt t).1 = v at hkept
  exact hkept

end

/-! ### The stages of a boundary -/

/-- The work tick has ended for the units, the pair and the pails' publications. -/
def State.tickEnded (s : State) : State := (s.overrunRest.pairEnd s.workTick).noteSuppressed

theorem State.tickEnded_steady (s : State) : Steady s s.tickEnded :=
  .trans (s.overrunRest_steady.trans (State.pairEnd_steady ..)) (.of_only fun hpart => State.noteSuppressed_only hpart _)

theorem State.tickEnded_standing (s : State) : s.tickEnded.standing = s.standing := by
  have hnoted : s.tickEnded.standing = (s.overrunRest.pairEnd s.workTick).standing := by
    unfold State.standing State.tickEnded
    rw [State.pair_of_only (State.noteSuppressed_only (by decide) _)]
  rw [hnoted, ← State.standing_of_unsent s.overrunRest_unsent]
  by_cases h : s.overrunRest.paired = true ∧ s.overrunRest.pair.role ≠ .withdrawn
  · exact (State.pairEnd_of_paired h.1 h.2 _).1
  · rw [State.pairEnd_idle]
    rw [not_and_or, Bool.not_eq_true, not_not] at h
    exact h

/-- A partner that has failed at the end of a work tick: before it, or with the heartbeats of this tick (R330, R333). -/
def State.partnerLost (s : State) : Prop := s.pair.partnerFailed = true ∨ s.pair.partner.isSome = true ∧
  3 ≤ (s.pair.link.judge s.workTick).lacked ∧ (s.hasStationPath = false ∨ 3 ≤ (s.pair.station.judge s.workTick).lacked)

theorem State.tickEnded_found {s : State} (hpaired : s.paired = true) (hrole : s.pair.role ≠ .withdrawn) :
    (s.pair.swap = none → s.tickEnded.pair.swap = none) ∧ (s.partnerLost → s.tickEnded.pair.partnerFailed = true) ∧
      s.tickEnded.pair.partnerShown = (s.pair.partner.map (·.state)).getD 0 := by
  have hunsent := s.overrunRest_unsent
  obtain ⟨hroles, henabled, -, -, -, hpartner, -⟩ := State.fields_of_standing (State.standing_of_unsent hunsent)
  obtain ⟨hlink, hstation, hswap, hfailed⟩ := State.paths_of_unsent hunsent
  obtain ⟨-, hswaps, hfails⟩ := s.overrunRest.judgePaths_pair s.workTick
  obtain ⟨-, hfound⟩ := State.pairEnd_of_paired (henabled.trans hpaired) (hroles ▸ hrole) s.workTick
  have hended : s.tickEnded.found = (s.overrunRest.pairEnd s.workTick).found := by
    unfold State.found State.tickEnded
    rw [State.pair_of_only (State.noteSuppressed_only (by decide) _)]
  rw [hfound, hpartner] at hended
  rw [hlink, hstation, hfailed, hpartner, s.overrunRest_steady.hasStationPath] at hfails
  rw [hswap] at hswaps
  rw [State.found, Prod.mk.injEq, Prod.mk.injEq] at hended
  obtain ⟨hended_swap, hended_failed, hended_shown⟩ := hended
  exact ⟨fun h => hended_swap.trans (hswaps h), fun h => hended_failed.trans (hfails h), hended_shown⟩

end Sys2Proof.Machine
end

section
set_option Elab.async false
namespace Sys2Proof.Machine

/-! ### The first condition of R331 that applies -/

section
variable {s : State} (heard : Bool)

theorem State.roleAt_of_out (h : s.pair.role = .withdrawn ∨ s.power.withdrawn = true) : s.roleAt heard = .withdrawn :=
  if_pos (by simpa using h)

variable (hrole : s.pair.role ≠ .withdrawn) (hin : s.power.withdrawn = false)
include hrole hin

theorem State.roleAt_of_unpaired (h : s.paired = false) : s.roleAt heard = s.pair.role := by
  unfold State.roleAt
  dsimp only
  rw [if_neg (by simp [hrole, hin]), if_pos (by simp [h])]

variable (hpaired : s.paired = true)
include hpaired

theorem State.roleAt_of_lost (hlost : s.pair.partnerFailed = true ∨ s.pair.relinquished = true)
    (h : s.pair.role = .syncing ∨ s.pair.role = .follow) : s.roleAt heard = .lead := by
  unfold State.roleAt
  dsimp only
  rw [if_neg (by simp [hrole, hin]), if_neg (by simp [hpaired]), if_pos (by simp [hlost, h])]

theorem State.roleAt_of_relinquishing (h : s.pair.role = .lead) (hsent : s.pair.relinquishSent = true) : s.roleAt heard = .syncing := by
  unfold State.roleAt
  dsimp only
  rw [if_neg (by simp [hrole, hin]), if_neg (by simp [hpaired]), if_neg (by simp [h]), if_pos (by simp [h, hsent])]

theorem State.roleAt_of_heartbeats (hrun : s.pair.role = .init ∨ s.pair.role = .lead ∧ s.pair.relinquishSent = false)
    (hswap : s.pair.swap = none) : s.roleAt heard = s.heartbeatRole heard := by
  have hswapRole : s.swapRole = none := by rw [State.swapRole, hswap]
  unfold State.roleAt
  dsimp only
  rw [if_neg (by simp [hrole, hin]), if_neg (by simp [hpaired]), if_neg, if_neg, hswapRole, Option.getD_none]
  · rcases hrun with h | ⟨h, hsent⟩
    · simp [h]
    · simp [hsent]
  · rcases hrun with h | ⟨h, -⟩ <;> simp [h]

end

section
variable {s : State}

theorem State.heartbeatRole_init_silent (h : s.pair.role = .init) : s.heartbeatRole false = if s.pair.hbWaited then .lead else .init := by
  unfold State.heartbeatRole
  simp [h]

theorem State.heartbeatRole_init_heard (h : s.pair.role = .init) {hb : Heartbeat} (hpartner : s.pair.partner = some hb)
    (hshown : s.pair.partnerShown = hb.state) : (hb.state = 2 ∨ hb.state = 3 → s.heartbeatRole true = .syncing) ∧
      (hb.state < 2 → s.heartbeatRole true = if s.winsTie hb then .lead else .syncing) := by
  unfold State.heartbeatRole
  simp only [h, hpartner, hshown, Option.any_some, Bool.true_and, decide_eq_true_eq]
  refine ⟨fun hstate => ?_, fun hstate => if_pos (by omega)⟩
  rw [if_neg (by omega), if_pos (by omega)]

theorem State.heartbeatRole_lead_silent (h : s.pair.role = .lead) : s.heartbeatRole false = .lead := by
  unfold State.heartbeatRole
  simp [h]

end

/-! ### The boundary after the role was found -/

/-- The state in which the role is found: the work tick has ended and the next has begun. -/
def State.ticked (s : State) (k : Nat) : State := { s.tickEnded with workTick := k }

/-- The role is set, the swap and the changes that are due have had their effect. -/
def State.changed (s : State) (k : Nat) : State :=
  (((s.ticked k).setRole ((s.ticked k).roleAt (s.heard s.workTick))).endSwap.runChanges).when_ s.paired fun u => u.safeStopYield

/-- Partitions and pails are in the work tick. -/
def State.entered (s : State) (k : Nat) : State := (s.changed k).enterParts.enterPails.samplePath.publishLoops

/-- The snapshots are taken. -/
def State.snapped (s : State) (k : Nat) : State :=
  (s.entered k).snapSubs.setPair fun p => { p with gpioSnap := maskOf ((List.range 16).filter (s.entered k).snapSubs.gpioRead) }

/-- The frames are formed. -/
def State.formed (s : State) (k : Nat) : State := ((s.snapped k).formPubs true).when_ (!(s.snapped k).churnDue) fun u => u.formPubs false

theorem State.boundary_eq (s : State) (k : Nat) : s.boundary k = ((s.formed k).leadSections (s.snapped k).churnDue).lateCommits := rfl

/-- What the boundary leaves once the role is found. -/
theorem State.boundary_ticked_only {part : StatePart} (hpart : part ∉ [.regs, .ports, .sw, .dp, .hist, .parts, .pails, .majorFrame, .churn,
    .loops, .subs, .pubs, .pair, .health, .edp, .mem, .out, .gooses]) (s : State) (k : Nat) :
    (s.boundary k).only part = (s.ticked k).only part := by
  simp only [State.boundary_eq, State.formed, State.snapped, State.entered, State.changed, State.lateCommits_only (outside hpart),
    State.leadSections_only (outside hpart), State.formPubs_only (outside hpart), State.setPair_only (outside hpart),
    State.snapSubs_only (outside hpart), State.publishLoops_only (outside hpart), State.samplePath_only (outside hpart),
    State.enterPails_only (outside hpart), State.enterParts_only (outside hpart), State.safeStopYield_only (outside hpart),
    State.runChanges_only (outside hpart), State.endSwap_only (outside hpart), State.setRole_only (outside hpart), State.when_only]

theorem State.boundary_workTick (s : State) (k : Nat) : (s.boundary k).workTick = k :=
  State.workTick_of_only (s.boundary_ticked_only (by decide) k)

theorem State.tickEnded_only {part : StatePart} (hpart : part ∉ [.regs, .parts, .pails, .churn, .loops, .pubs, .pair, .health, .edp, .mem, .out])
    (s : State) : s.tickEnded.only part = s.only part := by
  simp only [State.tickEnded, State.noteSuppressed_only (outside hpart), State.pairEnd_only (outside hpart), State.overrunRest_only (outside hpart)]

theorem State.ticked_power (s : State) (k : Nat) : (s.ticked k).power = s.power :=
  State.power_of_only (t := s.tickEnded) (s.tickEnded_only (by decide))

/-! ### The role at the boundary -/

section
variable (s : State) (k : Nat)

theorem State.role_changed : (s.changed k).pair.role = (s.ticked k).roleAt (s.heard s.workTick) := by
  have hset := (s.ticked k).pair_setRole ((s.ticked k).roleAt (s.heard s.workTick))
  unfold State.changed State.when_
  generalize (s.ticked k).setRole ((s.ticked k).roleAt (s.heard s.workTick)) = t at hset
  have hrun : t.endSwap.runChanges.pair.role = t.pair.role := (State.role_runChanges _).trans t.role_endSwap
  split
  · exact (State.role_safeStopYield _).trans (hrun.trans hset)
  · exact hrun.trans hset

theorem State.role_snapped : (s.snapped k).pair.role = (s.changed k).pair.role := by
  have hentered : (s.entered k).snapSubs.pair = (s.changed k).pair := by
    refine State.pair_of_only ?_
    simp only [State.entered, State.snapSubs_only (part := .pair) (by decide), State.publishLoops_only (part := .pair) (by decide),
      State.samplePath_only (part := .pair) (by decide), State.enterPails_only (part := .pair) (by decide),
      State.enterParts_only (part := .pair) (by decide)]
  unfold State.snapped
  generalize (s.entered k).snapSubs = t at hentered
  exact (congrArg Pair.role hentered :)

theorem State.pair_formed : (s.formed k).pair = (s.snapped k).pair := by
  refine State.pair_of_only ?_
  simp only [State.formed, State.formPubs_only (part := .pair) (by decide), State.when_only]

theorem State.role_boundary : (s.boundary k).pair.role = (s.ticked k).roleAt (s.heard s.workTick) := by
  rw [State.boundary_eq, State.pair_of_only (State.lateCommits_only (by decide) _), State.role_of_unsent (State.leadSections_unsent ..),
    State.pair_formed, State.role_snapped, State.role_changed]

/-! ### Windows and snapshots at the boundary -/

theorem State.quiet_snapped (n : Nat) : (s.snapped k).quiet n = (s.changed k).enterParts.quiet n := by
  have hsnapped : (s.snapped k).quiet n = (s.entered k).snapSubs.quiet n := by
    unfold State.snapped
    generalize (s.entered k).snapSubs = t
    rfl
  rw [hsnapped, State.snapSubs_quiet, State.entered,
    State.quiet_of_only ((State.publishLoops_only (by decide) _).trans (State.samplePath_only (by decide) _)), State.enterPails_quiet]

theorem State.quiet_boundary (n : Nat) : (s.boundary k).quiet n = (s.changed k).enterParts.quiet n := by
  rw [State.boundary_eq, State.lateCommits_quiet, State.quiet_of_only (State.leadSections_only (by decide) ..)]
  simp only [State.formed, State.when_quiet, State.formPubs_quiet, State.quiet_snapped]

theorem State.part_boundary (n : Nat) : ((s.boundary k).part n).window = none ∧ ((s.boundary k).part n).done = false := by
  obtain ⟨hwindow, hdone⟩ := (s.changed k).part_enterParts n
  have hquiet := s.quiet_boundary k n
  generalize s.boundary k = t at hquiet
  generalize (s.changed k).enterParts = u at hquiet hwindow hdone
  exact ⟨(congrArg Partition.window hquiet :).trans hwindow, (congrArg Partition.done hquiet :).trans hdone⟩

end

/-- The data of a subscription that its snapshot shows. -/
def Sub.shown (x : Sub) : Tab Nat × Nat × Nat := (x.cells, x.stNum, x.sqNum)

/-- A subscription's snapshot. -/
def Sub.snap (x : Sub) : Tab Nat × Nat × Nat := (x.snapCells, x.snapSt, x.snapSq)

theorem State.sub_snapSub (s : State) (n m : Nat) : ((s.snapSub n).sub m).shown = (s.sub m).shown ∧
    ((s.snapSub n).sub m).snap = if m = n then (s.sub m).shown else (s.sub m).snap := by
  have hsub (c : Bool) (x : Sub) (a f stNum : Nat) (p : Prop) [Decidable p] : ((if p then (s.setSub n x).setReg (Od.gsAlive n) a
      else ((s.setSub n x).setReg (Od.gsAlive n) a).gsFlag f n).when_ c fun t => t.postChange n stNum).sub m = (s.setSub n x).sub m := by
    refine State.sub_of_only ?_ m
    simp only [State.postChange_only (part := .subs) (by decide), State.gsFlag_only (part := .subs) (by decide),
      State.setReg_only (part := .subs) (by decide), State.only_ite, ite_self, State.when_only]
  unfold State.snapSub
  dsimp only
  rw [hsub]
  by_cases h : m = n
  · subst h
    rw [State.sub_setSub_self, if_pos rfl]
    exact ⟨rfl, rfl⟩
  · have hother (x : Sub) : (s.setSub n x).sub m = s.sub m := Tab.look_put_ne s.subs x {} h
    rw [hother, if_neg h]
    exact ⟨rfl, rfl⟩

theorem State.sub_snapSubs (s : State) {n : Nat} (hn : n ∈ s.subs.map (·.1)) : (s.snapSubs.sub n).snap = (s.sub n).shown := by
  refine State.each_establishes (I := fun t => (t.sub n).shown = (s.sub n).shown) (P := fun t => (t.sub n).snap = (s.sub n).shown)
    (fun m t ht => (t.sub_snapSub m n).1.trans ht) (fun t ht => ?_) (fun m t ht hsnap => ?_) hn rfl
  · rw [(t.sub_snapSub n n).2, if_pos rfl, ht]
  · rw [(t.sub_snapSub m n).2]
    split
    · exact ht
    · exact hsnap

theorem State.subs_boundary (s : State) (k : Nat) {n : Nat} (hn : n ∈ s.subs.map (·.1)) : ((s.boundary k).sub n).snap = (s.sub n).shown := by
  have hentered : (s.entered k).only .subs = s.only .subs := by
    simp only [State.entered, State.changed, State.publishLoops_only (part := .subs) (by decide), State.samplePath_only (part := .subs) (by decide),
      State.enterPails_only (part := .subs) (by decide), State.enterParts_only (part := .subs) (by decide),
      State.safeStopYield_only (part := .subs) (by decide), State.runChanges_only (part := .subs) (by decide),
      State.endSwap_only (part := .subs) (by decide), State.setRole_only (part := .subs) (by decide), State.when_only]
    exact s.tickEnded_only (part := .subs) (by decide)
  have hlater : (s.boundary k).only .subs = (s.entered k).snapSubs.only .subs := by
    simp only [State.boundary_eq, State.formed, State.snapped, State.lateCommits_only (part := .subs) (by decide),
      State.leadSections_only (part := .subs) (by decide), State.formPubs_only (part := .subs) (by decide),
      State.setPair_only (part := .subs) (by decide), State.when_only]
  have hkeys : (s.entered k).subs = s.subs := (congrArg State.subs hentered :)
  rw [State.sub_of_only hlater, State.sub_snapSubs _ (hkeys ▸ hn), State.sub_of_only hentered]

/-! ### Publications of a module that does not publish -/

theorem State.formPub_of_silent {s : State} (h : s.publishes = false) (j : Nat) : s.formPub j =
    ((s.setPub j (s.pubStep j).1).setReg (Od.gpStnum j) (s.pubStep j).1.stNum).setReg (Od.gpSqnum j) (s.pubStep j).1.sqNum := by
  unfold State.formPub
  dsimp only
  refine if_pos ?_
  rw [Bool.or_eq_true]
  exact .inr (by rw [Bool.not_eq_true']; exact h)

theorem State.formPubs_of_silent {s : State} (h : s.publishes = false) (owned : Bool) :
    (s.formPubs owned).publishes = false ∧ (s.formPubs owned).only .gooses = s.only .gooses := by
  refine State.each_keeps (P := fun t => t.publishes = false ∧ t.only .gooses = s.only .gooses) (fun j t ht => ?_) _ ⟨h, rfl⟩
  obtain ⟨hsilent, hgooses⟩ := ht
  rw [State.formPub_of_silent hsilent]
  refine ⟨hsilent, Eq.trans ?_ hgooses⟩
  simp only [State.setReg_only (part := .gooses) (by decide), State.setPub_only (part := .gooses) (by decide)]

theorem State.gooses_boundary (s : State) (k : Nat) (h : (s.boundary k).publishes = false) : (s.boundary k).only .gooses = s.only .gooses := by
  have hsilent : (s.snapped k).publishes = false := by
    have hrole : (s.boundary k).pair.role = (s.snapped k).pair.role := by rw [State.role_boundary, State.role_snapped, State.role_changed]
    have hpower : (s.boundary k).power = (s.snapped k).power := by
      refine State.power_of_only ?_
      simp only [State.boundary_eq, State.formed, State.lateCommits_only (part := .power) (by decide),
        State.leadSections_only (part := .power) (by decide), State.formPubs_only (part := .power) (by decide), State.when_only]
    unfold State.publishes at h ⊢
    rw [← hrole, ← hpower]
    exact h
  have hsnapped : (s.snapped k).only .gooses = s.only .gooses := by
    simp only [State.snapped, State.entered, State.changed, State.setPair_only (part := .gooses) (by decide),
      State.snapSubs_only (part := .gooses) (by decide), State.publishLoops_only (part := .gooses) (by decide),
      State.samplePath_only (part := .gooses) (by decide), State.enterPails_only (part := .gooses) (by decide),
      State.enterParts_only (part := .gooses) (by decide), State.safeStopYield_only (part := .gooses) (by decide),
      State.runChanges_only (part := .gooses) (by decide), State.endSwap_only (part := .gooses) (by decide),
      State.setRole_only (part := .gooses) (by decide), State.when_only]
    exact s.tickEnded_only (part := .gooses) (by decide)
  obtain ⟨howned, hfirst⟩ := State.formPubs_of_silent hsilent true
  have hformed : (s.formed k).only .gooses = (s.snapped k).only .gooses := by
    have hsecond := (State.formPubs_of_silent howned false).2
    unfold State.formed State.when_
    split
    · exact hsecond.trans hfirst
    · exact hfirst
  rw [State.boundary_eq, State.lateCommits_only (part := .gooses) (by decide), State.leadSections_only (part := .gooses) (by decide), hformed,
    hsnapped]

theorem State.mem_out_of_gooses {s t : State} (h : t.only .gooses = s.only .gooses) {o : Out} (ho : o.isGoose = true) (hmem : o ∈ t.out) :
    o ∈ s.out := by
  have hgooses : t.out.filter Out.isGoose = s.out.filter Out.isGoose := (congrArg State.out h :)
  exact List.mem_of_mem_filter (hgooses ▸ List.mem_filter.mpr ⟨hmem, ho⟩)

/-! ### The role at the boundary, from the state before it (R331) -/

section
variable (s : State) (k : Nat)

theorem State.ticked_standing : (s.ticked k).standing = s.standing := by
  have hended := s.tickEnded_standing
  unfold State.ticked
  generalize s.tickEnded = t at hended
  exact hended

theorem State.ticked_steady : Steady s (s.ticked k) := ⟨s.tickEnded_steady.entries, s.tickEnded_steady.links⟩

theorem State.role_boundary_of_out (h : s.pair.role = .withdrawn ∨ s.power.withdrawn = true) : (s.boundary k).pair.role = .withdrawn := by
  obtain ⟨hrole, -⟩ := State.fields_of_standing (s.ticked_standing k)
  rw [← hrole, ← s.ticked_power k] at h
  rw [State.role_boundary, State.roleAt_of_out _ h]

variable {s} (hrole : s.pair.role ≠ .withdrawn) (hin : s.power.withdrawn = false)
include hrole hin

theorem State.role_boundary_of_unpaired (h : s.paired = false) : (s.boundary k).pair.role = s.pair.role := by
  obtain ⟨hsame, henabled, -⟩ := State.fields_of_standing (s.ticked_standing k)
  rw [State.role_boundary, State.roleAt_of_unpaired _ (hsame ▸ hrole) ((s.ticked_power k).symm ▸ hin) (henabled.trans h), hsame]

variable (hpaired : s.paired = true)
include hpaired

theorem State.role_boundary_of_lost (hlost : s.partnerLost ∨ s.pair.relinquished = true) (h : s.pair.role = .syncing ∨ s.pair.role = .follow) :
    (s.boundary k).pair.role = .lead := by
  obtain ⟨hsame, henabled, hrelinquished, -⟩ := State.fields_of_standing (s.ticked_standing k)
  obtain ⟨-, hfails, -⟩ := State.tickEnded_found hpaired hrole
  rw [State.role_boundary, State.roleAt_of_lost _ (hsame ▸ hrole) ((s.ticked_power k).symm ▸ hin) (henabled.trans hpaired)
    (hlost.imp hfails hrelinquished.trans) (hsame ▸ h)]

theorem State.role_boundary_of_relinquishing (h : s.pair.role = .lead) (hsent : s.pair.relinquishSent = true) :
    (s.boundary k).pair.role = .syncing := by
  obtain ⟨hsame, henabled, -, hsends, -⟩ := State.fields_of_standing (s.ticked_standing k)
  rw [State.role_boundary, State.roleAt_of_relinquishing _ (hsame ▸ hrole) ((s.ticked_power k).symm ▸ hin) (henabled.trans hpaired)
    (hsame.trans h) (hsends.trans hsent)]

theorem State.role_boundary_of_heartbeats (hrun : s.pair.role = .init ∨ s.pair.role = .lead ∧ s.pair.relinquishSent = false)
    (hswap : s.pair.swap = none) : (s.boundary k).pair.role = (s.ticked k).heartbeatRole (s.heard s.workTick) := by
  obtain ⟨hsame, henabled, -, hsends, -⟩ := State.fields_of_standing (s.ticked_standing k)
  obtain ⟨hswaps, -⟩ := State.tickEnded_found hpaired hrole
  rw [State.role_boundary, State.roleAt_of_heartbeats _ (hsame ▸ hrole) ((s.ticked_power k).symm ▸ hin) (henabled.trans hpaired)
    (hrun.imp hsame.trans fun h => ⟨hsame.trans h.1, hsends.trans h.2⟩) (hswaps hswap)]

theorem State.role_boundary_of_init_silent (h : s.pair.role = .init) (hswap : s.pair.swap = none) (hsilent : s.heard s.workTick = false) :
    (s.boundary k).pair.role = if s.pair.hbWaited then .lead else .init := by
  obtain ⟨hsame, -, -, -, hwaited, -⟩ := State.fields_of_standing (s.ticked_standing k)
  rw [State.role_boundary_of_heartbeats k hrole hin hpaired (.inl h) hswap, hsilent, State.heartbeatRole_init_silent (hsame.trans h), hwaited]

theorem State.role_boundary_of_init_heard (h : s.pair.role = .init) (hswap : s.pair.swap = none) (hheard : s.heard s.workTick = true)
    {hb : Heartbeat} (hpartner : s.pair.partner = some hb) : (hb.state = 2 ∨ hb.state = 3 → (s.boundary k).pair.role = .syncing) ∧
      (hb.state < 2 → (s.boundary k).pair.role = if s.winsTie hb then .lead else .syncing) := by
  obtain ⟨hsame, -, -, -, -, hpartners, hside⟩ := State.fields_of_standing (s.ticked_standing k)
  obtain ⟨-, -, hshown⟩ := State.tickEnded_found hpaired hrole
  rw [State.role_boundary_of_heartbeats k hrole hin hpaired (.inl h) hswap, hheard, ← (s.ticked_steady k).winsTie hside hb]
  exact State.heartbeatRole_init_heard (hsame.trans h) (hpartners.trans hpartner) (hshown.trans (by rw [hpartner]; rfl))

theorem State.role_boundary_of_lead_silent (h : s.pair.role = .lead) (hsent : s.pair.relinquishSent = false) (hswap : s.pair.swap = none)
    (hsilent : s.heard s.workTick = false) : (s.boundary k).pair.role = .lead := by
  obtain ⟨hsame, -⟩ := State.fields_of_standing (s.ticked_standing k)
  rw [State.role_boundary_of_heartbeats k hrole hin hpaired (.inr ⟨h, hsent⟩) hswap, hsilent, State.heartbeatRole_lead_silent (hsame.trans h)]

end

/-! ### WORK_TICK_BOUNDARY -/

theorem exec_workTickBoundary (s : State) (a : Instant) : exec (.workTickBoundary a) s = act true 10 (s.arrive a) fun s => s.workTickBoundary := rfl

theorem State.settle_outEnable (t : State) : t.settle.pins.outEnable =
    (decide (t.power.state = .run) && decide (t.pair.role = .follow ∨ t.pair.role = .lead) && !t.power.withdrawn) := by
  rw [Bool.decide_or]
  rfl

/-- Settles O6: the boundary is the stages above; the state in which the role is found keeps what roles are found from, and the role set there
stays. -/
theorem rolesChangeAtTheBoundary : Obligations.RolesChangeAtTheBoundary := by
  unfold Obligations.RolesChangeAtTheBoundary
  intro s u a hpower hu
  have hexec : exec (.workTickBoundary a) s = .next u.workTickBoundary.settle :=
    hu ▸ (exec_workTickBoundary s a).trans (act_on rfl (by rw [State.arrive_powered, hpower]))
  have same {α : Type} (g : State → α) (hg : ∀ t, g (s.setNow t) = g s) : g s = g u := hu ▸ (State.arrive_eq g hg a).symm
  have htick := same State.workTick fun _ => rfl
  have hpair := same State.pair fun _ => rfl
  have hpow := same State.power fun _ => rfl
  have hpaired := same State.paired fun _ => rfl
  have hstation := same State.hasStationPath fun _ => rfl
  have hsubs := same State.subs fun _ => rfl
  have hsub := fun n => same (·.sub n) fun _ => rfl
  have hout := same State.out fun _ => rfl
  have hwins := fun hb => same (·.winsTie hb) fun _ => rfl
  dsimp only at *
  simp only [htick, hpair, hpow, hpaired, hstation, hsubs, hsub, hout, hwins]
  refine ⟨fun h => hexec.trans ?_, fun h => ⟨_, hexec, ?_⟩⟩
  · rw [State.workTickBoundary, if_pos h]
  · rw [State.workTickBoundary, if_neg h]
    simp only [State.settle_workTick, State.settle_outEnable, State.settle_power, State.settle_pair, State.settle_part, State.settle_sub,
      State.settle_out]
    refine ⟨u.boundary_workTick _, rfl, u.part_boundary _, fun n hn => ?_, fun hfollow hlead j st sq ttl w cells stamp auth hmem => ?_,
      u.role_boundary_of_out _, fun hin hnone => ?_, fun hin hpaired => ?_⟩
    · have hsnap := u.subs_boundary u.tickNow hn
      rw [Sub.snap, Sub.shown, Prod.mk.injEq, Prod.mk.injEq] at hsnap
      exact hsnap
    · have hsilent : (u.boundary u.tickNow).publishes = false := by simp [State.publishes, hfollow, hlead]
      exact State.mem_out_of_gooses (u.gooses_boundary _ hsilent) rfl hmem
    · rw [not_or, Bool.not_eq_true] at hin
      exact State.role_boundary_of_unpaired _ hin.1 hin.2 hnone
    · rw [not_or, Bool.not_eq_true] at hin
      obtain ⟨hrole, hpowered⟩ := hin
      exact ⟨fun h hlost => State.role_boundary_of_lost _ hrole hpowered hpaired hlost h,
        State.role_boundary_of_relinquishing _ hrole hpowered hpaired, State.role_boundary_of_init_silent _ hrole hpowered hpaired,
        fun hb h hswap hheard hpartner => State.role_boundary_of_init_heard _ hrole hpowered hpaired h hswap hheard hpartner,
        State.role_boundary_of_lead_silent _ hrole hpowered hpaired⟩

end Sys2Proof.Machine
end

section
set_option Elab.async false
namespace Sys2Proof.Machine

/-! ### O7: ticks and times (R43 to R48) -/

/-! #### Rounding -/

/-- A rounded quotient is within half a unit of the exact one. -/
theorem roundDiv_near (num : Int) {den : Nat} (hden : 0 < den) :
    2 * num ≤ 2 * (roundDiv num den * den) + den ∧ 2 * (roundDiv num den * den) ≤ 2 * num + den := by
  have hnum : num.fdiv den * den + num.fmod den = num := Int.fdiv_mul_add_fmod num den
  have hpos := Int.fmod_nonneg_of_pos num (by exact_mod_cast hden : (0 : Int) < den)
  have hlt := Int.fmod_lt_of_pos num (by exact_mod_cast hden : (0 : Int) < den)
  have hup : (num.fdiv den + 1) * den = num.fdiv den * den + den := by rw [add_mul, one_mul]
  unfold roundDiv
  dsimp only
  repeat' split
  all_goals omega

/-! #### Ticks (R46, R48) -/

/-- FRAC(n) is not after `f` exactly where the rounded quotient is not above it. -/
theorem tickFrac_le_iff {ft : Nat} (hft : 0 < ft) (n f : Nat) : tickFrac ft n ≤ f ↔ n * 2 ^ 36 + ft / 2 < f * ft + ft := by
  rw [tickFrac, ← Nat.lt_succ_iff, Nat.div_lt_iff_lt_mul hft, Nat.succ_mul]

theorem tickInstant_of_lt {ft n : Nat} (hn : n < ft) (sec : Nat) : tickInstant ft (sec * ft + n) = sec * 2 ^ 36 + tickFrac ft n := by
  rw [tickInstant, Nat.mul_comm sec, Nat.mul_add_div (by omega), Nat.mul_add_mod, Nat.div_eq_of_lt hn, Nat.mod_eq_of_lt hn, Nat.add_zero]

/-- Tick 0 of a second is at its top. -/
theorem tickInstant_second {ft : Nat} (hft : 0 < ft) (sec : Nat) : tickInstant ft (sec * ft) = sec * 2 ^ 36 := by
  have hzero : tickFrac ft 0 = 0 := by rw [tickFrac, Nat.zero_mul, Nat.zero_add]; exact Nat.div_eq_of_lt (by omega)
  exact (tickInstant_of_lt hft sec).trans (by rw [hzero, Nat.add_zero])

/-- The procedure of R48: the tick's number within its second, and that the instant lies between the tick's fraction and the next one's. -/
theorem tickOf_spec {ft : Nat} (hft : 0 < ft) (hmax : ft ≤ 2 ^ 35) (t : Nat) :
    ∃ n < ft, tickOf ft t = t / 2 ^ 36 * ft + n ∧ tickFrac ft n ≤ t % 2 ^ 36 ∧ (n + 1 < ft → t % 2 ^ 36 < tickFrac ft (n + 1)) := by
  have hbound : t % 2 ^ 36 < 2 ^ 36 := Nat.mod_lt _ (by decide)
  have hproduct : t % 2 ^ 36 * ft < 2 ^ 36 * ft := Nat.mul_lt_mul_of_pos_right hbound hft
  refine ⟨_, ?_, rfl, ?_⟩
  · simp only [Bool.and_eq_true, decide_eq_true_eq]
    repeat' split
    all_goals omega
  · simp only [Bool.and_eq_true, decide_eq_true_eq, ← Nat.not_le, tickFrac_le_iff hft]
    generalize t % 2 ^ 36 * ft = x at *
    repeat' split
    all_goals omega

/-! #### PTP times (R43 to R45) -/

/-- R45 then R43, with the remainder in the correction field: nothing is lost. -/
theorem fromPtp_toPtp {a : Nat} (ha : a < 2 ^ 80) : fromPtp (toPtp a).1 (toPtp a).2.1 (toPtp a).2.2 = some a := by
  have hinner := roundDiv_near ((a % 2 ^ 36 * 1000000000 : Nat) : Int) (den := 2 ^ 20) (by decide)
  have houter := roundDiv_near (ptpExact (toPtp a).1 (toPtp a).2.1 (toPtp a).2.2 * 2 ^ 20 + 0 * 1000000000) (den := 1000000000) (by decide)
  have hvalue : roundDiv (ptpExact (toPtp a).1 (toPtp a).2.1 (toPtp a).2.2 * 2 ^ 20 + 0 * 1000000000) 1000000000 = a := by
    simp only [ptpExact, toPtp] at houter ⊢
    omega
  have hseconds : (toPtp a).1 < 2 ^ 44 := by simp only [toPtp]; omega
  rw [fromPtp, hvalue]
  exact if_pos ⟨hseconds, Int.natCast_nonneg a⟩

/-- The nanoseconds nearest a drip value, as R45 sends them without a correction field. -/
theorem toPtpRounded_near (a : Nat) : ∃ ns : Int, ns = ((toPtpRounded a).1 * 1000000000 + (toPtpRounded a).2 : Nat) ∧
    2 * (a * 1000000000 : Int) ≤ 2 * (ns * 2 ^ 36) + 2 ^ 36 ∧ 2 * (ns * 2 ^ 36) ≤ 2 * (a * 1000000000 : Int) + 2 ^ 36 := by
  have hnear := roundDiv_near ((a % 2 ^ 36 * 1000000000 : Nat) : Int) (den := 2 ^ 36) (by decide)
  refine ⟨_, rfl, ?_⟩
  simp only [toPtpRounded]
  generalize roundDiv ((a % 2 ^ 36 * 1000000000 : Nat) : Int) (2 ^ 36) = ns at *
  split <;> dsimp only <;> omega

/-- Without a correction field the value comes back within half a nanosecond. -/
theorem fromPtp_toPtpRounded {a : Nat} (hseconds : (toPtpRounded a).1 < 2 ^ 44) :
    ∃ b, fromPtp (toPtpRounded a).1 (toPtpRounded a).2 0 = some b ∧ b ≤ a + 34 ∧ a ≤ b + 34 := by
  obtain ⟨ns, hns, hlow, hhigh⟩ := toPtpRounded_near a
  have hexact : ptpExact (toPtpRounded a).1 (toPtpRounded a).2 0 * 2 ^ 20 + 0 * 1000000000 = ns * 2 ^ 36 := by
    rw [ptpExact, hns]
    push_cast
    ring
  have houter := roundDiv_near (ns * 2 ^ 36) (den := 1000000000) (by decide)
  have hpos : 0 ≤ ns := hns ▸ Int.natCast_nonneg _
  refine ⟨(roundDiv (ns * 2 ^ 36) 1000000000).toNat, ?_, by omega, by omega⟩
  rw [fromPtp, hexact]
  exact if_pos ⟨hseconds, by omega⟩

/-- Settles O7: the procedure of R48 finds the tick's place in its second, and two roundings stay within half a drip. -/
theorem ticksAndTimesConvert : Obligations.TicksAndTimesConvert := by
  unfold Obligations.TicksAndTimesConvert
  refine ⟨fun ft hrate t => ?_, fun a ha => ⟨fromPtp_toPtp ha, fromPtp_toPtpRounded⟩⟩
  have hft : 0 < ft ∧ ft ≤ 2 ^ 35 := by
    have hrates : ∀ r ∈ [4000, 4800, 12800, 14400], 0 < r ∧ r ≤ 2 ^ 35 := by decide
    exact hrates ft hrate
  obtain ⟨n, hn, htick, hlow, hnext⟩ := tickOf_spec hft.1 hft.2 t
  rw [htick, tickInstant_of_lt hn, Nat.add_assoc]
  refine ⟨by omega, ?_⟩
  rcases Nat.lt_or_ge (n + 1) ft with hlt | hge
  · have hafter := hnext hlt
    rw [tickInstant_of_lt hlt]
    omega
  · rw [show t / 2 ^ 36 * ft + (n + 1) = (t / 2 ^ 36 + 1) * ft by rw [Nat.succ_mul]; omega, tickInstant_second hft.1]
    omega

end Sys2Proof.Machine
end

section
set_option Elab.async false
namespace Sys2Proof.Machine

/-! ### Commands that act on the state as their instant arrives -/

section
variable {c : Instr} {s u v : State} {a : Instant} {b : Bool} {d : Nat} {f : State → State}

theorem does_of_act (hexec : exec c s = act b d (s.arrive a) f) (hb : b = true) (hpower : s.powered d = true) (hu : u = s.arrive a)
    (hv : f u = v) : Does c s v := by
  subst hu hv
  exact hexec.trans (act_on hb (by rw [State.arrive_powered, hpower]))

theorem yields_of_act {P : State → Prop} (hexec : exec c s = act b d (s.arrive a) f) (hb : b = true) (hpower : s.powered d = true)
    (hu : u = s.arrive a) (hP : P (f u).settle) : Yields c s P :=
  ⟨_, does_of_act hexec hb hpower hu rfl, hP⟩

end

section
variable (s : State) (a : Instant) (p t value : Nat) (m : PtpMsg) (e : PpsEdge)

theorem exec_setTime : exec (.setTime a t) s = act true 3 (s.arrive a) fun s => (s.writeSetTime (t % 2 ^ 80)).told := rfl
theorem exec_stepNow : exec (.stepNow a value) s = act true 3 (s.arrive a) fun s => (s.writeStepNow value).told := rfl
theorem exec_ppsInEdge : exec (.ppsInEdge a e) s = act true 3 (s.arrive a) fun s => s.ppsEdge e := rfl
theorem exec_ppsInInvalid : exec (.ppsInInvalid a) s = act true 3 (s.arrive a) fun s => s.ppsLost := rfl
theorem exec_ppsOutRise : exec (.ppsOutRise a) s = act true 3 (s.arrive a) fun s => s.ppsRise := rfl
theorem exec_ppsOutFall : exec (.ppsOutFall a) s = act true 3 (s.arrive a) fun s => s.ppsFall := rfl
theorem exec_holdoverOutOfSpec : exec (.holdoverOutOfSpec a) s = act true 3 (s.arrive a) fun s =>
    if s.time.servo = .holdover && s.holdExceeded && !s.time.frozen then s.setServo .holdoverOutOfSpec else s := rfl
theorem exec_frequencyStore : exec (.frequencyStore a) s = act true 3 (s.arrive a) fun s => s.storeFrequency := rfl
theorem exec_tickRateChange : exec (.tickRateChange a) s = act true 3 (s.arrive a) fun s => s.changeRate := rfl
theorem exec_announceReceiptTimeout : exec (.announceReceiptTimeout a p) s =
    act (p < 32) 3 (s.arrive a) fun s => s.announceTimeout p := rfl
theorem exec_ptpMessageReceived : exec (.ptpMessageReceived a p m) s = act (p < 32) 3 (s.arrive a) fun s => s.ptpReceived p m := rfl
theorem exec_pdelayReqSend : exec (.pdelayReqSend a p) s = act (p < 32) 3 (s.arrive a) fun s => s.sendPdelayReq p := rfl
theorem exec_ptpSyncSend : exec (.ptpSyncSend a p) s = act (p < 32) 3 (s.arrive a) fun s => s.sendSync p := rfl
theorem exec_ptpAnnounceSend : exec (.ptpAnnounceSend a p) s = act (p < 32) 3 (s.arrive a) fun s => s.sendAnnounce p := rfl

end

/-! ### What the servo's states and the choice of source leave of the time unit (R56 to R62) -/

@[simp] theorem State.timeFlag_time (s : State) (flag : Nat) : (s.timeFlag flag).time = s.time := s.setFlag_time ..

/-- A time unit without its servo state, and without PPS_OUT's level and settings. -/
def TimeUnit.unpulsed (t : TimeUnit) : TimeUnit :=
  { t with servo := .freeRun, lockRun := 0, ppsOut := false, ppsChangeAt := none, ppsMode := 0, ppsWidth := 0, ppsOffset := 0 }

theorem State.ppsRefresh_servo (s : State) : s.ppsRefresh.time.servo = s.time.servo := by
  unfold State.ppsRefresh
  repeat' split
  all_goals rfl

theorem State.ppsRefresh_unpulsed (s : State) : s.ppsRefresh.time.unpulsed = s.time.unpulsed := by
  unfold State.ppsRefresh
  repeat' split
  all_goals rfl

/-- Settings that wait for no top of a second stay in force. -/
theorem State.ppsRefresh_of_none {s : State} (h : s.time.ppsChangeAt = none) : s.ppsRefresh = s := by
  unfold State.ppsRefresh
  rw [h]

@[simp] theorem State.setServo_servo (s : State) (v : Servo) : (s.setServo v).time.servo = v := by
  unfold State.setServo
  split
  · assumption
  · simp only [State.stand_time, State.timeFlag_time, State.setTimeUnit_time]

@[simp] theorem State.setServo_unpulsed (s : State) (v : Servo) : (s.setServo v).time.unpulsed = s.time.unpulsed := by
  unfold State.setServo
  split
  · rfl
  · simp only [State.stand_time, State.timeFlag_time, State.setTimeUnit_time]
    exact s.ppsRefresh_unpulsed

@[simp] theorem State.setServo_ppsLocked (s : State) (v : Servo) : (s.setServo v).time.ppsLocked = s.time.ppsLocked := by
  have h := congrArg TimeUnit.ppsLocked (s.setServo_unpulsed v)
  exact h

/-- The drip count, PPS_IN's edges and the ports: what the choice of a source leaves alone. -/
def TimeUnit.kept (t : TimeUnit) : Nat × Bool × Nat × Nat × Tab PtpPort := (t.now, t.ppsValid, t.ppsLastEdge, t.ppsRejected, t.ptp)

theorem TimeUnit.kept_of_unpulsed {t t' : TimeUnit} (h : t'.unpulsed = t.unpulsed) : t'.kept = t.kept := by
  have h := congrArg TimeUnit.kept h
  exact h

theorem TimeUnit.fields_of_kept {t t' : TimeUnit} (h : t'.kept = t.kept) : t'.now = t.now ∧ t'.ppsValid = t.ppsValid ∧
    t'.ppsLastEdge = t.ppsLastEdge ∧ t'.ppsRejected = t.ppsRejected ∧ t'.ptp = t.ptp := by
  simpa only [TimeUnit.kept, Prod.mk.injEq] using h

@[simp] theorem State.setServo_kept (s : State) (v : Servo) : (s.setServo v).time.kept = s.time.kept :=
  TimeUnit.kept_of_unpulsed (s.setServo_unpulsed v)

theorem State.loseSource_kept (s : State) : s.loseSource.time.kept = s.time.kept := by
  unfold State.loseSource
  dsimp only
  split
  · exact State.setServo_kept ..
  · exact State.setServo_kept ..
  · rfl

theorem State.loseSource_ppsLocked (s : State) : s.loseSource.time.ppsLocked = false := by
  unfold State.loseSource
  dsimp only
  split
  · exact State.setServo_ppsLocked ..
  · exact State.setServo_ppsLocked ..
  · rfl

theorem State.takeSource_kept (s : State) (src : TimeSource) : (s.takeSource src).time.kept = s.time.kept := by
  unfold State.takeSource
  dsimp only
  split
  all_goals
    simp only [State.setServo_kept, apply_ite State.time, State.timeFlag_time, ite_self]
    rfl

theorem State.takeSource_ppsLocked (s : State) (src : TimeSource) :
    (s.takeSource src).time.ppsLocked = (s.time.ppsLocked || (decide (s.time.servo = .locked) && decide (src = .pps))) := by
  unfold State.takeSource
  dsimp only
  split
  all_goals simp only [State.setServo_ppsLocked, apply_ite State.time, State.timeFlag_time, ite_self, State.setTimeUnit_time]

theorem State.reselect_kept (s : State) : s.reselect.time.kept = s.time.kept := by
  unfold State.reselect
  dsimp only
  generalize hr : (if (Option.map TimeSource.ptp s.bestPort).isSome = true then s else _) = r
  have hkept : r.time.kept = s.time.kept := by
    rw [← hr]
    split <;> rfl
  rw [← hkept]
  repeat' split
  all_goals simp only [State.setReg_time, State.takeSource_kept, State.loseSource_kept]

/-- Without a valid PPS_IN the choice does not lock to it. -/
theorem State.reselect_ppsLocked {s : State} (hvalid : s.time.ppsValid = false) (hlocked : s.time.ppsLocked = false) :
    s.reselect.time.ppsLocked = false := by
  unfold State.reselect
  dsimp only
  generalize hr : (if (Option.map TimeSource.ptp s.bestPort).isSome = true then s else _) = r
  have hlocked : r.time.ppsLocked = false := by
    rw [← hr]
    split
    · exact hlocked
    · exact hlocked
  split
  · rename_i x hx
    have hport : x ≠ .pps := by
      rintro rfl
      cases hbest : s.bestPort <;> simp [hbest, hvalid] at hx
    have htaken : (r.takeSource x).time.ppsLocked = false := by
      rw [State.takeSource_ppsLocked, hlocked]
      simp [hport]
    split
    · split
      · exact htaken
      · exact htaken
    · exact htaken
  · split
    · exact State.loseSource_ppsLocked r
    · exact hlocked

/-! ### A step of the drip count (R58, R59) -/

/-- A step sets the count and the waits that run by it and empties the image ring; a flag and, from LOCKED, the servo's new state follow. -/
theorem State.stepTime_eq (s : State) (offset : Int) : ∃ v : State,
    s.stepTime offset = (if s.time.servo = .locked then (v.timeFlag 2).setServo .acquiring else v.timeFlag 2) ∧
    v.time.servo = s.time.servo ∧ v.now = dripAdd s.now offset % 2 ^ 80 ∧ v.dp.images = [] ∧ v.dp.lastReleased = none ∧
    v.time.ppsValid = s.time.ppsValid ∧ v.time.ppsLastEdge = dripAdd s.time.ppsLastEdge offset ∧
    v.time.ppsRejected = s.time.ppsRejected := by
  obtain ⟨hnow, hvalid, hedge, hrejected, -⟩ := TimeUnit.fields_of_kept (TimeUnit.kept_of_unpulsed s.ppsRefresh_unpulsed)
  refine ⟨_, rfl, s.ppsRefresh_servo, rfl, rfl, rfl, hvalid, ?_, hrejected⟩
  rw [← hedge]
  rfl

theorem State.stepTime_images (s : State) (offset : Int) :
    (s.stepTime offset).dp.images = [] ∧ (s.stepTime offset).dp.lastReleased = none := by
  obtain ⟨v, heq, -, -, himages, hreleased, -⟩ := s.stepTime_eq offset
  have hdp : (s.stepTime offset).dp = v.dp := by
    rw [heq]
    split
    · exact (State.dp_of_only (State.setServo_only (by decide) ..)).trans (State.dp_of_only (State.timeFlag_only (by decide) ..))
    · exact State.dp_of_only (State.timeFlag_only (by decide) ..)
  exact hdp ▸ ⟨himages, hreleased⟩

theorem State.stepTime_servo (s : State) (offset : Int) :
    (s.stepTime offset).time.servo = if s.time.servo = .locked then .acquiring else s.time.servo := by
  obtain ⟨v, heq, hservo, -⟩ := s.stepTime_eq offset
  rw [heq]
  split
  · exact State.setServo_servo ..
  · rw [State.timeFlag_time, hservo]

theorem State.stepTime_counts (s : State) (offset : Int) : (s.stepTime offset).now = dripAdd s.now offset % 2 ^ 80 ∧
    (s.stepTime offset).time.ppsValid = s.time.ppsValid ∧ (s.stepTime offset).time.ppsLastEdge = dripAdd s.time.ppsLastEdge offset ∧
    (s.stepTime offset).time.ppsRejected = s.time.ppsRejected := by
  obtain ⟨v, heq, -, hnow, -, -, hvalid, hedge, hrejected⟩ := s.stepTime_eq offset
  have hkept : (s.stepTime offset).time.kept = v.time.kept := by
    rw [heq]
    split
    · rw [State.setServo_kept, State.timeFlag_time]
    · rw [State.timeFlag_time]
  obtain ⟨hnow', hvalid', hedge', hrejected', -⟩ := TimeUnit.fields_of_kept hkept
  exact ⟨hnow'.trans hnow, hvalid'.trans hvalid, hedge'.trans hedge, hrejected'.trans hrejected⟩

end Sys2Proof.Machine
end

section
set_option Elab.async false
namespace Sys2Proof.Machine

/-! ### O8: SET_TIME and STEP_NOW (R58, R511) -/

/-- The sum undoes a difference that DRIP64 holds (R40). -/
theorem dripAdd_dripDiff {now t : Nat} (hnow : now < 2 ^ 63) (ht : t < 2 ^ 63) : dripAdd now (dripDiff t now) = t := by
  unfold dripAdd dripDiff clampInt
  split
  · omega
  · split <;> omega

/-! #### The answers -/

section
variable {s : State} {t : Nat}

theorem State.writeSetTime_of_valid (h : s.time.sourceValid = true) : s.writeSetTime t = s.refuse stBusy := if_pos h

theorem State.writeSetTime_of_step (hsource : s.time.sourceValid = false) (hbeyond : s.beyondStep (dripDiff t s.now) = true)
    (hout : s.outEnabled = false) : s.writeSetTime t = (s.stepTime (dripDiff t s.now)).ok := by
  unfold State.writeSetTime
  rw [if_neg (by simp [hsource])]
  exact if_pos (by simp [hbeyond, hout])

theorem State.writeSetTime_of_slew (hsource : s.time.sourceValid = false)
    (hslew : s.beyondStep (dripDiff t s.now) = false ∨ s.outEnabled = true) : s.writeSetTime t =
      (State.steer (if s.beyondStep (dripDiff t s.now) then (s.setTimeUnit fun u =>
          { u with setOffset := dripDiff t s.now, setAt := u.now, offset := dripDiff t s.now }).timeFlag 1
        else s.setTimeUnit fun u => { u with setOffset := dripDiff t s.now, setAt := u.now, offset := dripDiff t s.now })).ok := by
  unfold State.writeSetTime
  rw [if_neg (by simp [hsource])]
  exact if_neg (by simpa [← Bool.not_eq_true, imp_iff_not_or] using hslew)

theorem State.writeStepNow_zero : s.writeStepNow 0 = s.ok := rfl

theorem State.writeStepNow_of_two_le {value : Nat} (h : 2 ≤ value) : s.writeStepNow value = s.refuse stTypeMismatch := if_pos h

theorem State.writeStepNow_of_valid (hsource : s.time.sourceValid = true) (hbeyond : s.beyondStep s.time.offset = true) :
    s.writeStepNow 1 = (s.stepTime s.time.offset).ok := by
  unfold State.writeStepNow
  rw [if_neg (by decide), if_neg (by decide), if_pos hsource, if_pos hbeyond]

/-- The remainder of SET_TIME's offset is a free value: drawing it is all that the question does (log 5). -/
theorem State.writeStepNow_of_set (hsource : s.time.sourceValid = false) (hbeyond : s.drew.beyondStep s.remaining.1 = true) :
    s.writeStepNow 1 = (s.drew.stepTime s.remaining.1).ok := by
  have hdrew : s.remaining.2 = s.drew := rfl
  unfold State.writeStepNow
  rw [if_neg (by decide), if_neg (by decide), if_neg (by simp [hsource])]
  dsimp only
  rw [hdrew, if_pos hbeyond]

end

/-! #### Slewing -/

/-- The rate offset in force lies within the slew limit, and nothing else of the time unit changes (R58, log 12). -/
theorem State.steer_time (s : State) : ∃ v : Int, s.steer.time = { s.time with freq := v } ∧ v.natAbs ≤ s.slewMax := by
  refine ⟨_, rfl, ?_⟩
  have hfree : s.freeBelow (2 * s.slewMax + 1) < 2 * s.slewMax + 1 := Nat.mod_lt _ (Nat.succ_pos _)
  omega

theorem State.steer_reg (s : State) (k : Nat) : s.steer.reg k = s.reg k := State.reg_of_only (s.steer_only (by decide)) k

theorem State.timeFlag_slewMax (s : State) (flag : Nat) : (s.timeFlag flag).slewMax = s.slewMax := by
  unfold State.slewMax
  rw [State.timeFlag, State.reg_setFlag _ _ _ _ (by decide) (by decide) (by decide)]

theorem State.bit_timeFlag {s : State} (hup : s.sourceUp 32 = true) {flag : Nat} (hflag : flag < 16) :
    bit ((s.timeFlag flag).reg (Od.evStatus 32)) flag = true := by
  rw [State.timeFlag, State.status_setFlag _ _ _ _ hup, bit_statusSet hflag, decide_eq_true rfl, Bool.true_or]

/-- What SET_TIME leaves where it does not step. -/
theorem State.writeSetTime_slew_effects {s : State} {t : Nat} (hsource : s.time.sourceValid = false)
    (hslew : s.beyondStep (dripDiff t s.now) = false ∨ s.outEnabled = true) :
    let v := (s.writeSetTime t).told
    v.now = s.now ∧ v.time.servo = s.time.servo ∧ v.time.setOffset = dripDiff t s.now ∧ v.time.freq.natAbs ≤ s.slewMax ∧
      (s.beyondStep (dripDiff t s.now) = true → s.sourceUp 32 = true → bit (v.reg (Od.evStatus 32)) 1 = true) := by
  rw [State.writeSetTime_of_slew hsource hslew, State.told_ok]
  generalize hset : (s.setTimeUnit fun u => { u with setOffset := dripDiff t s.now, setAt := u.now, offset := dripDiff t s.now }) = x
  generalize hflagged : (if s.beyondStep (dripDiff t s.now) then x.timeFlag 1 else x) = y
  have htime : y.time = x.time := by
    rw [← hflagged]
    split
    · exact State.timeFlag_time ..
    · rfl
  have hmax : y.slewMax = s.slewMax := by
    rw [show s.slewMax = x.slewMax from hset ▸ rfl, ← hflagged]
    split
    · exact State.timeFlag_slewMax ..
    · rfl
  obtain ⟨v, hsteer, hlimit⟩ := y.steer_time
  have hsteer : (y.steer.emit (.status 0 [])).time = { x.time with freq := v } := htime ▸ hsteer
  dsimp only
  refine ⟨?_, ?_, ?_, ?_, fun hbeyond hup => ?_⟩
  · rw [State.now, hsteer, ← hset]
    rfl
  · rw [hsteer, ← hset]
    rfl
  · rw [hsteer, ← hset]
    rfl
  · rw [hsteer, ← hmax]
    exact hlimit
  · have hup : x.sourceUp 32 = true := hset ▸ hup
    rw [if_pos hbeyond] at hflagged
    exact (congrArg (bit · 1) ((State.steer_reg y _).trans (hflagged ▸ rfl))).trans (State.bit_timeFlag hup (by decide))

/-- Settles O8: each write is refused, a step, or an offset kept and steered, as the lemmas above say. -/
theorem setTimeStepsOrSlews : Obligations.SetTimeStepsOrSlews := by
  unfold Obligations.SetTimeStepsOrSlews
  intro s u a t hpower hu ht
  have hsource : s.time.sourceValid = u.time.sourceValid := hu ▸ (State.arrive_eq (·.time.sourceValid) (fun _ => rfl) a).symm
  have hservo : s.time.servo = u.time.servo := hu ▸ (State.arrive_eq (·.time.servo) (fun _ => rfl) a).symm
  rw [hsource, hservo]
  have hmod : t % 2 ^ 80 = t := Nat.mod_eq_of_lt ht
  have hset : exec (.setTime a t) s = act true 3 (s.arrive a) fun s => (s.writeSetTime t).told := by rw [exec_setTime, hmod]
  refine ⟨fun h => does_of_act hset rfl hpower hu ?_, fun h hnow ht hbeyond hout => yields_of_act hset rfl hpower hu ?_,
    fun h hslew => yields_of_act hset rfl hpower hu ?_, does_of_act (exec_stepNow s a 0) rfl hpower hu rfl,
    fun h => does_of_act (exec_stepNow s a t) rfl hpower hu ?_, fun h hbeyond => yields_of_act (exec_stepNow s a 1) rfl hpower hu ?_,
    fun h hbeyond => yields_of_act (exec_stepNow s a 1) rfl hpower hu ?_⟩
  · rw [State.writeSetTime_of_valid h]
    rfl
  · obtain ⟨hcount, -⟩ := u.stepTime_counts (dripDiff t u.now)
    obtain ⟨himages, hreleased⟩ := u.stepTime_images (dripDiff t u.now)
    rw [dripAdd_dripDiff hnow ht, hmod] at hcount
    rw [State.writeSetTime_of_step h hbeyond hout]
    exact ⟨hcount, himages, hreleased, u.stepTime_servo _⟩
  · exact State.writeSetTime_slew_effects h hslew
  · rw [State.writeStepNow_of_two_le h]
    rfl
  · rw [State.writeStepNow_of_valid h hbeyond]
    exact ⟨(u.stepTime_counts _).1, (u.stepTime_images _).1⟩
  · rw [State.writeStepNow_of_set h hbeyond]
    exact ⟨(u.drew.stepTime_counts _).1, (u.drew.stepTime_images _).1⟩

end Sys2Proof.Machine
end

section
set_option Elab.async false
namespace Sys2Proof.Machine

/-! ### O9: PPS_IN and PPS_OUT (R61 to R63) -/

/-- The edge's time by the count, less the cable's delay (R61). -/
def State.edgeAt (s : State) : Int := (s.now : Int) - s.regI 64 Od.ppsInCableDelay

/-- The offset of an edge from the nearest top of a second by the known time (R62). -/
def State.edgeOffset (s : State) : Int := roundDiv (s.edgeAt + s.timeAhead.1) (2 ^ 36) * 2 ^ 36 - s.edgeAt

/-- Asking how far the known time lies ahead may draw a free value and leaves the time unit alone. -/
theorem State.timeAhead_time (s : State) : s.timeAhead.2.time = s.time := State.time_of_only (s.timeAhead_only (by decide))

/-- An edge that PPS_IN takes: valid from now, and the choice of source follows. -/
def State.edgeTaken (s : State) : State :=
  (s.timeAhead.2.setTimeUnit fun u => { u with ppsLastEdge := u.now, ppsValid := true }).reselect

section
variable {s : State} {e : PpsEdge}

theorem State.ppsEdge_of_ignored (h : s.on Od.ppsInEnable = false ∨ e.rising = false ∨ e.width < 6872) : s.ppsEdge e = s :=
  if_pos (by rcases h with h | h | h <;> simp [h])

section
variable (hon : s.on Od.ppsInEnable = true) (hrising : e.rising = true) (hwidth : 6872 ≤ e.width) (hrun : s.time.frozen = false)
include hon hrising hwidth hrun

theorem State.ppsEdge_of_active : s.ppsEdge e =
    if 2 * 2 ^ 36 < 5 * s.edgeOffset.natAbs then s.timeAhead.2
    else if s.timeAhead.2.time.ppsLocked && (ofUs 100 : Nat) < s.edgeOffset.natAbs then
      s.timeAhead.2.setTimeUnit fun u => { u with ppsRejected := u.ppsRejected + 1 }
    else if s.edgeTaken.time.source = some .pps then s.edgeTaken.servoUpdate s.edgeOffset else s.edgeTaken :=
  if_neg (by simp [hon, hrising, hrun, Nat.not_lt.mpr hwidth])

theorem State.ppsEdge_of_far (hfar : 2 * 2 ^ 36 < 5 * s.edgeOffset.natAbs) : s.ppsEdge e = s.timeAhead.2 :=
  (State.ppsEdge_of_active hon hrising hwidth hrun).trans (if_pos hfar)

theorem State.ppsEdge_of_rejected (hnear : 5 * s.edgeOffset.natAbs ≤ 2 * 2 ^ 36) (hlocked : s.time.ppsLocked = true)
    (hoff : ofUs 100 < s.edgeOffset.natAbs) :
    s.ppsEdge e = s.timeAhead.2.setTimeUnit fun u => { u with ppsRejected := u.ppsRejected + 1 } := by
  rw [State.ppsEdge_of_active hon hrising hwidth hrun, if_neg (Nat.not_lt.mpr hnear), s.timeAhead_time]
  exact if_pos (by simp [hlocked, hoff])

theorem State.ppsEdge_of_accepted (hnear : 5 * s.edgeOffset.natAbs ≤ 2 * 2 ^ 36)
    (hlock : s.time.ppsLocked = false ∨ s.edgeOffset.natAbs ≤ ofUs 100) :
    s.ppsEdge e = if s.edgeTaken.time.source = some .pps then s.edgeTaken.servoUpdate s.edgeOffset else s.edgeTaken := by
  rw [State.ppsEdge_of_active hon hrising hwidth hrun, if_neg (Nat.not_lt.mpr hnear), s.timeAhead_time]
  refine if_neg ?_
  rcases hlock with h | h
  · simp [h]
  · simp [Nat.not_lt.mpr h]

end

/-- A taken edge is the last one, and of now. -/
theorem State.edgeTaken_edge (s : State) : s.edgeTaken.now = s.now ∧ s.edgeTaken.time.ppsValid = true ∧
    s.edgeTaken.time.ppsLastEdge = s.now ∧ s.edgeTaken.time.ppsRejected = s.time.ppsRejected := by
  obtain ⟨hnow, hvalid, hedge, hrejected, -⟩ := TimeUnit.fields_of_kept
    (State.reselect_kept (s.timeAhead.2.setTimeUnit fun u => { u with ppsLastEdge := u.now, ppsValid := true }))
  simp only [State.setTimeUnit_time, s.timeAhead_time] at hnow hvalid hedge hrejected
  exact ⟨hnow, hvalid, hedge, hrejected⟩

/-- A measurement that is no step is noted, slews, and may be the one that locks (R56, R58). -/
theorem State.servoUpdate_of_slew {offset : Int} (h : ¬(s.beyondStep offset && !s.outEnabled) = true) : ∃ (x : State) (run : Nat),
    x.time = { s.time with offset := offset } ∧
    s.servoUpdate offset = if s.time.servo = .acquiring && 16 ≤ run then
        ((x.steer.setTimeUnit fun t => { t with lockRun := run }).setServo .locked).setTimeUnit
          fun t => { t with ppsLocked := t.ppsLocked || t.source = some .pps }
      else x.steer.setTimeUnit fun t => { t with lockRun := run } := by
  refine ⟨_, _, ?_, if_neg h⟩
  split
  · exact State.timeFlag_time ..
  · rfl

/-- Such a measurement leaves the count and PPS_IN's edges alone. -/
theorem State.servoUpdate_kept {offset : Int} (h : ¬(s.beyondStep offset && !s.outEnabled) = true) :
    (s.servoUpdate offset).time.kept = s.time.kept := by
  obtain ⟨x, run, hnoted, hupdate⟩ := State.servoUpdate_of_slew h
  obtain ⟨v, hsteer, -⟩ := x.steer_time
  have hsteered : (x.steer.setTimeUnit fun t => { t with lockRun := run }).time.kept = s.time.kept := by
    rw [State.setTimeUnit_time, hsteer, hnoted]
    rfl
  rw [hupdate, ← hsteered]
  generalize (x.steer.setTimeUnit fun t => { t with lockRun := run }) = y
  split
  · exact State.setServo_kept y .locked
  · rfl

/-- A measurement of an edge of now: a step moves the edge with the count (R59, R62). -/
theorem State.servoUpdate_edge {offset : Int} (hnow : s.now < 2 ^ 79) (hnear : 5 * offset.natAbs ≤ 2 * 2 ^ 36)
    (hedge : s.time.ppsLastEdge = s.now) :
    (s.servoUpdate offset).time.ppsValid = s.time.ppsValid ∧ (s.servoUpdate offset).time.ppsLastEdge = (s.servoUpdate offset).now ∧
      (s.servoUpdate offset).time.ppsRejected = s.time.ppsRejected := by
  by_cases hstep : (s.beyondStep offset && !s.outEnabled) = true
  · have hupdate : s.servoUpdate offset = (s.setTimeUnit fun t => { t with offset := offset }).stepTime offset := if_pos hstep
    obtain ⟨hcount, hvalid, hlast, hrejected⟩ := (s.setTimeUnit fun t => { t with offset := offset }).stepTime_counts offset
    rw [hupdate]
    refine ⟨hvalid, ?_, hrejected⟩
    have hbound : dripAdd s.now offset < 2 ^ 80 := by
      unfold dripAdd
      omega
    have hsame : (s.setTimeUnit fun t => { t with offset := offset }).now = s.now := rfl
    rw [hcount, hsame, Nat.mod_eq_of_lt hbound, hlast, State.setTimeUnit_time, hedge]
  · obtain ⟨hcount, hvalid, hlast, hrejected, -⟩ := TimeUnit.fields_of_kept (State.servoUpdate_kept hstep)
    exact ⟨hvalid, (hlast.trans hedge).trans hcount.symm, hrejected⟩

/-! #### PPS_IN lost, and the pulses of PPS_OUT -/

theorem State.ppsLost_effects (hvalid : s.time.ppsValid = true) (hsilent : s.time.ppsLastEdge + 3 * 2 ^ 36 ≤ s.now)
    (hrun : s.time.frozen = false) :
    s.ppsLost.time.ppsValid = false ∧ s.ppsLost.time.ppsLocked = false ∧ s.ppsLost.now = s.now := by
  have hlost : s.ppsLost = ((s.setTimeUnit fun u => { u with ppsValid := false, ppsLocked := false }).timeFlag 4).reselect :=
    if_pos (by simp only [hvalid, hrun, decide_eq_true (p := s.time.ppsLastEdge + 3 * second ≤ s.now) hsilent, Bool.and_self, Bool.not_false])
  obtain ⟨hnow, hinvalid, -⟩ := TimeUnit.fields_of_kept
    (State.reselect_kept ((s.setTimeUnit fun u => { u with ppsValid := false, ppsLocked := false }).timeFlag 4))
  rw [State.timeFlag_time] at hnow hinvalid
  rw [hlost]
  exact ⟨hinvalid, State.reselect_ppsLocked (by rw [State.timeFlag_time]; rfl) (by rw [State.timeFlag_time]; rfl), hnow⟩

section
variable (hset : s.time.ppsChangeAt = none)
include hset

theorem State.ppsRise_of_due (hdrives : s.time.drivesPps = true) (hdue : s.time.ppsDue = true) (hlow : s.time.ppsOut = false) :
    s.ppsRise = s.setTimeUnit fun u => { u with ppsOut := true, ppsRoseAt := u.now } := by
  unfold State.ppsRise
  rw [State.ppsRefresh_of_none hset]
  exact if_pos (by simp [hdrives, hdue, hlow])

theorem State.ppsRise_of_not_due (h : s.time.drivesPps = false ∨ s.time.ppsDue = false ∨ s.time.ppsOut = true) : s.ppsRise = s := by
  unfold State.ppsRise
  rw [State.ppsRefresh_of_none hset]
  exact if_neg (by rcases h with h | h | h <;> simp [h])

theorem State.ppsFall_of_due (h : s.time.ppsRoseAt + s.time.ppsWidth ≤ s.now) :
    s.ppsFall = s.setTimeUnit fun u => { u with ppsOut := false } := by
  unfold State.ppsFall
  rw [State.ppsRefresh_of_none hset]
  exact if_pos h

theorem State.ppsFall_of_not_due (h : s.now < s.time.ppsRoseAt + s.time.ppsWidth) : s.ppsFall = s := by
  unfold State.ppsFall
  rw [State.ppsRefresh_of_none hset]
  exact if_neg (Nat.not_le.mpr h)

end

end

/-- Settles O9: each edge is of one of the four kinds above, and a pulse rises and falls where it is due. -/
theorem ppsEdgesAndPulses : Obligations.PpsEdgesAndPulses := by
  unfold Obligations.PpsEdgesAndPulses
  intro s u a e x o hpower hrun hu hnow hx ho
  have same {α : Type} (g : State → α) (hg : ∀ t, g (s.setNow t) = g s) : g s = g u := hu ▸ (State.arrive_eq g hg a).symm
  have hon := same (·.on Od.ppsInEnable) fun _ => rfl
  have hfrozen := same (·.time.frozen) fun _ => rfl
  have hlocked := same (·.time.ppsLocked) fun _ => rfl
  have hvalid := same (·.time.ppsValid) fun _ => rfl
  have hlast := same (·.time.ppsLastEdge) fun _ => rfl
  have hrejected := same (·.time.ppsRejected) fun _ => rfl
  have hchange := same (·.time.ppsChangeAt) fun _ => rfl
  have hdrives := same (·.time.drivesPps) fun _ => rfl
  have hout := same (·.time.ppsOut) fun _ => rfl
  have hrose := same (·.time.ppsRoseAt) fun _ => rfl
  have hwidth := same (·.time.ppsWidth) fun _ => rfl
  have hdelay := same (·.regI 64 Od.ppsInCableDelay) fun _ => rfl
  have hoffset : o = u.edgeOffset := by
    rw [ho, hx, hdelay]
    rfl
  have hedge := exec_ppsInEdge s a e
  rw [hon, hlocked, hvalid, hlast, hrejected, hchange, hdrives, hout, hrose, hwidth, hoffset]
  rw [hfrozen] at hrun
  refine ⟨fun h => does_of_act hedge rfl hpower hu (State.ppsEdge_of_ignored h),
    fun hon hr hw hfar => does_of_act hedge rfl hpower hu (State.ppsEdge_of_far hon hr hw hrun hfar),
    fun hon hr hw hnear hl hoff => does_of_act hedge rfl hpower hu (State.ppsEdge_of_rejected hon hr hw hrun hnear hl hoff),
    fun hon hr hw hnear hl => yields_of_act hedge rfl hpower hu ?_,
    fun hv hsilent => yields_of_act (exec_ppsInInvalid s a) rfl hpower hu (State.ppsLost_effects hv hsilent hrun),
    fun hset hd hdue hlow => does_of_act (exec_ppsOutRise s a) rfl hpower hu (State.ppsRise_of_due hset hd hdue hlow),
    fun hset h => does_of_act (exec_ppsOutRise s a) rfl hpower hu (State.ppsRise_of_not_due hset h),
    fun hset h => does_of_act (exec_ppsOutFall s a) rfl hpower hu (State.ppsFall_of_due hset h),
    fun hset h => does_of_act (exec_ppsOutFall s a) rfl hpower hu (State.ppsFall_of_not_due hset h)⟩
  obtain ⟨hcount, hv, hl', hr'⟩ := u.edgeTaken_edge
  rw [State.ppsEdge_of_accepted hon hr hw hrun hnear hl]
  split
  · obtain ⟨hvalid', hlast', hrejected'⟩ := State.servoUpdate_edge (hcount.symm ▸ hnow) hnear (hl'.trans hcount.symm)
    exact ⟨hvalid'.trans hv, hlast', hrejected'.trans hr'⟩
  · exact ⟨hv, hl'.trans hcount.symm, hr'⟩

end Sys2Proof.Machine
end

section
set_option Elab.async false
namespace Sys2Proof.Machine

/-! ### O10: holdover, the stored frequency, the tick rate, the Announce timeout (R49, R52, R56, R60) -/

@[simp] theorem State.ptpPort_setPtpPort_self (s : State) (p : Nat) (x : PtpPort) : (s.setPtpPort p x).ptpPort p = x :=
  Tab.look_put_self _ _ _ _

theorem State.ptpPort_of_time {s t : State} (h : t.time.ptp = s.time.ptp) (p : Nat) : t.ptpPort p = s.ptpPort p := by
  unfold State.ptpPort
  rw [h]

/-- The choice of a source leaves the count and the ports' exchanges alone. -/
theorem State.reselect_count (s : State) (p : Nat) : s.reselect.now = s.now ∧ s.reselect.ptpPort p = s.ptpPort p := by
  obtain ⟨hnow, -, -, -, hports⟩ := TimeUnit.fields_of_kept s.reselect_kept
  exact ⟨hnow, State.ptpPort_of_time hports p⟩

section
variable {s : State}

theorem State.storeFrequency_of_due (hlocked : s.time.servo = .locked) (hrun : s.time.frozen = false)
    (hdue : s.time.storedAt + 3600 * 2 ^ 36 ≤ s.now) :
    s.storeFrequency = s.setTimeUnit fun t => { t with storedFreq := some t.freq, storedAt := t.now } :=
  if_pos (by simp only [hlocked, hrun, decide_eq_true (p := s.time.storedAt + 3600 * second ≤ s.now) hdue, decide_true, Bool.and_self,
    Bool.not_false])

theorem State.announceTimeout_effects {p : Nat} (hheard : (s.ptpPort p).foreign.isSome = true)
    (hsilent : (s.ptpPort p).lastAnnounce + 3 * 2 ^ 36 ≤ s.now) :
    ((s.announceTimeout p).ptpPort p).foreign = none ∧ (s.announceTimeout p).now = s.now := by
  have hlost : s.announceTimeout p = (s.setPtpPort p { s.ptpPort p with foreign := none }).reselect :=
    if_pos (by simp only [hheard, decide_eq_true (p := (s.ptpPort p).lastAnnounce + 3 * second ≤ s.now) hsilent, Bool.and_self])
  obtain ⟨hnow, hport⟩ := (s.setPtpPort p { s.ptpPort p with foreign := none }).reselect_count p
  rw [hlost, hport, State.ptpPort_setPtpPort_self]
  exact ⟨rfl, hnow⟩

/-- At its second the committed rate is in force, and the rings of the data path are empty; the curd store, emptied with them, is another
part (R49, R211). -/
theorem State.changeRate_effects {r at_ : Nat} (hnext : s.time.rateNext = some (r, at_)) (hdue : at_ ≤ s.now) :
    s.changeRate.rate = r ∧ s.changeRate.time.rateNext = none ∧ s.changeRate.dp.images = [] ∧ s.changeRate.dp.lastReleased = none ∧
      ∀ n x, (n, x) ∈ s.changeRate.dp.streams → x.ring = [] := by
  generalize hset : (s.setTimeUnit fun u => { u with rateNext := none }).setReg Od.tickRate r = x
  have hchange : s.changeRate = x.clearRings.renumber.emptyStore := by
    unfold State.changeRate
    rw [hnext, ← hset]
    exact if_pos hdue
  have htime : s.changeRate.time = x.time := by
    rw [hchange, State.time_of_only (State.emptyStore_only (by decide) _)]
    rfl
  have hdp : s.changeRate.dp = x.clearRings.dp := by
    rw [hchange, State.dp_of_only (State.emptyStore_only (by decide) _)]
    rfl
  refine ⟨?_, ?_, ?_, ?_, fun n y hy => ?_⟩
  · have hrate : x.rate = r := by
      rw [← hset]
      exact State.reg_setReg_self ..
    rw [hchange, State.rate, State.emptyStore, State.reg_setFlag _ _ _ _ (by decide) (by decide) (by decide)]
    exact hrate
  · rw [htime, ← hset]
    rfl
  · rw [hdp]
    rfl
  · rw [hdp]
    rfl
  · rw [hdp] at hy
    obtain ⟨e, -, he⟩ := List.mem_map.mp hy
    rw [← (Prod.mk.inj he).2]

end

/-- Settles O10: each of the four commands by its lemma above. -/
theorem holdoverFrequencyAndRate : Obligations.HoldoverFrequencyAndRate := by
  unfold Obligations.HoldoverFrequencyAndRate
  intro s u a hpower hu
  have same {α : Type} (g : State → α) (hg : ∀ t, g (s.setNow t) = g s) : g s = g u := hu ▸ (State.arrive_eq g hg a).symm
  have hservo := same (·.time.servo) fun _ => rfl
  have hfrozen := same (·.time.frozen) fun _ => rfl
  have hstored := same (·.time.storedAt) fun _ => rfl
  have hnext := same (·.time.rateNext) fun _ => rfl
  have hport := fun p => same (·.ptpPort p) fun _ => rfl
  simp only [hservo, hfrozen, hstored, hnext, hport]
  refine ⟨fun hholdover hrun hexceeded => yields_of_act (exec_holdoverOutOfSpec s a) rfl hpower hu ?_,
    fun hlocked hrun hdue => does_of_act (exec_frequencyStore s a) rfl hpower hu (State.storeFrequency_of_due hlocked hrun hdue),
    fun r at_ hr hdue => yields_of_act (exec_tickRateChange s a) rfl hpower hu (State.changeRate_effects hr hdue),
    fun p hp hheard hsilent => yields_of_act (exec_announceReceiptTimeout s a p) (decide_eq_true hp) hpower hu
      (State.announceTimeout_effects hheard hsilent)⟩
  obtain ⟨hnow, -⟩ := TimeUnit.fields_of_kept (u.setServo_kept .holdoverOutOfSpec)
  rw [if_pos (by simp [hholdover, hrun, hexceeded])]
  exact ⟨u.setServo_servo _, hnow⟩

end Sys2Proof.Machine
end

section
set_option Elab.async false
namespace Sys2Proof.Machine

/-! ### O11: PTP messages (R44, R52, R55) -/

/-- A message sent leaves the time unit alone: what a port keeps of it is set before. -/
theorem State.sendPtp_time (s : State) (p : Nat) (m : PtpTx) (stamped : Bool) : (s.sendPtp p m stamped).time = s.time :=
  State.time_of_only (s.sendPtp_only (by decide) p m stamped)

theorem State.ptpPort_sendPtp (s : State) (p q : Nat) (m : PtpTx) (stamped : Bool) : (s.sendPtp p m stamped).ptpPort q = s.ptpPort q :=
  State.ptpPort_of_time (by rw [State.sendPtp_time]) q

theorem State.passPtp_time (s : State) (p : Nat) (m : PtpMsg) : (s.passPtp p m).time = s.time :=
  State.time_of_only (s.passPtp_only (by decide) p m)

section
variable {s : State} {p : Nat} {m : PtpMsg}

/-! #### Reception -/

theorem State.ptpReceived_of_down (h : s.ptpUp p = false) : s.ptpReceived p m = s := if_pos (by rw [h]; rfl)

theorem State.ptpReceived_of_malformed (hup : s.ptpUp p = true) (hbad : fromPtp m.seconds m.nanos m.correction = none) :
    s.ptpReceived p m = (s.setTimeUnit fun t => { t with malformed := t.malformed + 1 }).timeFlag 5 := by
  unfold State.ptpReceived
  rw [if_neg (by rw [hup]; decide)]
  exact if_pos (by rw [hbad]; rfl)

theorem State.ptpReceived_announce_time (hup : s.ptpUp p = true) (hgood : fromPtp m.seconds m.nanos m.correction ≠ none)
    (hdomain : m.domain = s.reg Od.ptpDomain) (hkind : m.kind = .announce) :
    (s.ptpReceived p m).time = (s.setPtpPort p { s.ptpPort p with foreign := m.data, lastAnnounce := s.now }).reselect.time := by
  unfold State.ptpReceived
  dsimp only
  rw [if_neg (by rw [hup]; decide), if_neg (by rwa [Option.isNone_iff_eq_none]), if_neg (not_not_intro hdomain), hkind]
  dsimp only
  split
  · exact State.passPtp_time ..
  · rfl

theorem State.ptpReceived_announce_port (hup : s.ptpUp p = true) (hgood : fromPtp m.seconds m.nanos m.correction ≠ none)
    (hdomain : m.domain = s.reg Od.ptpDomain) (hkind : m.kind = .announce) :
    (s.ptpReceived p m).ptpPort p = { s.ptpPort p with foreign := m.data, lastAnnounce := s.now } := by
  have htime := State.ptpReceived_announce_time hup hgood hdomain hkind
  obtain ⟨-, hport⟩ := (s.setPtpPort p { s.ptpPort p with foreign := m.data, lastAnnounce := s.now }).reselect_count p
  rw [State.ptpPort_of_time (congrArg TimeUnit.ptp htime), hport, State.ptpPort_setPtpPort_self]

/-! #### Transmission -/

theorem State.mastersAt_of_down (h : s.ptpUp p = false) : s.mastersAt p = false := by
  unfold State.mastersAt
  rw [h, Bool.false_and, Bool.false_and]

theorem State.sendPdelayReq_of_down (h : s.ptpUp p = false) : s.sendPdelayReq p = s := if_pos (by rw [h]; rfl)
theorem State.sendSync_of_no_master (h : s.mastersAt p = false) : s.sendSync p = s := if_pos (by rw [h]; rfl)
theorem State.sendAnnounce_of_no_master (h : s.mastersAt p = false) : s.sendAnnounce p = s := if_pos (by rw [h]; rfl)

theorem State.sendPdelayReq_port (h : s.ptpUp p = true) : ((s.sendPdelayReq p).ptpPort p).awaiting = true ∧
    ((s.sendPdelayReq p).ptpPort p).reqSentAt = none ∧
    ((s.sendPdelayReq p).ptpPort p).reqSeq = ((s.ptpPort p).reqSeq + 1) % 2 ^ 16 := by
  unfold State.sendPdelayReq
  rw [if_neg (by rw [h]; decide)]
  dsimp only
  rw [State.ptpPort_sendPtp, State.ptpPort_setPtpPort_self]
  exact ⟨rfl, rfl, rfl⟩

theorem State.sendSync_port (h : s.mastersAt p = true) :
    (s.sendSync p).ptpPort p = { s.ptpPort p with syncSeq := ((s.ptpPort p).syncSeq + 1) % 2 ^ 16 } := by
  unfold State.sendSync
  rw [if_neg (by rw [h]; decide)]
  dsimp only
  rw [State.ptpPort_sendPtp, State.ptpPort_setPtpPort_self]

theorem State.sendAnnounce_port (h : s.mastersAt p = true) :
    (s.sendAnnounce p).ptpPort p = { s.ptpPort p with announceSeq := ((s.ptpPort p).announceSeq + 1) % 2 ^ 16 } := by
  unfold State.sendAnnounce
  rw [if_neg (by rw [h]; decide)]
  dsimp only
  rw [State.ptpPort_sendPtp, State.ptpPort_setPtpPort_self]

end

/-- Settles O11: each message by its lemma above; whether a port runs PTP or acts as a master does not depend on the instant. -/
theorem ptpMessagesOfAPort : Obligations.PtpMessagesOfAPort := by
  unfold Obligations.PtpMessagesOfAPort
  intro s u a p m hpower hp hu
  have same {α : Type} (g : State → α) (hg : ∀ t, g (s.setNow t) = g s) : g s = g u := hu ▸ (State.arrive_eq g hg a).symm
  have hup := same (·.ptpUp p) fun _ => rfl
  have hmaster := same (·.mastersAt p) fun _ => rfl
  have hmalformed := same (·.time.malformed) fun _ => rfl
  have hdomain := same (·.reg Od.ptpDomain) fun _ => rfl
  have hport := same (·.ptpPort p) fun _ => rfl
  have hn : decide (p < 32) = true := decide_eq_true hp
  have hreceived := exec_ptpMessageReceived s a p m
  have hsync := exec_ptpSyncSend s a p
  have hannounce := exec_ptpAnnounceSend s a p
  have hrequest := exec_pdelayReqSend s a p
  simp only [hup, hmaster, hmalformed, hdomain, hport]
  refine ⟨fun hdown => ⟨does_of_act hreceived hn hpower hu (State.ptpReceived_of_down hdown),
      does_of_act hrequest hn hpower hu (State.sendPdelayReq_of_down hdown),
      does_of_act hsync hn hpower hu (State.sendSync_of_no_master (State.mastersAt_of_down hdown)),
      does_of_act hannounce hn hpower hu (State.sendAnnounce_of_no_master (State.mastersAt_of_down hdown))⟩,
    fun hup hbad => yields_of_act hreceived hn hpower hu ?_, fun hup hgood hdomain hkind => yields_of_act hreceived hn hpower hu ?_,
    fun hup => yields_of_act hrequest hn hpower hu (State.sendPdelayReq_port hup),
    fun hmaster => ⟨yields_of_act hsync hn hpower hu ?_, yields_of_act hannounce hn hpower hu ?_⟩,
    fun hno => ⟨does_of_act hsync hn hpower hu (State.sendSync_of_no_master hno),
      does_of_act hannounce hn hpower hu (State.sendAnnounce_of_no_master hno)⟩⟩
  · rw [State.ptpReceived_of_malformed hup hbad]
    exact State.timeFlag_time ..
  · have hkept := State.ptpReceived_announce_port hup hgood hdomain hkind
    exact ⟨congrArg PtpPort.foreign hkept, congrArg PtpPort.lastAnnounce hkept⟩
  · exact congrArg PtpPort.syncSeq (State.sendSync_port hmaster)
  · exact congrArg PtpPort.announceSeq (State.sendAnnounce_port hmaster)

end Sys2Proof.Machine
end

section
set_option Elab.async false
namespace Sys2Proof.Machine

/-! ### Tables of which entries are changed or kept by key -/

theorem Tab.find_map {α β : Type} (f : α → β) (t : Tab α) (j : Nat) :
    Tab.find (t.map fun e => (e.1, f e.2)) j = (Tab.find t j).map f := by
  induction t with
  | nil => rfl
  | cons e t ih =>
    simp only [List.map_cons, Tab.find, ih]
    split <;> rfl

/-- Keeping entries by their key. -/
theorem Tab.find_filter_key {α : Type} (p : Nat → Bool) (t : Tab α) (j : Nat) :
    Tab.find (t.filter fun e => p e.1) j = if p j then Tab.find t j else none := by
  induction t with
  | nil => simp
  | cons e t ih =>
    by_cases hp : p e.1 = true
    · rw [List.filter_cons_of_pos (p := fun e : Nat × α => p e.1) hp, Tab.find, Tab.find, ih]
      by_cases hj : e.1 = j
      · rw [if_pos hj, if_pos hj, if_pos (hj ▸ hp)]
      · rw [if_neg hj, if_neg hj]
    · rw [List.filter_cons_of_neg (p := fun e : Nat × α => p e.1) hp, Tab.find, ih]
      by_cases hj : e.1 = j
      · rw [if_neg (hj ▸ hp), if_neg (hj ▸ hp)]
      · rw [if_neg hj]

/-- The first key of a table with rising keys is not among the others. -/
theorem Tab.find_tail_eq_none {α : Type} {k : Nat} {t : Tab α} (h : ∀ e ∈ t, k < e.1) : Tab.find t k = none :=
  Tab.find_eq_none fun hk => by
    obtain ⟨e, he, rfl⟩ := List.mem_map.mp hk
    exact absurd (h e he) (Nat.lt_irrefl _)

/-- Keeping entries of a table with rising keys. -/
theorem Tab.find_filter {α : Type} (p : Nat × α → Bool) {t : Tab α} (ht : t.Pairwise fun x y => x.1 < y.1) (j : Nat) :
    Tab.find (t.filter p) j = (Tab.find t j).filter fun v => p (j, v) := by
  induction t with
  | nil => rfl
  | cons e t ih =>
    obtain ⟨hfirst, hrest⟩ := List.pairwise_cons.mp ht
    obtain ⟨k, v⟩ := e
    by_cases hj : k = j
    · subst hj
      have hgone : Tab.find (t.filter p) k = none := by
        rw [ih hrest, Tab.find_tail_eq_none hfirst]
        rfl
      by_cases hp : p (k, v) = true
      · rw [List.filter_cons_of_pos hp, Tab.find, if_pos rfl, Tab.find, if_pos rfl, Option.filter_some, if_pos hp]
      · rw [List.filter_cons_of_neg hp, hgone, Tab.find, if_pos rfl, Option.filter_some, if_neg hp]
    · by_cases hp : p (k, v) = true
      · rw [List.filter_cons_of_pos hp, Tab.find, if_neg hj, Tab.find, if_neg hj, ih hrest]
      · rw [List.filter_cons_of_neg hp, Tab.find, if_neg hj, ih hrest]

/-! ### What the close of a window leaves alone (R158, R168) -/

/-- The data path without its streams and its count of LATE samples. -/
def State.dpRest (s : State) : DataPath := { s.dp with streams := [], lateCount := 0 }

/-- Streams have been judged from `s` to `t`: the time unit, the data path but for its streams and the count of LATE samples, and the entries
that configure a subscription or the tick rate, are as they were. -/
structure Judging (s t : State) : Prop where
  entries : ∀ k < 0xB00000, k % 256 < 0x10 → t.reg k = s.reg k
  rest : t.dpRest = s.dpRest
  time : t.time = s.time

namespace Judging

variable {s t u : State}

theorem refl (s : State) : Judging s s := ⟨fun _ _ _ => rfl, rfl, rfl⟩

theorem trans (h : Judging s t) (h' : Judging t u) : Judging s u :=
  ⟨fun k hk hs => (h'.entries k hk hs).trans (h.entries k hk hs), h'.rest.trans h.rest, h'.time.trans h.time⟩

theorem each {α : Type} {f : α → State → State} (h : ∀ a t, Judging t (f a t)) (s : State) (l : List α) : Judging s (s.each l f) :=
  State.each_keeps (P := Judging s) (fun a _ ht => ht.trans (h a _)) l (refl s)

/-- A run that does not handle an entry leaves what shows of it alone. -/
theorem each_of_not_mem {β : Type} {g : State → β} {f : Nat → State → State} {n : Nat} (hne : ∀ k t, k ≠ n → g (f k t) = g t)
    {l : List Nat} (hn : n ∉ l) (s : State) : g (s.each l f) = g s := by
  induction l generalizing s with
  | nil => rfl
  | cons k l ih =>
    rw [List.mem_cons, not_or] at hn
    exact (ih hn.2 (f k s)).trans (hne k s (Ne.symm hn.1))

/-- A run over distinct entries that handles each apart: what shows of one entry in the end is what handling that entry alone gives, at a
state that shows the same of it as the first. -/
theorem each_at {β : Type} {g : State → β} {f : Nat → State → State} {n : Nat} (hstep : ∀ k t, Judging t (f k t))
    (hne : ∀ k t, k ≠ n → g (f k t) = g t) {l : List Nat} (hl : l.Nodup) (hn : n ∈ l) (s : State) :
    ∃ t, Judging s t ∧ g t = g s ∧ g (s.each l f) = g (f n t) := by
  induction l generalizing s with
  | nil => exact absurd hn (List.not_mem_nil)
  | cons k l ih =>
    obtain ⟨hk, hl⟩ := List.nodup_cons.mp hl
    rcases List.mem_cons.mp hn with rfl | hn
    · exact ⟨s, refl s, rfl, each_of_not_mem hne hk (f n s)⟩
    · obtain ⟨t, ht, hsame, hat⟩ := ih hl hn (f k s)
      exact ⟨t, (hstep k s).trans ht, hsame.trans (hne k s fun e => hk (e ▸ hn)), hat⟩

theorem rate (h : Judging s t) : t.rate = s.rate := h.entries Od.tickRate (by decide) (by decide)

theorem now (h : Judging s t) : t.now = s.now := congrArg TimeUnit.now h.time

/-- The guard of an image is found from what judging leaves alone. -/
theorem guardAt (h : Judging s t) (cfg : State) (n i : Nat) : t.guardAt cfg n i = s.guardAt cfg n i := by
  have hfb : t.dp.fb = s.dp.fb := by
    have hfb := congrArg DataPath.fb h.rest
    exact hfb
  have hdelay (c : Nat) : t.delayInUse cfg c i = s.delayInUse cfg c i := by
    unfold State.delayInUse State.fallbackAt
    rw [hfb]
  have hat : t.tickAt i = s.tickAt i := by rw [State.tickAt, h.rate, State.tickAt]
  unfold State.guardAt
  simp only [hdelay, hat]

end Judging

/-- What the judgement of an entry's samples is made from and kept in: its ring, the last sample judged, the arrivals, MISSING. -/
structure IngestView where
  ring : Tab RawSample
  judgedTo : Option Nat
  arrivals : List Nat
  missing : Nat

def State.ingestView (s : State) (n : Nat) : IngestView :=
  ⟨(s.stream n).ring, (s.stream n).judgedTo, (s.stream n).arrivals, s.reg (Od.svMissing n)⟩

theorem State.stream_of_dp {s t : State} (h : t.dp = s.dp) (n : Nat) : t.stream n = s.stream n := by
  unfold State.stream
  rw [h]

theorem State.stream_setStream_ne (s : State) {i n : Nat} (x : Stream) (h : i ≠ n) : (s.setStream n x).stream i = s.stream i :=
  Tab.look_put_ne _ _ _ h

/-! ### Entries of the subscriptions -/

theorem not_ownsEntry_of_low {n k : Nat} (h : k < 0xB00000) : ¬ownsEntry n k := by
  unfold ownsEntry Od.evStatus Od.evLastSet Od.evResets
  omega

theorem not_ownsEntry_svMissing (n : Nat) : ¬ownsEntry 35 (Od.svMissing n) := by
  unfold ownsEntry Od.evStatus Od.evLastSet Od.evResets Od.svMissing
  omega

section
variable {s : State}

theorem State.setStream_judging (n : Nat) (x : Stream) : Judging s (s.setStream n x) := ⟨fun _ _ _ => rfl, rfl, rfl⟩

theorem State.svCount_dp (k n : Nat) : (s.svCount k n).dp = s.dp := s.countEv_dp ..

theorem State.svCount_judging {k : Nat} (hk : 0x10 ≤ k % 256) (n : Nat) : Judging s (s.svCount k n) :=
  ⟨fun _ hj hsub => State.reg_countEv_ne s 35 _ (not_ownsEntry_of_low hj) fun e => absurd (e ▸ hk) (Nat.not_le.mpr hsub),
    congrArg (fun d => { d with streams := [], lateCount := 0 }) (State.svCount_dp k n), s.countEv_time ..⟩

theorem State.ingestFlag_dp (f n : Nat) : (s.ingestFlag f n).dp = s.dp := s.setFlag_dp ..

theorem State.ingestFlag_judging (f n : Nat) : Judging s (s.ingestFlag f n) :=
  ⟨fun _ hj _ => State.reg_setFlag_of_not_owns s 35 f _ (not_ownsEntry_of_low hj),
    congrArg (fun d => { d with streams := [], lateCount := 0 }) (State.ingestFlag_dp f n), s.setFlag_time ..⟩

theorem State.ingestView_setStream_ne {i n : Nat} (x : Stream) (h : n ≠ i) : (s.setStream i x).ingestView n = s.ingestView n := by
  unfold State.ingestView
  rw [State.stream_setStream_ne s x h]
  rfl

theorem State.ingestView_setStream_self (n : Nat) (x : Stream) :
    (s.setStream n x).ingestView n = ⟨x.ring, x.judgedTo, x.arrivals, s.reg (Od.svMissing n)⟩ := by
  unfold State.ingestView
  rw [State.stream_setStream_self]
  rfl

theorem State.ingestView_svCount {k n : Nat} (h : Od.svMissing n ≠ k) (i : Nat) : (s.svCount k i).ingestView n = s.ingestView n := by
  unfold State.ingestView
  rw [State.stream_of_dp (State.svCount_dp k i), State.svCount, State.reg_countEv_ne s 35 _ (not_ownsEntry_svMissing n) h]

theorem State.ingestView_svCount_missing (n : Nat) :
    (s.svCount (Od.svMissing n) n).ingestView n = { s.ingestView n with missing := (s.reg (Od.svMissing n) + 1) % 2 ^ 32 } := by
  unfold State.ingestView
  rw [State.stream_of_dp (State.svCount_dp _ n), State.svCount, State.reg_countEv_self s 35 _ (not_ownsEntry_svMissing n)]

theorem State.ingestView_ingestFlag (f i n : Nat) : (s.ingestFlag f i).ingestView n = s.ingestView n := by
  unfold State.ingestView
  rw [State.stream_of_dp (State.ingestFlag_dp f i), State.ingestFlag, State.reg_setFlag_of_not_owns s 35 f _ (not_ownsEntry_svMissing n)]

theorem svMissing_ne {i n : Nat} (h : n ≠ i) : Od.svMissing n ≠ Od.svMissing i := by
  unfold Od.svMissing
  omega

/-! ### Samples that were judged before they had ended (R159) -/

theorem State.lateCounted_judging : Judging s (s.setDp fun d => { d with lateCount := d.lateCount + 1 }) := ⟨fun _ _ _ => rfl, rfl, rfl⟩

theorem State.svLateOne_judging (n j : Nat) : Judging s (s.svLateOne n j) := by
  have hlate : 0x10 ≤ Od.svLate n % 256 := by
    unfold Od.svLate
    omega
  exact (((State.setStream_judging n _).trans State.lateCounted_judging).trans (State.svCount_judging hlate n)).trans
    (State.ingestFlag_judging 1 n)

theorem State.ingestView_svLateOne (i j n : Nat) : (s.svLateOne i j).ingestView n = s.ingestView n := by
  have hlate : Od.svMissing n ≠ Od.svLate i := by
    unfold Od.svMissing Od.svLate
    omega
  unfold State.svLateOne
  dsimp only
  rw [State.ingestView_ingestFlag, State.ingestView_svCount hlate]
  by_cases h : n = i
  · subst h
    exact State.ingestView_setStream_self n _
  · exact State.ingestView_setStream_ne _ h

/-- A sample that was judged missing while it was still arriving, and now has arrived. -/
def RawSample.endedLate (r : RawSample) (now : Nat) : Bool := r.received && r.judged = .missing && r.arrival ≤ now

/-- Such a sample that is not after the last one judged (of the same run). -/
def State.ended (s : State) (n : Nat) (e : Nat × RawSample) : Bool :=
  e.2.endedLate s.now && !(s.stream n).judgedTo.any fun m => m < e.1 && sameRun e.1 m

/-- A late sample is counted, and is no longer one that has come. -/
def State.lateEnd (s : State) (n : Nat) (e : Nat × RawSample) : State :=
  (s.setStream n { s.stream n with ring := Tab.insert (s.stream n).ring e.1 { e.2 with received := false } }).svLateOne n e.1

theorem State.lateEnds_eq (s : State) (n : Nat) : s.lateEnds n = s.each ((s.stream n).ring.filter (s.ended n)) fun e t => t.lateEnd n e := rfl

theorem State.lateEnd_judging (n : Nat) (e : Nat × RawSample) : Judging s (s.lateEnd n e) :=
  (State.setStream_judging n _).trans (State.svLateOne_judging n e.1)

theorem State.ingestView_lateEnd_ne {i n : Nat} (h : n ≠ i) (e : Nat × RawSample) : (s.lateEnd i e).ingestView n = s.ingestView n :=
  (State.ingestView_svLateOne ..).trans (State.ingestView_setStream_ne _ h)

theorem State.ingestView_lateEnd (n : Nat) (e : Nat × RawSample) : (s.lateEnd n e).ingestView n =
    { s.ingestView n with ring := Tab.insert (s.ingestView n).ring e.1 { e.2 with received := false } } :=
  (State.ingestView_svLateOne ..).trans (State.ingestView_setStream_self n _)

theorem State.lateEnds_judging (n : Nat) : Judging s (s.lateEnds n) := by
  rw [State.lateEnds_eq]
  exact .each (fun e _ => State.lateEnd_judging n e) s _

theorem State.ingestView_lateEnds_ne {i n : Nat} (h : n ≠ i) : (s.lateEnds i).ingestView n = s.ingestView n := by
  rw [State.lateEnds_eq]
  exact State.each_keeps (P := fun t => t.ingestView n = s.ingestView n) (fun e _ ht => (State.ingestView_lateEnd_ne h e).trans ht) _ rfl

/-- After a run over late samples the ring holds them as no longer come. -/
theorem State.ingestView_each_lateEnd (n : Nat) {l : Tab RawSample} (hl : l.Pairwise fun x y => x.1 < y.1) (s : State) :
    ∃ ring, (s.each l fun e t => t.lateEnd n e).ingestView n = { s.ingestView n with ring := ring } ∧
      ∀ j, Tab.find ring j = ((Tab.find l j).map fun r => { r with received := false }).or (Tab.find (s.ingestView n).ring j) := by
  induction l generalizing s with
  | nil => exact ⟨_, rfl, fun _ => rfl⟩
  | cons e l ih =>
    obtain ⟨hfirst, hrest⟩ := List.pairwise_cons.mp hl
    obtain ⟨ring, hview, hfind⟩ := ih hrest (s.lateEnd n e)
    rw [State.ingestView_lateEnd] at hview hfind
    refine ⟨ring, hview, fun j => ?_⟩
    obtain ⟨k, r⟩ := e
    rw [hfind j, Tab.find]
    by_cases hj : k = j
    · subst hj
      rw [Tab.find_tail_eq_none hfirst, if_pos rfl]
      exact Tab.find_insert_self ..
    · rw [if_neg hj, Tab.find_insert_ne _ _ (Ne.symm hj)]

/-- The samples that ended late are marked in the ring, and nothing else of it changes. -/
theorem State.ingestView_lateEnds (n : Nat) (hring : (s.ingestView n).ring.Pairwise fun x y => x.1 < y.1) :
    ∃ ring, (s.lateEnds n).ingestView n = { s.ingestView n with ring := ring } ∧
      ∀ j, Tab.find ring j = (Tab.find (s.ingestView n).ring j).map fun r =>
        if s.ended n (j, r) = true then { r with received := false } else r := by
  obtain ⟨ring, hview, hfind⟩ := State.ingestView_each_lateEnd n (hring.filter (s.ended n)) s
  refine ⟨ring, hview, fun j => ?_⟩
  rw [hfind j, Tab.find_filter _ hring]
  cases Tab.find (s.ingestView n).ring j with
  | none => rfl
  | some r =>
    rw [Option.filter_some, Option.map_some]
    split <;> rfl

theorem State.arrivals_lateEnds (i n : Nat) : ((s.lateEnds i).ingestView n).arrivals = (s.ingestView n).arrivals := by
  by_cases h : n = i
  · subst h
    rw [State.lateEnds_eq]
    refine State.each_keeps (P := fun t => (t.ingestView n).arrivals = (s.ingestView n).arrivals) (fun e t ht => ?_) _ rfl
    rw [State.ingestView_lateEnd, ht]
  · rw [State.ingestView_lateEnds_ne h]

/-! ### One sample judged (R158) -/

/-- A sample has come by a deadline. -/
def comesBy (deadline : Nat) (r : Option RawSample) : Bool := r.any fun q => q.received && decide (q.arrival ≤ deadline)

/-- What the ring holds of a judged sample. -/
def judgedAs (keys : StreamKeys) (deadline : Nat) : Option RawSample → RawSample
  | some r => if r.received && r.arrival ≤ deadline then { r with judged := .present } else { r with samples := [], judged := .missing }
  | none => absentSample keys

/-- A judged sample is present exactly where it came by the deadline, with the samples that came; else it is missing. -/
theorem judgedAs_spec (keys : StreamKeys) (deadline : Nat) (q : Option RawSample) : (judgedAs keys deadline q).judged ≠ .waiting ∧
    ((judgedAs keys deadline q).judged = .present ↔
      ∃ r, q = some r ∧ r.received = true ∧ r.arrival ≤ deadline ∧ (judgedAs keys deadline q).samples = r.samples) := by
  cases q with
  | none => simp [judgedAs, absentSample]
  | some r =>
    by_cases h : r.received = true ∧ r.arrival ≤ deadline
    · have hcomes : judgedAs keys deadline (some r) = { r with judged := .present } := if_pos (by simp [h])
      simp [hcomes, h]
    · have hlate : judgedAs keys deadline (some r) = { r with samples := [], judged := .missing } := if_neg (by simpa using h)
      rw [hlate]
      refine ⟨nofun, nofun, ?_⟩
      rintro ⟨q, hq, hreceived, harrival, -⟩
      exact absurd (Option.some.inj hq ▸ ⟨hreceived, harrival⟩) h

theorem State.judgeSample_eq (s : State) (n deadline j : Nat) : s.judgeSample n deadline j =
    let x := s.stream n
    let t := s.setStream n { x with ring := Tab.insert x.ring j (judgedAs (s.streamKeys n) deadline (Tab.find x.ring j)) }
    if comesBy deadline (Tab.find x.ring j) then t else t.svCount (Od.svMissing n) n := by
  unfold State.judgeSample judgedAs comesBy
  dsimp only
  cases Tab.find (s.stream n).ring j with
  | none => rfl
  | some r =>
    dsimp only [Option.any_some]
    split <;> rfl

theorem State.judgeSample_judging (n deadline j : Nat) : Judging s (s.judgeSample n deadline j) := by
  have hmissing : 0x10 ≤ Od.svMissing n % 256 := by
    unfold Od.svMissing
    omega
  rw [State.judgeSample_eq]
  dsimp only
  split
  · exact State.setStream_judging n _
  · exact (State.setStream_judging n _).trans (State.svCount_judging hmissing n)

theorem State.ingestView_judgeSample_ne {i n : Nat} (h : n ≠ i) (deadline j : Nat) :
    (s.judgeSample i deadline j).ingestView n = s.ingestView n := by
  rw [State.judgeSample_eq]
  dsimp only
  split
  · exact State.ingestView_setStream_ne _ h
  · exact (State.ingestView_svCount (svMissing_ne h) i).trans (State.ingestView_setStream_ne _ h)

theorem State.ingestView_judgeSample (n deadline j : Nat) : ∃ keys, (s.judgeSample n deadline j).ingestView n =
    { s.ingestView n with
      ring := Tab.insert (s.ingestView n).ring j (judgedAs keys deadline (Tab.find (s.ingestView n).ring j))
      missing := if comesBy deadline (Tab.find (s.ingestView n).ring j) then (s.ingestView n).missing
        else ((s.ingestView n).missing + 1) % 2 ^ 32 } := by
  refine ⟨s.streamKeys n, ?_⟩
  have hring : (s.ingestView n).ring = (s.stream n).ring := rfl
  rw [State.judgeSample_eq, hring]
  dsimp only
  split
  · exact State.ingestView_setStream_self n _
  · rw [State.ingestView_svCount_missing, State.ingestView_setStream_self]
    rfl

/-- The samples of a list of distinct numbers, judged one after the other: each as it stood before, and the missing ones counted. -/
theorem State.ingestView_each_judgeSample (n deadline : Nat) {l : List Nat} (hl : l.Nodup) {s : State}
    (hcount : (s.ingestView n).missing < 2 ^ 32) : ∃ ring,
    (s.each l fun j t => t.judgeSample n deadline j).ingestView n = { s.ingestView n with
      ring := ring
      missing := ((s.ingestView n).missing + (l.filter fun j => !comesBy deadline (Tab.find (s.ingestView n).ring j)).length) % 2 ^ 32 } ∧
    (∀ j ∈ l, ∃ keys, Tab.find ring j = some (judgedAs keys deadline (Tab.find (s.ingestView n).ring j))) ∧
    ∀ j, j ∉ l → Tab.find ring j = Tab.find (s.ingestView n).ring j := by
  induction l generalizing s with
  | nil =>
    refine ⟨_, ?_, fun j hj => absurd hj (List.not_mem_nil), fun _ _ => rfl⟩
    rw [List.filter_nil, List.length_nil, Nat.add_zero, Nat.mod_eq_of_lt hcount]
    rfl
  | cons k l ih =>
    obtain ⟨hk, hl⟩ := List.nodup_cons.mp hl
    obtain ⟨keys, hview⟩ := s.ingestView_judgeSample n deadline k
    have hbound : ((s.judgeSample n deadline k).ingestView n).missing < 2 ^ 32 := by
      rw [hview]
      dsimp only
      split
      · exact hcount
      · exact Nat.mod_lt _ (by decide)
    obtain ⟨ring, hrest, hin, hout⟩ := ih hl hbound
    have hother {j : Nat} (hj : j ≠ k) : Tab.find ((s.judgeSample n deadline k).ingestView n).ring j = Tab.find (s.ingestView n).ring j := by
      rw [hview]
      exact Tab.find_insert_ne _ _ hj
    have hsame : (l.filter fun j => !comesBy deadline (Tab.find ((s.judgeSample n deadline k).ingestView n).ring j)) =
        l.filter fun j => !comesBy deadline (Tab.find (s.ingestView n).ring j) :=
      List.filter_congr fun j hj => by rw [hother fun e => hk (e ▸ hj)]
    refine ⟨ring, ?_, fun j hj => ?_, fun j hj => ?_⟩
    · refine hrest.trans ?_
      rw [hsame, hview]
      simp only [IngestView.mk.injEq, true_and]
      by_cases hcomes : comesBy deadline (Tab.find (s.ingestView n).ring k) = true
      · rw [if_pos hcomes, List.filter_cons_of_neg (by simp [hcomes])]
      · rw [if_neg hcomes, List.filter_cons_of_pos (by simpa using hcomes), List.length_cons]
        omega
    · rcases List.mem_cons.mp hj with rfl | hj
      · refine ⟨keys, ?_⟩
        rw [hout j hk, hview]
        exact Tab.find_insert_self ..
      · obtain ⟨keys, hkeys⟩ := hin j hj
        exact ⟨keys, by rw [hkeys, hother fun e => hk (e ▸ hj)]⟩
    · rw [List.mem_cons, not_or] at hj
      rw [hout j hj.2, hother hj.1]

theorem State.arrivals_judgeSample (i n deadline j : Nat) :
    ((s.judgeSample i deadline j).ingestView n).arrivals = (s.ingestView n).arrivals := by
  by_cases h : n = i
  · subst h
    obtain ⟨keys, hview⟩ := s.ingestView_judgeSample n deadline j
    rw [hview]
  · rw [State.ingestView_judgeSample_ne h]

end

end Sys2Proof.Machine
end

section
set_option Elab.async false
namespace Sys2Proof.Machine

/-! ### O25: the close of an alignment window (R158, R159, R168, R181) -/

/-! #### The guard -/

/-- The guard is what the channel that asks for the most asks for. -/
theorem State.guardAt_spec {s cfg : State} {n i g : Nat} (h : s.guardAt cfg n i = some g) :
    (∀ c m, (c, m) ∈ cfg.svMapOf n → sampleAt (cfg.reg (Od.svStreamRate n)) (s.tickAt i) (s.delayInUse cfg c i) + 3 ≤ g) ∧
    ∃ c m, (c, m) ∈ cfg.svMapOf n ∧ g = sampleAt (cfg.reg (Od.svStreamRate n)) (s.tickAt i) (s.delayInUse cfg c i) + 3 := by
  obtain ⟨hmem, hmax⟩ := List.max?_eq_some_iff.mp h
  obtain ⟨⟨c, m⟩, hc, hg⟩ := List.mem_map.mp hmem
  exact ⟨fun c m hc => hmax _ (List.mem_map.mpr ⟨(c, m), hc, rfl⟩), c, m, hc, hg.symm⟩

/-! #### The samples of a stream up to its guard -/

/-- The samples after the last one judged, up to the guard. -/
def judgedRange (m g : Nat) : List Nat := (List.range (g - m)).map fun k => m + 1 + k

theorem mem_judgedRange {m g j : Nat} : j ∈ judgedRange m g ↔ m < j ∧ j ≤ g := by
  simp only [judgedRange, List.mem_map, List.mem_range]
  constructor
  · rintro ⟨k, hk, rfl⟩
    omega
  · rintro ⟨hlow, hhigh⟩
    exact ⟨j - (m + 1), by omega, by omega⟩

theorem nodup_judgedRange (m g : Nat) : (judgedRange m g).Nodup :=
  List.nodup_range.map fun a b h => by omega

theorem sameRun_iff {a b : Nat} : sameRun a b = true ↔ a < b + 14400 ∧ b < a + 14400 := by
  simp [sameRun]

section
variable {s cfg : State} {i deadline : Nat}

theorem State.judgeStream_judging (n : Nat) : Judging s (s.judgeStream cfg i deadline n) := by
  unfold State.judgeStream
  split
  · exact .refl s
  · exact (Judging.each (fun j _ => State.judgeSample_judging n deadline j) s _).trans (State.setStream_judging n _)

theorem State.ingestView_judgeStream_ne {k n : Nat} (h : n ≠ k) : (s.judgeStream cfg i deadline k).ingestView n = s.ingestView n := by
  unfold State.judgeStream
  split
  · rfl
  · refine (State.ingestView_setStream_ne _ h).trans ?_
    exact State.each_keeps (P := fun t => t.ingestView n = s.ingestView n)
      (fun j t ht => (State.ingestView_judgeSample_ne h deadline j).trans ht) _ rfl

theorem State.arrivals_judgeStream (k n : Nat) :
    ((s.judgeStream cfg i deadline k).ingestView n).arrivals = (s.ingestView n).arrivals := by
  by_cases h : n = k
  · subst h
    unfold State.judgeStream
    split
    · rfl
    · dsimp only
      rw [State.ingestView_setStream_self]
      exact State.each_keeps (P := fun t => (t.ingestView n).arrivals = (s.ingestView n).arrivals)
        (fun j t ht => (State.arrivals_judgeSample n n deadline j).trans ht) _ rfl
  · rw [State.ingestView_judgeStream_ne h]

/-- The judgement of a stream whose last judged sample is of the guard's run: every sample of the range as it stood, the missing ones
counted, and those judged before as they were. -/
theorem State.ingestView_judgeStream {n g m : Nat} (hguard : s.guardAt cfg n i = some g) (hlast : (s.ingestView n).judgedTo = some m)
    (hrun : sameRun m g = true) (hcount : (s.ingestView n).missing < 2 ^ 32) : ∃ ring,
    (s.judgeStream cfg i deadline n).ingestView n = { s.ingestView n with
      ring := ring
      judgedTo := some (max g m)
      missing := ((s.ingestView n).missing +
        ((judgedRange m g).filter fun j => !comesBy deadline (Tab.find (s.ingestView n).ring j)).length) % 2 ^ 32 } ∧
    (∀ j, m < j → j ≤ g → g < j + 96 → ∃ keys, Tab.find ring j = some (judgedAs keys deadline (Tab.find (s.ingestView n).ring j))) ∧
    ∀ j, j ≤ m → max g m < j + 96 → Tab.find ring j = Tab.find (s.ingestView n).ring j := by
  obtain ⟨ring, hview, hin, hout⟩ := State.ingestView_each_judgeSample n deadline (nodup_judgedRange m g) hcount
  have hto : ((s.stream n).judgedTo.filter fun m => sameRun m g) = some m := by
    rw [show (s.stream n).judgedTo = some m from hlast, Option.filter_some, if_pos hrun]
  rw [sameRun_iff] at hrun
  have hkept {j : Nat} (hj : j ≤ max g m) (hdepth : max g m < j + 96) :
      Tab.find (ring.filter fun e => if sameRun e.1 (max g m) then decide (max g m < e.1 + 96) else true) j = Tab.find ring j := by
    have hsame : sameRun j (max g m) = true := sameRun_iff.mpr (by omega)
    rw [Tab.find_filter_key fun k => if sameRun k (max g m) then decide (max g m < k + 96) else true, hsame]
    exact if_pos (by simpa using hdepth)
  refine ⟨ring.filter fun e => if sameRun e.1 (max g m) then decide (max g m < e.1 + 96) else true, ?_, fun j hlow hhigh hdepth => ?_,
    fun j hj hdepth => ?_⟩
  · unfold State.judgeStream
    rw [hguard]
    dsimp only
    rw [hto, Option.getD_some, State.ingestView_setStream_self]
    have hring := congrArg IngestView.ring hview
    have harrivals := congrArg IngestView.arrivals hview
    have hmissing := congrArg IngestView.missing hview
    simp only [IngestView.mk.injEq, true_and]
    exact ⟨congrArg (List.filter _) hring, harrivals, hmissing⟩
  · obtain ⟨keys, hkeys⟩ := hin j (mem_judgedRange.mpr ⟨hlow, hhigh⟩)
    exact ⟨keys, (hkept (by omega) (by omega)).trans hkeys⟩
  · exact (hkept (by omega) hdepth).trans (hout j fun h => by
      rw [mem_judgedRange] at h
      omega)

/-! #### ALIVE (R168) -/

theorem State.arrivals_ingestView (n : Nat) : (s.ingestView n).arrivals = (s.stream n).arrivals := rfl


/-- ALIVE of an entry at a deadline. -/
def State.aliveBy (s : State) (deadline n : Nat) : Bool :=
  s.on (Od.svEnable n) && ((s.stream n).lastBy deadline).any fun a => deadline ≤ a + ofMs (s.reg (Od.svAliveTimeout n))

theorem State.aliveBy_iff (n : Nat) : s.aliveBy deadline n = true ↔ s.on (Od.svEnable n) = true ∧
    ∃ x, (s.stream n).arrivals.find? (fun y => decide (y ≤ deadline)) = some x ∧ deadline ≤ x + ofMs (s.reg (Od.svAliveTimeout n)) := by
  rw [State.aliveBy, Bool.and_eq_true, Stream.lastBy, Option.any_eq_true]
  simp only [decide_eq_true_eq]

/-- Where ALIVE changes, the entry and a flag tell of it. -/
theorem State.judgeAlive_eq (s : State) (deadline n : Nat) : s.judgeAlive deadline n =
    if s.aliveBy deadline n = (s.stream n).alive then s
    else ((s.setStream n { s.stream n with alive := s.aliveBy deadline n }).setReg (Od.svAlive n) (b2n (s.aliveBy deadline n))).ingestFlag
      (if s.aliveBy deadline n then 6 else 5) n := rfl

theorem State.setReg_judging {k : Nat} (hk : 0x10 ≤ k % 256) (v : Nat) : Judging s (s.setReg k v) :=
  ⟨fun _ _ hsub => State.reg_setReg_ne s v fun e => absurd (e ▸ hk) (Nat.not_le.mpr hsub), rfl, rfl⟩

theorem State.ingestView_setReg {k n : Nat} (h : Od.svMissing n ≠ k) (v : Nat) : (s.setReg k v).ingestView n = s.ingestView n := by
  unfold State.ingestView
  rw [State.reg_setReg_ne s v h]
  rfl

theorem State.judgeAlive_judging (n : Nat) : Judging s (s.judgeAlive deadline n) := by
  have halive : 0x10 ≤ Od.svAlive n % 256 := by
    unfold Od.svAlive
    omega
  rw [State.judgeAlive_eq]
  split
  · exact .refl s
  · exact ((State.setStream_judging n _).trans (State.setReg_judging halive _)).trans (State.ingestFlag_judging _ n)

theorem State.ingestView_judgeAlive (k n : Nat) : (s.judgeAlive deadline k).ingestView n = s.ingestView n := by
  have hkey : Od.svMissing n ≠ Od.svAlive k := by
    unfold Od.svMissing Od.svAlive
    omega
  rw [State.judgeAlive_eq]
  split
  · rfl
  · rw [State.ingestView_ingestFlag, State.ingestView_setReg hkey]
    by_cases h : n = k
    · subst h
      exact State.ingestView_setStream_self n _
    · exact State.ingestView_setStream_ne _ h

theorem State.stream_judgeAlive_ne {k n : Nat} (h : k ≠ n) : (s.judgeAlive deadline k).stream n = s.stream n := by
  rw [State.judgeAlive_eq]
  split
  · rfl
  · rw [State.stream_of_dp (State.ingestFlag_dp ..)]
    exact State.stream_setStream_ne s _ h.symm

theorem State.alive_judgeAlive (n : Nat) : ((s.judgeAlive deadline n).stream n).alive = s.aliveBy deadline n := by
  rw [State.judgeAlive_eq]
  split
  · rename_i h
    exact h.symm
  · rw [State.stream_of_dp (State.ingestFlag_dp ..)]
    exact congrArg Stream.alive (s.stream_setStream_self n _)

/-! #### The stages of a close -/

theorem Tab.look_map {α : Type} (f : α → α) {d : α} (hd : f d = d) (t : Tab α) (j : Nat) :
    Tab.look (t.map fun e => (e.1, f e.2)) j d = f (Tab.look t j d) := by
  unfold Tab.look
  rw [Tab.find_map]
  cases Tab.find t j with
  | none => exact hd.symm
  | some x => rfl

theorem State.stream_showLate (n : Nat) :
    s.showLate.stream n = { s.stream n with lateShown := (s.stream n).lateSeen, lateSeen := false } :=
  Tab.look_map (fun x : Stream => { x with lateShown := x.lateSeen, lateSeen := false }) rfl s.dp.streams n

theorem State.ingestView_showLate (n : Nat) : s.showLate.ingestView n = s.ingestView n := by
  unfold State.ingestView
  rw [State.stream_showLate]
  rfl

/-- Dropping arrivals leaves the rest of a stream. -/
theorem State.stream_dropArrivals (n : Nat) : ∃ l, (s.dropArrivals deadline).stream n = { s.stream n with arrivals := l } :=
  ⟨_, Tab.look_map (fun x : Stream => { x with arrivals := (x.arrivals.filter fun a => deadline < a) ++ (x.lastBy deadline).toList }) rfl
    s.dp.streams n⟩

/-- The samples that ended late are counted. -/
def State.lateEnded (s cfg : State) : State := s.showLate.each cfg.svEntries fun n t => t.lateEnds n

/-- Then every stream is judged up to its guard. -/
def State.streamsJudged (s cfg : State) (i deadline : Nat) : State :=
  (s.lateEnded cfg).each cfg.svEntries fun n t => t.judgeStream cfg i deadline n

/-- Then ALIVE of every entry. -/
def State.aliveJudged (s cfg : State) (i deadline : Nat) : State :=
  (s.streamsJudged cfg i deadline).each (List.range 512) fun n t => t.judgeAlive deadline n

theorem State.lateEnded_judging : Judging s.showLate (s.lateEnded cfg) := .each (fun n _ => State.lateEnds_judging n) ..

theorem State.streamsJudged_judging : Judging s.showLate (s.streamsJudged cfg i deadline) :=
  State.lateEnded_judging.trans (.each (fun n _ => State.judgeStream_judging n) ..)

theorem State.aliveJudged_judging : Judging s.showLate (s.aliveJudged cfg i deadline) :=
  State.streamsJudged_judging.trans (.each (fun n _ => State.judgeAlive_judging n) ..)

theorem nodup_svEntries (cfg : State) : cfg.svEntries.Nodup := List.nodup_range.filter _

/-- An entry's view after its late samples were counted. -/
theorem State.ingestView_lateEnded {n : Nat} (hn : n ∈ cfg.svEntries) (hring : (s.ingestView n).ring.Pairwise fun x y => x.1 < y.1) :
    ∃ ring, (s.lateEnded cfg).ingestView n = { s.ingestView n with ring := ring } ∧
      ∀ j, Tab.find ring j = (Tab.find (s.ingestView n).ring j).map fun r =>
        if s.ended n (j, r) = true then { r with received := false } else r := by
  obtain ⟨t, ht, hsame, hat⟩ := Judging.each_at (g := (·.ingestView n)) (fun k t => State.lateEnds_judging (s := t) k)
    (fun k t h => State.ingestView_lateEnds_ne h.symm) (nodup_svEntries cfg) hn s.showLate
  have hsame : t.ingestView n = s.ingestView n := hsame.trans (State.ingestView_showLate n)
  obtain ⟨ring, hview, hfind⟩ := State.ingestView_lateEnds n (hsame.symm ▸ hring)
  have hended : t.ended n = s.ended n := by
    funext e
    have hlast : (t.stream n).judgedTo = (s.stream n).judgedTo := congrArg IngestView.judgedTo hsame
    rw [State.ended, ht.now, hlast]
    rfl
  rw [hsame] at hview hfind
  rw [hended] at hfind
  exact ⟨ring, hat.trans hview, hfind⟩

/-- An entry's view after its stream was judged. -/
theorem State.ingestView_streamsJudged {n : Nat} (hn : n ∈ cfg.svEntries) : ∃ t, Judging s.showLate t ∧
    t.ingestView n = (s.lateEnded cfg).ingestView n ∧
    (s.streamsJudged cfg i deadline).ingestView n = (t.judgeStream cfg i deadline n).ingestView n := by
  obtain ⟨t, ht, hsame, hat⟩ := Judging.each_at (g := (·.ingestView n))
    (fun k t => State.judgeStream_judging (s := t) (cfg := cfg) (i := i) (deadline := deadline) k)
    (fun k t h => State.ingestView_judgeStream_ne h.symm) (nodup_svEntries cfg) hn (s.lateEnded cfg)
  exact ⟨t, State.lateEnded_judging.trans ht, hsame, hat⟩

theorem State.arrivals_streamsJudged (n : Nat) :
    ((s.streamsJudged cfg i deadline).ingestView n).arrivals = (s.ingestView n).arrivals := by
  have hended : ((s.lateEnded cfg).ingestView n).arrivals = (s.ingestView n).arrivals :=
    State.each_keeps (P := fun t => (t.ingestView n).arrivals = (s.ingestView n).arrivals)
      (fun k t ht => (State.arrivals_lateEnds k n).trans ht) _ (congrArg IngestView.arrivals (State.ingestView_showLate n))
  exact State.each_keeps (P := fun t => (t.ingestView n).arrivals = (s.ingestView n).arrivals)
    (fun k t ht => (State.arrivals_judgeStream k n).trans ht) _ hended

theorem State.ingestView_aliveJudged (n : Nat) :
    (s.aliveJudged cfg i deadline).ingestView n = (s.streamsJudged cfg i deadline).ingestView n :=
  State.each_keeps (P := fun t => t.ingestView n = (s.streamsJudged cfg i deadline).ingestView n)
    (fun k _ ht => (State.ingestView_judgeAlive k n).trans ht) _ rfl

/-- ALIVE is evaluated from the entries and the arrivals as they were before the close. -/
theorem State.alive_aliveJudged {n : Nat} (hn : n < 512) :
    ((s.aliveJudged cfg i deadline).stream n).alive = s.aliveBy deadline n := by
  obtain ⟨t, ht, hsame, hat⟩ := Judging.each_at (g := (·.stream n)) (fun k t => State.judgeAlive_judging (s := t) (deadline := deadline) k)
    (fun k t h => State.stream_judgeAlive_ne h) List.nodup_range (List.mem_range.mpr hn) (s.streamsJudged cfg i deadline)
  have hjudging := State.streamsJudged_judging.trans ht
  have harrivals : (t.stream n).arrivals = (s.stream n).arrivals := by
    rw [hsame, ← State.arrivals_ingestView, State.arrivals_streamsJudged, State.arrivals_ingestView]
  have henable : t.reg (Od.svEnable n) = s.reg (Od.svEnable n) :=
    hjudging.entries _ (by unfold Od.svEnable; omega) (by unfold Od.svEnable; omega)
  have htimeout : t.reg (Od.svAliveTimeout n) = s.reg (Od.svAliveTimeout n) :=
    hjudging.entries _ (by unfold Od.svAliveTimeout; omega) (by unfold Od.svAliveTimeout; omega)
  refine (congrArg Stream.alive hat).trans ((State.alive_judgeAlive n).trans ?_)
  rw [State.aliveBy, State.on, henable, Stream.lastBy, harrivals, htimeout]
  rfl

/-! #### The close -/

theorem State.closeWindow_idle (h : s.now < s.deadlineOf (s.asOf (s.tickAt i)) i ∨ i < s.dp.imagesFrom ∨
    ∃ j, s.dp.lastClosed = some j ∧ i ≤ j) : s.closeWindow i = s := by
  refine if_pos ?_
  rcases h with h | h | ⟨j, hj, hij⟩
  · simp [h]
  · simp [h]
  · simp [hj, hij]

/-- The rest of a close: the map of the entries alive, and the arrivals that are still asked for (R168, R181). -/
def State.closed (s : State) (i deadline : Nat) : State :=
  ((s.setReg Od.ingestAliveMap (aliveMap s.aliveNow)).dropArrivals deadline).setDp
    fun d => { d with lastClosed := some i, freezeImage := d.freezeNow }

theorem State.stream_closed (n : Nat) : ∃ l, (s.closed i deadline).settle.stream n = { s.stream n with arrivals := l } :=
  State.stream_dropArrivals n

theorem State.missing_closed (n : Nat) : (s.closed i deadline).settle.reg (Od.svMissing n) = s.reg (Od.svMissing n) := by
  have hkey : Od.svMissing n ≠ Od.ingestAliveMap := by
    unfold Od.svMissing Od.ingestAliveMap
    omega
  exact State.reg_setReg_ne s _ hkey

theorem State.closeWindow_of_due (hdue : deadline ≤ s.now) (hcfg : cfg = s.asOf (s.tickAt i)) (hdeadline : deadline = s.deadlineOf cfg i)
    (hfrom : s.dp.imagesFrom ≤ i) (hnew : ∀ j, s.dp.lastClosed = some j → j < i) :
    s.closeWindow i = (s.aliveJudged cfg i deadline).closed i deadline := by
  subst hcfg hdeadline
  refine if_neg ?_
  have hclosed : (s.dp.lastClosed.any fun j => decide (i ≤ j)) = false := by
    cases hlast : s.dp.lastClosed with
    | none => rfl
    | some j => simpa using hnew j hlast
  simp [hclosed, Nat.not_lt.mpr hdue, Nat.not_lt.mpr hfrom]

/-- What the image of a close tells of beside its samples: judging streams leaves all of it. -/
theorem State.dp_closed {x : State} (h : Judging s.showLate x) : (x.closed i deadline).settle.dp.lastClosed = some i ∧
    (x.closed i deadline).settle.dp.freezeImage = s.dp.freezeNow ∧ (x.closed i deadline).settle.dp.images = s.dp.images ∧
    (x.closed i deadline).settle.dp.lateShown = s.dp.lateCount := by
  have hfreeze := congrArg DataPath.freezeNow h.rest
  have himages := congrArg DataPath.images h.rest
  have hlate := congrArg DataPath.lateShown h.rest
  exact ⟨rfl, hfreeze, himages, hlate⟩

theorem State.alive_closed (n : Nat) : ((s.closed i deadline).settle.stream n).alive = (s.stream n).alive := by
  obtain ⟨l, hstream⟩ := State.stream_closed (s := s) (i := i) (deadline := deadline) n
  rw [hstream]

theorem State.ingestView_closed (n : Nat) : ∃ l, (s.closed i deadline).settle.ingestView n = { s.ingestView n with arrivals := l } := by
  obtain ⟨l, hstream⟩ := State.stream_closed (s := s) (i := i) (deadline := deadline) n
  refine ⟨l, ?_⟩
  rw [State.ingestView, hstream, State.missing_closed]
  rfl

/-- The samples of an entry after a close, each as it stood before it: those up to the guard judged, those judged before as they were but
for the late ones. -/
theorem State.samples_closed {x : State} {n g m : Nat} (hx : x.ingestView n = (s.streamsJudged cfg i deadline).ingestView n)
    (hn : n ∈ cfg.svEntries) (hguard : s.guardAt cfg n i = some g)
    (hto : (s.stream n).judgedTo = some m) (hrun : sameRun m g = true) (hring : (s.stream n).ring.Pairwise fun x y => x.1 < y.1)
    (hcount : s.reg (Od.svMissing n) < 2 ^ 32) :
    let t := (x.closed i deadline).settle
    (t.stream n).judgedTo = some (max g m) ∧
    t.reg (Od.svMissing n) = (s.reg (Od.svMissing n) + ((List.range (g - m)).filter fun k =>
      !(Tab.find (s.stream n).ring (m + 1 + k)).any fun q => q.received && decide (q.arrival ≤ deadline)).length) % 2 ^ 32 ∧
    (∀ j, m < j → j ≤ g → g < j + 96 → ∃ r, Tab.find (t.stream n).ring j = some r ∧ r.judged ≠ .waiting ∧
      (r.judged = .present ↔
        ∃ q, Tab.find (s.stream n).ring j = some q ∧ q.received = true ∧ q.arrival ≤ deadline ∧ r.samples = q.samples)) ∧
    ∀ j, j ≤ m → max g m < j + 96 → Tab.find (t.stream n).ring j = (Tab.find (s.stream n).ring j).map fun r =>
      if r.received = true ∧ r.judged = .missing ∧ r.arrival ≤ s.now then { r with received := false } else r := by
  obtain ⟨l, hclosed⟩ := State.ingestView_closed (s := x) (i := i) (deadline := deadline) n
  obtain ⟨late, hlate, hended⟩ := State.ingestView_lateEnded hn hring
  obtain ⟨y, hy, hsame, hjudged⟩ := State.ingestView_streamsJudged (s := s) (cfg := cfg) (i := i) (deadline := deadline) hn
  have hview := hsame.trans hlate
  have hguard : y.guardAt cfg n i = some g := (hy.guardAt cfg n i).trans hguard
  obtain ⟨ring, hresult, hafter, hbefore⟩ := State.ingestView_judgeStream (deadline := deadline) hguard
    ((congrArg IngestView.judgedTo hview).trans hto) hrun ((congrArg IngestView.missing hview).symm ▸ hcount)
  rw [hview] at hresult hafter hbefore
  rw [hx, hjudged, hresult] at hclosed
  have hfresh {j : Nat} (hlow : m < j) (hhigh : j ≤ g) : Tab.find late j = Tab.find (s.stream n).ring j := by
    have hnew : ∀ r, s.ended n (j, r) = false := fun r => by
      rw [sameRun_iff] at hrun
      have hj : sameRun j m = true := sameRun_iff.mpr (by omega)
      simp [State.ended, hto, hlow, hj]
    rw [hended]
    simp only [hnew, Bool.false_eq_true, if_false, Option.map_id']
    rfl
  generalize (x.closed i deadline).settle = t at hclosed
  have hringT : (t.stream n).ring = ring := congrArg IngestView.ring hclosed
  dsimp only
  refine ⟨congrArg IngestView.judgedTo hclosed, ?_, fun j hlow hhigh hdepth => ?_, fun j hj hdepth => ?_⟩
  · refine (congrArg IngestView.missing hclosed).trans ?_
    have hmissing : ((judgedRange m g).filter fun j => !comesBy deadline (Tab.find late j)).length =
        ((List.range (g - m)).filter fun k => !comesBy deadline (Tab.find (s.stream n).ring (m + 1 + k))).length := by
      rw [judgedRange, List.filter_map, List.length_map]
      refine congrArg List.length (List.filter_congr fun k hk => ?_)
      rw [List.mem_range] at hk
      exact congrArg (fun r => !comesBy deadline r) (hfresh (j := m + 1 + k) (by omega) (by omega))
    exact congrArg (fun c => (s.reg (Od.svMissing n) + c) % 2 ^ 32) hmissing
  · obtain ⟨keys, hkeys⟩ := hafter j hlow hhigh hdepth
    dsimp only at hkeys
    rw [hfresh hlow hhigh] at hkeys
    exact ⟨_, hringT ▸ hkeys, judgedAs_spec keys deadline _⟩
  · rw [hringT, hbefore j hj hdepth]
    refine (hended j).trans (congrArg (fun f => Option.map f (Tab.find (s.stream n).ring j)) (funext fun r => ?_))
    have hold : s.ended n (j, r) = true ↔ r.received = true ∧ r.judged = .missing ∧ r.arrival ≤ s.now := by
      simp [State.ended, RawSample.endedLate, hto, Nat.not_lt.mpr hj, and_assoc]
    simp only [hold]

end

theorem exec_alignmentWindowClose (s : State) (a : Instant) (i : Nat) :
    exec (.alignmentWindowClose a i) s = act true 3 (s.arrive a) fun s => s.closeWindow i := rfl

/-- Settles O25: a close that is due is its stages, and each entry is judged apart from the others. -/
theorem windowCloseJudgesOnceAndForAll : Obligations.WindowCloseJudgesOnceAndForAll := by
  unfold Obligations.WindowCloseJudgesOnceAndForAll
  refine ⟨fun s cfg n i g h => State.guardAt_spec h, ?_⟩
  intro s u cfg a i deadline hpower hu hcfg hdeadline
  have same {α : Type} (g : State → α) (hg : ∀ t, g (s.setNow t) = g s) : g s = g u := hu ▸ (State.arrive_eq g hg a).symm
  have hdp := same (·.dp) fun _ => rfl
  have hat := same (·.tickAt i) fun _ => rfl
  have hstream := fun n => same (·.stream n) fun _ => rfl
  have hreg := fun k => same (·.reg k) fun _ => rfl
  have hon := fun k => same (·.on k) fun _ => rfl
  have hexec := exec_alignmentWindowClose s a i
  rw [hat] at hcfg hdeadline
  simp only [hdp, hstream, hreg, hon]
  refine ⟨fun hidle => does_of_act hexec rfl hpower hu (State.closeWindow_idle ?_), fun hdue hfrom hnew =>
    yields_of_act hexec rfl hpower hu ?_⟩
  · rw [← hcfg, State.deadlineOf, ← hdeadline]
    exact hidle
  · rw [State.closeWindow_of_due hdue hcfg hdeadline hfrom hnew]
    obtain ⟨hlast, hfreeze, himages, hlate⟩ := State.dp_closed (i := i) (deadline := deadline)
      (State.aliveJudged_judging (s := u) (cfg := cfg) (i := i) (deadline := deadline))
    refine ⟨hlast, hfreeze, himages, hlate,
      fun n g m hn hguard hto hrun hring hcount =>
        State.samples_closed (State.ingestView_aliveJudged n) hn hguard hto hrun hring hcount, fun n hn => ?_⟩
    rw [State.alive_closed, State.alive_aliveJudged hn, State.aliveBy_iff]

end Sys2Proof.Machine
end

section
set_option Elab.async false
namespace Sys2Proof.Machine

/-! ### A port, as the commands of the ports read and leave it -/

@[simp] theorem State.settle_port (s : State) (p : Nat) : s.settle.port p = s.port p := rfl
@[simp] theorem State.port_modPort_self (s : State) (p : Nat) (f : Port → Port) : (s.modPort p f).port p = f (s.port p) :=
  s.port_setPort_self p _

theorem State.port_of_only {s t : State} (h : t.only .ports = s.only .ports) (p : Nat) : t.port p = s.port p := by
  have hports := congrArg State.ports h
  exact congrArg (Tab.look · p ({} : Port)) hports

@[simp] theorem State.setFlag_port (s : State) (n f : Nat) (i : Option Nat) (p : Nat) : (s.setFlag n f i).port p = s.port p :=
  State.port_of_only (State.setFlag_only (by decide) ..) p

theorem State.now_of_only {s t : State} (h : t.only .time = s.only .time) : t.now = s.now := congrArg TimeUnit.now (State.time_of_only h)

theorem State.sourceUp_of_only {s t : State} (h : t.only .power = s.only .power) (n : Nat) : t.sourceUp n = s.sourceUp n := by
  unfold State.sourceUp
  rw [State.power_of_only h]

theorem State.bit_setFlag {s : State} {n f : Nat} (hf : f < 16) (hup : s.sourceUp n = true) (info : Option Nat) :
    bit ((s.setFlag n f info).reg (Od.evStatus n)) f = true := by
  rw [State.status_setFlag s n f info hup, bit_statusSet hf, decide_eq_true rfl, Bool.true_or]

/-! ### A port without its records of traffic -/

/-- A port without what the frames that pass leave there: half-range notes, loads, timestamps, and the deficits of its classes. -/
def Port.line (x : Port) : Port :=
  { x with tsQueue := [], halfAt := 0, halfBits := 0, rxLoad := [], txLoad := [], busyUntil := 0, raiseSeen := false, deficits := [], drr := 0 }

def State.line (s : State) (p : Nat) : Port := (s.port p).line

section
variable {s t : State} {p : Nat}

theorem State.line_of_only (h : t.only .ports = s.only .ports) (p : Nat) : t.line p = s.line p :=
  congrArg Port.line (State.port_of_only h p)

theorem State.rx_of_line (h : t.line p = s.line p) : (t.port p).rx = (s.port p).rx := by
  have hrx := congrArg Port.rx h
  exact hrx

theorem State.modPort_line {f : Port → Port} (h : ∀ x, (f x).line = x.line) (s : State) (q p : Nat) : (s.modPort q f).line p = s.line p := by
  by_cases hp : p = q
  · rw [State.line, hp, State.port_modPort_self, h, State.line]
  · exact congrArg Port.line (s.port_setPort_ne _ hp)

theorem State.when_line {f : State → State} (h : (f s).line p = s.line p) (c : Bool) : (s.when_ c f).line p = s.line p := by
  cases c
  · rfl
  · exact h

end

section
variable (s : State) (q p : Nat)

/-- A counter of a port changes there no more than the note of half-range passages. -/
theorem State.countPort_port (sub n : Nat) : ∃ halfAt halfBits, (s.countPort p sub n).port p =
    { s.port p with halfAt := halfAt, halfBits := halfBits } := by
  unfold State.countPort
  dsimp only
  generalize (if (decide (sub = 1) || decide (sub = 17)) = true then 48 else 32 : Nat) = w
  split
  · rw [State.setFlag_port, State.port_modPort_self]
    exact ⟨_, _, rfl⟩
  · exact ⟨_, _, rfl⟩

theorem State.countPort_line (sub n : Nat) : (s.countPort q sub n).line p = s.line p := by
  by_cases hp : p = q
  · obtain ⟨_, _, hport⟩ := s.countPort_port q sub n
    rw [State.line, hp, hport]
    rfl
  · exact congrArg Port.line (s.countPort_port_ne sub n hp)

theorem State.overflowDrop_line : (s.overflowDrop q).line p = s.line p :=
  (State.line_of_only (State.setFlag_only (by decide) ..) p).trans (s.countPort_line ..)

theorem State.noteLoad_line (octets : Nat) (sent : Bool) : (s.noteLoad q octets sent).line p = s.line p := by
  unfold State.noteLoad
  split
  · rfl
  · exact State.modPort_line (fun _ => by rfl) ..

theorem State.countGood_line (dir : Nat) (f : Frame) (len : Nat) : (s.countGood q dir f len).line p = s.line p := by
  simp only [State.countGood, State.when_line, State.countPort_line]

theorem State.emptyDeficits_line : (s.emptyDeficits q).line p = s.line p := State.modPort_line (fun _ => by rfl) ..

theorem State.leave_line (id : Nat) : (s.leave id q).line p = s.line p := by
  unfold State.leave
  split
  · rfl
  · dsimp only
    rw [State.emptyDeficits_line]
    split <;> rfl

theorem State.timestampLost_line (e : TsEntry) (cause : Nat) : (s.timestampLost q e cause).line p = s.line p := by
  unfold State.timestampLost
  dsimp only
  rw [State.line_of_only (State.with_pails_only (by decide) ..), State.line_of_only (State.setReg_only (by decide) ..),
    State.line_of_only (State.foldl_only (fun _ _ => State.setReg_only (by decide) ..) ..),
    State.line_of_only (State.setFlag_only (by decide) ..), State.countPort_line]

theorem State.capture_line (f : SwFrame) (id owner : Nat) : (s.capture q f id owner).line p = s.line p := by
  unfold State.capture
  dsimp only
  split
  · exact State.modPort_line (f := fun x => { x with tsQueue := x.tsQueue ++ _ }) (fun _ => rfl) ..
  · exact State.timestampLost_line ..

/-! ### The frame in reception, whatever happens to other frames -/

theorem State.modPort_rx {f : Port → Port} (h : ∀ x, (f x).rx = x.rx) : ((s.modPort q f).port p).rx = (s.port p).rx := by
  by_cases hp : p = q
  · rw [hp, State.port_modPort_self, h]
  · exact congrArg Port.rx (s.port_setPort_ne _ hp)

theorem State.pauseBegins_rx : ((s.pauseBegins q).port p).rx = (s.port p).rx := by
  refine State.modPort_rx _ _ _ fun x => ?_
  split <;> rfl

theorem State.each_rx {α : Type} {f : α → State → State} (h : ∀ a t, ((f a t).port p).rx = (t.port p).rx) (l : List α) :
    ((s.each l f).port p).rx = (s.port p).rx := by
  unfold State.each
  induction l generalizing s with
  | nil => rfl
  | cons a l ih => rw [List.foldl_cons, ih, h]

theorem State.stomp_rx (id octets : Nat) : ((s.stomp id q octets).port p).rx = (s.port p).rx := by
  unfold State.stomp
  dsimp only
  rw [State.rx_of_line (State.line_of_only (State.emit_only (by decide) _ rfl) p), State.rx_of_line (State.leave_line ..),
    State.rx_of_line (State.countPort_line ..), State.rx_of_line (State.noteLoad_line ..)]
  split
  · rw [State.pauseBegins_rx, State.modPort_rx _ _ _ fun _ => by rfl]
  · rfl

theorem State.badFrame_rx (id octets : Nat) : ((s.badFrame id octets).port p).rx = (s.port p).rx := by
  unfold State.badFrame
  split
  · rfl
  · refine State.each_rx _ _ (fun e t => ?_) _
    split
    · exact State.stomp_rx ..
    · exact State.rx_of_line (State.leave_line ..)

theorem State.tooLong_rx (id len : Nat) : ((s.tooLong id len).port p).rx = (s.port p).rx := by
  unfold State.tooLong
  split
  · rfl
  · refine State.each_rx _ _ (fun e t => ?_) _
    split
    · split
      · exact State.stomp_rx ..
      · exact (State.rx_of_line (State.countPort_line ..)).trans (State.rx_of_line (State.leave_line ..))
    · rfl

theorem State.removeCopies_rx (id : Option Nat) : ((s.removeCopies q id).port p).rx = (s.port p).rx := by
  unfold State.removeCopies
  dsimp only
  rw [State.port_of_only (State.dropLocal_only (by decide) ..)]
  split
  · exact State.each_rx _ _ (fun e t => State.rx_of_line (State.leave_line ..)) _
  · rfl

theorem State.prpJudged_rx (r : Reception) (len : Nat) : ((s.prpJudged q r len).port p).rx = (s.port p).rx := by
  unfold State.prpJudged
  split
  · next g a f _ _ =>
    have hjudged : ((s.judgePrp g a { f with len := len }).state.port p).rx = (s.port p).rx :=
      congrArg Port.rx (State.port_of_only (State.judgePrp_only (by decide) ..) p)
    dsimp only
    split
    · rw [State.removeCopies_rx, hjudged]
    · split
      · exact hjudged
      · split
        · exact hjudged
        · rw [State.port_of_only (State.setSw_only (by decide) ..), State.port_of_only (State.takeSeqs_only (by decide) ..), hjudged]
  · rfl

/-! ### The receive buffer (R88, R97) -/

/-- The pause that a receive buffer asks for changes of the port no more than what it has asked for. -/
theorem State.pauseRule_port : ∃ xoff sentAt waiting, (s.pauseRule p).port p =
    { s.port p with xoff := xoff, xoffSentAt := sentAt, pauseOut := waiting } := by
  unfold State.pauseRule
  dsimp only
  split
  · split
    · exact ⟨_, _, _, State.port_setPort_self ..⟩
    · split
      · exact ⟨_, _, _, State.port_setPort_self ..⟩
      · exact ⟨_, _, _, rfl⟩
  · exact ⟨_, _, _, rfl⟩

/-- Once XOFF is sent, the rule of R97 withdraws it or changes nothing. -/
theorem State.pauseRule_of_xoff (h : (s.port p).xoff = true) : ((s.pauseRule p).port p).xoff = false ∨ s.pauseRule p = s := by
  unfold State.pauseRule
  dsimp only
  split
  · rw [if_neg (by simp [h])]
    split
    · exact .inl (by rw [State.port_setPort_self])
    · exact .inr rfl
  · exact .inr rfl

theorem State.occupancy_port (most : Nat) : ∃ xoff sentAt waiting, (s.occupancy p most).port p = { s.port p with
    rxUsed := s.freeBelow (min most 16384 + 1), xoff := xoff, xoffSentAt := sentAt, pauseOut := waiting } := by
  obtain ⟨xoff, sentAt, waiting, h⟩ := (s.drew.modPort p fun x => { x with rxUsed := s.freeBelow (min most 16384 + 1) }).pauseRule_port p
  refine ⟨xoff, sentAt, waiting, h.trans ?_⟩
  rw [State.port_modPort_self]
  rfl

theorem State.occupancy_rx (most : Nat) : ((s.occupancy p most).port p).rx = (s.port p).rx := by
  obtain ⟨_, _, _, h⟩ := s.occupancy_port p most
  rw [h]

end

/-! ### The counters of a port (R91 to R93) -/

section
variable (s : State) {p sub : Nat}

theorem not_ownsEntry_of_counter (hp : p < 32) (hsub : sub < 256) (n : Nat) : ¬ownsEntry n ((0x2040 + p) * 256 + sub) := by
  unfold ownsEntry Od.evStatus Od.evLastSet Od.evResets
  omega

theorem State.reg_countPort_ne (by_ : Nat) {k : Nat} (hne : k ≠ (0x2040 + p) * 256 + sub) (hmap : k ≠ Od.cntHalfRangeMap p)
    (hown : ¬ownsEntry p k) : (s.countPort p sub by_).reg k = s.reg k := by
  unfold State.countPort
  dsimp only
  generalize (if (decide (sub = 1) || decide (sub = 17)) = true then 48 else 32 : Nat) = w
  split
  · rw [State.reg_setFlag_of_not_owns _ _ _ _ hown, State.reg_of_only (State.modPort_only (by decide) ..), State.reg_setReg_ne _ _ hmap,
      State.reg_setReg_ne _ _ hne]
  · exact State.reg_setReg_ne _ _ hne

/-- A counter of 32 bits. -/
theorem State.reg_countPort_self (hp : p < 32) (hsub : sub < 0x2A) (hrx : sub ≠ 0x01) (htx : sub ≠ 0x11) (by_ : Nat) :
    (s.countPort p sub by_).reg ((0x2040 + p) * 256 + sub) = (s.reg ((0x2040 + p) * 256 + sub) + by_) % 2 ^ 32 := by
  have hmap : (0x2040 + p) * 256 + sub ≠ Od.cntHalfRangeMap p := by
    unfold Od.cntHalfRangeMap
    omega
  have hown := not_ownsEntry_of_counter hp (by omega : sub < 256) p
  unfold State.countPort
  dsimp only
  have hwidth : (if (decide (sub = 0x01) || decide (sub = 0x11)) = true then 48 else 32) = 32 := if_neg (by simp [hrx, htx])
  rw [hwidth]
  split
  · rw [State.reg_setFlag_of_not_owns _ _ _ _ hown, State.reg_of_only (State.modPort_only (by decide) ..), State.reg_setReg_ne _ _ hmap,
      State.reg_setReg_self]
  · exact State.reg_setReg_self ..

end

/-! ### The link (R100) and the pause at a port (R96) -/

section
variable {s : State} {p : Nat}

theorem State.linkLoss_of_down (h : (s.port p).linkUp = false) : s.linkLoss p = s := if_pos (by rw [h]; rfl)

/-- A port without a link: nothing in reception or transmission, no pause, nothing that waits. -/
def Port.unlinked (x : Port) (now : Nat) : Port :=
  { x with linkUp := false, speed := 0, tx := none, rx := none, pause := .none, xoff := false, pauseOut := [], pcsLostAt := some now,
           speedWaits := none, deficits := [0, 0, 0, 0, 0, 0], drr := 0 }

theorem State.linkLoss_eq (h : (s.port p).linkUp = true) : ∃ t : State, s.linkLoss p = t.setFlag p 0 ∧
    ∃ x : Port, t.port p = x.unlinked s.now := by
  unfold State.linkLoss
  rw [if_neg (by rw [h]; decide)]
  dsimp only
  refine ⟨_, rfl, ?_⟩
  rw [State.port_of_only (State.ptpLinkDown_only (by decide) ..), State.port_modPort_self]
  exact ⟨_, rfl⟩

theorem State.linkLoss_port (h : (s.port p).linkUp = true) : ∃ x : Port, (s.linkLoss p).port p = x.unlinked s.now := by
  obtain ⟨t, heq, x, hport⟩ := State.linkLoss_eq h
  exact ⟨x, by rw [heq, State.setFlag_port, hport]⟩

theorem State.linkLoss_sourceUp (s : State) (p n : Nat) : (s.linkLoss p).sourceUp n = s.sourceUp n :=
  State.sourceUp_of_only (State.linkLoss_only (by decide) ..) n

theorem State.bit_linkLoss (h : (s.port p).linkUp = true) (hup : s.sourceUp p = true) :
    bit ((s.linkLoss p).reg (Od.evStatus p)) 0 = true := by
  have hsource := s.linkLoss_sourceUp p p
  obtain ⟨t, heq, -⟩ := State.linkLoss_eq h
  rw [heq, State.sourceUp_of_only (State.setFlag_only (by decide) ..), hup] at hsource
  rw [heq, State.bit_setFlag (by decide) hsource]

theorem State.linkLoss_linkUp (s : State) (p : Nat) : ((s.linkLoss p).port p).linkUp = false := by
  cases h : (s.port p).linkUp
  · rw [State.linkLoss_of_down h, h]
  · obtain ⟨_, hport⟩ := State.linkLoss_port h
    rw [hport, Port.unlinked]

theorem State.linkLoss_tx (h : (s.port p).tx = none) : ((s.linkLoss p).port p).tx = none := by
  cases hup : (s.port p).linkUp
  · rw [State.linkLoss_of_down hup, h]
  · obtain ⟨_, hport⟩ := State.linkLoss_port hup
    rw [hport, Port.unlinked]

theorem State.pauseBegins_of_pending {n : Nat} (h : (s.port p).pause = .pending n) :
    (s.pauseBegins p).port p = { s.port p with pause := .running (s.now + wireTime (s.port p).speed (64 * n)) } := by
  unfold State.pauseBegins
  rw [State.port_modPort_self, h]

theorem State.pauseBegins_port (s : State) (p : Nat) : ∃ x, (s.pauseBegins p).port p = { s.port p with pause := x } := by
  unfold State.pauseBegins
  rw [State.port_modPort_self]
  split <;> exact ⟨_, rfl⟩

end

end Sys2Proof.Machine
end

section
set_option Elab.async false
namespace Sys2Proof.Machine

/-! ### The commands of the ports and of the switch core -/

section
variable (s : State) (a : Instant) (p q : Nat) (e : RxEnd) (f : Frame) (full : Bool)

theorem exec_rxFrameStart : exec (.rxFrameStart a p) s = act (p < 32) 3 (s.arrive a) fun s => s.rxStart p := rfl
theorem exec_rxClassified : exec (.rxClassified a p f) s = act (p < 32) 3 (s.arrive a) fun s => s.rxClassified p f := rfl
theorem exec_rxFrameEnd : exec (.rxFrameEnd a p e) s = act (p < 32) 3 (s.arrive a) fun s => s.rxEnd p e := rfl
theorem exec_pauseReceived : exec (.pauseReceived a p q) s = act (p < 32) 3 (s.arrive a) fun s => s.pauseIn p (q % 2 ^ 16) := rfl
theorem exec_pauseExpiry : exec (.pauseExpiry a p) s = act (p < 32) 3 (s.arrive a) fun s => s.pauseOver p := rfl
theorem exec_pauseRepeat : exec (.pauseRepeat a p) s = act (p < 32) 3 (s.arrive a) fun s => s.pauseAgain p := rfl
theorem exec_speedLower : exec (.speedLower a p) s = act (p < 32) 3 (s.arrive a) fun s => s.changeSpeed p true := rfl
theorem exec_speedRaise : exec (.speedRaise a p) s = act (p < 32) 3 (s.arrive a) fun s => s.changeSpeed p false := rfl
theorem exec_sgmiiSpeedReport : exec (.sgmiiSpeedReport a p q full) s = act (p < 32) 3 (s.arrive a) fun s => s.sgmiiReport p q full := rfl
theorem exec_linkDown : exec (.linkDown a p) s = act (p < 32) 3 (s.arrive a) fun s => s.pcsLoss p := rfl
theorem exec_linkUp : exec (.linkUp a p) s = act (p < 32) 3 (s.arrive a) fun s => s.linkGain p := rfl
theorem exec_serdesLockLost : exec (.serdesLockLost a p) s = act (p < 32) 3 (s.arrive a) fun s => s.lockLost p := rfl
theorem exec_egressTxStart : exec (.egressTxStart a p) s = act (p < 32) 3 (s.arrive a) fun s => s.txStart p := rfl
theorem exec_cutThroughStart : exec (.cutThroughStart a q p) s =
    act (q < 32 && p < 32) 3 (s.arrive a) fun s => s.cutStart q p := rfl
theorem exec_txFrameEnd : exec (.txFrameEnd a p) s = act (p < 32) 3 (s.arrive a) fun s => s.txEnd p := rfl

end

end Sys2Proof.Machine
end

section
set_option Elab.async false
namespace Sys2Proof.Machine

/-! ### O16: steering (R82 to R84) -/

section
variable {s : State} {p : Nat} {f : Frame}

/-- PTP that the time unit takes: without an HSR tag, on a port with PTP enabled (R82, R142). -/
def State.takesPtp (s : State) (p : Nat) (f : Frame) : Bool := s.etypeAt p f = 0x88F7 && f.hsr.isNone && s.on (Od.ptpPortPtpEnable p)

/-- A heartbeat of the pair on a port that carries them (R82). -/
def State.takesHeartbeat (s : State) (p : Nat) (f : Frame) : Bool :=
  s.etypeAt p f = s.reg Od.pairHbEthertype && (s.reg (Od.portRole p) = 2 || s.reg (Od.portRole p) = 4)

/-- A frame to the port's own address or the management address (R82). -/
def State.takesOwn (s : State) (p : Nat) (f : Frame) : Bool := f.dst = s.portMac p || f.dst = Config.baseMac.toNat + 32

/-- What a rule's action makes of a frame (R85): to the switch, to its queue alone, or to both. -/
def FilterRule.steer (r : FilterRule) : Steer := ⟨0, decide (r.action ≠ 1), if r.action = 0 then [] else [r.queue]⟩

theorem State.takesPtp_iff : s.takesPtp p f = true ↔ s.etypeAt p f = 0x88F7 ∧ f.hsr = none ∧ s.on (Od.ptpPortPtpEnable p) = true := by
  simp [State.takesPtp, and_assoc]

theorem State.takesHeartbeat_iff : s.takesHeartbeat p f = true ↔
    s.etypeAt p f = s.reg Od.pairHbEthertype ∧ (s.reg (Od.portRole p) = 2 ∨ s.reg (Od.portRole p) = 4) := by
  simp [State.takesHeartbeat]

theorem State.takesOwn_iff : s.takesOwn p f = true ↔ f.dst = s.portMac p ∨ f.dst = Config.baseMac.toNat + 32 := by
  simp [State.takesOwn]

theorem State.steerFrame_macControl (h : s.etypeAt p f = 0x8808) : s.steerFrame p f = ⟨1, false, []⟩ := if_pos h

theorem State.steerFrame_ptp (h : s.takesPtp p f = true) : s.steerFrame p f = ⟨2, false, [2]⟩ := by
  have hmac : s.etypeAt p f ≠ 0x8808 := by
    rw [(State.takesPtp_iff.mp h).1]
    decide
  exact (if_neg hmac).trans (if_pos h)

section
variable (hmac : s.etypeAt p f ≠ 0x8808) (hptp : ¬s.takesPtp p f = true)
include hmac hptp

theorem State.steerFrame_heartbeat (h : s.takesHeartbeat p f = true) : s.steerFrame p f = ⟨3, false, [3]⟩ :=
  (if_neg hmac).trans ((if_neg hptp).trans (if_pos h))

variable (hhb : ¬s.takesHeartbeat p f = true)
include hhb

theorem State.steerFrame_own (h : s.takesOwn p f = true) : s.steerFrame p f = ⟨4, false, [4]⟩ :=
  (if_neg hmac).trans ((if_neg hptp).trans ((if_neg hhb).trans (if_pos h)))

variable (hown : ¬s.takesOwn p f = true)
include hown

/-- The first rule that matches says what becomes of any other frame. -/
theorem State.steerFrame_rule {r : FilterRule}
    (h : ((List.range 64).map fun i => filterRule (s.reg (Od.filterRule p i))).find? (s.ruleMatches p f) = some r) :
    s.steerFrame p f = r.steer := by
  refine (if_neg hmac).trans ((if_neg hptp).trans ((if_neg hhb).trans ((if_neg hown).trans ?_)))
  rw [h]
  unfold FilterRule.steer
  dsimp only
  split <;> simp_all

theorem State.steerFrame_role (h : ((List.range 64).map fun i => filterRule (s.reg (Od.filterRule p i))).find? (s.ruleMatches p f) = none) :
    s.steerFrame p f = s.roleAction p f := by
  refine (if_neg hmac).trans ((if_neg hptp).trans ((if_neg hhb).trans ((if_neg hown).trans ?_)))
  rw [h]

end

theorem find?_range_map_first {α : Type} {g : Nat → α} {P : α → Bool} {i n : Nat} (hi : i < n) (hP : P (g i) = true)
    (hfirst : ∀ j, j < i → P (g j) = false) : ((List.range n).map g).find? P = some (g i) := by
  rw [List.find?_map, List.find?_range_eq_some.mpr ⟨hP, List.mem_range.mpr hi, fun j hj => by simp [hfirst j hj]⟩]
  rfl

theorem find?_range_map_none {α : Type} {g : Nat → α} {P : α → Bool} {n : Nat} (h : ∀ i, i < n → P (g i) = false) :
    ((List.range n).map g).find? P = none := by
  simpa [List.find?_eq_none] using h

/-! #### RX_CLASSIFIED -/

theorem State.rxClassified_of_none (h : (s.port p).rx = none) : s.rxClassified p f = s := by
  unfold State.rxClassified
  rw [h]

theorem State.rxClassified_of_done {r : Reception} (hrx : (s.port p).rx = some r) (h : r.dropped = true ∨ r.frame.isSome = true) :
    s.rxClassified p f = s := by
  unfold State.rxClassified
  rw [hrx]
  exact if_pos (by simpa using h)

/-- A classified frame is recorded with the reception. -/
theorem State.classify_rx (s : State) (p : Nat) (r : Reception) (f : Frame) :
    ∃ x, ((s.classify p r f).port p).rx = some x ∧ x.frame = some f ∧ x.startedAt = r.startedAt := by
  unfold State.classify
  dsimp only
  rw [State.rx_of_line (State.when_line (State.overflowDrop_line ..) _), State.port_modPort_self]
  exact ⟨_, rfl, rfl, rfl⟩

theorem State.rxClassified_of_new {r : Reception} (hrx : (s.port p).rx = some r) (hdropped : r.dropped = false) (hnew : r.frame = none) :
    ∃ x, ((s.rxClassified p f).port p).rx = some x ∧ x.frame = some f ∧ x.startedAt = r.startedAt := by
  unfold State.rxClassified
  rw [hrx]
  dsimp only
  rw [if_neg (by simp [hdropped, hnew])]
  exact State.classify_rx ..

end

/-- Settles O16: the classes of R82 in their order, then the first rule that matches. -/
theorem fixedClassesThenFirstRule : Obligations.FixedClassesThenFirstRule := by
  unfold Obligations.FixedClassesThenFirstRule
  refine ⟨fun s p f => ?_, fun s u a p f hpower hp hu => ?_⟩
  · simp only [← State.takesOwn_iff, ← State.takesHeartbeat_iff, ← State.takesPtp_iff]
    refine ⟨fun hmac => ?_, fun hetype htag hon => ?_, fun hmac hptp => ⟨fun hetype hrole => ?_, fun hhb => ⟨fun hown => ?_,
      fun hport hmanage => ?_⟩⟩⟩
    · rw [State.steerFrame_macControl hmac]
      exact ⟨rfl, rfl⟩
    · rw [State.steerFrame_ptp (State.takesPtp_iff.mpr ⟨hetype, htag, hon⟩)]
      exact ⟨rfl, rfl⟩
    · rw [State.steerFrame_heartbeat hmac hptp (State.takesHeartbeat_iff.mpr ⟨hetype, hrole⟩)]
      exact ⟨rfl, rfl⟩
    · rw [State.steerFrame_own hmac hptp hhb hown]
      exact ⟨rfl, rfl⟩
    · have hown : ¬s.takesOwn p f = true := fun h => (State.takesOwn_iff.mp h).elim hport hmanage
      refine ⟨fun i hi hmatch hfirst => ?_,
        fun hnone => State.steerFrame_role hmac hptp hhb hown (find?_range_map_none hnone)⟩
      rw [State.steerFrame_rule hmac hptp hhb hown (find?_range_map_first hi hmatch hfirst)]
      exact ⟨rfl, rfl⟩
  · have hport : s.port p = u.port p := hu ▸ (State.arrive_eq (·.port p) (fun _ => rfl) a).symm
    have hexec := exec_rxClassified s a p f
    have hn : decide (p < 32) = true := decide_eq_true hp
    rw [hport]
    exact ⟨fun hrx => does_of_act hexec hn hpower hu (State.rxClassified_of_none hrx),
      fun r hrx hdone => does_of_act hexec hn hpower hu (State.rxClassified_of_done hrx hdone),
      fun r hrx hdropped hnew => yields_of_act hexec hn hpower hu (State.rxClassified_of_new hrx hdropped hnew)⟩

end Sys2Proof.Machine
end

section
set_option Elab.async false
namespace Sys2Proof.Machine

/-! ### O12: reception (R80, R88, R90) -/

section
variable {s : State} {p : Nat} {e : RxEnd}

/-! #### The start of a frame -/

theorem State.rxStart_idle (h : (s.port p).linkUp = false ∨ (s.port p).rx.isSome = true) : s.rxStart p = s :=
  if_pos (by simpa using h)

section
variable (hup : (s.port p).linkUp = true) (hrx : (s.port p).rx = none)
include hup hrx

theorem State.rxStart_spec : ∃ r, ((s.rxStart p).port p).rx = some r ∧ r.startedAt = s.now ∧
    (r.dropped = true → s.sourceUp p = true → bit ((s.rxStart p).reg (Od.evStatus p)) 9 = true) := by
  unfold State.rxStart
  rw [if_neg (by simp [hup, hrx])]
  dsimp only
  split
  · refine ⟨⟨s.now, true, none, none, none⟩, ?_, rfl, fun _ hsource => State.bit_setFlag (by decide) ?_ _⟩
    · rw [State.rx_of_line (State.overflowDrop_line ..), State.port_modPort_self]
    · rw [State.sourceUp_of_only (State.countPort_only (by decide) ..), State.sourceUp_of_only (State.modPort_only (by decide) ..),
        State.sourceUp_of_only (State.occupancy_only (by decide) ..), hsource]
  · refine ⟨⟨s.now, false, none, none, none⟩, ?_, rfl, nofun⟩
    rw [State.occupancy_rx, State.port_modPort_self]

/-- An empty buffer has space for the frame limit. -/
theorem State.rxStart_of_empty (hempty : (s.port p).rxUsed = 0) (hlimit : s.reg (Od.portFrameLimit p) ≤ 2048) :
    ((s.rxStart p).port p).rx = some ⟨s.now, false, none, none, none⟩ := by
  have hused : ((s.occupancy p 0).port p).rxUsed = 0 := by
    obtain ⟨_, _, _, hport⟩ := s.occupancy_port p 0
    rw [hport]
    exact Nat.mod_one _
  unfold State.rxStart
  rw [if_neg (by simp [hup, hrx]), hempty]
  dsimp only
  rw [if_neg (by rw [hused]; omega), State.occupancy_rx, State.port_modPort_self]

end

/-! #### The end of a frame -/

theorem State.rxEnd_of_none (h : (s.port p).rx = none) : s.rxEnd p e = s := by
  unfold State.rxEnd
  rw [h]

theorem State.rxEnd_rx (s : State) (p : Nat) (e : RxEnd) : ((s.rxEnd p e).port p).rx = none := by
  unfold State.rxEnd
  split
  · assumption
  · next r _ =>
    have hstart : (((s.modPort p fun x => { x with rx := none }).noteLoad p (min e.len (s.reg (Od.portFrameLimit p))) false).port p).rx =
        none := by
      rw [State.rx_of_line (State.noteLoad_line ..), State.port_modPort_self]
    dsimp only
    generalize (s.modPort p fun x => { x with rx := none }).noteLoad p (min e.len (s.reg (Od.portFrameLimit p))) false = s0 at hstart
    split
    · rw [State.occupancy_rx, hstart]
    · rw [State.occupancy_rx]
      split
      · next c _ =>
        have hcounted : ((s0.countPort p c).port p).rx = none := (State.rx_of_line (State.countPort_line ..)).trans hstart
        generalize hended : State.dropLocal _ p = t
        have ht : (t.port p).rx = none := by
          rw [← hended, State.port_of_only (State.dropLocal_only (by decide) ..)]
          split
          · rw [State.badFrame_rx, State.tooLong_rx, hcounted]
          · exact hcounted
        split
        · rw [State.rx_of_line (State.countPort_line ..), State.port_of_only (State.localPut_only (by decide) ..), ht]
        · exact ht
      · generalize hjudged : State.prpJudged _ p r _ = t
        have ht : (t.port p).rx = none := by
          rw [← hjudged, State.prpJudged_rx]
          split
          · exact (State.rx_of_line (State.countGood_line ..)).trans hstart
          · exact hstart
        rw [State.port_of_only (State.finishLocal_only (by decide) ..)]
        split
        · rw [State.tooLong_rx, State.port_of_only (State.completeFrame_only (by decide) ..), ht]
        · exact ht

/-- A frame of fewer than 64 octets that reached no class queue counts as RUNT alone. -/
theorem State.rxEnd_runt {r : Reception} (hrx : (s.port p).rx = some r) (hdropped : r.dropped = false) (hid : r.swId = none)
    (hlen : e.len < 64) : ∃ t : State, (∀ k, t.reg k = s.reg k) ∧ ∀ k, (s.rxEnd p e).reg k = (t.countPort p 0x23).reg k := by
  have herror : rxError e (s.reg (Od.portFrameLimit p)) = some 0x23 := if_pos hlen
  refine ⟨(s.modPort p fun x => { x with rx := none }).noteLoad p (min e.len (s.reg (Od.portFrameLimit p))) false, fun k => ?_, fun k => ?_⟩
  · rw [State.reg_of_only (State.noteLoad_only (by decide) ..), State.reg_of_only (State.modPort_only (by decide) ..)]
  · unfold State.rxEnd
    rw [hrx]
    dsimp only
    rw [if_neg (by simp [hdropped]), State.reg_of_only (State.occupancy_only (by decide) ..), herror, hid]
    dsimp only
    split
    · next hfull _ => simp at hfull
    · exact State.reg_of_only (State.dropLocal_only (by decide) ..) k

end

/-- Settles O12: the start and the end of a frame, by the lemmas above. -/
theorem portReception : Obligations.PortReception := by
  unfold Obligations.PortReception
  intro s u a p e hpower hp hu
  have same {α : Type} (g : State → α) (hg : ∀ t, g (s.setNow t) = g s) : g s = g u := hu ▸ (State.arrive_eq g hg a).symm
  have hport := same (·.port p) fun _ => rfl
  have hreg := fun k => same (·.reg k) fun _ => rfl
  have hstart := exec_rxFrameStart s a p
  have hend := exec_rxFrameEnd s a p e
  have hn : decide (p < 32) = true := decide_eq_true hp
  simp only [hport, hreg]
  refine ⟨fun h => does_of_act hstart hn hpower hu (State.rxStart_idle h),
    fun hup hrx => yields_of_act hstart hn hpower hu (State.rxStart_spec hup hrx),
    fun hup hrx hempty hlimit => yields_of_act hstart hn hpower hu (State.rxStart_of_empty hup hrx hempty hlimit),
    fun hrx => does_of_act hend hn hpower hu (State.rxEnd_of_none hrx),
    fun r hrx => yields_of_act hend hn hpower hu ⟨State.rxEnd_rx .., fun hdropped hid hlen => ?_⟩⟩
  obtain ⟨t, ht, hrunt⟩ := State.rxEnd_runt hrx hdropped hid hlen
  have hother {sub : Nat} (hsub : sub < 0x2A) (hne : sub ≠ 0x23) :
      (u.rxEnd p e).reg ((0x2040 + p) * 256 + sub) = u.reg ((0x2040 + p) * 256 + sub) := by
    rw [hrunt, State.reg_countPort_ne _ _ (by omega) (by unfold Od.cntHalfRangeMap; omega)
      (not_ownsEntry_of_counter hp (by omega) p), ht]
  refine ⟨?_, hother (by decide) (by decide), hother (by decide) (by decide)⟩
  rw [State.settle_reg, hrunt, State.reg_countPort_self _ hp (by decide) (by decide) (by decide), ht]

end Sys2Proof.Machine
end

section
set_option Elab.async false
namespace Sys2Proof.Machine

/-! ### The end of a transmission (R96, R98) -/

section
variable {s : State} {p : Nat}

theorem State.speedAwaited_of_none (h : (s.port p).speedWaits = none) : s.speedAwaited p = s := by
  unfold State.speedAwaited
  dsimp only
  rw [h]

/-- What is sent is over; a pending pause begins once the frame is counted and freed. -/
theorem State.txLast_eq (h : (s.port p).tx.isSome = true) :
    ∃ v : State, s.txLast p = v.pauseBegins p ∧ v.line p = { s.line p with tx := none } ∧ v.now = s.now := by
  have hidle : (s.modPort p fun x => { x with tx := none }).line p = { s.line p with tx := none } := by
    rw [State.line, State.port_modPort_self]
    rfl
  unfold State.txLast
  split
  · next hnone => simp [hnone] at h
  · refine ⟨_, rfl, ?_, ?_⟩
    · rw [State.countPort_line, State.countGood_line, State.noteLoad_line, hidle]
    · rw [State.now_of_only (State.countPort_only (by decide) ..), State.now_of_only (State.countGood_only (by decide) ..),
        State.now_of_only (State.noteLoad_only (by decide) ..), State.now_of_only (State.modPort_only (by decide) ..)]
  · dsimp only
    split
    · exact ⟨_, rfl, hidle, State.now_of_only (State.modPort_only (by decide) ..)⟩
    · split
      · exact ⟨_, rfl, hidle, State.now_of_only (State.modPort_only (by decide) ..)⟩
      · refine ⟨_, rfl, ?_, ?_⟩
        · rw [State.leave_line, State.countGood_line, State.noteLoad_line, hidle]
        · rw [State.now_of_only (State.leave_only (by decide) ..), State.now_of_only (State.countGood_only (by decide) ..),
            State.now_of_only (State.noteLoad_only (by decide) ..), State.now_of_only (State.modPort_only (by decide) ..)]

theorem State.fields_of_idle_line {v : State} (h : v.line p = { s.line p with tx := none }) : (v.port p).tx = none ∧
    (v.port p).pause = (s.port p).pause ∧ (v.port p).speed = (s.port p).speed ∧ (v.port p).speedWaits = (s.port p).speedWaits := by
  have htx := congrArg Port.tx h
  have hpause := congrArg Port.pause h
  have hspeed := congrArg Port.speed h
  have hwaits := congrArg Port.speedWaits h
  exact ⟨htx, hpause, hspeed, hwaits⟩

theorem State.txLast_port (h : (s.port p).tx.isSome = true) :
    ((s.txLast p).port p).tx = none ∧ ((s.txLast p).port p).speedWaits = (s.port p).speedWaits := by
  obtain ⟨v, heq, hline, -⟩ := State.txLast_eq h
  obtain ⟨htx, -, -, hwaits⟩ := State.fields_of_idle_line hline
  obtain ⟨_, hport⟩ := v.pauseBegins_port p
  rw [heq, hport]
  exact ⟨htx, hwaits⟩

theorem State.txLast_of_pending (h : (s.port p).tx.isSome = true) {n : Nat} (hpending : (s.port p).pause = .pending n) :
    ((s.txLast p).port p).pause = .running (s.now + wireTime (s.port p).speed (64 * n)) := by
  obtain ⟨v, heq, hline, hnow⟩ := State.txLast_eq h
  obtain ⟨-, hpause, hspeed, -⟩ := State.fields_of_idle_line hline
  rw [heq, State.pauseBegins_of_pending (hpause.trans hpending), hnow, hspeed]

theorem State.txEnd_of_none (h : (s.port p).tx = none) : s.txEnd p = s := if_pos (by rw [h]; rfl)

theorem State.txEnd_of_some (h : (s.port p).tx.isSome = true) : s.txEnd p = (s.txLast p).speedAwaited p :=
  if_neg (by rw [← Option.not_isSome, h]; decide)

end

/-! ### O13: a received PAUSE (R95, R96) -/

section
variable {s : State} {p q : Nat}

/-- A pause runs at a port. -/
def State.pauseRuns (s : State) (p : Nat) : Bool :=
  match (s.port p).pause with
  | .running t => s.now < t
  | _ => false

theorem State.pauseRuns_iff : s.pauseRuns p = true ↔ ∃ t, (s.port p).pause = .running t ∧ s.now < t := by
  unfold State.pauseRuns
  cases (s.port p).pause <;> simp

/-- What a PAUSE of `q` quanta makes of the pause of a port that honours it. -/
def State.pauseFrom (s : State) (p q : Nat) : Pause :=
  if q = 0 then .none
  else if !s.pauseRuns p && (s.port p).tx.isSome then .pending q
  else .running (s.now + wireTime (s.port p).speed (64 * q))

theorem State.pauseFrom_zero : s.pauseFrom p 0 = .none := rfl

theorem State.pauseFrom_now (hq : q ≠ 0) (h : (s.port p).tx = none ∨ ∃ e, (s.port p).pause = .running e ∧ s.now < e) :
    s.pauseFrom p q = .running (s.now + wireTime (s.port p).speed (64 * q)) := by
  rw [← State.pauseRuns_iff] at h
  unfold State.pauseFrom
  rw [if_neg hq, if_neg (by rcases h with h | h <;> simp [h])]

theorem State.pauseFrom_later (hq : q ≠ 0) (htx : (s.port p).tx ≠ none) (h : ∀ e, (s.port p).pause = .running e → e ≤ s.now) :
    s.pauseFrom p q = .pending q := by
  have hruns : ¬s.pauseRuns p = true := fun hruns => by
    obtain ⟨t, hpause, hlt⟩ := State.pauseRuns_iff.mp hruns
    exact absurd (h t hpause) (by omega)
  unfold State.pauseFrom
  rw [if_neg hq, if_pos (by simp [hruns, Option.isSome_iff_ne_none, htx])]

theorem State.pauseIn_of_down (h : (s.port p).linkUp = false) : s.pauseIn p q = s := if_pos (by rw [h]; rfl)

section
variable (hup : (s.port p).linkUp = true)
include hup

theorem State.pauseIn_of_ignored (h : s.rxPause p = false) : s.pauseIn p q = s.countPort p 0x0C := by
  unfold State.pauseIn
  rw [if_neg (by rw [hup]; decide)]
  exact if_pos (by rw [h]; rfl)

theorem State.pauseIn_of_honoured (h : s.rxPause p = true) : ∃ halfAt halfBits, (s.pauseIn p q).port p =
    { s.port p with pause := s.pauseFrom p q, halfAt := halfAt, halfBits := halfBits } := by
  obtain ⟨halfAt, halfBits, hcounted⟩ := s.countPort_port p 0x0C 1
  refine ⟨halfAt, halfBits, ?_⟩
  unfold State.pauseIn
  rw [if_neg (by rw [hup]; decide)]
  dsimp only
  rw [if_neg (by rw [h]; decide), hcounted]
  dsimp only
  change State.port (if s.pauseRuns p = true then _ else _) p = _
  unfold State.pauseFrom
  cases s.pauseRuns p
  · cases (s.port p).tx <;> exact State.port_setPort_self ..
  · exact State.port_setPort_self ..

end

section
variable {e : Nat} (h : (s.port p).pause = .running e)
include h

theorem State.pauseOver_of_over (hover : e ≤ s.now) : s.pauseOver p = s.setPort p { s.port p with pause := .none } := by
  unfold State.pauseOver State.modPort
  dsimp only
  rw [h]
  exact congrArg (s.setPort p) (if_pos hover)

theorem State.pauseOver_of_running (hlt : s.now < e) : s.pauseOver p = s.setPort p (s.port p) := by
  unfold State.pauseOver State.modPort
  dsimp only
  rw [h]
  exact congrArg (s.setPort p) (if_neg (by omega))

end

/-! ### The PCS reports loss of link (R100, R102) -/

theorem State.pcsLoss_of_down (h : (s.port p).linkUp = false) : s.pcsLoss p = s.setPort p { s.port p with pcsLostAt := some s.now } := by
  rw [State.pcsLoss, State.linkLoss_of_down h, State.modPort]

theorem State.pcsLoss_port (h : (s.port p).linkUp = true) : ∃ x : Port, (s.pcsLoss p).port p = x.unlinked s.now := by
  obtain ⟨x, hport⟩ := State.linkLoss_port h
  exact ⟨x, by rw [State.pcsLoss, State.port_modPort_self, hport, Port.unlinked]⟩

end

/-- Settles O13: a PAUSE received, its expiry, and what ends it. -/
theorem receivedPauseHoldsThePort : Obligations.ReceivedPauseHoldsThePort := by
  unfold Obligations.ReceivedPauseHoldsThePort
  intro s u a p q hpower hp hu hq
  have same {α : Type} (g : State → α) (hg : ∀ t, g (s.setNow t) = g s) : g s = g u := hu ▸ (State.arrive_eq g hg a).symm
  have hport := same (·.port p) fun _ => rfl
  have hreg := fun k => same (·.reg k) fun _ => rfl
  have hhonours := same (·.rxPause p) fun _ => rfl
  have hreceived := exec_pauseReceived s a p q
  have hexpiry := exec_pauseExpiry s a p
  have hn : decide (p < 32) = true := decide_eq_true hp
  rw [Nat.mod_eq_of_lt hq] at hreceived
  simp only [hport, hreg, hhonours]
  refine ⟨fun hdown => does_of_act hreceived hn hpower hu (State.pauseIn_of_down hdown),
    fun hup hno => yields_of_act hreceived hn hpower hu ?_,
    fun hup hyes => ⟨u.pauseFrom p q, yields_of_act hreceived hn hpower hu ?_, ?_, State.pauseFrom_now, State.pauseFrom_later⟩,
    fun e he hover => does_of_act hexpiry hn hpower hu (State.pauseOver_of_over he hover),
    fun e he hlt => does_of_act hexpiry hn hpower hu (State.pauseOver_of_running he hlt),
    fun n htx hpending hwaits => yields_of_act (exec_txFrameEnd s a p) hn hpower hu ?_,
    fun hup => yields_of_act (exec_linkDown s a p) hn hpower hu ?_⟩
  · obtain ⟨_, _, hcounted⟩ := u.countPort_port p 0x0C 1
    rw [State.pauseIn_of_ignored hup hno, State.settle_port, State.settle_reg, hcounted,
      State.reg_countPort_self _ hp (by decide) (by decide) (by decide)]
    exact ⟨rfl, rfl⟩
  · obtain ⟨_, _, hpause⟩ := State.pauseIn_of_honoured (q := q) hup hyes
    rw [State.settle_port, hpause]
  · rintro rfl
    exact State.pauseFrom_zero
  · obtain ⟨-, hkept⟩ := State.txLast_port htx
    rw [State.txEnd_of_some htx, State.speedAwaited_of_none (hkept.trans hwaits), State.settle_port, State.txLast_of_pending htx hpending]
  · obtain ⟨x, hdown⟩ := State.pcsLoss_port hup
    rw [State.settle_port, hdown, Port.unlinked]

end Sys2Proof.Machine
end

section
set_option Elab.async false
namespace Sys2Proof.Machine

/-! ### A standing XOFF (R97) -/

section
variable {s : State} {p : Nat}

/-- Once XOFF is sent, another occupancy of the buffer withdraws it, or the port has that occupancy and is otherwise as before. -/
theorem State.occupancy_of_xoff (h : (s.port p).xoff = true) (most : Nat) : ((s.occupancy p most).port p).xoff = false ∨
    (s.occupancy p most).port p = { s.port p with rxUsed := s.freeBelow (min most 16384 + 1) } := by
  have hport : (s.drew.modPort p fun x => { x with rxUsed := s.freeBelow (min most 16384 + 1) }).port p =
      { s.port p with rxUsed := s.freeBelow (min most 16384 + 1) } := State.port_modPort_self ..
  refine (State.pauseRule_of_xoff _ p ?_).imp_right fun hsame => ?_
  · rw [hport, ← h]
  · rw [State.occupancy, hsame, hport]

theorem State.pauseAgain_spec (hup : (s.port p).linkUp = true) (hxoff : (s.port p).xoff = true)
    (hstands : ((s.pauseAgain p).port p).xoff = true) :
    ((s.port p).xoffSentAt + wireTime (s.port p).speed (64 * 32768) ≤ s.now →
      ((s.pauseAgain p).port p).pauseOut = (s.port p).pauseOut ++ [0xFFFF] ∧ ((s.pauseAgain p).port p).xoffSentAt = s.now) ∧
    (s.now < (s.port p).xoffSentAt + wireTime (s.port p).speed (64 * 32768) →
      ((s.pauseAgain p).port p).pauseOut = (s.port p).pauseOut ∧ ((s.pauseAgain p).port p).xoffSentAt = (s.port p).xoffSentAt) := by
  unfold State.pauseAgain at hstands ⊢
  dsimp only at hstands ⊢
  rcases State.occupancy_of_xoff hxoff (s.port p).rxUsed with hgone | hport
  · rw [if_neg (by simp [hgone]), hgone] at hstands
    cases hstands
  · rw [hport]
    refine ⟨fun hdue => ?_, fun hwait => ?_⟩
    · rw [if_pos (by simp [hup, hxoff, hdue]), State.port_setPort_self]
      exact ⟨rfl, rfl⟩
    · rw [if_neg (by simp [hwait]), hport]
      exact ⟨rfl, rfl⟩

/-! ### The link comes up (R77, R102) -/

theorem State.mayRise_iff : s.mayRise p = true ↔ (s.port p).linkUp = false ∧ (s.port p).retired = false ∧ (s.port p).duplexHeld = false ∧
    s.reg (Od.portRole p) ≠ 0 ∧ ¬∃ t, (s.port p).pcsLostAt = some t ∧ s.now < t + ofMs (s.reg (Od.portLinkUpHold p)) := by
  unfold State.mayRise
  cases hlost : (s.port p).pcsLostAt <;> simp [hlost, and_assoc]

theorem State.linkGain_idle (h : ¬s.mayRise p = true) : s.linkGain p = s := if_pos (by simpa using h)

theorem State.linkGain_spec (h : s.mayRise p = true) : ((s.linkGain p).port p).linkUp = true ∧
    ((s.linkGain p).port p).mode = s.nextMode p ∧ (s.sourceUp p = true → bit ((s.linkGain p).reg (Od.evStatus p)) 1 = true) := by
  unfold State.linkGain
  rw [if_neg (by rw [h]; decide)]
  dsimp only
  rw [State.setFlag_port, State.port_setPort_self]
  refine ⟨rfl, rfl, fun hup => State.bit_setFlag (by decide) ?_ _⟩
  rw [State.sourceUp_of_only (State.setPort_only (by decide) ..), hup]

/-! ### The link is taken down with an event (R74, R75, R98, R399) -/

/-- A port that is changed after its link has gone down, with the event that tells of it. -/
theorem State.bit_linkLoss_setFlag {f : Nat} (hf : f < 16) (hup : s.sourceUp p = true) (g : Port → Port) :
    bit ((((s.linkLoss p).modPort p g).setFlag p f).reg (Od.evStatus p)) f = true := by
  refine State.bit_setFlag hf ?_ _
  rw [State.sourceUp_of_only (State.modPort_only (by decide) ..), State.linkLoss_sourceUp, hup]

theorem State.sgmiiReport_half (hmode : s.nextMode p = 2) (speed : Nat) :
    ((s.sgmiiReport p speed false).port p).linkUp = false ∧ ((s.sgmiiReport p speed false).port p).duplexHeld = true ∧
      (s.sourceUp p = true → bit ((s.sgmiiReport p speed false).reg (Od.evStatus p)) 6 = true) := by
  unfold State.sgmiiReport
  rw [if_neg (by simp [hmode]), if_pos (by decide), State.setFlag_port, State.port_modPort_self]
  exact ⟨s.linkLoss_linkUp p, rfl, fun hup => State.bit_linkLoss_setFlag (by decide) hup _⟩

theorem State.sgmiiReport_new (hmode : s.nextMode p = 2) {speed : Nat} (hold : (s.port p).phySpeed ≠ 0) (hnew : (s.port p).phySpeed ≠ speed) :
    ((s.sgmiiReport p speed true).port p).linkUp = false ∧ ((s.sgmiiReport p speed true).port p).phySpeed = speed ∧
      (s.sourceUp p = true → bit ((s.sgmiiReport p speed true).reg (Od.evStatus p)) 4 = true) := by
  unfold State.sgmiiReport
  dsimp only
  rw [if_neg (by simp [hmode]), if_neg (by decide), if_neg hold, if_neg hnew, State.setFlag_port, State.port_modPort_self]
  refine ⟨State.linkLoss_linkUp _ p, rfl, fun hup => State.bit_linkLoss_setFlag (by decide) ?_ _⟩
  rw [State.sourceUp_of_only (State.modPort_only (by decide) ..), hup]

theorem State.speedNow_spec (s : State) (p : Nat) (lower : Bool) : ((s.speedNow p lower).port p).lowered = lower ∧
    ((s.speedNow p lower).port p).linkUp = false ∧ ((s.speedNow p lower).port p).lastSpeedChange = some s.now ∧
      (s.sourceUp p = true → bit ((s.speedNow p lower).reg (Od.evStatus p)) 4 = true) := by
  unfold State.speedNow
  rw [State.setFlag_port, State.port_modPort_self]
  exact ⟨rfl, s.linkLoss_linkUp p, rfl, fun hup => State.bit_linkLoss_setFlag (by decide) hup _⟩

theorem State.retirePort_linkUp (s : State) (p cause count : Nat) : ((s.retirePort p cause count).port p).linkUp = false := by
  unfold State.retirePort
  rw [State.setFlag_port, State.port_modPort_self]
  exact State.linkLoss_linkUp ..

theorem State.lockLost_linkUp (h : (s.port p).retired = false) : ((s.lockLost p).port p).linkUp = false := by
  have hdown : (((s.linkLoss p).setFlag p 7).port p).linkUp = false := by
    rw [State.setFlag_port, State.linkLoss_linkUp]
  unfold State.lockLost
  rw [if_neg (by rw [h]; decide)]
  dsimp only
  split
  · exact hdown
  · split
    · exact State.retirePort_linkUp ..
    · rw [State.port_of_only (State.noteError_only (by decide) ..), hdown]

/-! ### A speed change that the traffic calls for (R98) -/

theorem State.speedCalled_true_iff : s.speedCalled p true = true ↔ s.reg (Od.portLowerThreshold p) ≠ 0 ∧
    (s.port p).busyUntil + s.reg (Od.portLowerHold p) * second ≤ s.now := by
  simp [State.speedCalled]

theorem State.speedCalled_false (s : State) (p : Nat) : s.speedCalled p false = (s.port p).raiseSeen := rfl

theorem State.changeSpeed_uncalled {lower : Bool} (h : s.speedCalled p lower = false) : s.changeSpeed p lower = s :=
  if_neg (by simp [h])

/-- Nothing forbids a change of speed: the port is a STATION port set to lower its speed, unblocked and up, LOWER_HOLD after the last. -/
structure State.SpeedFree (s : State) (p : Nat) : Prop where
  role : s.reg (Od.portRole p) = 3
  set : s.on (Od.portSpeedLowering p) = true
  unblocked : (s.port p).speedBlocked = false
  up : (s.port p).linkUp = true
  rested : ∀ t, (s.port p).lastSpeedChange = some t → t + s.reg (Od.portLowerHold p) * second ≤ s.now

theorem State.changeSpeed_called (h : s.SpeedFree p) {lower : Bool} (hother : (s.port p).lowered ≠ lower)
    (hcalled : s.speedCalled p lower = true) : s.changeSpeed p lower =
      if (s.port p).tx.isSome then s.modPort p fun y => { y with speedWaits := some lower } else s.speedNow p lower := by
  unfold State.changeSpeed
  refine if_pos ?_
  have hrested := h.rested
  cases hlast : (s.port p).lastSpeedChange with
  | none => simp [h.role, h.set, h.unblocked, h.up, hother, hcalled]
  | some t => simp [h.role, h.set, h.unblocked, h.up, hother, hcalled, hrested t hlast]

end

/-- Settles O14: each command by its lemma above. -/
theorem portLinkAndSpeed : Obligations.PortLinkAndSpeed := by
  unfold Obligations.PortLinkAndSpeed
  intro s u a p hpower hp hu
  have same {α : Type} (g : State → α) (hg : ∀ t, g (s.setNow t) = g s) : g s = g u := hu ▸ (State.arrive_eq g hg a).symm
  have hport := same (·.port p) fun _ => rfl
  have hreg := fun k => same (·.reg k) fun _ => rfl
  have hon := fun k => same (·.on k) fun _ => rfl
  have hmode := same (·.nextMode p) fun _ => rfl
  have hsource := same (·.sourceUp p) fun _ => rfl
  have hlower := exec_speedLower s a p
  have hraise := exec_speedRaise s a p
  have hlinkDown := exec_linkDown s a p
  have hlinkUp := exec_linkUp s a p
  have hn : decide (p < 32) = true := decide_eq_true hp
  simp only [hport, hreg, hon, hmode, hsource]
  intro hevents
  refine ⟨fun hup hxoff => yields_of_act (exec_pauseRepeat s a p) hn hpower hu fun hstands => State.pauseAgain_spec hup hxoff hstands,
    fun hup => yields_of_act hlinkDown hn hpower hu ?_,
    fun hdown => does_of_act hlinkDown hn hpower hu (State.pcsLoss_of_down hdown),
    ⟨fun hnot => does_of_act hlinkUp hn hpower hu (State.linkGain_idle ?_),
      fun hdown hin hfull hrole hheld => yields_of_act hlinkUp hn hpower hu ?_⟩,
    fun speed hsgmii => ⟨yields_of_act (exec_sgmiiSpeedReport ..) hn hpower hu ?_,
      fun hold hnew => yields_of_act (exec_sgmiiSpeedReport ..) hn hpower hu ?_⟩,
    fun hrole hset hfree hup hrested => ⟨fun hfast hthreshold hquiet => ⟨fun htx => yields_of_act hlower hn hpower hu ?_,
        fun htx => does_of_act hlower hn hpower hu ?_⟩,
      fun hslow hseen htx => yields_of_act hraise hn hpower hu ?_⟩,
    fun hoff => does_of_act hlower hn hpower hu (State.changeSpeed_uncalled ?_),
    fun hunseen => does_of_act hraise hn hpower hu (State.changeSpeed_uncalled ?_),
    fun hin => yields_of_act (exec_serdesLockLost s a p) hn hpower hu (State.lockLost_linkUp hin)⟩
  · obtain ⟨x, hdown⟩ := State.pcsLoss_port hup
    rw [State.settle_port, hdown, Port.unlinked]
    refine ⟨rfl, rfl, rfl, rfl, rfl, ?_⟩
    rw [State.settle_reg, State.pcsLoss, State.reg_of_only (State.modPort_only (by decide) ..), State.bit_linkLoss hup hevents]
  · rw [State.mayRise_iff]
    rintro ⟨hdown, hin, hfull, hrole, hheld⟩
    rcases hnot with h | h | h | h | h
    · simp [h] at hdown
    · simp [h] at hin
    · simp [h] at hfull
    · exact hrole h
    · exact hheld h
  · obtain ⟨hup, hnext, hbit⟩ := State.linkGain_spec (State.mayRise_iff.mpr ⟨hdown, hin, hfull, hrole, hheld⟩)
    exact ⟨hup, hnext, hbit hevents⟩
  · obtain ⟨hdown, hheld, hbit⟩ := State.sgmiiReport_half hsgmii speed
    exact ⟨hdown, hheld, hbit hevents⟩
  · obtain ⟨hdown, hreported, hbit⟩ := State.sgmiiReport_new hsgmii hold hnew
    exact ⟨hdown, hreported, hbit hevents⟩
  · rw [State.changeSpeed_called ⟨hrole, hset, hfree, hup, hrested⟩ (by simp [hfast]) (State.speedCalled_true_iff.mpr ⟨hthreshold, hquiet⟩),
      if_neg (by simp [htx])]
    obtain ⟨hlowered, hdown, hlast, hbit⟩ := u.speedNow_spec p true
    exact ⟨hlowered, hdown, hlast, hbit hevents⟩
  · exact (State.changeSpeed_called ⟨hrole, hset, hfree, hup, hrested⟩ (by simp [hfast])
      (State.speedCalled_true_iff.mpr ⟨hthreshold, hquiet⟩)).trans (if_pos (Option.isSome_iff_ne_none.mpr htx))
  · rw [State.changeSpeed_called ⟨hrole, hset, hfree, hup, hrested⟩ (by simp [hslow]) ((u.speedCalled_false p).trans hseen),
      if_neg (by simp [htx])]
    obtain ⟨hlowered, hdown, hlast, hbit⟩ := u.speedNow_spec p false
    exact ⟨hlowered, hdown, hlast, hbit hevents⟩
  · exact Bool.eq_false_iff.mpr fun h => (State.speedCalled_true_iff.mp h).1 hoff
  · exact (u.speedCalled_false p).trans hunseen

end Sys2Proof.Machine
end

section
set_option Elab.async false
namespace Sys2Proof.Machine

/-! ### The scheduler's choice (R125) -/

section
variable {s : State} {p : Nat}

theorem State.readyHead_of_empty {c : Nat} (h : s.sw.queue p c = []) (fuel : Nat) : s.readyHead p c fuel = (s, none) := by
  cases fuel with
  | zero => rfl
  | succ fuel =>
    unfold State.readyHead
    rw [h]

/-- The head of a class queue that may start. -/
theorem State.readyHead_of_head {c id : Nat} {rest : List Nat} {f : SwFrame} {e : Egress} (hqueue : s.sw.queue p c = id :: rest)
    (hframe : Tab.find s.sw.frames id = some f) (hegress : f.egress.find? (·.port = p) = some e) (hlimit : s.pastLimit f e = false)
    (hstart : s.startable f e = true) (hage : s.tooOld p f (s.onWire f e).len = false) (fuel : Nat) :
    s.readyHead p c (fuel + 1) = (s, some (id, f, e)) := by
  unfold State.readyHead
  rw [hqueue]
  dsimp only
  rw [hframe]
  dsimp only
  rw [hegress]
  dsimp only
  rw [if_neg (by simp [hlimit]), if_neg (by simp [hstart]), if_neg (by simp [hage])]

theorem State.pastLimit_of_complete {f : SwFrame} (h : f.complete = true) (e : Egress) : s.pastLimit f e = false := by
  simp [State.pastLimit, h]

theorem State.startable_of_complete {f : SwFrame} (h : f.complete = true) (e : Egress) : s.startable f e = true := by
  simp [State.startable, h]

/-- A cut-through frame may start once 64 octets of it have arrived. -/
theorem State.startable_of_arrived {f : SwFrame} {e : Egress} {q : Nat} {r : Reception} (hcut : e.cutThrough = true)
    (hingress : f.ingress = some q) (hrx : (s.port q).rx = some r) (h : 64 ≤ s.arrived q r) : s.startable f e = true := by
  simp [State.startable, hcut, hingress, hrx, h]

/-- A fold whose steps only append to its list keeps what stands at the head of the list. -/
theorem foldl_keeps_head {α β γ : Type} {f : α × List β → γ → α × List β} (h : ∀ x c, x.2 <+: (f x c).2) (l : List γ)
    (x : α × List β) : x.2 <+: (l.foldl f x).2 := by
  induction l generalizing x with
  | nil => exact List.prefix_refl _
  | cons c l ih => exact (h x c).trans (ih _)

/-- The deficit round-robin chooses nothing where no class has a head. -/
theorem drrPick_of_none {lens : List (Option Nat)} (h : ∀ c, lens.getD c none = none) (quantum : Nat → Nat) (current : Nat)
    (deficits : List Nat) : drrPick lens quantum current deficits = none := by
  unfold drrPick
  dsimp only
  rw [h current]
  unfold drrPick.turn
  rw [List.findSome?_eq_none_iff]
  intro c _
  rw [h c]

theorem foldl_fixed_of_mem {α β : Type} {f : α → β → α} {x : α} {l : List β} (h : ∀ c ∈ l, f x c = x) : l.foldl f x = x := by
  induction l with
  | nil => rfl
  | cons c l ih => rw [List.foldl_cons, h c List.mem_cons_self, ih fun d hd => h d (List.mem_cons_of_mem c hd)]

theorem State.choose_of_empty (h : ∀ c, c < 8 → s.sw.queue p c = []) : s.choose p =
    ⟨s.modPort p fun x => { x with deficits := (s.port p).deficits.map fun _ => 0 }, none⟩ := by
  have hnone (c : Nat) : ((List.range 6).map fun _ => (none : Option Nat)).getD c none = none := by
    rw [List.getD_eq_getElem?_getD, List.getElem?_map]
    cases (List.range 6)[c]? <;> rfl
  unfold State.choose
  dsimp only
  rw [foldl_fixed_of_mem fun c hc => ?_]
  · dsimp only [List.find?_nil, Option.map_none, Option.orElse]
    rw [drrPick_of_none hnone]
    simp only [Option.isSome_none, Bool.false_eq_true, if_false, List.map_const', List.length_zipIdx]
  · rw [State.readyHead_of_empty (h c (by simpa using hc))]

/-- The ready head of class 7 comes before any other. -/
theorem State.choose_of_class7 {y : Nat × SwFrame × Egress} (h : (s.readyHead p 7 ((s.sw.queue p 7).length + 1)).2 = some y) :
    (s.choose p).pick = some y := by
  have hclasses : (List.range 8).reverse = 7 :: [6, 5, 4, 3, 2, 1, 0] := rfl
  unfold State.choose
  dsimp only
  rw [hclasses, List.foldl_cons, h]
  dsimp only
  generalize hr : List.foldl _ _ _ = r
  have hfirst : [(7, y)] <+: r.2 := by
    rw [← hr]
    refine foldl_keeps_head (fun x c => ?_) [6, 5, 4, 3, 2, 1, 0] (_, [(7, y)])
    split
    · exact List.prefix_append ..
    · exact List.prefix_refl _
  obtain ⟨rest, hrest⟩ := hfirst
  rw [← hrest]
  rfl

/-! ### The start of a frame's transmission (R54, R67) -/

theorem State.startFrame_tx (s : State) (p id : Nat) (f : SwFrame) (e : Egress) : ((s.startFrame p id f e).port p).tx = some (.frame id) := by
  unfold State.startFrame
  dsimp only
  generalize hsent : State.modPort _ p _ = t
  have htx : (t.line p).tx = some (.frame id) := by
    rw [← hsent, State.line, State.port_modPort_self]
    rfl
  change (State.line _ p).tx = _
  repeat' split
  all_goals simp only [State.line_of_only (State.emit_only (by decide) _ (o := .frame _ _) rfl), State.capture_line,
    State.line_of_only (State.emit_only (by decide) _ (o := .ptp _ _) rfl), State.line_of_only (State.sepCount_only (by decide) ..), htx]

/-! ### EGRESS_TX_START (R97, R98, R125) -/

theorem State.txStart_idle (h : (s.port p).linkUp = false ∨ (s.port p).tx.isSome = true) : s.txStart p = s := if_pos (by simpa using h)

section
variable (hup : (s.port p).linkUp = true) (htx : (s.port p).tx = none)
include hup htx

theorem State.txStart_of_speed {lower : Bool} (hfree : (s.port p).speedBlocked = false) (hwaits : (s.port p).speedWaits = some lower) :
    s.txStart p = s.speedNow p lower := by
  unfold State.txStart
  dsimp only
  rw [if_neg (by simp [hup, htx]), if_pos (by simp [hfree, hwaits])]
  unfold State.speedAwaited
  dsimp only
  rw [hwaits]
  exact if_neg (by simp [htx, hfree])

variable (hwaits : (s.port p).speedWaits = none)
include hwaits

theorem State.txStart_of_waiting {x : Nat} {rest : List Nat} (hout : (s.port p).pauseOut = x :: rest) : s.txStart p =
    (s.setPort p { s.port p with tx := some (.pause x), pauseOut := rest }).emit (.pause p x) := by
  unfold State.txStart
  dsimp only
  rw [if_neg (by simp [hup, htx]), if_neg (by simp [hwaits]), hout]

variable (hout : (s.port p).pauseOut = [])
include hout

theorem State.txStart_of_paused (h : s.paused p = true) : s.txStart p = s := by
  unfold State.txStart
  dsimp only
  rw [if_neg (by simp [hup, htx]), if_neg (by simp [hwaits]), hout]
  exact if_pos h

variable (hgo : s.paused p = false)
include hgo

theorem State.txStart_of_none (h : (s.choose p).pick = none) : s.txStart p = (s.choose p).state := by
  unfold State.txStart
  dsimp only
  rw [if_neg (by simp [hup, htx]), if_neg (by simp [hwaits]), hout]
  dsimp only
  rw [if_neg (by simp [hgo]), h]

theorem State.txStart_of_pick {id : Nat} {f : SwFrame} {e : Egress} (h : (s.choose p).pick = some (id, f, e)) :
    s.txStart p = (s.choose p).state.startFrame p id f e := by
  unfold State.txStart
  dsimp only
  rw [if_neg (by simp [hup, htx]), if_neg (by simp [hwaits]), hout]
  dsimp only
  rw [if_neg (by simp [hgo]), h]

end

/-! ### CUT_THROUGH_START (R125, R127, R128) -/

section
variable {q : Nat}

theorem State.mayStart_iff : s.mayStart_ p = true ↔
    (s.port p).linkUp = true ∧ (s.port p).tx = none ∧ (s.port p).pauseOut = [] ∧ s.paused p = false := by
  simp [State.mayStart_, and_assoc]

theorem State.cutStart_idle (h : s.mayStart_ p = false ∨ (s.port p).speedWaits.isSome = true ∧ (s.port p).speedBlocked = false) :
    s.cutStart q p = s := if_pos (by simpa using h)

/-- A frame that the scheduler chooses and that is not the one in reception is not cut through. -/
theorem State.cutStart_of_other {id : Nat} {f : SwFrame} {e : Egress} (hpick : (s.choose p).pick = some (id, f, e))
    (h : (s.port q).rx.bind (·.swId) ≠ some id) : s.cutStart q p = s := by
  unfold State.cutStart
  dsimp only
  split
  · rfl
  · rw [hpick]
    exact if_neg (by simp [h])

theorem State.cutStart_of_own (hstart : s.mayStart_ p = true) (hwaits : (s.port p).speedWaits = none) {id : Nat} {f : SwFrame} {e : Egress}
    (hpick : (s.choose p).pick = some (id, f, e)) (hown : (s.port q).rx.bind (·.swId) = some id) (hcut : e.cutThrough = true) :
    s.cutStart q p = (s.choose p).state.startFrame p id f e := by
  unfold State.cutStart
  dsimp only
  rw [if_neg (by simp [hstart, hwaits]), hpick]
  exact if_pos (by simp [hown, hcut])

end

/-! ### TX_FRAME_END (R98) -/

theorem State.speedNow_tx (h : (s.port p).tx = none) (lower : Bool) : ((s.speedNow p lower).port p).tx = none := by
  unfold State.speedNow
  rw [State.setFlag_port, State.port_modPort_self]
  exact State.linkLoss_tx h

theorem State.speedAwaited_tx (h : (s.port p).tx = none) : ((s.speedAwaited p).port p).tx = none := by
  unfold State.speedAwaited
  dsimp only
  split
  · split
    · exact h
    · exact State.speedNow_tx h _
  · exact h

theorem State.txEnd_tx (h : (s.port p).tx.isSome = true) : ((s.txEnd p).port p).tx = none := by
  obtain ⟨hidle, -⟩ := State.txLast_port h
  rw [State.txEnd_of_some h, State.speedAwaited_tx hidle]

end

/-- Settles O20: each case of the start and the end of a transmission by its lemma above. -/
theorem egressTransmission : Obligations.EgressTransmission := by
  unfold Obligations.EgressTransmission
  intro s u a p q hpower hp hq hu
  have same {α : Type} (g : State → α) (hg : ∀ t, g (s.setNow t) = g s) : g s = g u := hu ▸ (State.arrive_eq g hg a).symm
  have hport := fun i => same (·.port i) fun _ => rfl
  have hsw := same (·.sw) fun _ => rfl
  have hstart := exec_egressTxStart s a p
  have hcut := exec_cutThroughStart s a p q
  have hend := exec_txFrameEnd s a p
  have hn : decide (p < 32) = true := decide_eq_true hp
  have hns : (decide (q < 32) && decide (p < 32)) = true := by rw [decide_eq_true hq, hn]; rfl
  simp only [hport, hsw]
  refine ⟨fun hidle => ⟨does_of_act hstart hn hpower hu (State.txStart_idle hidle),
      does_of_act hcut hns hpower hu (State.cutStart_idle (.inl ?_))⟩,
    fun x rest hup htx hout hwaits => does_of_act hstart hn hpower hu (State.txStart_of_waiting hup htx hwaits hout),
    fun hout hwaits hpaused => ⟨does_of_act hstart hn hpower hu ?_, does_of_act hcut hns hpower hu (State.cutStart_idle (.inl ?_))⟩,
    fun hup htx hout hwaits hgo hempty => does_of_act hstart hn hpower hu ?_,
    fun id rest f e hup htx hout hwaits hgo hqueue hframe hegress hcomplete hage => yields_of_act hstart hn hpower hu ?_,
    fun r id rest f e hup htx hout hwaits hgo hqueue hframe hegress hthrough hrx hid hingress harrived hlimit hage =>
      yields_of_act hcut hns hpower hu ?_,
    fun id f e hup htx hout hwaits hgo hpick => ⟨yields_of_act hstart hn hpower hu ?_,
      fun hother => does_of_act hcut hns hpower hu (State.cutStart_of_other hpick hother)⟩,
    fun lower hup htx hfree hwaits => ⟨does_of_act hcut hns hpower hu (State.cutStart_idle (.inr ⟨by rw [hwaits]; rfl, hfree⟩)),
      yields_of_act hstart hn hpower hu ?_⟩,
    fun htx => does_of_act hend hn hpower hu (State.txEnd_of_none htx),
    fun htx => yields_of_act hend hn hpower hu (State.txEnd_tx htx)⟩
  · refine Bool.eq_false_iff.mpr fun hmay => ?_
    obtain ⟨hup, htx, -, -⟩ := State.mayStart_iff.mp hmay
    rcases hidle with hdown | hsends
    · simp [hdown] at hup
    · simp [htx] at hsends
  · by_cases hidle : (u.port p).linkUp = false ∨ (u.port p).tx.isSome = true
    · exact State.txStart_idle hidle
    · rw [not_or, Bool.not_eq_false, Bool.not_eq_true, Option.isSome_eq_false_iff, Option.isNone_iff_eq_none] at hidle
      obtain ⟨hup, htx⟩ := hidle
      exact State.txStart_of_paused hup htx hwaits hout hpaused
  · refine Bool.eq_false_iff.mpr fun hmay => ?_
    obtain ⟨-, -, -, hgo⟩ := State.mayStart_iff.mp hmay
    simp [hpaused] at hgo
  · have hchoice := State.choose_of_empty hempty
    rw [State.txStart_of_none hup htx hwaits hout hgo (by rw [hchoice]), hchoice]
    rfl
  · have hhead := State.readyHead_of_head hqueue hframe hegress (State.pastLimit_of_complete hcomplete e)
      (State.startable_of_complete hcomplete e) hage (u.sw.queue p 7).length
    rw [State.txStart_of_pick hup htx hwaits hout hgo (State.choose_of_class7 (congrArg Prod.snd hhead)), State.settle_port,
      State.startFrame_tx]
  · have hhead := State.readyHead_of_head hqueue hframe hegress hlimit (State.startable_of_arrived hthrough hingress hrx harrived) hage
      (u.sw.queue p 7).length
    rw [State.cutStart_of_own (State.mayStart_iff.mpr ⟨hup, htx, hout, hgo⟩) hwaits (State.choose_of_class7 (congrArg Prod.snd hhead))
      (by rw [hrx]; exact hid) hthrough, State.settle_port, State.startFrame_tx]
  · rw [State.txStart_of_pick hup htx hwaits hout hgo hpick, State.settle_port, State.startFrame_tx]
  · obtain ⟨hlowered, hdown, -, -⟩ := u.speedNow_spec p lower
    rw [State.txStart_of_speed hup htx hfree hwaits, State.settle_port]
    exact ⟨hlowered, hdown⟩

end Sys2Proof.Machine
end

section
set_option Elab.async false
namespace Sys2Proof.Machine

/-! ### O18: the accounts of the class queues (R108, R109) -/

/-! #### A sum over a table -/

section
variable {α : Type} (f : α → Nat) {d : α}

theorem Tab.sum_insert (hf : f d = 0) {t : Tab α} (ht : t.Pairwise fun x y => x.1 < y.1) (j : Nat) (x : α) :
    ((Tab.insert t j x).map fun e => f e.2).sum + f (Tab.look t j d) = (t.map fun e => f e.2).sum + f x := by
  induction t with
  | nil => simp [Tab.insert, Tab.look, hf]
  | cons e t ih =>
    obtain ⟨k, v⟩ := e
    obtain ⟨hfirst, hrest⟩ := List.pairwise_cons.mp ht
    rcases Nat.lt_trichotomy j k with hj | rfl | hj
    · have hnone : Tab.find t j = none := Tab.find_tail_eq_none fun e he => hj.trans (hfirst e he)
      simp only [Tab.insert, Tab.look, Tab.find, if_pos hj, if_neg hj.ne', hnone, Option.getD_none, hf, List.map_cons, List.sum_cons]
      omega
    · simp only [Tab.insert, Tab.look, Tab.find, lt_irrefl, if_false, if_true, Option.getD_some, List.map_cons, List.sum_cons]
      omega
    · have hsum := ih hrest
      simp only [Tab.look] at hsum
      simp only [Tab.insert, Tab.look, Tab.find, if_neg hj.not_gt, if_neg hj.ne, if_neg hj.ne', List.map_cons, List.sum_cons]
      omega

theorem Tab.sum_del (hf : f d = 0) {t : Tab α} (ht : t.Pairwise fun x y => x.1 < y.1) (j : Nat) :
    ((Tab.del t j).map fun e => f e.2).sum + f (Tab.look t j d) = (t.map fun e => f e.2).sum := by
  induction t with
  | nil => simp [Tab.del, Tab.look, hf]
  | cons e t ih =>
    obtain ⟨k, v⟩ := e
    obtain ⟨hfirst, hrest⟩ := List.pairwise_cons.mp ht
    have hsum := ih hrest
    simp only [Tab.del, Tab.look] at hsum
    by_cases hk : k = j
    · subst hk
      rw [Tab.find_tail_eq_none hfirst, Option.getD_none, hf] at hsum
      simp only [Tab.del, Tab.look, Tab.find, ne_eq, not_true_eq_false, decide_false, Bool.false_eq_true, not_false_eq_true,
        List.filter_cons_of_neg, if_true, Option.getD_some, List.map_cons, List.sum_cons] at hsum ⊢
      omega
    · simp only [Tab.del, Tab.look, Tab.find, ne_eq, hk, not_false_eq_true, decide_true, List.filter_cons_of_pos, if_false, List.map_cons,
        List.sum_cons] at hsum ⊢
      omega

/-- An update changes the sum by what it changes at its key. -/
theorem Tab.sum_put [DecidableEq α] (hf : f d = 0) {t : Tab α} (ht : Tab.wf t d = true) (j : Nat) (x : α) :
    ((Tab.put t j x d).map fun e => f e.2).sum + f (Tab.look t j d) = (t.map fun e => f e.2).sum + f x := by
  have hrising := ((Tab.wf_iff t d).mp ht).2
  unfold Tab.put
  split
  · next hx => rw [hx, hf, Nat.add_zero, Tab.sum_del f hf hrising]
  · exact Tab.sum_insert f hf hrising j x

end

/-! #### What the guarantees have given -/

/-- What the guarantees of 8 cells have given the class queues already. -/
def Switch.given (w : Switch) : Nat := (w.accounts.map fun e => min 8 e.2).sum

section
variable {w : Switch} {up : Bool} {code port cls n : Nat}

theorem Switch.rv_eq (w : Switch) : w.rv = 2048 - w.given := rfl

theorem Switch.given_charge (h : Tab.wf w.accounts 0 = true) :
    (w.charge port cls n).given + min 8 (w.account port cls) = w.given + min 8 (w.account port cls + n) :=
  Tab.sum_put (min 8) rfl h _ _

theorem Switch.given_discharge (h : Tab.wf w.accounts 0 = true) :
    (w.discharge port cls n).given + min 8 (w.account port cls) = w.given + min 8 (w.account port cls - n) :=
  Tab.sum_put (min 8) rfl h _ _

theorem Switch.admits_down (w : Switch) (code port cls n : Nat) : w.admits false code port cls n = .linkDown := rfl

theorem Switch.admits_guaranteed (h : w.account port cls + n ≤ 8) : w.admits true code port cls n = .admitted := if_pos h

/-- A frame is admitted within its queue's guarantee, or where the cells that no guarantee owes hold it. -/
theorem Switch.fits_of_admitted (h : w.admits up code port cls n = .admitted) : w.account port cls + n ≤ 8 ∨ n ≤ w.free - w.rv := by
  unfold Switch.admits at h
  split at h
  · cases h
  · split at h
    · next hguaranteed => exact .inl hguaranteed
    · dsimp only at h
      split at h
      · next hspare => exact .inr (of_decide_eq_true (Bool.and_eq_true_iff.mp hspare).1)
      · cases h

end

/-- Settles O18: a charge within the guarantee lowers what is owed by as much as it takes; any other takes cells that nothing is owed. -/
theorem admissionKeepsGuarantees : Obligations.AdmissionKeepsGuarantees := by
  unfold Obligations.AdmissionKeepsGuarantees
  intro w code port cls n hn hwf howed
  have hcharge := Switch.given_charge (port := port) (cls := cls) (n := n) hwf
  have hdischarge := Switch.given_discharge (port := port) (cls := cls) (n := n) hwf
  simp only [Switch.rv_eq] at howed ⊢
  refine ⟨fun hadmitted => ?_, Switch.admits_guaranteed, fun hle => ?_, Switch.admits_down ..⟩
  · have hfits := Switch.fits_of_admitted hadmitted
    rw [Switch.rv_eq] at hfits
    omega
  · omega

end Sys2Proof.Machine
end

section
set_option Elab.async false
namespace Sys2Proof.Machine

/-! ### O17: the forwarding table (R115) -/

section
variable {s : State} {mac vid p : Nat} {e : StaticEntry} {f : Frame}

theorem State.valid_of_mem_staticEntries (h : e ∈ s.staticEntries) : e.valid = true := (List.mem_filter.mp h).2

theorem State.mem_staticEntries_at : e ∈ s.staticEntries.filter (·.mac = mac) ↔ e ∈ s.staticEntries ∧ e.mac = mac := by
  rw [List.mem_filter, decide_eq_true_iff]

/-- The entry with the VLAN ID itself, where there is one; else one for any. -/
theorem State.lookup_eq (s : State) (mac vid : Nat) : s.lookup mac vid =
    ((s.staticEntries.filter (·.mac = mac)).find? fun e => !e.vidAny && e.vid = vid).or
      ((s.staticEntries.filter (·.mac = mac)).find? (·.vidAny)) := by
  unfold State.lookup
  dsimp only
  split
  · next h => rw [h, Option.some_or]
  · next h => rw [h, Option.none_or]

theorem State.mem_of_lookup (h : s.lookup mac vid = some e) :
    e ∈ s.staticEntries ∧ e.mac = mac ∧ (e.vidAny = true ∨ e.vid = vid) := by
  rw [State.lookup_eq, Option.or_eq_some_iff] at h
  have hmatch : e ∈ s.staticEntries.filter (·.mac = mac) ∧ (e.vidAny = true ∨ e.vid = vid) := by
    rcases h with hexact | ⟨-, hany⟩
    · have hvid := List.find?_some hexact
      simp only [Bool.and_eq_true, decide_eq_true_eq] at hvid
      exact ⟨List.mem_of_find?_eq_some hexact, .inr hvid.2⟩
    · exact ⟨List.mem_of_find?_eq_some hany, .inl (List.find?_some hany)⟩
  rw [State.mem_staticEntries_at, and_assoc] at hmatch
  exact hmatch

theorem State.lookup_exact (hmem : e ∈ s.staticEntries) (hmac : e.mac = mac) (hany : e.vidAny = false) (hvid : e.vid = vid) :
    ∃ e, s.lookup mac vid = some e ∧ e.vidAny = false ∧ e.vid = vid := by
  have hfound : ((s.staticEntries.filter (·.mac = mac)).find? fun e => !e.vidAny && e.vid = vid).isSome = true :=
    List.find?_isSome.mpr ⟨e, State.mem_staticEntries_at.mpr ⟨hmem, hmac⟩, by simp [hany, hvid]⟩
  obtain ⟨x, hx⟩ := Option.isSome_iff_exists.mp hfound
  have hexact := List.find?_some hx
  simp only [Bool.and_eq_true, Bool.not_eq_true', decide_eq_true_eq] at hexact
  exact ⟨x, by rw [State.lookup_eq, hx, Option.some_or], hexact⟩

theorem State.lookup_eq_none : s.lookup mac vid = none ↔ ∀ e ∈ s.staticEntries, e.mac = mac → e.vidAny = false ∧ e.vid ≠ vid := by
  rw [State.lookup_eq, Option.or_eq_none_iff, List.find?_eq_none, List.find?_eq_none]
  simp only [State.mem_staticEntries_at, ← forall_and, and_imp]
  refine forall₃_congr fun e _ _ => ?_
  cases e.vidAny <;> simp

/-- A miss of a received frame is settled by the port it came in on; the frame's class says nothing of where it goes. -/
theorem State.decide_of_miss (h : s.lookup f.dst (s.vidOf (some p) f) = none) : ∃ cls, s.decide_ (some p) f = s.onMiss (some p) f.dst cls := by
  unfold State.decide_
  dsimp only
  rw [h]
  exact ⟨_, rfl⟩

variable {cls : Nat}

theorem State.onMiss_broadcast : (s.onMiss (some p) broadcastMac cls).ports = bitsOf 32 (s.reg (Od.swPortFloodMask p)) := rfl

/-- An unknown multicast is flooded where UNKNOWN_MC says so, else discarded. -/
theorem State.onMiss_multicast {dst : Nat} (hdst : dst ≠ broadcastMac) (hgroup : isGroupMac dst = true) : s.onMiss (some p) dst cls =
    if s.unknownMc p then ⟨bitsOf 32 (s.reg (Od.swPortFloodMask p)), cls, false, false⟩ else ⟨[], cls, false, true⟩ :=
  (if_neg hdst).trans (if_pos hgroup)

/-- An unknown unicast is flooded where UNKNOWN_UC says so, else discarded. -/
theorem State.onMiss_unicast {dst : Nat} (hdst : dst ≠ broadcastMac) (hgroup : isGroupMac dst = false) : s.onMiss (some p) dst cls =
    if s.on (Od.swPortUnknownUc p) then ⟨bitsOf 32 (s.reg (Od.swPortFloodMask p)), cls, false, false⟩ else ⟨[], cls, false, true⟩ :=
  (if_neg hdst).trans (if_neg (by simp [hgroup]))

end

/-- Settles O17: the first entry with the VLAN ID itself before the first for any; a miss by the kind of its destination. -/
theorem forwardingByExactVidFirst : Obligations.ForwardingByExactVidFirst := by
  unfold Obligations.ForwardingByExactVidFirst
  refine ⟨fun s mac vid => ⟨fun e he => ?_, fun ⟨e, hmem, hmac, hany, hvid⟩ => State.lookup_exact hmem hmac hany hvid,
    State.lookup_eq_none⟩, fun s p f hmiss => ?_⟩
  · obtain ⟨hmem, hmac, hvid⟩ := State.mem_of_lookup he
    exact ⟨hmem, State.valid_of_mem_staticEntries hmem, hmac, hvid⟩
  · obtain ⟨cls, hdecide⟩ := State.decide_of_miss hmiss
    rw [hdecide]
    refine ⟨fun hdst => ?_, fun hdst hgroup hflood => ?_, fun hdst hgroup hdrop => ?_, fun hgroup hdst hflood => ?_,
      fun hgroup hdst hdrop => ?_⟩
    · rw [hdst, State.onMiss_broadcast]
    · rw [State.onMiss_multicast hdst hgroup, if_pos hflood]
      exact ⟨rfl, rfl⟩
    · rw [State.onMiss_multicast hdst hgroup, if_neg (by simp [hdrop])]
      exact ⟨rfl, rfl⟩
    · rw [State.onMiss_unicast hdst hgroup, if_pos hflood]
      exact ⟨rfl, rfl⟩
    · rw [State.onMiss_unicast hdst hgroup, if_neg (by simp [hdrop])]
      exact ⟨rfl, rfl⟩

end Sys2Proof.Machine
end

section
set_option Elab.async false
namespace Sys2Proof.Machine

/-! ### The commands of the forwarding tables, of residence and of the separator -/

section
variable (s : State) (a : Instant) (p g n v mac : Nat)

theorem exec_residenceDiscard : exec (.residenceDiscard a p) s = act (p < 32) 3 (s.arrive a) fun s => s.residence p := rfl
theorem exec_residenceLimitWrite : exec (.residenceLimitWrite a v) s = act true 3 (s.arrive a) fun s => (s.writeResidence v).told := rfl
theorem exec_staticEntryWrite : exec (.staticEntryWrite a n v) s =
    act (n < 16384) 3 (s.arrive a) fun s => (s.writeStatic n v).told := rfl
theorem exec_multicastGroupWrite : exec (.multicastGroupWrite a n v) s =
    act (n < 1024) 3 (s.arrive a) fun s => (s.writeGroup n v).told := rfl
theorem exec_clearTables : exec (.clearTables a v) s = act true 3 (s.arrive a) fun s => (s.clearForwarding v).told := rfl
theorem exec_tableBarrier : exec (.tableBarrier a g) s = act true 3 (s.arrive a) fun s => (s.writeBarrier g).told := rfl
theorem exec_barrierDone : exec (.barrierDone a) s = act true 3 (s.arrive a) fun s => s.barrierOver := rfl
theorem exec_entryForget : exec (.entryForget a g mac) s = act (g < 16) 3 (s.arrive a) fun s => s.forgetEntry g mac := rfl
theorem exec_lanSilent : exec (.lanSilent a g) s = act (g < 16) 3 (s.arrive a) fun s => s.lanSilence g := rfl
theorem exec_supervisionFrameSend : exec (.supervisionFrameSend a g) s = act (g < 16) 3 (s.arrive a) fun s => s.supervise g := rfl

end

end Sys2Proof.Machine
end

section
set_option Elab.async false
namespace Sys2Proof.Machine

/-! ### O21: the age of the frames that wait (R112, R113) -/

theorem Tab.mem_of_find {α : Type} {t : Tab α} {j : Nat} {x : α} (h : Tab.find t j = some x) : (j, x) ∈ t := by
  induction t with
  | nil => cases h
  | cons e t ih =>
    obtain ⟨k, v⟩ := e
    rw [Tab.find] at h
    split at h
    · next hk =>
      cases h
      rw [hk]
      exact List.mem_cons_self
    · exact List.mem_cons_of_mem _ (ih h)

/-! #### What a removal leaves of the frames -/

/-- Every frame was there with this age, and its copies are among those it had. -/
def State.remainsOf (t s : State) : Prop :=
  ∀ id f, Tab.find t.sw.frames id = some f →
    ∃ g, Tab.find s.sw.frames id = some g ∧ f.ageFrom = g.ageFrom ∧ ∀ e ∈ f.egress, e ∈ g.egress

/-- A frame has no copy at a port. -/
def State.absentAt (s : State) (id p : Nat) : Prop := ∀ f, Tab.find s.sw.frames id = some f → ∀ e ∈ f.egress, e.port ≠ p

/-- Every frame that waits at a port to start is younger than a limit. -/
def State.youngAt (s : State) (now limit p : Nat) : Prop :=
  ∀ id f, Tab.find s.sw.frames id = some f → ∀ e ∈ f.egress, e.port = p → e.started = false → now < f.ageFrom + limit

section
variable {s t u : State} {now limit p : Nat}

theorem State.remainsOf_refl (s : State) : s.remainsOf s := fun _ f h => ⟨f, h, rfl, fun _ he => he⟩

theorem State.remainsOf.trans (htu : u.remainsOf t) (hst : t.remainsOf s) : u.remainsOf s := fun id f h => by
  obtain ⟨g, hg, hage, hegress⟩ := htu id f h
  obtain ⟨k, hk, hage', hegress'⟩ := hst id g hg
  exact ⟨k, hk, hage.trans hage', fun e he => hegress' e (hegress e he)⟩

theorem State.remainsOf.absentAt (h : t.remainsOf s) {id : Nat} (hs : s.absentAt id p) : t.absentAt id p := fun f hf e he => by
  obtain ⟨g, hg, -, hegress⟩ := h id f hf
  exact hs g hg e (hegress e he)

theorem State.remainsOf.youngAt (h : t.remainsOf s) (hs : s.youngAt now limit p) : t.youngAt now limit p := fun id f hf e he => by
  obtain ⟨g, hg, hage, hegress⟩ := h id f hf
  rw [hage]
  exact hs id g hg e (hegress e he)

theorem Switch.foldl_frames {α : Type} {f : Switch → α → Switch} (h : ∀ w x, (f w x).frames = w.frames) (l : List α) (w : Switch) :
    (l.foldl f w).frames = w.frames := by
  induction l generalizing w with
  | nil => rfl
  | cons x l ih => exact (ih _).trans (h w x)

variable (s)

/-- A frame that leaves a port loses its copies there; one without any other is gone. -/
theorem State.leave_frames {id : Nat} {f : SwFrame} (h : Tab.find s.sw.frames id = some f) (p : Nat) : (s.leave id p).sw.frames =
    if (f.egress.filter (·.port ≠ p)).isEmpty then Tab.del s.sw.frames id
    else Tab.insert s.sw.frames id { f with egress := f.egress.filter (·.port ≠ p) } := by
  unfold State.leave
  rw [h]
  dsimp only
  rw [State.sw_of_only (State.emptyDeficits_only (by decide) ..)]
  split
  · exact congrArg (Tab.del · id) (Switch.foldl_frames (fun _ _ => by rfl) ..)
  · exact congrArg (Tab.insert · id _) (Switch.foldl_frames (fun _ _ => by rfl) ..)

theorem State.leave_of_none {id : Nat} (h : Tab.find s.sw.frames id = none) (p : Nat) : s.leave id p = s := by
  unfold State.leave
  rw [h]

theorem State.find_leave_ne {i id : Nat} (h : i ≠ id) (p : Nat) : Tab.find (s.leave id p).sw.frames i = Tab.find s.sw.frames i := by
  cases hid : Tab.find s.sw.frames id with
  | none => rw [s.leave_of_none hid]
  | some f =>
    rw [s.leave_frames hid]
    split
    · exact Tab.find_del_ne _ h
    · exact Tab.find_insert_ne _ _ h

theorem State.find_leave_self {id : Nat} {f : SwFrame} (p : Nat) (h : Tab.find (s.leave id p).sw.frames id = some f) :
    ∃ g, Tab.find s.sw.frames id = some g ∧ f = { g with egress := g.egress.filter (·.port ≠ p) } := by
  cases hid : Tab.find s.sw.frames id with
  | none => simp [s.leave_of_none hid, hid] at h
  | some g =>
    rw [s.leave_frames hid] at h
    split at h
    · simp at h
    · rw [Tab.find_insert_self] at h
      exact ⟨g, rfl, (Option.some.inj h).symm⟩

theorem State.leave_remainsOf (id p : Nat) : (s.leave id p).remainsOf s := fun i f hf => by
  by_cases hi : i = id
  · subst hi
    obtain ⟨g, hg, rfl⟩ := s.find_leave_self p hf
    exact ⟨g, hg, rfl, fun e he => List.mem_of_mem_filter he⟩
  · rw [s.find_leave_ne hi] at hf
    exact ⟨f, hf, rfl, fun _ he => he⟩

theorem State.leave_absentAt (id p : Nat) : (s.leave id p).absentAt id p := fun f hf e he => by
  obtain ⟨g, -, rfl⟩ := s.find_leave_self p hf
  exact of_decide_eq_true (List.mem_filter.mp he).2

/-! #### RESIDENCE_DISCARD -/

theorem State.discardOld_sw (p id : Nat) : (s.discardOld p id).sw = (s.leave id p).sw :=
  (State.sw_of_only (State.setFlag_only (by decide) ..)).trans (State.sw_of_only (State.countEv_only (by decide) ..))

theorem State.discardOld_remainsOf (p id : Nat) : (s.discardOld p id).remainsOf s := by
  unfold State.remainsOf
  rw [State.discardOld_sw]
  exact s.leave_remainsOf id p

theorem State.discardOld_absentAt (p id : Nat) : (s.discardOld p id).absentAt id p := by
  unfold State.absentAt
  rw [State.discardOld_sw]
  exact s.leave_absentAt id p

/-- A discard counts for its port alone. -/
theorem State.reg_discardOld (p id : Nat) {k : Nat} (hk : k ≠ Od.swCntResidenceDiscard p) (hown : ¬ownsEntry 33 k) :
    (s.discardOld p id).reg k = s.reg k := by
  rw [State.discardOld, State.switchFlag, State.reg_setFlag_of_not_owns _ _ _ _ hown, State.reg_countEv_ne _ _ _ hown hk,
    State.reg_of_only (State.leave_only (by decide) ..)]

theorem State.residence_remainsOf (p : Nat) : (s.residence p).remainsOf s :=
  State.each_keeps (P := (·.remainsOf s)) (fun id t h => (t.discardOld_remainsOf p id).trans h) _ s.remainsOf_refl

/-- Every frame of age is removed, whatever became of the others. -/
theorem State.residence_youngAt (p : Nat) : (s.residence p).youngAt s.now (ofUs (s.reg Od.swResidenceLimit)) p := by
  intro id f hf e he hport hwaits
  obtain ⟨g, hg, hage, hegress⟩ := s.residence_remainsOf p id f hf
  by_contra hold
  rw [hage, Nat.not_lt] at hold
  have hmem : id ∈ (s.sw.frames.filter fun x => x.2.ageFrom + ofUs (s.reg Od.swResidenceLimit) ≤ s.now &&
      x.2.egress.any fun y => y.port = p && !y.started).map (·.1) :=
    List.mem_map.mpr ⟨(id, g), List.mem_filter.mpr ⟨Tab.mem_of_find hg, by
      rw [Bool.and_eq_true, decide_eq_true_iff, List.any_eq_true]
      exact ⟨hold, e, hegress e he, by simp [hport, hwaits]⟩⟩, rfl⟩
  have habsent : (s.residence p).absentAt id p := State.each_establishes (I := fun _ => True) (P := (·.absentAt id p)) (fun _ _ h => h)
    (fun t _ => t.discardOld_absentAt p id) (fun i t _ h => (t.discardOld_remainsOf p i).absentAt h) hmem trivial
  exact habsent f hf e he hport

theorem State.reg_residence_limit (p : Nat) : (s.residence p).reg Od.swResidenceLimit = s.reg Od.swResidenceLimit :=
  State.each_keeps (P := fun t => t.reg Od.swResidenceLimit = s.reg Od.swResidenceLimit)
    (fun id t h => (t.reg_discardOld p id (by unfold Od.swResidenceLimit Od.swCntResidenceDiscard; omega)
      (by unfold ownsEntry; decide)).trans h) _ rfl

/-! #### A write of RESIDENCE_LIMIT -/

variable {v : Nat}

theorem State.writeResidence_refused (h : v < 100 ∨ 2000 < v) : s.writeResidence v = s.refuse stInvalidValue := if_pos (by simpa using h)

/-- A discard at every port in turn. -/
def State.residenceAll (s : State) : State := s.each (List.range 32) fun p t => t.residence p

theorem State.writeResidence_taken (hlow : 100 ≤ v) (hhigh : v ≤ 2000) :
    s.writeResidence v = (s.setReg Od.swResidenceLimit v).residenceAll.ok := if_neg (by simp [hlow, hhigh])

/-- The discard at one port leaves the limit and the time as they are for the next. -/
theorem State.residence_bound (s0 : State) (p : Nat) (t : State)
    (h : t.now = s0.now ∧ t.reg Od.swResidenceLimit = s0.reg Od.swResidenceLimit) :
    (t.residence p).now = s0.now ∧ (t.residence p).reg Od.swResidenceLimit = s0.reg Od.swResidenceLimit :=
  ⟨(State.now_of_only (State.residence_only (by decide) ..)).trans h.1, (t.reg_residence_limit p).trans h.2⟩

theorem State.reg_residenceAll_limit : s.residenceAll.reg Od.swResidenceLimit = s.reg Od.swResidenceLimit :=
  (State.each_keeps s.residence_bound _ ⟨rfl, rfl⟩).2

theorem State.residenceAll_youngAt {p : Nat} (hp : p < 32) : s.residenceAll.youngAt s.now (ofUs (s.reg Od.swResidenceLimit)) p := by
  refine State.each_establishes (x := p) (P := (·.youngAt s.now (ofUs (s.reg Od.swResidenceLimit)) p)) s.residence_bound (fun t h => ?_)
    (fun q t _ h => (t.residence_remainsOf q).youngAt h) (List.mem_range.mpr hp) ⟨rfl, rfl⟩
  obtain ⟨hnow, hlimit⟩ := h
  have hyoung := t.residence_youngAt p
  rwa [hnow, hlimit] at hyoung

end

/-- Settles O21: a discard removes every frame of age and brings none; a new limit is followed by a discard at every port. -/
theorem noFrameOutlivesTheResidenceLimit : Obligations.NoFrameOutlivesTheResidenceLimit := by
  unfold Obligations.NoFrameOutlivesTheResidenceLimit
  intro s u a p v hpower hp hu
  have hwrite := exec_residenceLimitWrite s a v
  refine ⟨yields_of_act (exec_residenceDiscard s a p) (decide_eq_true hp) hpower hu ?_,
    fun hout => does_of_act hwrite rfl hpower hu (by rw [State.writeResidence_refused u hout]; rfl),
    fun hlow hhigh => yields_of_act hwrite rfl hpower hu ?_⟩
  · have hreg : s.reg Od.swResidenceLimit = u.reg Od.swResidenceLimit := hu ▸ (s.arrive_reg a _).symm
    rw [hreg]
    exact u.residence_youngAt p
  · have hlimit : (u.setReg Od.swResidenceLimit v).reg Od.swResidenceLimit = v := State.reg_setReg_self ..
    have hreg := (u.setReg Od.swResidenceLimit v).reg_residenceAll_limit
    have hyoung := fun p hp => (u.setReg Od.swResidenceLimit v).residenceAll_youngAt (p := p) hp
    rw [State.writeResidence_taken u hlow hhigh]
    generalize (u.setReg Od.swResidenceLimit v).residenceAll = t at hreg hyoung
    rw [hlimit] at hreg hyoung
    exact ⟨hreg, rfl, fun id f hf e he hport => hyoung e.port hport id f hf e he rfl⟩

end Sys2Proof.Machine
end

section
set_option Elab.async false
namespace Sys2Proof.Machine

/-! ### O19: writes of the forwarding tables, and the barrier (R118 to R124) -/

/-! #### The keys and defaults of the tables -/

theorem staticEntry_mem {n : Nat} (hn : n < 16384) : 0x221001 ≤ Od.staticEntry n ∧ Od.staticEntry n ≤ 0x2250FF := by
  unfold Od.staticEntry
  omega

theorem not_ownsEntry_of_table {k : Nat} (h : k ≤ 0x2264FF) (n : Nat) : ¬ownsEntry n k := by
  unfold ownsEntry Od.evStatus Od.evLastSet Od.evResets
  omega

theorem odGroup_staticEntry : ∀ i, i < 65 → (odGroup? (0x2210 + i)).map (·.rows) = some odRows2210 := by decide

/-- A static entry that was never written is all zeros (R143). -/
theorem odDefault_staticEntry {n : Nat} (hn : n < 16384) : odDefault (Od.staticEntry n) = 0 := by
  have hindex : Od.staticEntry n / 256 = 0x2210 + n / 255 := by unfold Od.staticEntry; omega
  obtain ⟨g, hg, hrows⟩ := Option.map_eq_some_iff.mp (odGroup_staticEntry (n / 255) (by omega))
  have hrow : ∀ r ∈ odRows2210, r.dflt = 0 := by decide
  unfold odDefault odRow?
  dsimp only
  rw [hindex, hg, if_neg (by simp; omega), if_neg (by simp; omega)]
  dsimp only
  split
  · rw [hrows]
    cases hfind : odRows2210.find? fun r => r.lo ≤ Od.staticEntry n % 256 && Od.staticEntry n % 256 ≤ r.hi with
    | none => rfl
    | some r => exact hrow r (List.mem_of_find?_eq_some hfind)
  · rfl

theorem State.mem_of_only {s t : State} (h : t.only .mem = s.only .mem) : t.mem = s.mem := by
  have hmem := congrArg State.mem h
  exact hmem

section
variable {s : State} {n v : Nat}

/-! #### A write that changes the tables -/

/-- The record of a write that changed the tables: the generation it made, its instant among the recent ones, and the answer. -/
def State.tableNoted (s : State) (g now : Nat) : State :=
  ((s.setReg Od.swTableGeneration g).setSw fun w => { w with
    tableWrites := now :: w.tableWrites.filter fun x => decide (now < x + ofMs 2) }).emit (.status 0 (beBytes 2 g))

theorem State.reg_tableNoted (s : State) (g now k : Nat) :
    (s.tableNoted g now).settle.reg k = (s.setReg Od.swTableGeneration g).reg k := rfl

theorem State.tableNoted_mem (s : State) (g now : Nat) : (s.tableNoted g now).settle.mem = s.mem := rfl

theorem State.told_tableChanged {t : State} {g now : Nat} (hg : t.newGeneration = g) (hnow : t.now = now) :
    t.tableChanged.told = t.tableNoted g now := by
  subst hg hnow
  rfl

theorem State.newGeneration_setReg {k : Nat} (hk : Od.swTableGeneration ≠ k) (x : Nat) : (s.setReg k x).newGeneration = s.newGeneration := by
  unfold State.newGeneration
  rw [State.reg_setReg_ne _ _ hk]

/-- A busy table answers so and keeps its entries. -/
theorem State.tableBusy_spec (s : State) : s.tableBusy.told.out.head? = some (.status 7 []) ∧
    ∀ k, k ≤ 0x2264FF → s.tableBusy.told.reg k = s.reg k :=
  ⟨rfl, fun _ hk => s.reg_setFlag_of_not_owns 33 4 none (not_ownsEntry_of_table hk 33)⟩

/-! #### A static entry -/

/-- What a write may not hold (R118): a KIND or a GROUP out of range, or the key of another valid entry. -/
def State.entryRefused (s : State) (n : Nat) (e : StaticEntry) : Prop :=
  e.kind = 3 ∨ (e.kind = 1 ∧ 1023 < e.group) ∨ (e.valid = true ∧ ∃ r ∈ s.regs, 0x221001 ≤ r.1 ∧ r.1 ≤ 0x2250FF ∧
    r.1 ≠ Od.staticEntry n ∧ (staticEntry r.2).valid = true ∧ (staticEntry r.2).sameKey e = true)

theorem State.writeStatic_same (h : v &&& staticEntryBits = s.reg (Od.staticEntry n) &&& staticEntryBits) :
    s.writeStatic n v = s.ok (beBytes 2 (s.reg Od.swTableGeneration)) := if_pos h

section
variable (hchange : v &&& staticEntryBits ≠ s.reg (Od.staticEntry n) &&& staticEntryBits)
include hchange

theorem State.writeStatic_busy (hbusy : s.tablesBusy = true) : s.writeStatic n v = s.tableBusy := (if_neg hchange).trans (if_pos hbusy)

variable (hfree : s.tablesBusy = false)
include hfree

theorem State.writeStatic_refused (h : s.entryRefused n (staticEntry (v &&& staticEntryBits))) :
    s.writeStatic n v = s.refuse stInvalidValue :=
  (if_neg hchange).trans ((if_neg (by simp [hfree])).trans (if_pos (by
    simpa [State.entryRefused, or_assoc, and_assoc] using h)))

theorem State.writeStatic_taken (h : ¬s.entryRefused n (staticEntry (v &&& staticEntryBits))) : s.writeStatic n v =
    (s.setReg (Od.staticEntry n) ((v &&& staticEntryBits) + s.newGeneration * 2 ^ 112)).tableChanged :=
  (if_neg hchange).trans ((if_neg (by simp [hfree])).trans (if_neg (by
    simpa [State.entryRefused, or_assoc, and_assoc] using h)))

end

/-! #### A multicast group -/

theorem State.writeGroup_taken (hchange : v &&& groupBits ≠ s.reg (Od.mcGroup n) &&& groupBits) (hfree : s.tablesBusy = false) :
    s.writeGroup n v = (s.setReg (Od.mcGroup n) ((v &&& groupBits) + s.newGeneration * 2 ^ 32)).tableChanged :=
  (if_neg hchange).trans (if_neg (by simp [hfree]))

/-! #### CLEAR_TABLES -/

theorem State.clearForwarding_refused (hfree : s.tablesBusy = false) (h : v = 0 ∨ 3 < v) :
    s.clearForwarding v = s.refuse stInvalidValue := (if_neg (by simp [hfree])).trans (if_pos (by simpa using h))

theorem State.reg_each_setReg (l : List (Nat × Nat)) (s : State) (x k : Nat) :
    (s.each l fun e t => t.setReg e.1 x).reg k = if k ∈ l.map (·.1) then x else s.reg k := by
  induction l generalizing s with
  | nil => rfl
  | cons e l ih =>
    refine (ih (s.setReg e.1 x)).trans ?_
    by_cases hk : k = e.1
    · rw [hk, State.reg_setReg_self, ite_self, List.map_cons, if_pos List.mem_cons_self]
    · rw [State.reg_setReg_ne _ _ hk, List.map_cons]
      simp only [List.mem_cons, hk, false_or]

theorem mul_two_pow_and_of_lt {w place : Nat} (h : w < 2 ^ place) (x : Nat) : x * 2 ^ place &&& w = 0 := by
  refine Nat.eq_of_testBit_eq fun i => ?_
  rw [Nat.testBit_and, Nat.testBit_mul_two_pow, Nat.zero_testBit]
  rcases Nat.lt_or_ge i place with hi | hi
  · rw [decide_eq_false (Nat.not_le.mpr hi), Bool.false_and, Bool.false_and]
  · rw [Nat.testBit_eq_false_of_lt (h.trans_le (Nat.pow_le_pow_right two_pos hi)), Bool.and_false]

section
variable {lo hi bits place k : Nat}

theorem State.reg_clearRange_outside (h : k < lo ∨ hi < k) : (s.clearRange lo hi bits place).reg k = s.reg k := by
  have hnot : k ∉ (s.regs.filter fun e => lo ≤ e.1 && e.1 ≤ hi && e.2 &&& bits ≠ 0).map (·.1) := fun hk => by
    obtain ⟨e, he, rfl⟩ := List.mem_map.mp hk
    have hkept := (List.mem_filter.mp he).2
    simp only [Bool.and_eq_true, decide_eq_true_eq] at hkept
    omega
  exact (State.reg_each_setReg ..).trans (if_neg hnot)

/-- An entry of the range has no writable bit left: it is given a value above them, or had none set. -/
theorem State.reg_clearRange_inside (hlo : lo ≤ k) (hhi : k ≤ hi) (hbits : bits < 2 ^ place) (hdefault : odDefault k = 0) :
    (s.clearRange lo hi bits place).reg k &&& bits = 0 := by
  have hreg := State.reg_each_setReg (s.regs.filter fun e => lo ≤ e.1 && e.1 ≤ hi && e.2 &&& bits ≠ 0) s (s.newGeneration * 2 ^ place) k
  rw [State.clearRange, hreg]
  split
  · exact mul_two_pow_and_of_lt hbits _
  · next hnot =>
    unfold State.reg
    cases hfind : Tab.find s.regs k with
    | none => rw [Option.getD_none, hdefault, Nat.zero_and]
    | some x =>
      by_contra hset
      exact hnot (List.mem_map.mpr ⟨(k, x), List.mem_filter.mpr ⟨Tab.mem_of_find hfind, by simpa [hlo, hhi] using hset⟩, rfl⟩)

end

/-- The tables without the entries that the value names (R143). -/
def State.cleared (s : State) (v : Nat) : State :=
  (s.when_ (bit v 0) fun t => t.clearRange 0x221001 0x2250FF staticEntryBits 112).when_ (bit v 1) fun t =>
    t.clearRange 0x226001 0x2264FF groupBits 32

theorem State.clearForwarding_taken (hfree : s.tablesBusy = false) (hlow : 0 < v) (hhigh : v ≤ 3) :
    s.clearForwarding v = (s.cleared v).tableChanged :=
  (if_neg (by simp [hfree])).trans (if_neg (by simp; omega))

theorem State.cleared_only {part : StatePart} (hpart : part ∉ [.regs]) (s : State) (v : Nat) : (s.cleared v).only part = s.only part :=
  (State.when_only (State.clearRange_only hpart ..) _).trans (State.when_only (State.clearRange_only hpart ..) _)

theorem State.cleared_generation (s : State) (v : Nat) : (s.cleared v).newGeneration = s.newGeneration := by
  have hclear (t : State) (b : Bool) (lo hi bits place : Nat) (hlo : Od.swTableGeneration < lo) :
      (t.when_ b fun t => t.clearRange lo hi bits place).reg Od.swTableGeneration = t.reg Od.swTableGeneration := by
    cases b
    · rfl
    · exact State.reg_clearRange_outside (.inl hlo)
  unfold State.newGeneration State.cleared
  rw [hclear _ _ _ _ _ _ (by decide), hclear _ _ _ _ _ _ (by decide)]

theorem State.cleared_staticEntry (s : State) (h : bit v 0 = true) (hn : n < 16384) :
    (s.cleared v).reg (Od.staticEntry n) &&& staticEntryBits = 0 := by
  obtain ⟨hlo, hhi⟩ := staticEntry_mem hn
  have hentry := State.reg_clearRange_inside (s := s) hlo hhi (bits := staticEntryBits) (place := 112) (by decide) (odDefault_staticEntry hn)
  unfold State.cleared
  rw [h]
  cases bit v 1
  · exact hentry
  · exact (congrArg (· &&& staticEntryBits) (State.reg_clearRange_outside (.inl (by omega)))).trans hentry

/-! #### Generations and barriers -/

/-- A generation is older than those that come up to 32,767 after it. -/
theorem olderGen_iff {x y : Nat} (hx : x < 2 ^ 16) (hy : y < 2 ^ 16) :
    olderGen x y = true ↔ ∃ d, 1 ≤ d ∧ d ≤ 32767 ∧ y = (x + d) % 2 ^ 16 := by
  simp only [olderGen, Bool.and_eq_true, decide_eq_true_eq]
  refine ⟨fun ⟨hlow, hhigh⟩ => ⟨(y + 2 ^ 16 - x) % 2 ^ 16, hlow, hhigh, by omega⟩, fun ⟨d, hlow, hhigh, hd⟩ => ?_⟩
  have hdist : (y + 2 ^ 16 - x) % 2 ^ 16 = d := by omega
  omega

/-- The barriers that go on waiting are those for which an older frame is left. -/
theorem State.barrierOver_sw (s : State) : s.barrierOver.sw.barriers = s.sw.barriers.filter s.olderFrames ∧
    s.barrierOver.sw.frames = s.sw.frames := by
  unfold State.barrierOver
  dsimp only
  split
  · next hnone =>
    have hall : s.sw.barriers.filter s.olderFrames = s.sw.barriers := by simpa using hnone
    exact ⟨hall.symm, rfl⟩
  · rw [State.setFlag_sw]
    exact ⟨rfl, rfl⟩

theorem State.barrierOver_of_waiting (h : ∀ g ∈ s.sw.barriers, s.olderFrames g = true) : s.barrierOver = s :=
  if_pos (by simpa using h)

theorem State.writeBarrier_refused {g : Nat} (h : 2 ^ 16 ≤ g ∨ olderGen (s.reg Od.swTableGeneration) g = true) :
    s.writeBarrier g = s.refuse stInvalidValue := if_pos (by simpa using h)

theorem State.writeBarrier_taken {g : Nat} (hg : g < 2 ^ 16) (hissued : olderGen (s.reg Od.swTableGeneration) g = false) :
    s.writeBarrier g = (s.setSw fun w => { w with barriers := w.barriers ++ [g] }).barrierOver.ok :=
  if_neg (by simpa [hissued] using hg)

end

/-- Settles O19: each write by its lemma above; what it changes is told the same way for every table. -/
theorem tableWritesAndTheirGeneration : Obligations.TableWritesAndTheirGeneration := by
  unfold Obligations.TableWritesAndTheirGeneration
  refine ⟨fun s u a v hpower hu => ?_, fun x y => olderGen_iff, fun s u a g hpower hu => ?_⟩
  · have hregs : s.regs = u.regs := hu ▸ (s.arrive_regs a).symm
    have hreg (k : Nat) : s.reg k = u.reg k := hu ▸ (s.arrive_reg a k).symm
    have hmem : s.mem = u.mem := hu ▸ (s.arrive_mem a).symm
    have hgen : (u.reg Od.swTableGeneration + 1) % 2 ^ 16 = u.newGeneration := rfl
    have hclear := exec_clearTables s a v
    simp only [hregs, hreg, hmem, hgen]
    refine ⟨fun n hn => ?_, fun n hn hchange hfree => ?_, fun hfree hv => ?_, fun hfree hlow hhigh => ?_⟩
    · have hwrite := exec_staticEntryWrite s a n v
      have hn' : decide (n < 16384) = true := decide_eq_true hn
      obtain ⟨hlo, hhi⟩ := staticEntry_mem hn
      refine ⟨fun hsame => does_of_act hwrite hn' hpower hu ?_, fun hchange hbusy => yields_of_act hwrite hn' hpower hu ?_,
        fun hchange hfree hrefused => does_of_act hwrite hn' hpower hu ?_,
        fun hchange hfree hkind hgroup hkey => does_of_act hwrite hn' hpower hu ?_⟩
      · rw [State.writeStatic_same (not_not.mp hsame)]
        rfl
      · obtain ⟨hout, hkeep⟩ := u.tableBusy_spec
        rw [State.writeStatic_busy hchange hbusy]
        exact ⟨hout, fun m hm => hkeep _ ((staticEntry_mem hm).2.trans (by decide))⟩
      · rw [State.writeStatic_refused hchange hfree hrefused]
        rfl
      · rw [State.writeStatic_taken hchange hfree fun hrefused => hrefused.elim hkind fun h => h.elim hgroup hkey]
        exact State.told_tableChanged (State.newGeneration_setReg (by unfold Od.swTableGeneration; omega) _)
          (State.now_of_only (State.setReg_only (by decide) ..))
    · refine does_of_act (exec_multicastGroupWrite s a n v) (decide_eq_true hn) hpower hu ?_
      rw [State.writeGroup_taken hchange hfree]
      exact State.told_tableChanged (State.newGeneration_setReg (by unfold Od.swTableGeneration Od.mcGroup; omega) _)
        (State.now_of_only (State.setReg_only (by decide) ..))
    · exact does_of_act hclear rfl hpower hu (by rw [State.clearForwarding_refused hfree hv]; rfl)
    · refine yields_of_act hclear rfl hpower hu ?_
      rw [State.clearForwarding_taken hfree hlow hhigh, State.told_tableChanged (u.cleared_generation v) rfl]
      refine ⟨?_, rfl, ?_, fun hbit _ n hn => ?_⟩
      · rw [State.reg_tableNoted, State.reg_setReg_self]
      · rw [State.tableNoted_mem, State.mem_of_only (State.cleared_only (by decide) ..)]
      · obtain ⟨hlo, -⟩ := staticEntry_mem hn
        rw [State.reg_tableNoted, State.reg_setReg_ne _ _ (by unfold Od.swTableGeneration; omega)]
        exact u.cleared_staticEntry hbit hn
  · have hreg : s.reg Od.swTableGeneration = u.reg Od.swTableGeneration := hu ▸ (s.arrive_reg a _).symm
    have hsw : s.sw = u.sw := hu ▸ (State.arrive_eq (·.sw) (fun _ => rfl) a).symm
    have holder (g : Nat) : s.olderFrames g = u.olderFrames g := by rw [State.olderFrames, hsw, State.olderFrames]
    have hwrite := exec_tableBarrier s a g
    have hdone := exec_barrierDone s a
    rw [hreg, hsw, funext holder]
    refine ⟨fun hrefused => does_of_act hwrite rfl hpower hu (by rw [State.writeBarrier_refused hrefused]; rfl),
      fun hg hissued => yields_of_act hwrite rfl hpower hu ?_, yields_of_act hdone rfl hpower hu ?_,
      fun hwait => does_of_act hdone rfl hpower hu (State.barrierOver_of_waiting hwait)⟩
    · rw [State.writeBarrier_taken hg hissued]
      obtain ⟨hbarriers, hframes⟩ := (u.setSw fun w => { w with barriers := w.barriers ++ [g] }).barrierOver_sw
      refine ⟨rfl, (iff_of_eq (congrArg (g ∈ ·) hbarriers)).trans ?_, hframes⟩
      simp [State.olderFrames, State.setSw]
    · exact u.barrierOver_sw

end Sys2Proof.Machine
end

section
set_option Elab.async false
namespace Sys2Proof.Machine

/-! ### O22: the judgement of sequence numbers (R137) -/

theorem getD_set_same {α : Type} {l : List α} {k : Nat} (h : k < l.length) (x d : α) : (l.set k x).getD k d = x := by
  rw [List.getD_eq_getElem?_getD, List.getElem?_set_self h, Option.getD_some]

/-- An entry of the source table put first. -/
def State.putSource (s : State) (e : SrcEntry) (rest : List SrcEntry) : State := s.setSw fun w => { w with sources := e :: rest }

/-- An entry that starts with a number, marked for one purpose. -/
def SrcEntry.started (e : SrcEntry) (n k now : Nat) (proxied : Bool) : SrcEntry :=
  { e with top := n, windows := [0, 0, 0].set k 1, lastAccept := now, forgotten := false, proxied := proxied, fresh := false }

/-- An entry whose TOP has moved on by `d` to a number, marked for one purpose. -/
def SrcEntry.advanced (e : SrcEntry) (n k d now : Nat) : SrcEntry :=
  let ws := shiftWindows e.windows d
  { e with top := n, windows := ws.set k (setBit (ws.getD k 0) 0 true), lastAccept := now }

/-- An entry with the number `back` behind TOP marked for one purpose. -/
def SrcEntry.marked (e : SrcEntry) (k back now : Nat) : SrcEntry :=
  { e with windows := e.windows.set k (setBit (e.windows.getD k 0) back true), lastAccept := now }

section
variable {e : SrcEntry} {k : Nat}

theorem SrcEntry.started_mark (hk : k < 3) (n now : Nat) (proxied : Bool) : (e.started n k now proxied).windows.getD k 0 = 1 :=
  getD_set_same (l := [0, 0, 0]) hk 1 0

theorem SrcEntry.advanced_mark (hk : k < e.windows.length) (n d now : Nat) : bit ((e.advanced n k d now).windows.getD k 0) 0 = true := by
  have hlength : k < (shiftWindows e.windows d).length := by rwa [shiftWindows, List.length_map]
  rw [SrcEntry.advanced, getD_set_same hlength, bit_setBit, if_pos rfl]

theorem SrcEntry.marked_mark (hk : k < e.windows.length) (back now : Nat) : bit ((e.marked k back now).windows.getD k 0) back = true := by
  rw [SrcEntry.marked, getD_set_same hk, bit_setBit, if_pos rfl]

end

/-- A counter of a group does not lie among the source's own entries. -/
theorem not_ownsEntry_of_sepCnt {sub : Nat} (g : Nat) (hsub : sub < 256 ∧ sub ≠ 1 ∧ sub ≠ 3 ∧ sub ≠ 8) (n : Nat) :
    ¬ownsEntry n ((0x2330 + g) * 256 + sub) := by
  unfold ownsEntry Od.evStatus Od.evLastSet Od.evResets
  omega

section
variable {s : State} {g mac n k : Nat}

/-- A count of the separator with its flag. -/
theorem State.reg_sepCount_sepFlag (s : State) {key : Nat} (h : ¬ownsEntry 34 key) (flag : Nat) :
    ((s.sepCount key).sepFlag flag).reg key = (s.reg key + 1) % 2 ^ 32 :=
  (State.reg_setFlag_of_not_owns _ _ _ _ h).trans (State.reg_countEv_self _ _ _ h)

theorem State.sepCount_sepFlag_sw (s : State) (key flag : Nat) : ((s.sepCount key).sepFlag flag).sw = s.sw :=
  (State.sw_of_only (State.sepFlag_only (by decide) ..)).trans (State.sw_of_only (State.sepCount_only (by decide) ..))

theorem State.judge_of_full (h : s.sourceEntry g mac = none) : s.judge g mac n k = ⟨(s.sepCount (Od.sepCntTableFull g)).sepFlag 1, true⟩ := by
  unfold State.judge
  rw [h]

variable {e : SrcEntry} {rest : List SrcEntry} (hentry : s.sourceEntry g mac = some (e, rest))
include hentry

/-- A source that has judged nothing, or is forgotten, starts with this number. -/
theorem State.judge_anew (h : e.fresh = true ∨ s.entryForgotten e = true) : s.judge g mac n k =
    ⟨s.putSource (e.started n k s.now (e.proxied && !s.entryForgotten e)) rest, true⟩ := by
  unfold State.judge
  rw [hentry]
  exact if_pos (by simpa using h)

section
variable (hfresh : e.fresh = false) (hknown : s.entryForgotten e = false)
include hfresh hknown

/-- A number up to 32,767 ahead becomes TOP, and the windows move on. -/
theorem State.judge_ahead (hlow : 1 ≤ (n + 2 ^ 16 - e.top) % 2 ^ 16) (hhigh : (n + 2 ^ 16 - e.top) % 2 ^ 16 ≤ 32767) : s.judge g mac n k =
    ⟨s.putSource (e.advanced n k ((n + 2 ^ 16 - e.top) % 2 ^ 16) s.now) rest, true⟩ := by
  unfold State.judge
  rw [hentry]
  dsimp only
  rw [if_neg (by simp [hfresh, hknown]), if_pos (by simpa using ⟨hlow, hhigh⟩)]
  rfl

variable (hbehind : ¬(1 ≤ (n + 2 ^ 16 - e.top) % 2 ^ 16 ∧ (n + 2 ^ 16 - e.top) % 2 ^ 16 ≤ 32767))
include hbehind

/-- A number in the window is judged by its mark. -/
theorem State.judge_window (hback : (e.top + 2 ^ 16 - n) % 2 ^ 16 < 64) : s.judge g mac n k =
    if bit (e.windows.getD k 0) ((e.top + 2 ^ 16 - n) % 2 ^ 16) then ⟨s.putSource e rest, false⟩
    else ⟨s.putSource (e.marked k ((e.top + 2 ^ 16 - n) % 2 ^ 16) s.now) rest, true⟩ := by
  unfold State.judge
  rw [hentry]
  dsimp only
  rw [if_neg (by simp [hfresh, hknown]), if_neg (by simpa using hbehind), if_pos hback]
  rfl

/-- An older number is accepted and counted. -/
theorem State.judge_outside (hback : 64 ≤ (e.top + 2 ^ 16 - n) % 2 ^ 16) : s.judge g mac n k =
    ⟨((s.putSource { e with lastAccept := s.now } rest).sepCount (Od.sepCntOutOfWindow g)).sepFlag 4, true⟩ := by
  unfold State.judge
  rw [hentry]
  dsimp only
  rw [if_neg (by simp [hfresh, hknown]), if_neg (by simpa using hbehind), if_neg (by omega)]
  rfl

end

end

/-! #### ENTRY_FORGET and LAN_SILENT (R139, R141) -/

section
variable (s : State) (g mac : Nat)

theorem State.forgetEntry_spec : (s.forgetEntry g mac).sw.sources.length = s.sw.sources.length ∧
    ∀ e ∈ (s.forgetEntry g mac).sw.sources, e.group = g → e.mac = mac → e.lastAccept + ofMs (s.reg Od.sepEntryForgetTime) ≤ s.now →
      e.forgotten = true ∧ e.proxied = false := by
  refine ⟨List.length_map .., fun e he hgroup hmac hpassed => ?_⟩
  obtain ⟨x, -, hx⟩ := List.mem_map.mp he
  split at hx
  · subst hx
    exact ⟨rfl, rfl⟩
  · next hkept =>
    subst hx
    simp [hgroup, hmac, State.entryForgotten, hpassed] at hkept

/-- The groups that are silent, after one of them is looked at. -/
def State.silentAfter (s : State) (g : Nat) : List Nat :=
  if s.isSilent g then (if s.sw.silent.contains g then s.sw.silent else s.sw.silent ++ [g]) else s.sw.silent.filter (· ≠ g)

theorem State.mem_silentAfter : g ∈ s.silentAfter g ↔ s.isSilent g = true := by
  unfold State.silentAfter
  split
  · split <;> simp_all
  · simp_all

/-- The list is kept, then the flag told; a group that joins others raises it anew. -/
theorem State.lanSilence_eq : ∃ t : State, s.lanSilence g = t.stand 34 2 (!(s.silentAfter g).isEmpty) (some (maskOf (s.silentAfter g))) ∧
    t.sw.silent = s.silentAfter g ∧ t.power = s.power := by
  refine ⟨_, rfl, congrArg Switch.silent (State.sw_of_only (State.ite_only (State.sepFlag_only (by decide) ..) rfl)),
    State.power_of_only (State.ite_only (State.sepFlag_only (by decide) ..) rfl)⟩

theorem State.lanSilence_spec : (s.lanSilence g).sw.silent = s.silentAfter g ∧
    (s.sourceUp 34 = true → bit ((s.lanSilence g).reg (Od.evStatus 34)) 2 = !(s.silentAfter g).isEmpty) := by
  obtain ⟨t, ht, hsilent, hpower⟩ := s.lanSilence_eq g
  rw [ht]
  refine ⟨by rw [State.stand_sw, hsilent], fun hup => State.bit_stand_iff (by decide) ?_ _ _⟩
  rwa [State.sourceUp, hpower]

end

/-! #### A frame of the module's own that a class queue takes (R90, R109, R114) -/

section
variable {s t : State} {p : Nat}

/-- What admission reads of a link (R103). -/
theorem State.linkRead_of_same (hpending : t.pending = s.pending) (hnow : t.now = s.now) (hline : t.line p = s.line p)
    (hrole : t.reg (Od.portRole p) = s.reg (Od.portRole p)) (hhold : t.reg (Od.portLinkUpHold p) = s.reg (Od.portLinkUpHold p)) :
    t.linkRead p = s.linkRead p := by
  have hup := congrArg Port.linkUp hline
  have hretired := congrArg Port.retired hline
  have hduplex := congrArg Port.duplexHeld hline
  have hlost := congrArg Port.pcsLostAt hline
  simp only [State.line, Port.line] at hup hretired hduplex hlost
  simp only [State.linkRead, State.sameCycle, State.mayRise, hpending, hnow, hup, hretired, hduplex, hlost, hrole, hhold]

theorem State.linkRead_of_only (hpending : t.only .pending = s.only .pending) (htime : t.only .time = s.only .time)
    (hports : t.only .ports = s.only .ports) (hregs : t.only .regs = s.only .regs) : t.linkRead p = s.linkRead p :=
  State.linkRead_of_same (State.pending_of_only hpending) (State.now_of_only htime) (State.line_of_only hports p)
    (State.reg_of_only hregs _) (State.reg_of_only hregs _)

/-- A count of a port leaves every link as admission reads it. -/
theorem State.countPort_linkRead (hp : p < 32) (s : State) (q sub by_ : Nat) : (s.countPort q sub by_).linkRead p = s.linkRead p := by
  have hreg {k : Nat} (hk : k < 0x202000) : (s.countPort q sub by_).reg k = s.reg k :=
    State.reg_countPort_ne _ _ (by omega) (by unfold Od.cntHalfRangeMap; omega)
      (by unfold ownsEntry Od.evStatus Od.evLastSet Od.evResets; omega)
  exact State.linkRead_of_same (State.pending_of_only (State.countPort_only (by decide) ..))
    (State.now_of_only (State.countPort_only (by decide) ..)) (s.countPort_line ..) (hreg (by unfold Od.portRole; omega))
    (hreg (by unfold Od.portLinkUpHold; omega))

end

/-- Take in the cells of one frame to one destination (R109). -/
def Admission.take (n : Nat) (a : Admission) (d : Dest) : Admission :=
  match a.state.sw.admits (a.state.linkRead d.port) (a.state.reg (Od.swPortAlpha d.port d.cls)) d.port d.cls n with
  | .linkDown => { a with state := a.state.countPort d.port 0x27 }
  | .overflow => { a with overflowed := a.overflowed ++ [d.port] }
  | .admitted =>
    { a with state := { a.state with sw := if a.admitted.isEmpty then
                          { a.state.sw.charge d.port d.cls n with free := (a.state.sw.charge d.port d.cls n).free - n }
                        else a.state.sw.charge d.port d.cls n }
             admitted := a.admitted ++ [d] }

theorem State.admitCopies_eq (s : State) (n : Nat) (dests : List Dest) : s.admitCopies n dests = dests.foldl (Admission.take n) ⟨s, [], []⟩ := rfl

section
variable (a : Admission) (n : Nat) (d : Dest)

/-- One destination counts at its port, or joins those overflowed, or is charged and joins those admitted. -/
theorem Admission.take_cases : ((a.take n d).state = a.state.countPort d.port 0x27 ∧ (a.take n d).admitted = a.admitted) ∨
    ((a.take n d).state = a.state ∧ (a.take n d).admitted = a.admitted) ∨
    ((∃ free, (a.take n d).state = { a.state with sw := { a.state.sw.charge d.port d.cls n with free := free } }) ∧
      (a.take n d).admitted = a.admitted ++ [d]) := by
  unfold Admission.take
  split
  · exact .inl ⟨rfl, rfl⟩
  · exact .inr (.inl ⟨rfl, rfl⟩)
  · refine .inr (.inr ⟨?_, rfl⟩)
    dsimp only
    split
    · exact ⟨_, rfl⟩
    · exact ⟨_, rfl⟩

theorem Admission.take_nextId : (a.take n d).state.sw.nextId = a.state.sw.nextId := by
  rcases a.take_cases n d with ⟨hstate, -⟩ | ⟨hstate, -⟩ | ⟨⟨free, hstate⟩, -⟩
  · rw [hstate, State.countPort_sw]
  · rw [hstate]
  · rw [hstate]
    rfl

theorem Admission.take_linkRead {p : Nat} (hp : p < 32) : (a.take n d).state.linkRead p = a.state.linkRead p := by
  rcases a.take_cases n d with ⟨hstate, -⟩ | ⟨hstate, -⟩ | ⟨⟨free, hstate⟩, -⟩
  · rw [hstate, State.countPort_linkRead hp]
  · rw [hstate]
  · rw [hstate]
    rfl

theorem Admission.take_keeps {x : Dest} (h : x ∈ a.admitted) : x ∈ (a.take n d).admitted := by
  rcases a.take_cases n d with ⟨-, hadmitted⟩ | ⟨-, hadmitted⟩ | ⟨-, hadmitted⟩
  · rwa [hadmitted]
  · rwa [hadmitted]
  · rw [hadmitted]
    exact List.mem_append_left _ h

/-- The account of another class queue stays. -/
theorem Admission.take_account {port cls : Nat} (h : port * 8 + cls ≠ d.port * 8 + d.cls) :
    (a.take n d).state.sw.account port cls = a.state.sw.account port cls := by
  rcases a.take_cases n d with ⟨hstate, -⟩ | ⟨hstate, -⟩ | ⟨⟨free, hstate⟩, -⟩
  · rw [hstate, State.countPort_sw]
  · rw [hstate]
  · rw [hstate]
    exact Tab.look_put_ne _ _ _ h

variable {a n d}

theorem Admission.take_self (hup : a.state.linkRead d.port = true) (hroom : a.state.sw.account d.port d.cls + n ≤ 8) :
    d ∈ (a.take n d).admitted := by
  unfold Admission.take
  rw [hup, Switch.admits_guaranteed hroom]
  exact List.mem_append_right _ List.mem_cons_self

/-- Of destinations with a class queue each, one within its guarantee is admitted whatever becomes of the others. -/
theorem Admission.mem_foldl_take (hp : d.port < 32) {l : List Dest} (hapart : ∀ x ∈ l, d.port * 8 + d.cls = x.port * 8 + x.cls → x = d)
    (hup : a.state.linkRead d.port = true)
    (h : d ∈ a.admitted ∨ d ∈ l ∧ a.state.sw.account d.port d.cls + n ≤ 8) : d ∈ (l.foldl (Admission.take n) a).admitted := by
  induction l generalizing a with
  | nil => exact h.resolve_right fun h => List.not_mem_nil h.1
  | cons x l ih =>
    refine ih (fun y hy => hapart y (List.mem_cons_of_mem x hy)) ((a.take_linkRead n x hp).trans hup) ?_
    rcases h with hin | ⟨hmem, hroom⟩
    · exact .inl (a.take_keeps n x hin)
    · by_cases hx : x = d
      · subst hx
        exact .inl (Admission.take_self hup hroom)
      · have hother := fun hkey => hx (hapart x List.mem_cons_self hkey)
        exact .inr ⟨(List.mem_cons.mp hmem).resolve_left (Ne.symm hx), by rwa [a.take_account n x hother]⟩

theorem Admission.foldl_take_nextId (n : Nat) (l : List Dest) (a : Admission) :
    (l.foldl (Admission.take n) a).state.sw.nextId = a.state.sw.nextId :=
  List.foldlRecOn (motive := fun x : Admission => x.state.sw.nextId = a.state.sw.nextId) _ _ rfl fun x hx d _ => (x.take_nextId n d).trans hx

end

section
variable {s : State}

theorem State.takeSeqs_nextId (s : State) (dests : List Dest) : (s.takeSeqs dests).1.sw.nextId = s.sw.nextId := by
  refine List.foldlRecOn (motive := fun x : State × List (Nat × Nat) => x.1.sw.nextId = s.sw.nextId) _ _ rfl fun x hx g _ => ?_
  split
  · exact hx
  · exact hx

/-- A frame with a destination is stored under the next identity. -/
theorem State.find_enqueue {dests : List Dest} (h : dests ≠ []) (f : SwFrame) :
    ∃ x, Tab.find (s.enqueue f dests).sw.frames s.sw.nextId = some x ∧ x.frame = f.frame ∧ x.ingress = f.ingress := by
  unfold State.enqueue
  rw [if_neg (by simpa using h)]
  exact ⟨_, Tab.find_insert_self .., rfl, rfl⟩

/-- The ports whose frame limit a frame of the module's own exceeds as it would be sent (R81). -/
def State.tooLongFor (s : State) (f : Frame) (ports : List Nat) : List Nat :=
  ports.filter fun p => s.linkRead p && s.reg (Od.portFrameLimit p) < f.len + (if (s.groupOf p).isSome then 6 else 0)

/-- The class queues that an untagged frame of the module's own is put to, at given ports. -/
def State.ownDests (s : State) (f : Frame) (ports : List Nat) : List Dest :=
  ((s.widen ports).filter fun p => !(s.tooLongFor f (s.widen ports)).contains p).map fun p => ⟨p, 0, false, false⟩

/-- What its admission comes to. -/
def State.ownAdmission (s : State) (f : Frame) (ports : List Nat) : Admission :=
  ((s.useMemory (cellsOf f.len)).each (s.tooLongFor f (s.widen ports)) fun p t => t.countPort p 0x24).admitCopies (cellsOf f.len)
    (s.ownDests f ports)

variable {f : Frame} {ports : List Nat} {p : Nat}

theorem State.ownAdmission_nextId : (s.ownAdmission f ports).state.sw.nextId = s.sw.nextId := by
  rw [State.ownAdmission, State.admitCopies_eq, Admission.foldl_take_nextId,
    State.sw_of_only (State.each_only (fun _ _ => State.countPort_only (by decide) ..) ..)]
  rfl

/-- An untagged frame of the module's own that the separator sees is stored with the queues that admitted it. -/
theorem State.sendOwn_eq (htag : f.tag = none) (hptp : f.etherType ≠ 0x88F7) (owner : Option Nat) (tag : Nat) (ptp : Option PtpTx) :
    ∃ (v : State) (x : SwFrame), (s.sendOwn f (some ports) owner tag ptp).state = v.enqueue x (s.ownAdmission f ports).admitted ∧
      v.sw.nextId = s.sw.nextId ∧ x.frame = f ∧ x.ingress = none := by
  unfold State.sendOwn
  dsimp only
  rw [htag, decide_eq_false hptp]
  refine ⟨_, _, rfl, ?_, rfl, rfl⟩
  rw [State.takeSeqs_nextId, State.sw_of_only (State.each_only (fun _ _ => State.overflowDrop_only (by decide) ..) ..)]
  exact State.ownAdmission_nextId

theorem State.mem_widen (hp : p < 32) (hmem : p ∈ ports) : p ∈ s.widen ports :=
  List.mem_filter.mpr ⟨List.mem_range.mpr hp, by simp [hmem]⟩

theorem State.mem_ownDests (hp : p < 32) (hmem : p ∈ ports) (hlimit : f.len + 6 ≤ s.reg (Od.portFrameLimit p)) :
    (⟨p, 0, false, false⟩ : Dest) ∈ s.ownDests f ports := by
  have hfits : p ∉ s.tooLongFor f (s.widen ports) := fun hlong => by
    have hover := (List.mem_filter.mp hlong).2
    simp only [Bool.and_eq_true, decide_eq_true_eq] at hover
    split at hover <;> omega
  exact List.mem_map_of_mem (List.mem_filter.mpr ⟨State.mem_widen hp hmem, by simpa using hfits⟩)

/-- A port that is up, with the frame within its limit and within the guarantee of its class, admits it. -/
theorem State.mem_ownAdmission (hp : p < 32) (hmem : p ∈ ports) (hup : s.linkRead p = true)
    (hlimit : f.len + 6 ≤ s.reg (Od.portFrameLimit p)) (hroom : s.sw.account p 0 + cellsOf f.len ≤ 8) :
    (⟨p, 0, false, false⟩ : Dest) ∈ (s.ownAdmission f ports).admitted := by
  refine Admission.mem_foldl_take hp (fun x hx hkey => ?_) ?_ (.inr ⟨State.mem_ownDests hp hmem hlimit, ?_⟩)
  · obtain ⟨q, -, rfl⟩ := List.mem_map.mp hx
    have hq : p = q := by simpa using hkey
    rw [hq]
  · exact State.each_keeps (P := fun t => t.linkRead p = true) (fun q t ht => (State.countPort_linkRead hp t q _ _).trans ht) _ hup
  · rw [State.sw_of_only (State.each_only (fun _ _ => State.countPort_only (by decide) ..) ..)]
    exact hroom

/-! #### SUPERVISION_FRAME_SEND (R136, R141) -/

theorem State.supervise_of_off {g : Nat} (h : s.groupKind g = 0) : s.supervise g = s := if_pos h

/-- A supervision frame of a group. -/
def State.supervisionFrame (s : State) (g : Nat) : Frame :=
  { dst := 0x01154E000100 + s.reg Od.sepSupervisionAddrLsb, src := s.groupMac g, tag := none, etherType := 0x88FB
    appid := 0, hsr := none, prp := none, len := 64, body := beBytes 6 (s.groupMac g) }

theorem State.supervisionFrame_etherType (s : State) (g : Nat) : (s.supervisionFrame g).etherType = 0x88FB := rfl

theorem State.supervisionFrame_len (s : State) (g : Nat) : (s.supervisionFrame g).len = 64 := rfl

theorem State.supervise_of_on {g : Nat} (h : s.groupKind g ≠ 0) :
    s.supervise g = (s.sendOwn (s.supervisionFrame g) (some (s.groupPorts g)) none 0 none).state := if_neg h

/-- A supervision frame is stored where PORT_A takes it. -/
theorem State.find_supervise {g : Nat} (hkind : s.groupKind g ≠ 0) (hp : s.reg (Od.sepGroupPortA g) < 32)
    (hup : s.linkRead (s.reg (Od.sepGroupPortA g)) = true) (hlimit : 70 ≤ s.reg (Od.portFrameLimit (s.reg (Od.sepGroupPortA g))))
    (hroom : s.sw.account (s.reg (Od.sepGroupPortA g)) 0 < 8) :
    ∃ x, Tab.find (s.supervise g).sw.frames s.sw.nextId = some x ∧ x.frame = s.supervisionFrame g ∧ x.ingress = none := by
  obtain ⟨v, x, hsent, hid, hframe, hingress⟩ := State.sendOwn_eq (s := s) (f := s.supervisionFrame g) (ports := s.groupPorts g) rfl
    (by rw [State.supervisionFrame_etherType]; decide) none 0 none
  have hmem := State.mem_ownAdmission (f := s.supervisionFrame g) (ports := s.groupPorts g) hp List.mem_cons_self hup hlimit
    (by rw [State.supervisionFrame_len]; exact hroom)
  obtain ⟨y, hy, hyframe, hyingress⟩ := v.find_enqueue (List.ne_nil_of_mem hmem) x
  rw [State.supervise_of_on hkind, hsent, ← hid]
  exact ⟨y, hy, hyframe.trans hframe, hyingress.trans hingress⟩

end

/-- Settles O22: each judgement by its lemma above, and the two commands of the separator's times. -/
theorem duplicateJudgement : Obligations.DuplicateJudgement := by
  unfold Obligations.DuplicateJudgement
  refine ⟨fun s g mac n k e rest hn hk htop hwindows hentry => ?_, fun s g mac n k hfull => ?_, fun s u a g mac hpower hg hu => ?_⟩
  · have hwindow : k < e.windows.length := hwindows ▸ hk
    refine ⟨fun hnew => ?_, fun hfresh hknown => ⟨fun hlow hhigh => ?_, fun hback hseen => ?_, fun hback hunseen => ?_,
      fun hahead hback => ?_⟩⟩
    · rw [State.judge_anew hentry hnew]
      exact ⟨rfl, _, rfl, rfl, SrcEntry.started_mark hk .., rfl⟩
    · rw [State.judge_ahead hentry hfresh hknown hlow hhigh]
      exact ⟨rfl, _, rfl, rfl, SrcEntry.advanced_mark hwindow .., rfl⟩
    · rw [State.judge_window hentry hfresh hknown (by omega) hback, if_pos hseen]
      exact ⟨rfl, rfl⟩
    · rw [State.judge_window hentry hfresh hknown (by omega) hback, if_neg (Bool.eq_false_iff.mp hunseen)]
      exact ⟨rfl, _, rfl, rfl, SrcEntry.marked_mark hwindow ..⟩
    · rw [State.judge_outside hentry hfresh hknown (by omega) hback]
      refine ⟨rfl, State.reg_sepCount_sepFlag _ (not_ownsEntry_of_sepCnt g (by decide) 34) 4, ?_⟩
      rw [State.sepCount_sepFlag_sw]
      exact ⟨_, rfl, rfl⟩
  · rw [State.judge_of_full hfull]
    exact ⟨rfl, State.sepCount_sepFlag_sw .., State.reg_sepCount_sepFlag _ (not_ownsEntry_of_sepCnt g (by decide) 34) 1⟩
  · have same {α : Type} (f : State → α) (hf : ∀ t, f (s.setNow t) = f s) : f s = f u := hu ▸ (State.arrive_eq f hf a).symm
    have hreg (k : Nat) := same (·.reg k) fun _ => rfl
    have hsw := same (·.sw) fun _ => rfl
    have hup := same (·.sourceUp 34) fun _ => rfl
    have hkind := same (·.groupKind g) fun _ => rfl
    have hmac := same (·.groupMac g) fun _ => rfl
    have hn : decide (g < 16) = true := decide_eq_true hg
    have hsend := exec_supervisionFrameSend s a g
    simp only [hreg, hsw, hup, hkind, hmac]
    refine ⟨yields_of_act (exec_entryForget s a g mac) hn hpower hu (u.forgetEntry_spec g mac),
      yields_of_act (exec_lanSilent s a g) hn hpower hu ?_,
      fun hoff => does_of_act hsend hn hpower hu (State.supervise_of_off hoff),
      fun hon hp hlink hlimit hroom => yields_of_act hsend hn hpower hu ?_⟩
    · obtain ⟨hsilent, hflag⟩ := u.lanSilence_spec g
      have hlist : (u.lanSilence g).settle.sw.silent = u.silentAfter g := hsilent
      rw [hlist]
      exact ⟨u.mem_silentAfter g, hflag⟩
    · obtain ⟨x, hfound, hframe, hingress⟩ := State.find_supervise hon hp hlink hlimit hroom
      exact ⟨x, hfound, by rw [hframe]; rfl, by rw [hframe]; rfl, hingress⟩

end Sys2Proof.Machine
end

section
set_option Elab.async false
namespace Sys2Proof.Machine

/-! ### The status word of a slot (R162, R163) -/

theorem b2n_le (b : Bool) : b2n b ≤ 1 := by cases b <;> decide

/-- A slot's status as R163 allows it: bit 15 clear, VALIDITY not the reserved code 2, and an INVALID slot of value 0 with a cause, MISSING
or SHED. -/
def Slot.Legal (y : Slot) : Prop :=
  y.status < 2 ^ 15 ∧ y.status % 4 ≠ 2 ∧
    (y.status % 4 = 1 → y.value = 0 ∧ (field y.status 8 2 = 2 ∨ field y.status 8 2 = 3)) ∧
    (y.status % 4 ≠ 1 → field y.status 8 2 = 0)

/-- The bits that a used sample can set: 2 to 6. -/
def InSampleBits (b : Nat) : Prop := b % 4 = 0 ∧ b < 128

theorem inSampleBits_or {a b : Nat} (ha : InSampleBits a) (hb : InSampleBits b) : InSampleBits (a ||| b) := by
  refine ⟨?_, Nat.or_lt_two_pow (n := 7) ha.2 hb.2⟩
  have hlow : (a ||| b) % 2 ^ 2 = a % 2 ^ 2 ||| b % 2 ^ 2 := Nat.or_mod_two_pow
  rw [show 2 ^ 2 = 4 from rfl, ha.1, hb.1] at hlow
  exact hlow

theorem inSampleBits_foldl {l : List Used} (hl : ∀ x ∈ l, InSampleBits x.bits) :
    InSampleBits (l.foldl (fun b x => b ||| x.bits) 0) :=
  List.foldlRecOn (motive := InSampleBits) _ _ ⟨rfl, by decide⟩ fun _ hb x hx => inSampleBits_or hb (hl x hx)

section
variable (s cfg : State) (c n i j : Nat)

theorem State.usedPresent_bits (r : RawSample) (v : Sample) : InSampleBits (cfg.usedPresent c r v).bits := by
  have hparts (w x y z : Bool) : InSampleBits (8 * b2n w + 16 * b2n x + 32 * b2n y + 64 * b2n z) := by
    have hw := b2n_le w
    have hx := b2n_le x
    have hy := b2n_le y
    have hz := b2n_le z
    unfold InSampleBits
    omega
  exact hparts ..

theorem State.usedSample_bits {x : Used} (h : s.usedSample cfg c n i j = some x) : InSampleBits x.bits := by
  unfold State.usedSample at h
  split at h
  · cases h
    exact cfg.usedPresent_bits c ..
  · split at h
    · cases h
      exact inSampleBits_or (inSampleBits_or ⟨rfl, by decide⟩ (cfg.usedPresent_bits c ..)) (cfg.usedPresent_bits c ..)
    · cases h

/-- The bits that do not depend on the samples: 7, and 11 to 14. -/
theorem State.standingBits_eq : ∃ t w, t ≤ 1 ∧ w ≤ 15 ∧ s.standingBits cfg c n i = 128 * t + 2048 * w := by
  refine ⟨b2n (s.timeStateAt i ≠ 2), b2n (s.fallbackAt c i) + 2 * b2n (s.frozenChannel cfg c) + 4 * b2n (s.mismatchedAt c i) +
    8 * b2n (s.stream n).lateShown, b2n_le _, ?_, ?_⟩
  · have hfallback := b2n_le (s.fallbackAt c i)
    have hfrozen := b2n_le (s.frozenChannel cfg c)
    have hredone := b2n_le (s.mismatchedAt c i)
    have hlate := b2n_le (s.stream n).lateShown
    omega
  · unfold State.standingBits
    omega

end

theorem field_eq_div (w lo n : Nat) : field w lo n = w / 2 ^ lo % 2 ^ n := by
  rw [field, Nat.shiftRight_eq_div_pow]

/-- VALIDITY INVALID with a cause, and standing bits. -/
theorem slot_legal_invalid {cause t w : Nat} (hcause : cause = 2 ∨ cause = 3) (ht : t ≤ 1) (hw : w ≤ 15) :
    Slot.Legal ⟨0, 1 + 256 * cause + (128 * t + 2048 * w)⟩ := by
  simp only [Slot.Legal, field_eq_div, true_and]
  omega

/-- VALIDITY GOOD or QUESTIONABLE with the bits of the samples, standing bits and SETTLING. -/
theorem slot_legal_valid {v : Int} {q b t w h : Nat} (hq : q = 0 ∨ q = 3) (hb : InSampleBits b) (ht : t ≤ 1) (hw : w ≤ 15) (hh : h ≤ 1) :
    Slot.Legal ⟨v, q + b + (128 * t + 2048 * w) + 1024 * h⟩ := by
  obtain ⟨hlow, hhigh⟩ := hb
  unfold Slot.Legal
  simp only [field_eq_div]
  omega

section
variable (s cfg : State) (c n m i : Nat)

theorem State.buildInvalid_legal {cause : Nat} (hcause : cause = 2 ∨ cause = 3) : (s.buildInvalid cfg c n i cause).slot.Legal := by
  obtain ⟨t, w, ht, hw, hbits⟩ := s.standingBits_eq cfg c n i
  rw [State.buildInvalid, hbits]
  exact slot_legal_invalid hcause ht hw

/-- The status of a valid channel, part by part: VALIDITY, the bits of the samples used, the standing bits, SETTLING. -/
theorem State.buildValid_slot : ∃ (v : Int) (q h : Nat) (used : List Used), (q = 0 ∨ q = 3) ∧ h ≤ 1 ∧ (∀ x ∈ used, InSampleBits x.bits) ∧
    (s.buildValid cfg c n m i).slot = ⟨v, q + used.foldl (fun b x => b ||| x.bits) 0 +
      (s.prepareChannel cfg c i).standingBits cfg c n i + 1024 * h⟩ := by
  refine ⟨_, _, _, _, ?_, ?_, ?_, rfl⟩
  · split
    · exact .inr rfl
    · exact .inl rfl
  · exact b2n_le _
  · intro x hx
    obtain ⟨j, -, hj⟩ := List.mem_filterMap.mp hx
    exact State.usedSample_bits _ _ _ _ _ _ hj

theorem State.buildValid_legal : (s.buildValid cfg c n m i).slot.Legal := by
  obtain ⟨v, q, h, used, hq, hh, hused, hslot⟩ := s.buildValid_slot cfg c n m i
  obtain ⟨t, w, ht, hw, hbits⟩ := (s.prepareChannel cfg c i).standingBits_eq cfg c n i
  rw [hslot, hbits]
  exact slot_legal_valid hq (inSampleBits_foldl hused) ht hw hh

theorem Built.legal_ite {p : Prop} [Decidable p] {x y : Built} (hx : x.slot.Legal) (hy : y.slot.Legal) :
    (if p then x else y).slot.Legal := by
  split
  · exact hx
  · exact hy

theorem State.buildChannel_legal (lost : List Nat) : (s.buildChannel cfg lost i c n m).slot.Legal :=
  Built.legal_ite (State.buildInvalid_legal _ _ _ _ _ (.inl rfl)) (Built.legal_ite (State.buildInvalid_legal _ _ _ _ _ (.inr rfl))
    (Built.legal_ite (State.buildInvalid_legal _ _ _ _ _ (.inl rfl)) (State.buildValid_legal ..)))

end

end Sys2Proof.Machine
end

section
set_option Elab.async false
namespace Sys2Proof.Machine

/-! ### The image ring, which building channels leaves alone (R169) -/

theorem Tab.find_isSome_iff {α : Type} {t : Tab α} {j : Nat} : (Tab.find t j).isSome = true ↔ j ∈ t.map (·.1) := by
  constructor
  · intro h
    obtain ⟨x, hx⟩ := Option.isSome_iff_exists.mp h
    exact List.mem_map.mpr ⟨(j, x), Tab.mem_of_find hx, rfl⟩
  · intro h
    induction t with
    | nil => cases h
    | cons e t ih =>
      obtain ⟨k, v⟩ := e
      rw [Tab.find]
      split
      · rfl
      · next hk => exact ih ((List.mem_cons.mp h).resolve_left (Ne.symm hk))

theorem State.images_of_only {s t : State} (h : t.only .dp = s.only .dp) : t.dp.images = s.dp.images :=
  congrArg DataPath.images (State.dp_of_only h)

section
variable (s cfg : State) (c n m i : Nat)

theorem State.setStream_images (x : Stream) : (s.setStream n x).dp.images = s.dp.images := (rfl)
theorem State.setChan_images (x : Channel) : (s.setChan c x).dp.images = s.dp.images := (rfl)
theorem State.countRestart_images : (s.countRestart c).dp.images = s.dp.images :=
  State.images_of_only (State.countRestart_only (by decide) s c)
theorem State.svCount_images (k : Nat) : (s.svCount k n).dp.images = s.dp.images := congrArg DataPath.images (State.svCount_dp k n)
theorem State.ingestFlag_images (f : Nat) : (s.ingestFlag f n).dp.images = s.dp.images := congrArg DataPath.images (State.ingestFlag_dp f n)

theorem State.scanSample_images (j : Nat) : (s.scanSample cfg c n i j).dp.images = s.dp.images := by
  unfold State.scanSample
  dsimp only
  repeat' split
  all_goals simp only [State.setStream_images, State.setChan_images, State.svCount_images, State.ingestFlag_images]

theorem State.channelSource_images : (s.channelSource cfg c n i).dp.images = s.dp.images := by
  unfold State.channelSource
  dsimp only
  split
  · rfl
  · exact State.setChan_images ..

theorem State.prepareChannel_images : (s.prepareChannel cfg c i).dp.images = s.dp.images := by
  unfold State.prepareChannel
  dsimp only
  repeat' split
  all_goals simp only [State.countRestart_images, State.setChan_images]

theorem State.buildValid_images : (s.buildValid cfg c n m i).state.dp.images = s.dp.images :=
  (State.setChan_images ..).trans (State.prepareChannel_images ..)

theorem State.buildInvalid_images (cause : Nat) : (s.buildInvalid cfg c n i cause).state.dp.images = s.dp.images :=
  State.setChan_images ..

theorem Built.images_ite (p : Prop) [Decidable p] (x y : Built) :
    (if p then x else y).state.dp.images = if p then x.state.dp.images else y.state.dp.images := apply_ite (·.state.dp.images) p x y

theorem State.buildChannel_images (lost : List Nat) : (s.buildChannel cfg lost i c n m).state.dp.images = s.dp.images := by
  have hscanned (l : List Nat) :
      ((s.channelSource cfg c n m).each l fun j t => t.scanSample cfg c n m j).dp.images = s.dp.images :=
    State.each_keeps (P := fun t => t.dp.images = s.dp.images) (fun j t ht => (t.scanSample_images cfg c n m j).trans ht) l
      (s.channelSource_images cfg c n m)
  simp only [State.buildChannel, Built.images_ite, State.buildInvalid_images, State.buildValid_images, hscanned, ite_self]

theorem State.incomplete_images : (s.incomplete cfg i).2.dp.images = s.dp.images :=
  State.images_of_only (State.incomplete_only (by decide) s cfg i)

end

end Sys2Proof.Machine
end

section
set_option Elab.async false
namespace Sys2Proof.Machine

/-! ### O26: IMAGE_RELEASE (R162, R163, R169 to R171) -/

/-- A mapped channel, given with its entry and its place in it, as the image of tick `i` builds it. -/
def State.buildEntry (cfg : State) (lost : List Nat) (i : Nat) (t : State) (e : Nat × Nat × Nat) : Built :=
  t.buildChannel cfg lost i e.1 e.2.1 e.2.2

/-- One more channel is built, and its slot joins those before it. -/
def joinSlot (build : State → Nat × Nat × Nat → Built) (acc : State × Tab Slot) (e : Nat × Nat × Nat) : State × Tab Slot :=
  ((build acc.1 e).state, acc.2 ++ [(e.1, (build acc.1 e).slot)])

section
variable {build : State → Nat × Nat × Nat → Built}

theorem keys_joinSlot (l : List (Nat × Nat × Nat)) (acc : State × Tab Slot) :
    (l.foldl (joinSlot build) acc).2.map (·.1) = acc.2.map (·.1) ++ l.map (·.1) := by
  induction l generalizing acc with
  | nil => rw [List.foldl_nil, List.map_nil, List.append_nil]
  | cons e l ih => rw [List.foldl_cons, ih, joinSlot, List.map_append, List.append_assoc]; rfl

theorem images_joinSlot (h : ∀ t e, (build t e).state.dp.images = t.dp.images) (l : List (Nat × Nat × Nat)) (acc : State × Tab Slot) :
    (l.foldl (joinSlot build) acc).1.dp.images = acc.1.dp.images := by
  induction l generalizing acc with
  | nil => rfl
  | cons e l ih => rw [List.foldl_cons, ih, joinSlot, h]

theorem legal_joinSlot (h : ∀ t e, (build t e).slot.Legal) (l : List (Nat × Nat × Nat)) {acc : State × Tab Slot}
    (hacc : ∀ e ∈ acc.2, e.2.Legal) : ∀ e ∈ (l.foldl (joinSlot build) acc).2, e.2.Legal := by
  refine List.foldlRecOn (motive := fun acc : State × Tab Slot => ∀ e ∈ acc.2, e.2.Legal) _ _ hacc fun acc hacc e _ x hx => ?_
  rcases List.mem_append.mp hx with hx | hx
  · exact hacc x hx
  · rw [List.mem_singleton.mp hx]
    exact h acc.1 e

end

section
variable (s t cfg : State) (lost : List Nat) (i : Nat)

theorem State.buildEntry_images (e : Nat × Nat × Nat) : (State.buildEntry cfg lost i t e).state.dp.images = t.dp.images := by
  rw [State.buildEntry, State.buildChannel_images]

theorem State.buildEntry_legal (e : Nat × Nat × Nat) : (State.buildEntry cfg lost i t e).slot.Legal := by
  rw [State.buildEntry]
  exact State.buildChannel_legal ..

/-- Every mapped channel of an image built in turn from `t`, those in `lost` not complete. -/
def State.builtFrom : State × Tab Slot :=
  (cfg.mapped.mergeSort fun a b => a.1 ≤ b.1).foldl (joinSlot (State.buildEntry cfg lost i)) (t, [])

/-- The channels that an image tells of are the mapped ones. -/
theorem State.builtFrom_channels (c : Nat) :
    (Tab.find (t.builtFrom cfg lost i).2 c).isSome = true ↔ ∃ n m, (c, n, m) ∈ cfg.mapped := by
  rw [Tab.find_isSome_iff, State.builtFrom, keys_joinSlot]
  simp

theorem State.builtFrom_images : (t.builtFrom cfg lost i).1.dp.images = t.dp.images :=
  images_joinSlot (State.buildEntry_images · cfg lost i ·) _ _

theorem State.builtFrom_legal {c : Nat} {y : Slot} (h : Tab.find (t.builtFrom cfg lost i).2 c = some y) : y.Legal :=
  legal_joinSlot (State.buildEntry_legal · cfg lost i ·) _ (fun _ h => absurd h List.not_mem_nil) _ (Tab.mem_of_find h)

/-- The channels of the image of tick `i`, built. -/
def State.builtImage : State × Tab Slot :=
  (s.incomplete (s.asOf (s.tickAt i)) i).2.builtFrom (s.asOf (s.tickAt i)) (s.incomplete (s.asOf (s.tickAt i)) i).1 i

theorem State.builtImage_images : (s.builtImage i).1.dp.images = s.dp.images := by
  rw [State.builtImage, State.builtFrom_images, State.incomplete_images]

/-- The ring slot that a release writes (R169, R170). -/
def State.releasedSlot (s : State) (i : Nat) : ImageSlot :=
  let cfg := s.asOf (s.tickAt i)
  let slots := (s.builtImage i).2
  { tick := i, instant := s.tickAt i, tickRate := s.rate, timeState := s.timeStateAt i
    flags := b2n ((List.range 4).any fun c => s.fallbackAt c i) + 2 * b2n ((slots.filter fun e => bit e.2.status 13).length ≠ 0)
    subscriptionGen := cfg.reg Od.ingestSubscriptionGen
    invalidCount := (slots.filter fun e => e.2.status % 4 = 1).length
    substitutedCount := (slots.filter fun e => bit e.2.status 2).length
    lateCount := s.dp.lateShown % 2 ^ 16
    releaseNs := (roundDiv (((s.now - s.deadlineOf cfg i) * 1000000000 : Nat) : Int) (2 ^ 36)).toNat
    alive := s.aliveNow, slots := slots }

variable {s i}

theorem State.releaseImage_idle (h : s.dp.lastClosed ≠ some i ∨ s.dp.lastReleased = some i) : s.releaseImage i = s :=
  if_pos (by simpa using h)

/-- A release writes its own slot of the ring, whatever it counts and flags beside it. -/
theorem State.releaseImage_of_due (hclosed : s.dp.lastClosed = some i) (hnew : s.dp.lastReleased ≠ some i) :
    (s.releaseImage i).dp.lastReleased = some i ∧
    (s.releaseImage i).dp.images = Tab.insert s.dp.images (i % 64) (s.releasedSlot i) := by
  unfold State.releaseImage
  rw [if_neg (by simp [hclosed, hnew])]
  refine ⟨rfl, congrArg (fun l => Tab.insert l (i % 64) (s.releasedSlot i)) (Eq.trans ?_ (s.builtImage_images i))⟩
  refine State.images_of_only ((State.when_only (State.setHist_only (by decide) _ _) _).trans ?_)
  exact (State.each_only (fun n t => State.when_only (State.setFlag_only (by decide) _ _ _ _) _) _ _).trans
    (State.setReg_only (by decide) _ _ _)

end

theorem exec_imageRelease (s : State) (a : Instant) (i : Nat) :
    exec (.imageRelease a i) s = act true 10 (s.arrive a) fun s => s.releaseImage i := rfl

/-- Settles O26: a release writes one slot of the ring, of the mapped channels built in turn, each with a legal status. -/
theorem releasedImageIsWellFormed : Obligations.ReleasedImageIsWellFormed := by
  unfold Obligations.ReleasedImageIsWellFormed
  intro s u a i hpower hu
  have same {α : Type} (g : State → α) (hg : ∀ t, g (s.setNow t) = g s) : g s = g u := hu ▸ (State.arrive_eq g hg a).symm
  have hdp := same (·.dp) fun _ => rfl
  have hat := same (·.tickAt i) fun _ => rfl
  have hrate := same (·.rate) fun _ => rfl
  have htime := same (fun t => Tab.look t.dp.timeAt i (servoCode t.time.servo)) fun _ => rfl
  have hexec := exec_imageRelease s a i
  dsimp only at htime ⊢
  rw [htime, hdp, hat, hrate]
  refine ⟨fun hidle => does_of_act hexec rfl hpower hu (State.releaseImage_idle hidle), fun hclosed hnew =>
    yields_of_act hexec rfl hpower hu ?_, fun c hnone => ?_⟩
  · obtain ⟨hreleased, himages⟩ := State.releaseImage_of_due hclosed hnew
    rw [State.settle_dp, hreleased, himages]
    refine ⟨rfl, fun k hk => Tab.find_insert_ne _ _ hk, u.releasedSlot i, Tab.find_insert_self .., rfl, rfl, rfl, rfl, rfl, rfl, rfl, rfl,
      State.builtFrom_channels _ _ _ i, fun c y hy => State.builtFrom_legal _ _ _ i hy⟩
  · rw [State.slotAt, hnone]
    rfl

end Sys2Proof.Machine
end

section
set_option Elab.async false
namespace Sys2Proof.Machine

/-! ### O23: the checks of an ASDU (R146, R150, R153, R154) -/

/-! #### The sample number (R153, R154) -/

/-- The number is that of the one second whose nominal instant lies in the window of R153. -/
theorem sampleNumber_eq_some_iff {rate smpCnt a j : Nat} : sampleNumber rate smpCnt a = some j ↔
    smpCnt < rate ∧ ∃ sec, j = sec * rate + smpCnt ∧
      let nominal := sec * 2 ^ 36 + (smpCnt * 2 ^ 36 + rate / 2) / rate
      a < nominal + 2 ^ 35 ∧ nominal ≤ a + 2 ^ 35 ∧ nominal ≤ a + ofUs 100 := by
  unfold sampleNumber tickFrac
  generalize (smpCnt * 2 ^ 36 + rate / 2) / rate = frac
  generalize ofUs 100 = early
  dsimp only
  split
  · next hout =>
    refine ⟨nofun, ?_⟩
    rintro ⟨hrate, sec, -, -, hhalf, -⟩
    omega
  · next hin =>
    obtain ⟨hrate, hfrac⟩ := not_or.mp hin
    have hdiv := Nat.div_add_mod (a + 2 ^ 35 - frac) (2 ^ 36)
    have hmod := Nat.mod_lt (a + 2 ^ 35 - frac) (y := 2 ^ 36) (by decide)
    generalize (a + 2 ^ 35 - frac) / 2 ^ 36 = s at hdiv ⊢
    have honly {sec : Nat} (hlow : a < sec * 2 ^ 36 + frac + 2 ^ 35) (hhigh : sec * 2 ^ 36 + frac ≤ a + 2 ^ 35) : sec = s := by omega
    split
    · refine ⟨nofun, ?_⟩
      rintro ⟨-, sec, -, hlow, hhigh, hsoon⟩
      have hsec := honly hlow hhigh
      omega
    · rw [Option.some.injEq]
      constructor
      · rintro rfl
        exact ⟨by omega, s, rfl, by omega, by omega, by omega⟩
      · rintro ⟨-, sec, rfl, hlow, hhigh, -⟩
        rw [honly hlow hhigh]

/-! #### The entry (R146) -/

theorem State.svMatch_eq_none_iff (c : State) (x : Asdu) : c.svMatch x = none ↔ 64 < x.svid.length ∨
    ∀ n, n < 512 → c.on (Od.svEnable n) = true → c.reg (Od.svDstMac n) = x.dst → c.reg (Od.svAppid n) = x.appid →
      c.reg (Od.svVid n) = 0xFFFF ∨ c.reg (Od.svVid n) = c.readVid x.port x.tag → c.blob (Od.svid n) ≠ x.svid := by
  unfold State.svMatch
  split
  · next hlong => exact ⟨fun _ => .inl hlong, fun _ => rfl⟩
  · next hshort => simp [State.svEntries, hshort]

theorem State.svMatch_lt {c : State} {x : Asdu} {n : Nat} (h : c.svMatch x = some n) : n < 512 := by
  unfold State.svMatch at h
  split at h
  · cases h
  · have hmem := List.mem_of_find?_eq_some h
    exact List.mem_range.mp (List.mem_filter.mp hmem).1

/-! #### What a check that fails leaves -/

/-- A use of a key slot touches no entry below those of the key manager. -/
theorem State.useSlot_reg_of_low (s : State) (slot : Nat) (c : Consumer) {k : Nat} (hk : k < 0x900000) :
    (s.useSlot slot c).2.reg k = s.reg k := by
  unfold State.useSlot
  split
  · rfl
  · rfl
  · refine (State.reg_setFlag_of_not_owns _ 96 1 _ (not_ownsEntry_of_low (by omega))).trans (State.reg_setReg_ne _ _ ?_)
    unfold Od.keysOrphanDenials
    omega

theorem State.verifyAuth_reg_of_low (s : State) (a b : Nat) (c : Consumer) (x : Option AuthExt) {k : Nat} (hk : k < 0x900000) :
    (s.verifyAuth a b c x).2.reg k = s.reg k := by
  unfold State.verifyAuth
  split
  · rfl
  · dsimp only
    split
    · exact State.useSlot_reg_of_low _ _ _ hk
    · exact (State.useSlot_reg_of_low _ _ _ hk).trans (State.useSlot_reg_of_low _ _ _ hk)

/-- One more in a counter, and the data path as it was. -/
def CountsOnly (s : State) (k : Nat) (t : State) : Prop := t.reg k = (s.reg k + 1) % 2 ^ 32 ∧ t.dp = s.dp

section
variable {s v : State} {k : Nat} (hk : k < 0x900000) (hreg : v.reg k = s.reg k) (hdp : v.dp = s.dp)
include hk hreg hdp

theorem countsOnly_countEv (info : Option Nat) : CountsOnly s k (v.countEv k 35 info).settle := by
  refine ⟨?_, (v.countEv_dp ..).trans hdp⟩
  rw [State.settle_reg, State.reg_countEv_self v 35 info (not_ownsEntry_of_low (by omega)), hreg]

theorem countsOnly_flag (f n : Nat) : CountsOnly s k ((v.svCount k n).ingestFlag f n).settle := by
  obtain ⟨hcount, hsame⟩ := countsOnly_countEv hk hreg hdp (some n)
  refine ⟨?_, (State.ingestFlag_dp f n).trans hsame⟩
  rw [State.settle_reg, State.ingestFlag, State.reg_setFlag_of_not_owns _ 35 f _ (not_ownsEntry_of_low (by omega))]
  exact hcount

end

/-! #### The checks in their order (R150) -/

/-- Where an entry asks for verification, the check of its key slots; elsewhere an ASDU passes. -/
def State.svVerify (s cfg : State) (n : Nat) (x : Asdu) : Bool × State :=
  if cfg.reg (Od.svAuthMode n) = 1 then
    s.verifyAuth (cfg.reg (Od.svKeySlotA n)) (cfg.reg (Od.svKeySlotB n)) .svVerify x.auth
  else (true, s)

/-- The checks after that of the sample counter, for the number it gives. -/
def State.svNumbered (s cfg : State) (n j : Nat) (x : Asdu) : State :=
  if x.smpSynch = 0 ∧ cfg.reg (Od.svSyncPolicy n) = 0 then (s.svCount (Od.svUnsynced n) n).ingestFlag 7 n
  else if (s.svVerify cfg n x).1 then (s.svVerify cfg n x).2.svAccept cfg n j (s.svArrival x) x
  else ((s.svVerify cfg n x).2.svCount (Od.svAuthFail n) n).ingestFlag 3 n

theorem State.svReceive_of_unmatched {s : State} {x : Asdu} (h : (s.asOf x.idAt).svMatch x = none) :
    s.svReceive x = s.countEv Od.ingestCntUnsubscribed 35 none := by
  unfold State.svReceive
  dsimp only
  rw [h]

section
variable {s c : State} {x : Asdu} {n : Nat} (hc : c = s.asOf x.idAt) (hmatch : c.svMatch x = some n)
include hc hmatch

theorem State.svReceive_of_match : s.svReceive x =
    if ¬bit (c.reg (Od.svIngressMask n)) x.port = true then s.svCount (Od.svWrongPort n) n
    else if x.seqLen ≠ 8 * c.reg (Od.svChannels n) then s.countEv Od.ingestCntMalformed 35 (some n)
    else if ¬(c.reg (Od.svConfRev n) = 0 ∨ c.reg (Od.svConfRev n) = x.confRev) then (s.svCount (Od.svConfRevMismatch n) n).ingestFlag 4 n
    else if x.sim ≠ c.on (Od.svSimAccept n) then s.svCount (Od.svTestSimDiscard n) n
    else (sampleNumber (c.reg (Od.svStreamRate n)) x.smpCnt (s.svArrival x)).elim (s.svCount (Od.svBadSmpcnt n) n)
      fun j => s.svNumbered c n j x := by
  subst hc
  unfold State.svReceive
  dsimp only
  rw [hmatch]
  refine if_congr (by simp) rfl (if_congr Iff.rfl rfl (if_congr (by simp) rfl (if_congr (by simp) rfl ?_)))
  cases sampleNumber ((s.asOf x.idAt).reg (Od.svStreamRate n)) x.smpCnt (s.svArrival x) with
  | none => rfl
  | some j => exact if_congr (by simp) rfl rfl

end

theorem exec_svAsduReceived (s : State) (a : Instant) (x : Asdu) :
    exec (.svAsduReceived a x) s = act (x.port < 32) 3 (s.arrive a) fun s => s.svReceive x := rfl

/-- Settles O23: the sample number by its window, the match by its keys, and each check that fails by the place it has among the others. -/
theorem asduMatchAndChecks : Obligations.AsduMatchAndChecks := by
  unfold Obligations.AsduMatchAndChecks
  refine ⟨fun rate smpCnt a j => sampleNumber_eq_some_iff, ?_⟩
  intro s u c a x hpower hport hu hc counts
  have same {α : Type} (g : State → α) (hg : ∀ t, g (s.setNow t) = g s) : g u = g s := hu ▸ State.arrive_eq g hg a
  have hreg (k : Nat) := same (·.reg k) fun _ => rfl
  have hdp := same (·.dp) fun _ => rfl
  have hcounts {k : Nat} {v : State} (hv : u.svReceive x = v) (h : CountsOnly s k v.settle) : counts k :=
    yields_of_act (exec_svAsduReceived s a x) (decide_eq_true hport) hpower hu (by rw [hv]; exact h)
  refine ⟨c.svMatch_eq_none_iff x, fun hnone => ?_, fun n hmatch => ?_⟩
  · exact hcounts (State.svReceive_of_unmatched (hc ▸ hnone)) (countsOnly_countEv (by decide) (hreg _) hdp none)
  have hchecks := State.svReceive_of_match hc hmatch
  have hn := State.svMatch_lt hmatch
  refine ⟨fun hbad => ?_, fun hgood => ?_⟩
  · rw [if_pos (by rw [hbad]; decide)] at hchecks
    exact hcounts hchecks (countsOnly_countEv (by unfold Od.svWrongPort; omega) (hreg _) hdp _)
  rw [if_neg (not_not.mpr hgood)] at hchecks
  refine ⟨fun hbad => ?_, fun hgood => ?_⟩
  · rw [if_pos hbad] at hchecks
    exact hcounts hchecks (countsOnly_countEv (by decide) (hreg _) hdp _)
  rw [if_neg (not_not.mpr hgood)] at hchecks
  refine ⟨fun hset hbad => ?_, fun hgood => ?_⟩
  · rw [if_pos (not_or.mpr ⟨hset, hbad⟩)] at hchecks
    exact hcounts hchecks (countsOnly_flag (by unfold Od.svConfRevMismatch; omega) (hreg _) hdp _ n)
  rw [if_neg (not_not.mpr hgood)] at hchecks
  refine ⟨fun hbad => ?_, fun hgood => ?_⟩
  · rw [if_pos hbad] at hchecks
    exact hcounts hchecks (countsOnly_countEv (by unfold Od.svTestSimDiscard; omega) (hreg _) hdp _)
  rw [if_neg (not_not.mpr hgood)] at hchecks
  refine ⟨fun hbad => ?_, fun hgood => ?_⟩
  · rw [hbad, Option.elim_none] at hchecks
    exact hcounts hchecks (countsOnly_countEv (by unfold Od.svBadSmpcnt; omega) (hreg _) hdp _)
  obtain ⟨j, hj⟩ := Option.isSome_iff_exists.mp hgood
  rw [hj, Option.elim_some, State.svNumbered] at hchecks
  refine ⟨fun hbad hpolicy => ?_, fun hgood hmode hbad => ?_⟩
  · rw [if_pos ⟨hbad, hpolicy⟩] at hchecks
    exact hcounts hchecks (countsOnly_flag (by unfold Od.svUnsynced; omega) (hreg _) hdp _ n)
  have hverify : u.svVerify c n x = u.verifyAuth (c.reg (Od.svKeySlotA n)) (c.reg (Od.svKeySlotB n)) .svVerify x.auth := if_pos hmode
  have hk : Od.svAuthFail n < 0x900000 := by
    unfold Od.svAuthFail
    omega
  rw [if_neg (by omega), hverify, hbad, if_neg Bool.false_ne_true] at hchecks
  exact hcounts hchecks (countsOnly_flag hk ((State.verifyAuth_reg_of_low _ _ _ _ _ hk).trans (hreg _))
    ((State.dp_of_only (State.verifyAuth_only (by decide) ..)).trans hdp) _ n)

end Sys2Proof.Machine
end

section
set_option Elab.async false
namespace Sys2Proof.Machine

/-! ### Octets stored in memory (R242) -/

section
variable (s : State) (w a : Nat)

/-- Stored octets change nothing but the memory. -/
theorem State.storeBytes_eq (bs : List Byte) : ∃ m, s.storeBytes w a bs = { s with mem := m } := by
  induction bs generalizing s a with
  | nil => exact ⟨s.mem, rfl⟩
  | cons b bs ih =>
    obtain ⟨m, hm⟩ := ih (s.storeByte w a b) (a + 1)
    exact ⟨m, hm⟩

/-- Octets that do not reach around the end of an owner's addresses are read where they were stored. -/
theorem State.memByte_storeBytes_at {bs : List Byte} {i : Nat} (hi : i < bs.length) (hfit : a + bs.length ≤ 2 ^ 64) :
    (s.storeBytes w a bs).memByte w (a + i) = bs.getD i 0 := by
  induction bs generalizing s a i with
  | nil => cases hi
  | cons b bs ih =>
    rw [List.length_cons] at hi hfit
    rw [State.storeBytes]
    cases i with
    | zero =>
      refine (State.memByte_storeBytes_other _ _ _ _ _ _ fun i hi => ?_).trans (s.memByte_storeByte_self w a b)
      omega
    | succ i =>
      rw [show a + (i + 1) = a + 1 + i by omega, ih (s.storeByte w a b) (a + 1) (by omega) (by omega), List.getD_cons_succ]

/-- Octets that do not reach around the end leave those before and after their place, and every other owner's, alone. -/
theorem State.memByte_storeBytes_apart {bs : List Byte} {v c : Nat} (hc : c < 2 ^ 64) (hfit : a + bs.length ≤ 2 ^ 64)
    (h : v ≠ w ∨ c < a ∨ a + bs.length ≤ c) : (s.storeBytes w a bs).memByte v c = s.memByte v c :=
  s.memByte_storeBytes_other w a v c bs fun i hi => by omega

end

theorem length_leBytes (n v : Nat) : (leBytes n v).length = n := by rw [leBytes, List.length_map, List.length_range]

theorem length_completionBytes (c : Completion) (epoch queue phase tick : Nat) : (completionBytes c epoch queue phase tick).length = 32 := by
  simp only [completionBytes, List.length_append, length_leBytes]

theorem State.memByte_of_mem {s t : State} (h : t.mem = s.mem) (o b : Nat) : t.memByte o b = s.memByte o b := by
  rw [State.memByte, h, State.memByte]

/-! ### A pail's writes without dirty logging (R242, R244, R258) -/

section
variable {s : State} {p q : Nat}

theorem State.pailWrite_of_clean (hclean : bit (s.pail p).dirty.ctrl 0 = false) {a : Nat} {bs : List Byte}
    (hreach : s.pailReach p a bs.length = true) : s.pailWrite p a bs = s.storeBytes (s.pailOwner p) a bs := by
  simp [State.pailWrite, State.pailStore, hclean, hreach]

/-- Where the next completion entry of a queue stands. -/
def Queue.slot (y : Queue) : Nat := y.cqBase + y.cqTail % y.cqSize * 32

theorem Queue.slot_eq (y : Queue) : y.slot = y.cqBase + y.cqTail % y.cqSize * 32 := rfl

/-- A queue whose completion ring is one entry further than that of `y`. -/
def Queue.advance (x y : Queue) : Queue :=
  { x with cqTail := (y.cqTail + 1) % 2 ^ 16
           cqPhase := if (y.cqTail + 1) % 2 ^ 16 % y.cqSize = 0 then !y.cqPhase else y.cqPhase }

/-- The octets of a completion entry at the tail of a queue. -/
def State.entry (s : State) (p q : Nat) (c : Completion) : List Byte :=
  completionBytes c (s.pail p).epoch q (b2n ((s.pail p).queue q).cqPhase) s.workTick

theorem State.length_entry (s : State) (p q : Nat) (c : Completion) : (s.entry p q c).length = 32 := length_completionBytes ..

/-- A completion is its entry, the ring moved on, and the event that was asked for. -/
theorem State.complete_eq (s : State) (p q : Nat) (irq : Bool) (c : Completion) : s.complete p q irq c =
    ((s.pailWrite p ((s.pail p).queue q).slot (s.entry p q c)).modPail p fun x =>
      x.setQueue q ((x.queue q).advance ((s.pail p).queue q))).when_ (irq && ((s.pail p).queue q).cqEvent)
        fun t => t.post p 0x02 q ((((s.pail p).queue q).cqTail + 1) % 2 ^ 16) t.now := rfl

theorem State.complete_of_clean {irq : Bool} (c : Completion) (hclean : bit (s.pail p).dirty.ctrl 0 = false)
    (hsilent : (irq && ((s.pail p).queue q).cqEvent) = false) (hreach : s.pailReach p ((s.pail p).queue q).slot 32 = true) :
    s.complete p q irq c = (s.storeBytes (s.pailOwner p) ((s.pail p).queue q).slot (s.entry p q c)).setPail p
      ((s.pail p).setQueue q (((s.pail p).queue q).advance ((s.pail p).queue q))) := by
  obtain ⟨m, hm⟩ := s.storeBytes_eq (s.pailOwner p) ((s.pail p).queue q).slot (s.entry p q c)
  have hpail : (s.storeBytes (s.pailOwner p) ((s.pail p).queue q).slot (s.entry p q c)).pail p = s.pail p := by
    rw [hm]
    rfl
  rw [State.complete_eq, hsilent, State.pailWrite_of_clean hclean ((s.length_entry p q c).symm ▸ hreach), State.modPail, hpail]
  rfl

end

/-! ### A descriptor fetched (R240, R242) -/

/-- The next descriptor of a queue has an opcode of the queue's kind, and may be fetched and reached. -/
def State.Fetches (s : State) (p q opcode kind : Nat) : Prop :=
  s.mayFetch p q = true ∧ (s.descAt p q).opcode = opcode ∧ ((s.pail p).queue q).kind = kind ∧
    s.pailReach p ((s.pail p).queue q).place 32 = true

/-- Nothing but a completion entry is written beside the work: dirty logging is off, no event is asked for, the entry can be reached. -/
def State.Quiet (s : State) (p q : Nat) : Prop :=
  bit (s.pail p).dirty.ctrl 0 = false ∧ (bit (s.descAt p q).flags 0 = false ∨ bit ((s.pail p).queue q).ctrl 12 = false) ∧
    s.pailReach p ((s.pail p).queue q).slot 32 = true ∧ ((s.pail p).queue q).slot + 32 ≤ 2 ^ 64

/-- A queue past its next descriptor. -/
def Queue.past (y : Queue) : Queue := { y with sqHead := (y.sqHead + 1) % 2 ^ 16 }

theorem Queue.slot_past (y : Queue) : y.past.slot = y.slot := rfl

def State.past (s : State) (p q : Nat) : State := s.setPail p ((s.pail p).setQueue q ((s.pail p).queue q).past)

section
variable {s : State} {p q opcode kind : Nat}

theorem State.pail_past : (s.past p q).pail p = (s.pail p).setQueue q ((s.pail p).queue q).past := s.pail_setPail_self p _

theorem State.queue_past : ((s.past p q).pail p).queue q = ((s.pail p).queue q).past := by
  rw [State.pail_past, Pail.queue_setQueue_self]

theorem State.fetch_of_fetches (h : s.Fetches p q opcode kind) (hkind : opcodeKind opcode = some kind) (work : Desc → State → State) :
    s.fetch p q opcode work = work (s.descAt p q) (s.past p q) := by
  obtain ⟨hmay, hopcode, hk, hreach⟩ := h
  rw [State.fetch_of_opcode work hopcode]
  rcases s.fetched_cases p q work with ⟨hnot, -⟩ | ⟨-, hfar, -⟩ | ⟨-, hother, -⟩ | ⟨-, -, -, hwork⟩
  · rw [hmay] at hnot
    cases hnot
  · rw [hreach] at hfar
    cases hfar
  · exact absurd (by rw [hopcode, hk, hkind]) hother
  · exact hwork

end

/-! ### What a copy leaves (R242, R244) -/

/-- A descriptor is done: `bs` stands at its ADDR, and its completion entry at the ring's tail; no other octet has changed. -/
def CopyDone (s t : State) (p q opcode status len : Nat) (bs : List Byte) : Prop :=
  let x := s.pail p
  let y := x.queue q
  let d := s.descAt p q
  let own := s.pailOwner p
  let slot := y.cqBase + y.cqTail % y.cqSize * 32
  ((t.pail p).queue q).sqHead = (y.sqHead + 1) % 2 ^ 16 ∧ ((t.pail p).queue q).cqTail = (y.cqTail + 1) % 2 ^ 16 ∧
    (∀ i, i < 32 → t.memByte own (slot + i) = (completionBytes ⟨opcode, status, d.tag, len, 0, 0, 0⟩ x.epoch q
      (b2n y.cqPhase) s.workTick).getD i 0) ∧
    (d.addr + bs.length ≤ slot ∨ slot + 32 ≤ d.addr → ∀ i, i < bs.length → t.memByte own (d.addr + i) = bs.getD i 0) ∧
    ∀ o b, b < 2 ^ 64 → o ≠ own ∨ ((b < slot ∨ slot + 32 ≤ b) ∧ (b < d.addr ∨ d.addr + bs.length ≤ b)) →
      t.memByte o b = s.memByte o b

section
variable {s : State} {p q opcode : Nat} (hquiet : s.Quiet p q)
include hquiet

/-- Octets stored past a descriptor, and its completion. -/
theorem copyDone_finish (status len : Nat) {bs : List Byte} (hfit : bs = [] ∨ (s.descAt p q).addr + bs.length ≤ 2 ^ 64) :
    CopyDone s (((s.past p q).storeBytes (s.pailOwner p) (s.descAt p q).addr bs).finish p opcode (s.descAt p q) status len).settle
      p q opcode status len bs := by
  obtain ⟨hclean, hsilent, hreach, hslot⟩ := hquiet
  obtain ⟨m, hm⟩ := (s.past p q).storeBytes_eq (s.pailOwner p) (s.descAt p q).addr bs
  have hother {v c : Nat} (hc : c < 2 ^ 64) (h : v ≠ s.pailOwner p ∨ c < (s.descAt p q).addr ∨ (s.descAt p q).addr + bs.length ≤ c) :
      ((s.past p q).storeBytes (s.pailOwner p) (s.descAt p q).addr bs).memByte v c = s.memByte v c := by
    rcases hfit with rfl | hfit
    · rfl
    · exact State.memByte_storeBytes_apart _ _ _ hc hfit h
  have hat {i : Nat} (hi : i < bs.length) :
      ((s.past p q).storeBytes (s.pailOwner p) (s.descAt p q).addr bs).memByte (s.pailOwner p) ((s.descAt p q).addr + i) = bs.getD i 0 := by
    rcases hfit with rfl | hfit
    · cases hi
    · exact State.memByte_storeBytes_at _ _ _ hi hfit
  generalize (s.past p q).storeBytes (s.pailOwner p) (s.descAt p q).addr bs = t at hm hother hat
  have hpail : t.pail p = (s.pail p).setQueue q ((s.pail p).queue q).past := by rw [hm]; exact State.pail_past
  have hqueue : (t.pail p).queue q = ((s.pail p).queue q).past := by rw [hpail, Pail.queue_setQueue_self]
  have howner : t.pailOwner p = s.pailOwner p := by rw [hm]; rfl
  have htick : t.workTick = s.workTick := by rw [hm]; rfl
  have htreach : t.pailReach p ((s.pail p).queue q).slot 32 = true := by rw [hm]; exact hreach
  have hdone : t.finish p opcode (s.descAt p q) status len = _ := State.complete_of_clean _ (by rw [hpail]; exact hclean)
    (by rw [Bool.and_eq_false_iff, show (s.descAt p q).queue = q from rfl, hqueue]; exact hsilent)
    (by rw [show (s.descAt p q).queue = q from rfl, hqueue]; exact htreach)
  rw [hdone, show (s.descAt p q).queue = q from rfl, hqueue, howner, hpail]
  have hlength := t.length_entry p q ⟨opcode, status, (s.descAt p q).tag, len, 0, 0, 0⟩
  have hentry : t.entry p q ⟨opcode, status, (s.descAt p q).tag, len, 0, 0, 0⟩ =
      completionBytes ⟨opcode, status, (s.descAt p q).tag, len, 0, 0, 0⟩ (s.pail p).epoch q (b2n ((s.pail p).queue q).cqPhase)
        s.workTick := by
    rw [State.entry, hqueue, htick, hpail]
    rfl
  have hfits : ((s.pail p).queue q).slot + (t.entry p q ⟨opcode, status, (s.descAt p q).tag, len, 0, 0, 0⟩).length ≤ 2 ^ 64 := by
    rw [hlength]
    exact hslot
  have hmem {z : Pail} {v : State} (o b : Nat) : (v.setPail p z).settle.memByte o b = v.memByte o b := State.memByte_of_mem rfl o b
  have hafter {z : Pail} {v : State} : (v.setPail p z).settle.pail p = z := v.pail_setPail_self p z
  simp only [CopyDone, ← Queue.slot_eq, hmem, hafter, Queue.slot_past, Pail.queue_setQueue_self]
  refine ⟨rfl, rfl, fun i hi => ?_, fun hapart i hi => ?_, fun o b hb hout => ?_⟩
  · rw [← hentry]
    exact State.memByte_storeBytes_at _ _ _ (by rw [hlength]; exact hi) hfits
  · refine (State.memByte_storeBytes_apart _ _ _ ?_ hfits (.inr ?_)).trans (hat hi)
    · rcases hfit with rfl | hfit
      · cases hi
      · omega
    · rw [hlength]
      omega
  · refine (State.memByte_storeBytes_apart _ _ _ hb hfits ?_).trans (hother hb (hout.imp_right fun h => h.2))
    rw [hlength]
    exact hout.imp_right fun h => h.1

/-- A completion without data. -/
theorem copyDone_plain (status : Nat) :
    CopyDone s ((s.past p q).finish p opcode (s.descAt p q) status 0).settle p q opcode status 0 [] := by
  have hdone := copyDone_finish (opcode := opcode) hquiet status 0 (bs := []) (.inl rfl)
  rw [State.storeBytes] at hdone
  exact hdone

/-- A buffer that cannot be reached. -/
theorem copyDone_unreached {bs : List Byte} (hfar : s.pailReach p (s.descAt p q).addr bs.length = false) :
    CopyDone s ((s.past p q).copyOut p opcode (s.descAt p q) bs).settle p q opcode 3 0 [] := by
  have hfar : (s.past p q).pailReach p (s.descAt p q).addr bs.length = false := hfar
  rw [State.copyOut, hfar, if_pos (by rfl)]
  exact copyDone_plain hquiet 3

theorem copyDone_copied {bs : List Byte} (hreach : s.pailReach p (s.descAt p q).addr bs.length = true)
    (hfit : (s.descAt p q).addr + bs.length ≤ 2 ^ 64) :
    CopyDone s ((s.past p q).copyOut p opcode (s.descAt p q) bs).settle p q opcode 0 bs.length bs := by
  have hreach : (s.past p q).pailReach p (s.descAt p q).addr bs.length = true := hreach
  have hclean : bit ((s.past p q).pail p).dirty.ctrl 0 = false := by
    rw [State.pail_past]
    exact hquiet.1
  rw [State.copyOut, hreach, if_neg (by decide), State.pailWrite_of_clean hclean hreach]
  exact copyDone_finish hquiet 0 bs.length (.inr hfit)

end

end Sys2Proof.Machine
end

section
set_option Elab.async false
namespace Sys2Proof.Machine

/-! ### The copies (R171, R199, R242) -/

theorem descRangeOk_eq_false {d : Desc} (h : d.addr % 8 ≠ 0 ∨ 8192 < d.first + d.length) : descRangeOk d = false := by
  rw [descRangeOk, Bool.and_eq_false_iff, decide_eq_false_iff_not, decide_eq_false_iff_not, Nat.not_le]
  exact h

theorem descRangeOk_eq_true {d : Desc} (haddr : d.addr % 8 = 0) (hrange : d.first + d.length ≤ 8192) : descRangeOk d = true := by
  rw [descRangeOk, decide_eq_true haddr, decide_eq_true hrange]
  rfl

section
variable {s : State} {p q : Nat}

/-! #### IMAGE_COPY -/

/-- The octets of an image that IMAGE_COPY writes: its descriptor and ALIVE bits where the flag asks for them, then its slots as the pail
sees them. -/
def State.copiedOctets (s : State) (p : Nat) (d : Desc) (x : ImageSlot) : List Byte :=
  (if bit d.flags 3 then descriptorBytes x ++ aliveBytes x else []) ++
    ((List.range d.length).map fun i => leBytes 8 (s.slotWord p x (d.first + i))).flatten

/-- What IMAGE_COPY does with a descriptor, past which the queue stands. -/
def State.copyImage (t : State) (p : Nat) (d : Desc) : State :=
  if !descRangeOk d then t.finish p 0x01 d 4 0
  else (t.imageOf d.tick).elim (t.finish p 0x01 d 1 0) fun x =>
    if t.overtaken d.tick then t.finish p 0x01 d 2 0 else t.copyOut p 0x01 d (t.copiedOctets p d x)

theorem State.imageCopy_of_fetches (h : s.Fetches p q 0x01 0) : s.imageCopy p q = (s.past p q).copyImage p (s.descAt p q) := by
  rw [State.imageCopy, State.fetch_of_fetches h rfl, State.copyImage]
  refine if_congr Iff.rfl rfl ?_
  cases (s.past p q).imageOf (s.descAt p q).tick with
  | none => rfl
  | some x =>
    rw [Option.elim_some, State.copiedOctets]

/-! #### PHASOR_COPY and FREQ_COPY -/

/-- The phasor records of a descriptor's range as the pail sees them. -/
def State.phasorOctets (s : State) (p : Nat) (d : Desc) : List Byte :=
  ((List.range d.length).map fun i => s.phasorSeen p (d.first + i) d.tick).flatten

/-- What PHASOR_COPY does with a descriptor. -/
def State.copyPhasors (t : State) (p : Nat) (d : Desc) : State :=
  if !descRangeOk d then t.finish p 0x02 d 4 0
  else if !t.phasorsOf d.tick then t.finish p 0x02 d 1 0
  else if t.phasorsOvertaken d.tick then t.finish p 0x02 d 2 0
  else t.copyOut p 0x02 d (t.phasorOctets p d)

theorem State.phasorCopy_of_fetches (h : s.Fetches p q 0x02 0) : s.phasorCopy p q = (s.past p q).copyPhasors p (s.descAt p q) := by
  rw [State.phasorCopy, State.fetch_of_fetches h rfl, State.copyPhasors]
  rfl

/-- The octets of the 64 frequency records of a tick. -/
def State.freqOctets (s : State) (tick : Nat) : List Byte := ((List.range 64).map fun g => s.freqSeen g tick).flatten

/-- What FREQ_COPY does with a descriptor. -/
def State.copyFreqs (t : State) (p : Nat) (d : Desc) : State :=
  if d.addr % 8 ≠ 0 then t.finish p 0x03 d 4 0
  else if !t.phasorsOf d.tick then t.finish p 0x03 d 1 0
  else if t.phasorsOvertaken d.tick then t.finish p 0x03 d 2 0
  else t.copyOut p 0x03 d (t.freqOctets d.tick)

theorem State.freqCopy_of_fetches (h : s.Fetches p q 0x03 0) : s.freqCopy p q = (s.past p q).copyFreqs p (s.descAt p q) := by
  rw [State.freqCopy, State.fetch_of_fetches h rfl, State.copyFreqs]
  rfl

/-- A block of a text of blocks of one length. -/
theorem take_drop_flatten {α : Type} {n : Nat} {l : List (List α)} (hl : ∀ b ∈ l, b.length = n) {g : Nat} {b : List α}
    (hb : l[g]? = some b) : (l.flatten.drop (n * g)).take n = b := by
  induction l generalizing g with
  | nil => cases hb
  | cons x l ih =>
    have hx := hl x List.mem_cons_self
    rw [List.flatten_cons]
    cases g with
    | zero =>
      rw [Nat.mul_zero, List.drop_zero, List.take_left' hx]
      simpa using hb
    | succ g =>
      rw [show n * (g + 1) = x.length + n * g by rw [hx, Nat.mul_succ, Nat.add_comm], List.drop_length_add_append]
      exact ih (fun b hb => hl b (List.mem_cons_of_mem x hb)) (by simpa using hb)

theorem length_freqSeen (s : State) (g tick : Nat) : (s.freqSeen g tick).length = 16 := by
  simp only [State.freqSeen, freqBytes, List.length_append, length_leBytes]

theorem State.length_freqOctets (s : State) (tick : Nat) : (s.freqOctets tick).length = 1024 := by
  simp [State.freqOctets, length_freqSeen, Function.comp_def]

theorem State.freqOctets_block {g : Nat} (hg : g < 64) {tick : Nat} {r : FreqRec}
    (hr : Tab.find s.dp.freqRecs (tick % 64 * 64 + g) = some r) : ((s.freqOctets tick).drop (16 * g)).take 16 = freqBytes r := by
  refine take_drop_flatten (fun b hb => ?_) ?_
  · obtain ⟨k, -, rfl⟩ := List.mem_map.mp hb
    exact length_freqSeen s k tick
  · rw [List.getElem?_map, List.getElem?_range hg, Option.map_some, State.freqSeen, hr, Option.getD_some]

end

end Sys2Proof.Machine
end

section
set_option Elab.async false
namespace Sys2Proof.Machine

/-! ### A pail's work, which events and writes leave alone -/

/-- A pail without its event ring and its dirty logging, all of it that an event or a write to memory may change (R250, R258). -/
def Pail.work (x : Pail) : Pail := { x with ev := {}, dirty := {} }

def State.workOf (s : State) (n : Nat) : Pail := (s.pail n).work

theorem State.workOf_of_only {s t : State} (h : t.only .pails = s.only .pails) (n : Nat) : t.workOf n = s.workOf n := by
  have hpails := congrArg State.pails h
  have hpails : t.pails = s.pails := hpails
  rw [State.workOf, State.pail, hpails]
  rfl

section
variable {s : State} (n : Nat)

theorem State.queues_of_work {x y : Pail} (h : x.work = y.work) : x.queues = y.queues := by
  have hqueues := congrArg Pail.queues h
  exact hqueues

theorem State.pendingTx_of_work {x y : Pail} (h : x.work = y.work) : x.pendingTx = y.pendingTx := by
  have hpending := congrArg Pail.pendingTx h
  exact hpending

theorem State.epoch_of_work {x y : Pail} (h : x.work = y.work) : x.epoch = y.epoch := by
  have hepoch := congrArg Pail.epoch h
  exact hepoch

/-- A change of a pail that keeps its work keeps every pail's. -/
theorem State.modPail_workOf (s : State) (p : Nat) {f : Pail → Pail} (hf : ∀ x, (f x).work = x.work) :
    (s.modPail p f).workOf n = s.workOf n := by
  by_cases hn : n = p
  · rw [hn, State.workOf, State.modPail, State.pail_setPail_self, hf, State.workOf]
  · rw [State.workOf, State.modPail, State.pail_setPail_ne _ _ hn, State.workOf]

theorem State.modEv_workOf (s : State) (p : Nat) (g : Pail → EvRing) : (s.modPail p fun x => { x with ev := g x }).workOf n = s.workOf n :=
  State.modPail_workOf n s p fun _ => rfl

theorem State.modDirty_workOf (s : State) (p : Nat) (g : Pail → Dirty) :
    (s.modPail p fun x => { x with dirty := g x }).workOf n = s.workOf n :=
  State.modPail_workOf n s p fun _ => rfl

theorem State.workOf_ite (c : Prop) [Decidable c] (s t : State) : (if c then s else t).workOf n = if c then s.workOf n else t.workOf n :=
  apply_ite (State.workOf · n) c s t

theorem State.workOf_ite_fst {β : Type} (c : Prop) [Decidable c] (x y : State × β) :
    (if c then x else y).1.workOf n = if c then x.1.workOf n else y.1.workOf n := apply_ite (fun z => State.workOf z.1 n) c x y

/-- A fold keeps the work that every step of it keeps. -/
theorem State.foldl_proj_workOf {α β : Type} (proj : β → State) {f : β → α → β} (h : ∀ x a, (proj (f x a)).workOf n = (proj x).workOf n)
    (l : List α) (x : β) : (proj (l.foldl f x)).workOf n = (proj x).workOf n :=
  List.foldlRecOn (motive := fun y => (proj y).workOf n = (proj x).workOf n) _ _ rfl fun y hy a _ => (h y a).trans hy

theorem State.foldl_workOf {α : Type} {f : State → α → State} (h : ∀ t a, (f t a).workOf n = t.workOf n) (l : List α) (s : State) :
    (l.foldl f s).workOf n = s.workOf n := State.foldl_proj_workOf n id h l s

theorem State.foldl_fst_workOf {α β : Type} {f : State × β → α → State × β} (h : ∀ x a, (f x a).1.workOf n = x.1.workOf n)
    (l : List α) (x : State × β) : (l.foldl f x).1.workOf n = x.1.workOf n := State.foldl_proj_workOf n Prod.fst h l x

theorem State.each_workOf {α : Type} {f : α → State → State} (h : ∀ a t, (f a t).workOf n = t.workOf n) (s : State) (l : List α) :
    (s.each l f).workOf n = s.workOf n := State.foldl_workOf n (fun t a => h a t) l s

theorem State.when_workOf {f : State → State} {s : State} (h : (f s).workOf n = s.workOf n) (c : Bool) :
    (s.when_ c f).workOf n = s.workOf n := by
  cases c
  · rfl
  · exact h

/-! #### Events (R250, R251, R478) -/

theorem State.storeBytes_workOf (s : State) (w a : Nat) (bs : List Byte) : (s.storeBytes w a bs).workOf n = s.workOf n :=
  State.workOf_of_only (State.storeBytes_only (by decide) ..) n

theorem State.markPage_workOf (s : State) (p page : Nat) : (s.markPage p page).1.workOf n = s.workOf n := by
  unfold State.markPage
  dsimp only
  split
  · exact State.workOf_of_only (State.storeByte_only (by decide) ..) n
  · exact State.modDirty_workOf n s p _

theorem State.pailStore_workOf (s : State) (p a : Nat) (bs : List Byte) : (s.pailStore p a bs).1.workOf n = s.workOf n := by
  simp only [State.pailStore, State.workOf_ite_fst, State.foldl_fst_workOf, State.markPage_workOf, State.storeBytes_workOf, implies_true,
    ite_self]

theorem State.ringEntry_workOf (s : State) (p type source data time : Nat) :
    (s.ringEntry p type source data time).1.workOf n = s.workOf n :=
  (State.modEv_workOf n _ p _).trans (State.pailStore_workOf n s p _ _)

theorem State.ringInterrupt_workOf (s : State) (p : Nat) : (s.ringInterrupt p).workOf n = s.workOf n :=
  State.workOf_of_only (State.ringInterrupt_only (by decide) s p) n

theorem State.overflowEntry_workOf (s : State) (p : Nat) : (s.overflowEntry p).1.workOf n = s.workOf n := by
  unfold State.overflowEntry
  dsimp only
  split
  · rw [State.ringInterrupt_workOf, State.modEv_workOf, State.ringEntry_workOf]
  · rfl

theorem State.ringPost_workOf (s : State) (p type source data time : Nat) :
    (s.ringPost p type source data time).1.workOf n = s.workOf n := by
  unfold State.ringPost
  dsimp only
  split
  · rfl
  · split
    · exact State.modEv_workOf n s p _
    · rw [State.ringInterrupt_workOf, State.ringEntry_workOf, State.overflowEntry_workOf]

theorem State.post_workOf (s : State) (p type source data time : Nat) : (s.post p type source data time).workOf n = s.workOf n := by
  simp only [State.post, State.workOf_ite, State.ringPost_workOf, ite_self]

theorem State.pailWrite_workOf (s : State) (p a : Nat) (bs : List Byte) : (s.pailWrite p a bs).workOf n = s.workOf n := by
  simp only [State.pailWrite, State.workOf_ite, State.post_workOf, State.pailStore_workOf, ite_self]

theorem State.moduleEntry_workOf (s : State) (p source data time : Nat) : (s.moduleEntry p source data time).1.workOf n = s.workOf n := by
  have hrun (t : State) (e : Nat × Nat × Nat × Bool) : (t.runEntry p time e).1.workOf n = t.workOf n := State.pailStore_workOf n t p _ _
  simp only [State.moduleEntry, State.workOf_ite_fst, State.ringPost_workOf, State.modEv_workOf, State.foldl_fst_workOf, hrun, implies_true,
    ite_self]

theorem State.postModule_workOf (s : State) (p source data time : Nat) : (s.postModule p source data time).workOf n = s.workOf n := by
  simp only [State.postModule, State.workOf_ite, State.ringPost_workOf, State.moduleEntry_workOf, ite_self]

theorem State.notify_workOf (s : State) (m : Nat) : (s.notify m).workOf n = s.workOf n := by
  have hsession (t : State) (sid : Nat) := State.workOf_of_only (State.notifySession_only (part := .pails) (by decide) t sid m) n
  have hmsix (t : State) (v : Nat) := State.workOf_of_only (State.msix_only (part := .pails) (by decide) t v) n
  simp only [State.notify, State.workOf_ite, State.foldl_workOf, State.postModule_workOf, hsession, hmsix, implies_true, ite_self]

theorem State.setFlag_workOf (s : State) (m flag : Nat) (info : Option Nat) : (s.setFlag m flag info).workOf n = s.workOf n := by
  have hreg (t : State) (k v : Nat) := State.workOf_of_only (State.setReg_only (part := .pails) (by decide) t k v) n
  have hhealth (t : State) (x : Health) := State.workOf_of_only (State.with_health_only (part := .pails) (by decide) t x) n
  simp only [State.setFlag, State.workOf_ite, State.notify_workOf, hreg, hhealth, ite_self]

/-! #### Frames of the module's own (R114) -/

theorem State.countPort_workOf (s : State) (p sub by_ : Nat) : (s.countPort p sub by_).workOf n = s.workOf n := by
  have hreg (t : State) (k v : Nat) := State.workOf_of_only (State.setReg_only (part := .pails) (by decide) t k v) n
  have hport (t : State) (f : Port → Port) := State.workOf_of_only (State.modPort_only (part := .pails) (by decide) t p f) n
  simp only [State.countPort, State.workOf_ite, State.setFlag_workOf, hreg, hport, ite_self]

theorem State.admitCopies_workOf (s : State) (k : Nat) (dests : List Dest) : (s.admitCopies k dests).state.workOf n = s.workOf n := by
  rw [State.admitCopies_eq]
  refine State.foldl_proj_workOf n Admission.state (fun a d => ?_) dests _
  rcases a.take_cases k d with ⟨hstate, -⟩ | ⟨hstate, -⟩ | ⟨⟨free, hstate⟩, -⟩
  · rw [hstate, State.countPort_workOf]
  · rw [hstate]
  · rw [hstate]
    rfl

theorem State.sendOwn_workOf (s : State) (f : Frame) (direct : Option (List Nat)) (owner : Option Nat) (tag : Nat) (ptp : Option PtpTx) :
    (s.sendOwn f direct owner tag ptp).state.workOf n = s.workOf n := by
  have henqueue (t : State) (x : SwFrame) (l : List Dest) := State.workOf_of_only (State.enqueue_only (part := .pails) (by decide) t x l) n
  have hseqs (t : State) (l : List Dest) := State.workOf_of_only (State.takeSeqs_only (part := .pails) (by decide) t l) n
  have hmemory (t : State) (k : Nat) := State.workOf_of_only (State.useMemory_only (part := .pails) (by decide) t k) n
  have hdrop (p : Nat) (t : State) : (t.overflowDrop p).workOf n = t.workOf n :=
    (State.setFlag_workOf ..).trans (State.countPort_workOf ..)
  simp only [State.sendOwn, henqueue, hseqs, State.each_workOf, hdrop, State.admitCopies_workOf, State.countPort_workOf, hmemory, implies_true]

end

/-! #### A completion (R244) -/

section
variable (s : State) (p q : Nat) (irq : Bool) (c : Completion)

theorem Pail.advance_work (x : Pail) (y : Queue) : (x.setQueue q ((x.queue q).advance y)).work =
    (x.work.setQueue q ((x.work.queue q).advance y)).work := rfl

/-- A completion moves the ring of its queue on, and keeps the rest of the pail's work. -/
theorem State.complete_workOf : (s.complete p q irq c).workOf p =
    ((s.pail p).setQueue q (((s.pail p).queue q).advance ((s.pail p).queue q))).work := by
  rw [State.complete_eq, State.when_workOf p (State.post_workOf ..), State.workOf, State.modPail, State.pail_setPail_self]
  have hwork : ((s.pailWrite p ((s.pail p).queue q).slot (s.entry p q c)).pail p).work = (s.pail p).work := State.pailWrite_workOf ..
  rw [Pail.advance_work, hwork, ← Pail.advance_work]

theorem State.complete_queue : ((s.complete p q irq c).pail p).queue q = ((s.pail p).queue q).advance ((s.pail p).queue q) := by
  rw [Pail.queue, State.queues_of_work (s.complete_workOf p q irq c)]
  exact Pail.queue_setQueue_self ..

theorem State.complete_pendingTx : ((s.complete p q irq c).pail p).pendingTx = (s.pail p).pendingTx :=
  State.pendingTx_of_work (y := (s.pail p).setQueue q (((s.pail p).queue q).advance ((s.pail p).queue q))) (s.complete_workOf p q irq c)

end

end Sys2Proof.Machine
end

section
set_option Elab.async false
namespace Sys2Proof.Machine

/-! ### Receive buffers and frames (R242, R244, R245) -/

theorem State.queue_of_work {x y : Pail} (h : x.work = y.work) (q : Nat) : x.queue q = y.queue q := by
  rw [Pail.queue, State.queues_of_work h, Pail.queue]

section
variable {s : State} {p q : Nat}

theorem State.pendingTx_past : ((s.past p q).pail p).pendingTx = (s.pail p).pendingTx := by
  rw [State.pail_past]
  rfl

theorem State.epoch_past : ((s.past p q).pail p).epoch = (s.pail p).epoch := by
  rw [State.pail_past]
  rfl

theorem State.pail_settle (t : State) (p : Nat) : t.settle.pail p = t.pail p := (rfl)

theorem State.port_settle (t : State) (p : Nat) : t.settle.port p = t.port p := (rfl)

/-! #### RX_BUFFER -/

/-- A buffer joins those posted. -/
def Queue.post (y : Queue) (d : Desc) : Queue := { y with buffers := y.buffers ++ [(d.addr, d.length, d.flags)] }

theorem State.rxBuffer_of_fetches (h : s.Fetches p q 0x10 1) : s.rxBuffer p q =
    if (s.descAt p q).length < 2048 then (s.past p q).finish p 0x10 (s.descAt p q) 4 0
    else (s.past p q).setPail p (((s.past p q).pail p).setQueue q ((((s.past p q).pail p).queue q).post (s.descAt p q))) := by
  rw [State.rxBuffer, State.fetch_of_fetches h rfl]
  rfl

theorem State.rxBuffer_posted (h : s.Fetches p q 0x10 1) (hlength : 2048 ≤ (s.descAt p q).length) :
    let t := (s.rxBuffer p q).settle
    let y := (s.pail p).queue q
    t.mem = s.mem ∧ ((t.pail p).queue q).buffers = y.buffers ++ [((s.descAt p q).addr, (s.descAt p q).length, (s.descAt p q).flags)] ∧
      ((t.pail p).queue q).sqHead = (y.sqHead + 1) % 2 ^ 16 ∧ ((t.pail p).queue q).cqTail = y.cqTail := by
  dsimp only
  rw [State.pail_settle, State.settle_mem, State.rxBuffer_of_fetches h, if_neg (Nat.not_lt.mpr hlength), State.pail_setPail_self,
    Pail.queue_setQueue_self, State.queue_past]
  exact ⟨rfl, rfl, rfl, rfl⟩

/-! #### TX_FRAME -/

/-- The frame of a descriptor goes to the switch, unless link 0 has failed. -/
def State.frameSent (t : State) (p : Nat) (d : Desc) : Sent :=
  if t.cut 0 then ⟨t, [], 0⟩
  else t.sendOwn (frameOf (t.loadBytes (t.pailOwner p) d.addr d.length)) (if bit d.flags 2 then some (bitsOf 32 d.egress) else none)
    (if bit d.flags 1 then some (t.reg (Od.pailTxQueue p) + 1) else none) d.tag none

theorem State.frameSent_workOf (t : State) (p n : Nat) (d : Desc) : (t.frameSent p d).state.workOf n = t.workOf n := by
  unfold State.frameSent
  split
  · rfl
  · exact State.sendOwn_workOf ..

/-- What TX_FRAME does with a descriptor. -/
def State.sendFrame (t : State) (p q : Nat) (d : Desc) (answered : Bool) : State :=
  if d.length < 60 then t.finish p 0x11 d 4 0
  else if !t.pailReads p d.addr d.length answered then t.finish p 0x11 d 3 0
  else if (t.frameSent p d).ports.isEmpty then (t.frameSent p d).state.finish p 0x11 d 8 0
  else if !bit d.flags 1 then (t.frameSent p d).state.finish p 0x11 d 0 d.length
  else (t.frameSent p d).state.modPail p fun x => { x with
    pendingTx := x.pendingTx ++ [⟨q, d.tag, d.flags, d.length, (t.frameSent p d).id, x.epoch, false⟩] }

theorem State.txFrame_of_fetches (h : s.Fetches p q 0x11 2) (answered : Bool) :
    s.txFrame p q answered = (s.past p q).sendFrame p q (s.descAt p q) answered := by
  rw [State.txFrame, State.fetch_of_fetches h rfl, State.sendFrame]
  rfl

/-- A completion of a descriptor moves the ring of its queue on and lets the frames wait that wait. -/
theorem State.finish_after {v : State} (hwork : v.workOf p = (s.past p q).workOf p) (opcode status len : Nat) :
    ((v.finish p opcode (s.descAt p q) status len).pail p).queue q = ((s.pail p).queue q).past.advance ((s.pail p).queue q) ∧
      ((v.finish p opcode (s.descAt p q) status len).pail p).pendingTx = (s.pail p).pendingTx := by
  have hqueue : (v.pail p).queue q = ((s.pail p).queue q).past := (State.queue_of_work hwork q).trans State.queue_past
  have hpending : (v.pail p).pendingTx = (s.pail p).pendingTx :=
    (State.pendingTx_of_work hwork).trans State.pendingTx_past
  refine ⟨(State.complete_queue v p q _ _).trans ?_, (State.complete_pendingTx v p q _ _).trans hpending⟩
  rw [hqueue]
  rfl

/-- A frame that TX_FRAME took: it completes at once, or waits for its timestamp where one is asked for. -/
theorem State.sendFrame_sent {answered : Bool} (hlength : 60 ≤ (s.descAt p q).length)
    (hreads : s.pailReads p (s.descAt p q).addr (s.descAt p q).length answered = true) :
    let t := (s.past p q).sendFrame p q (s.descAt p q) answered
    ((t.pail p).queue q = ((s.pail p).queue q).past.advance ((s.pail p).queue q) ∧ (t.pail p).pendingTx = (s.pail p).pendingTx) ∨
    (bit (s.descAt p q).flags 1 = true ∧ (t.pail p).queue q = ((s.pail p).queue q).past ∧ ∃ w : PendingTx,
      (t.pail p).pendingTx = (s.pail p).pendingTx ++ [w] ∧ w.queue = q ∧ w.tag = (s.descAt p q).tag ∧ w.epoch = (s.pail p).epoch) := by
  have hreads : (s.past p q).pailReads p (s.descAt p q).addr (s.descAt p q).length answered = true := hreads
  have hwork := (s.past p q).frameSent_workOf p p (s.descAt p q)
  dsimp only
  rw [State.sendFrame, if_neg (Nat.not_lt.mpr hlength), hreads, if_neg (by decide)]
  split
  · exact .inl (State.finish_after hwork _ _ _)
  · split
    · exact .inl (State.finish_after hwork _ _ _)
    · next hwants =>
      have hqueue := (State.queue_of_work hwork q).trans State.queue_past
      have hpending := (State.pendingTx_of_work hwork).trans State.pendingTx_past
      have hepoch := (State.epoch_of_work hwork).trans State.epoch_past
      rw [State.modPail, State.pail_setPail_self]
      exact .inr ⟨by simpa using hwants, hqueue, _, congrArg (· ++ [_]) hpending, rfl, rfl, hepoch⟩

theorem State.txFrame_sent {answered : Bool} (h : s.Fetches p q 0x11 2) (hlength : 60 ≤ (s.descAt p q).length)
    (hreads : s.pailReads p (s.descAt p q).addr (s.descAt p q).length answered = true) :
    let t := (s.txFrame p q answered).settle
    let x := s.pail p
    ((t.pail p).queue q).sqHead = ((x.queue q).sqHead + 1) % 2 ^ 16 ∧
      (bit (s.descAt p q).flags 1 = false →
        ((t.pail p).queue q).cqTail = ((x.queue q).cqTail + 1) % 2 ^ 16 ∧ (t.pail p).pendingTx = x.pendingTx) ∧
      (bit (s.descAt p q).flags 1 = true → ((t.pail p).queue q).cqTail = (x.queue q).cqTail →
        ∃ w : PendingTx, (t.pail p).pendingTx = x.pendingTx ++ [w] ∧ w.queue = q ∧ w.tag = (s.descAt p q).tag ∧ w.epoch = x.epoch) := by
  dsimp only
  rw [State.pail_settle, State.txFrame_of_fetches h]
  rcases State.sendFrame_sent hlength hreads with ⟨hdone, hpending⟩ | ⟨hwants, hwaits, hpending⟩
  · have htail := congrArg Queue.cqTail hdone
    refine ⟨congrArg Queue.sqHead hdone, fun _ => ⟨htail, hpending⟩, fun _ hkept => ?_⟩
    have hmoved : ((s.pail p).queue q).cqTail = (((s.pail p).queue q).cqTail + 1) % 2 ^ 16 := hkept.symm.trans htail
    omega
  · refine ⟨congrArg Queue.sqHead hwaits, fun hnot => ?_, fun _ _ => hpending⟩
    rw [hwants] at hnot
    cases hnot

/-! #### RX_FRAME_COMPLETION -/

theorem State.rxCompletion_idle (h : (s.pail p).state ≠ .active ∨ (s.pail p).freeze = true ∨ s.reg (Od.pailRxQueue p) = 0xFF ∨
    s.cut 0 = true) : s.rxCompletion p = s := by
  unfold State.rxCompletion
  dsimp only
  split
  · split
    · refine if_pos ?_
      rcases h with h | h | h | h <;> simp [h]
    · rfl
  · rfl

/-- The frame at the head of the local queue goes, and the oldest buffer of the receive queue with it. -/
theorem State.rxCompletion_of_complete {g : LocalFrame} {rest : List LocalFrame} {b len fl : Nat} {more : List (Nat × Nat × Nat)}
    (hlocal : Tab.look s.sw.localQs (s.reg (Od.pailRxQueue p)) [] = g :: rest)
    (hbuffers : ((s.pail p).queue q).buffers = (b, len, fl) :: more)
    (hqueue : ((List.range (s.reg (Od.pailQueuePairs p))).find? fun q =>
      bit ((s.pail p).queue q).ctrl 0 && decide (field ((s.pail p).queue q).ctrl 1 3 = 1)) = some q)
    (hactive : (s.pail p).state = .active) (hfreeze : (s.pail p).freeze = false) (hcut : s.cut 0 = false)
    (hlq : s.reg (Od.pailRxQueue p) ≠ 0xFF) (hroom : ((s.pail p).queue q).cqFull = false) (hcomplete : g.complete = true) :
    ∃ (v : State) (irq : Bool) (c : Completion), s.rxCompletion p = v.complete p q irq c ∧
      v.sw = { s.sw with localQs := Tab.put s.sw.localQs (s.reg (Od.pailRxQueue p)) rest [] } ∧
      v.workOf p = ((s.pail p).setQueue q { (s.pail p).queue q with buffers := more }).work := by
  have hfound : ((List.range (s.queuePairs p)).find? fun q => ((s.pail p).queue q).enabled && ((s.pail p).queue q).kind = 1) = some q :=
    hqueue
  unfold State.rxCompletion
  dsimp only
  rw [hfound, hlocal]
  dsimp only
  rw [hbuffers]
  dsimp only
  rw [if_neg (by simp [hcut, hactive, hfreeze, hlq, hroom, hcomplete])]
  refine ⟨_, _, _, rfl, ?_, ?_⟩
  · split
    · rw [State.pailWrite_sw]
      rfl
    · rfl
  · rw [State.workOf_ite, State.pailWrite_workOf, ite_self, State.workOf, State.modPail, State.pail_setPail_self]
    rfl

theorem State.rxCompletion_effects {g : LocalFrame} {rest : List LocalFrame} {b len fl : Nat} {more : List (Nat × Nat × Nat)}
    (hlocal : Tab.look s.sw.localQs (s.reg (Od.pailRxQueue p)) [] = g :: rest)
    (hbuffers : ((s.pail p).queue q).buffers = (b, len, fl) :: more)
    (hqueue : ((List.range (s.reg (Od.pailQueuePairs p))).find? fun q =>
      bit ((s.pail p).queue q).ctrl 0 && decide (field ((s.pail p).queue q).ctrl 1 3 = 1)) = some q)
    (hactive : (s.pail p).state = .active) (hfreeze : (s.pail p).freeze = false) (hcut : s.cut 0 = false)
    (hlq : s.reg (Od.pailRxQueue p) ≠ 0xFF) (hroom : ((s.pail p).queue q).cqFull = false) (hcomplete : g.complete = true) :
    let t := (s.rxCompletion p).settle
    Tab.look t.sw.localQs (s.reg (Od.pailRxQueue p)) [] = rest ∧ ((t.pail p).queue q).buffers = more ∧
      ((t.pail p).queue q).cqTail = (((s.pail p).queue q).cqTail + 1) % 2 ^ 16 := by
  dsimp only
  rw [State.settle_sw, State.pail_settle]
  obtain ⟨v, irq, c, hdone, hsw, hwork⟩ :=
    State.rxCompletion_of_complete hlocal hbuffers hqueue hactive hfreeze hcut hlq hroom hcomplete
  have hlater : (s.rxCompletion p).sw = v.sw := by
    rw [hdone]
    exact State.sw_of_only (State.complete_only (by decide) ..)
  have htaken : (v.pail p).queue q = { (s.pail p).queue q with buffers := more } :=
    (State.queue_of_work hwork q).trans (Pail.queue_setQueue_self ..)
  have hlast := State.complete_queue v p q irq c
  rw [← hdone, htaken] at hlast
  refine ⟨?_, ?_, ?_⟩
  · rw [hlater, hsw]
    exact Tab.look_put_self ..
  · rw [hlast]
    rfl
  · rw [hlast]
    rfl

/-! #### TX_TIMESTAMP_COMPLETION -/

theorem State.txCompletion_idle (h : (s.pail p).state ≠ .active ∨ ∀ e ∈ (s.pail p).pendingTx,
    e.epoch ≠ (s.pail p).epoch ∨ s.txOutcome e = none ∨ ((s.pail p).queue e.queue).cqFull = true) : s.txCompletion p = s := by
  unfold State.txCompletion
  dsimp only
  by_cases hactive : (s.pail p).state = .active
  · have hnone : ((s.pail p).pendingTx.find? fun e => decide (e.epoch = (s.pail p).epoch) && (s.txOutcome e).isSome &&
        !((s.pail p).queue e.queue).cqFull) = none := by
      rw [List.find?_eq_none]
      intro e he
      rcases (h.resolve_left (not_not.mpr hactive)) e he with h | h | h <;> simp [h]
    rw [if_neg (not_not.mpr hactive), hnone]
  · exact if_pos hactive

/-- The timestamps of a frame leave the queues of all ports (log 109). -/
def State.collected (s : State) (e : PendingTx) : State := s.each (List.range 32) fun q t =>
  t.modPort q fun y => { y with tsQueue := y.tsQueue.filter fun z => !(z.frameId = e.frameId && z.ptp.isNone) }

theorem State.tsQueue_collected (e : PendingTx) (hq : q < 32) {z : TsEntry} (hz : z ∈ ((s.collected e).port q).tsQueue) :
    z.frameId ≠ e.frameId ∨ z.ptp.isSome = true := by
  have hown (t : State) : ∀ z ∈ ((t.modPort q fun y =>
      { y with tsQueue := y.tsQueue.filter fun z => !(z.frameId = e.frameId && z.ptp.isNone) }).port q).tsQueue,
      z.frameId ≠ e.frameId ∨ z.ptp.isSome = true := by
    intro z hz
    rw [State.modPort, State.port_setPort_self] at hz
    have hkept := (List.mem_filter.mp hz).2
    by_cases hid : z.frameId = e.frameId
    · exact .inr (by simpa [hid] using hkept)
    · exact .inl hid
  refine State.each_establishes (I := fun _ => True) (P := fun t => ∀ z ∈ (t.port q).tsQueue, z.frameId ≠ e.frameId ∨ z.ptp.isSome = true)
    (x := q) (fun _ _ _ => trivial) (fun t _ => hown t) (fun y t _ ht => ?_) (List.mem_range.mpr hq) trivial z hz
  by_cases hy : y = q
  · subst hy
    exact hown t
  · rw [State.modPort, State.port_setPort_ne _ _ (Ne.symm hy)]
    exact ht

theorem State.collected_workOf (e : PendingTx) (n : Nat) : (s.collected e).workOf n = s.workOf n :=
  State.each_workOf n (fun _ t => State.workOf_of_only (State.modPort_only (by decide) t _ _) n) s _

theorem State.txCompletion_of_outcome {e : PendingTx} (hactive : (s.pail p).state = .active) (hpending : (s.pail p).pendingTx = [e])
    (hepoch : e.epoch = (s.pail p).epoch) (houtcome : (s.txOutcome e).isSome = true) (hroom : ((s.pail p).queue e.queue).cqFull = false) :
    ∃ c, s.txCompletion p = ((s.setPail p { s.pail p with pendingTx := [] }).collected e).complete p e.queue (bit e.flags 0) c := by
  obtain ⟨⟨status, ts, port, flags⟩, ho⟩ := Option.isSome_iff_exists.mp houtcome
  unfold State.txCompletion
  dsimp only
  have hfound : ([e].find? fun e => decide (e.epoch = (s.pail p).epoch) && (s.txOutcome e).isSome &&
      !((s.pail p).queue e.queue).cqFull) = some e := by simp [hepoch, houtcome, hroom]
  rw [if_neg (not_not.mpr hactive), hpending, hfound]
  dsimp only
  rw [ho]
  dsimp only
  rw [State.modPail, hpending, List.erase_cons_head]
  exact ⟨_, rfl⟩

theorem State.txCompletion_effects {e : PendingTx} (hactive : (s.pail p).state = .active) (hpending : (s.pail p).pendingTx = [e])
    (hepoch : e.epoch = (s.pail p).epoch) (houtcome : (s.txOutcome e).isSome = true) (hroom : ((s.pail p).queue e.queue).cqFull = false) :
    let t := (s.txCompletion p).settle
    (t.pail p).pendingTx = [] ∧ ((t.pail p).queue e.queue).cqTail = (((s.pail p).queue e.queue).cqTail + 1) % 2 ^ 16 ∧
      ∀ q, q < 32 → ∀ z ∈ (t.port q).tsQueue, z.frameId ≠ e.frameId ∨ z.ptp.isSome = true := by
  dsimp only
  rw [State.pail_settle]
  obtain ⟨c, hdone⟩ := State.txCompletion_of_outcome hactive hpending hepoch houtcome hroom
  have hwork : ((s.setPail p { s.pail p with pendingTx := [] }).collected e).workOf p = { s.pail p with pendingTx := [] }.work := by
    rw [State.collected_workOf, State.workOf, State.pail_setPail_self]
  rw [hdone, State.complete_pendingTx, State.complete_queue]
  refine ⟨State.pendingTx_of_work hwork, ?_, fun q hq z hz => ?_⟩
  · rw [State.queue_of_work hwork]
    rfl
  · rw [State.port_settle, State.port_of_only (State.complete_only (by decide) ..)] at hz
    exact State.tsQueue_collected e hq hz

end

end Sys2Proof.Machine
end

section
set_option Elab.async false
namespace Sys2Proof.Machine

/-! ### O39: copies and frames complete (R171, R199, R242, R244, R245) -/

section
variable (s : State) (a : Instant) (p q : Nat) (ans : Bool)

theorem exec_imageCopy : exec (.imageCopy a p q) s = act (p < 64 && q < 4) 10 (s.arrive a) fun s => s.imageCopy p q := rfl
theorem exec_phasorCopy : exec (.phasorCopy a p q) s = act (p < 64 && q < 4) 10 (s.arrive a) fun s => s.phasorCopy p q := rfl
theorem exec_freqCopy : exec (.freqCopy a p q) s = act (p < 64 && q < 4) 10 (s.arrive a) fun s => s.freqCopy p q := rfl
theorem exec_rxBuffer : exec (.rxBuffer a p q) s = act (p < 64 && q < 4) 10 (s.arrive a) fun s => s.rxBuffer p q := rfl
theorem exec_txFrame : exec (.txFrame a p q ans) s = act (p < 64 && q < 4) 10 (s.arrive a) fun s => s.txFrame p q ans := rfl
theorem exec_rxFrameCompletion : exec (.rxFrameCompletion a p) s = act (p < 64) 10 (s.arrive a) fun s => s.rxCompletion p := rfl
theorem exec_txTimestampCompletion : exec (.txTimestampCompletion a p) s = act (p < 64) 10 (s.arrive a) fun s => s.txCompletion p := rfl

end

/-! #### The outcomes of each copy -/

section
variable {s : State} {p q : Nat} {C : Nat → Nat → List Byte → Prop} (hquiet : s.Quiet p q)
include hquiet

theorem imageCopy_outcomes (hf : s.Fetches p q 0x01 0)
    (hC : ∀ {status len bs}, CopyDone s (s.imageCopy p q).settle p q 0x01 status len bs → C status len bs) :
    let d := s.descAt p q
    (d.addr % 8 ≠ 0 ∨ 8192 < d.first + d.length → C 4 0 []) ∧
    (d.addr % 8 = 0 → d.first + d.length ≤ 8192 →
      (s.imageOf d.tick = none → C 1 0 []) ∧
      (∀ x, s.imageOf d.tick = some x → s.overtaken d.tick = true → C 2 0 []) ∧
      (∀ x, s.imageOf d.tick = some x → s.overtaken d.tick = false →
        (s.pailReach p d.addr (s.copiedOctets p d x).length = false → C 3 0 []) ∧
        (s.pailReach p d.addr (s.copiedOctets p d x).length = true → d.addr + (s.copiedOctets p d x).length ≤ 2 ^ 64 →
          C 0 (s.copiedOctets p d x).length (s.copiedOctets p d x)))) := by
  have hcopy := State.imageCopy_of_fetches hf
  rw [hcopy, State.copyImage] at hC
  have himage : (s.past p q).imageOf (s.descAt p q).tick = s.imageOf (s.descAt p q).tick := rfl
  have hover : (s.past p q).overtaken (s.descAt p q).tick = s.overtaken (s.descAt p q).tick := rfl
  have hoctets (x : ImageSlot) : (s.past p q).copiedOctets p (s.descAt p q) x = s.copiedOctets p (s.descAt p q) x := rfl
  simp only [himage, hover, hoctets] at hC
  refine ⟨fun hbad => hC ?_, fun haddr hrange => ?_⟩
  · rw [descRangeOk_eq_false hbad, if_pos (by rfl)]
    exact copyDone_plain hquiet 4
  rw [descRangeOk_eq_true haddr hrange, if_neg (by decide)] at hC
  refine ⟨fun hnone => hC ?_, fun x hx hover => hC ?_, fun x hx hover => ⟨fun hfar => hC ?_, fun hreach hfit => hC ?_⟩⟩
  · rw [hnone]
    exact copyDone_plain hquiet 1
  · rw [hx, Option.elim_some, if_pos hover]
    exact copyDone_plain hquiet 2
  · rw [hx, Option.elim_some, if_neg (by rw [hover]; decide)]
    exact copyDone_unreached hquiet hfar
  · rw [hx, Option.elim_some, if_neg (by rw [hover]; decide)]
    exact copyDone_copied hquiet hreach hfit

theorem phasorCopy_outcomes (hf : s.Fetches p q 0x02 0)
    (hC : ∀ {status len bs}, CopyDone s (s.phasorCopy p q).settle p q 0x02 status len bs → C status len bs) :
    let d := s.descAt p q
    (d.addr % 8 ≠ 0 ∨ 8192 < d.first + d.length → C 4 0 []) ∧
    (d.addr % 8 = 0 → d.first + d.length ≤ 8192 →
      (s.phasorsOf d.tick = false → C 1 0 []) ∧
      (s.phasorsOf d.tick = true → s.phasorsOvertaken d.tick = true → C 2 0 []) ∧
      (s.phasorsOf d.tick = true → s.phasorsOvertaken d.tick = false →
        (s.pailReach p d.addr (s.phasorOctets p d).length = false → C 3 0 []) ∧
        (s.pailReach p d.addr (s.phasorOctets p d).length = true → d.addr + (s.phasorOctets p d).length ≤ 2 ^ 64 →
          C 0 (s.phasorOctets p d).length (s.phasorOctets p d)))) := by
  have hcopy := State.phasorCopy_of_fetches hf
  rw [hcopy, State.copyPhasors] at hC
  have hheld : (s.past p q).phasorsOf (s.descAt p q).tick = s.phasorsOf (s.descAt p q).tick := rfl
  have hover : (s.past p q).phasorsOvertaken (s.descAt p q).tick = s.phasorsOvertaken (s.descAt p q).tick := rfl
  have hoctets : (s.past p q).phasorOctets p (s.descAt p q) = s.phasorOctets p (s.descAt p q) := rfl
  rw [hheld, hover, hoctets] at hC
  refine ⟨fun hbad => hC ?_, fun haddr hrange => ?_⟩
  · rw [descRangeOk_eq_false hbad, if_pos (by rfl)]
    exact copyDone_plain hquiet 4
  rw [descRangeOk_eq_true haddr hrange, if_neg (by decide)] at hC
  refine ⟨fun hnone => hC ?_, fun hx hover => hC ?_, fun hx hover => ⟨fun hfar => hC ?_, fun hreach hfit => hC ?_⟩⟩
  · rw [hnone, if_pos (by rfl)]
    exact copyDone_plain hquiet 1
  · rw [hx, if_neg (by decide), if_pos hover]
    exact copyDone_plain hquiet 2
  · rw [hx, if_neg (by decide), hover, if_neg Bool.false_ne_true]
    exact copyDone_unreached hquiet hfar
  · rw [hx, if_neg (by decide), hover, if_neg Bool.false_ne_true]
    exact copyDone_copied hquiet hreach hfit

theorem freqCopy_outcomes (hf : s.Fetches p q 0x03 0)
    (hC : ∀ {status len bs}, CopyDone s (s.freqCopy p q).settle p q 0x03 status len bs → C status len bs) :
    let d := s.descAt p q
    (d.addr % 8 ≠ 0 → C 4 0 []) ∧
    (d.addr % 8 = 0 → s.phasorsOf d.tick = false → C 1 0 []) ∧
    (d.addr % 8 = 0 → s.phasorsOf d.tick = true → s.phasorsOvertaken d.tick = true → C 2 0 []) ∧
    (d.addr % 8 = 0 → s.phasorsOf d.tick = true → s.phasorsOvertaken d.tick = false →
      s.pailReach p d.addr 1024 = true → d.addr + 1024 ≤ 2 ^ 64 → C 0 1024 (s.freqOctets d.tick)) := by
  have hcopy := State.freqCopy_of_fetches hf
  rw [hcopy, State.copyFreqs] at hC
  have hheld : (s.past p q).phasorsOf (s.descAt p q).tick = s.phasorsOf (s.descAt p q).tick := rfl
  have hover : (s.past p q).phasorsOvertaken (s.descAt p q).tick = s.phasorsOvertaken (s.descAt p q).tick := rfl
  have hoctets : (s.past p q).freqOctets (s.descAt p q).tick = s.freqOctets (s.descAt p q).tick := rfl
  rw [hheld, hover, hoctets] at hC
  refine ⟨fun hbad => hC ?_, fun haddr hnone => hC ?_, fun haddr hx hover => hC ?_, fun haddr hx hover hreach hfit => hC ?_⟩
  · rw [if_pos hbad]
    exact copyDone_plain hquiet 4
  · rw [if_neg (not_not.mpr haddr), hnone, if_pos (by rfl)]
    exact copyDone_plain hquiet 1
  · rw [if_neg (not_not.mpr haddr), hx, if_neg (by decide), if_pos hover]
    exact copyDone_plain hquiet 2
  · rw [if_neg (not_not.mpr haddr), hx, if_neg (by decide), hover, if_neg Bool.false_ne_true]
    have hlength := s.length_freqOctets (s.descAt p q).tick
    have hdone := copyDone_copied (opcode := 0x03) hquiet (hlength.symm ▸ hreach) (hlength.symm ▸ hfit)
    rwa [hlength] at hdone

/-- A receive buffer that is too short, and a frame to send that is too short or cannot be read. -/
theorem rxBuffer_short (hf : s.Fetches p q 0x10 1) (hshort : (s.descAt p q).length < 2048) :
    CopyDone s (s.rxBuffer p q).settle p q 0x10 4 0 [] := by
  rw [State.rxBuffer_of_fetches hf, if_pos hshort]
  exact copyDone_plain hquiet 4

theorem txFrame_short (hf : s.Fetches p q 0x11 2) (ans : Bool) (hshort : (s.descAt p q).length < 60) :
    CopyDone s (s.txFrame p q ans).settle p q 0x11 4 0 [] := by
  rw [State.txFrame_of_fetches hf, State.sendFrame, if_pos hshort]
  exact copyDone_plain hquiet 4

theorem txFrame_unread (hf : s.Fetches p q 0x11 2) {ans : Bool} (hlength : 60 ≤ (s.descAt p q).length)
    (hreads : s.pailReads p (s.descAt p q).addr (s.descAt p q).length ans = false) :
    CopyDone s (s.txFrame p q ans).settle p q 0x11 3 0 [] := by
  have hreads : (s.past p q).pailReads p (s.descAt p q).addr (s.descAt p q).length ans = false := hreads
  rw [State.txFrame_of_fetches hf, State.sendFrame, if_neg (Nat.not_lt.mpr hlength), hreads, if_pos (by rfl)]
  exact copyDone_plain hquiet 3

end

/-! #### The commands -/

/-- Settles O39: a copy's outcome by the checks in their order, and each step of a frame by its lemma above; what is read of the state does not
depend on the instant. -/
theorem copiesAndFramesComplete : Obligations.CopiesAndFramesComplete := by
  unfold Obligations.CopiesAndFramesComplete
  intro s u a p q ans hpower hp hq hu
  have same {α : Type} (g : State → α) (hg : ∀ t, g (s.setNow t) = g s) : g s = g u := hu ▸ (State.arrive_eq g hg a).symm
  have hpail := same (·.pail p) fun _ => rfl
  have hfetch := same (·.mayFetch p q) fun _ => rfl
  have hdesc := same (·.descAt p q) fun _ => rfl
  have howner := same (·.pailOwner p) fun _ => rfl
  have hreach (b n : Nat) := same (·.pailReach p b n) fun _ => rfl
  have hreads (b n : Nat) := same (·.pailReads p b n ans) fun _ => rfl
  have htick := same (·.workTick) fun _ => rfl
  have hmem := same (·.mem) fun _ => rfl
  have hbyte (o b : Nat) := same (·.memByte o b) fun _ => rfl
  have himage (g : Nat) := same (·.imageOf g) fun _ => rfl
  have hword (x : ImageSlot) (c : Nat) := same (·.slotWord p x c) fun _ => rfl
  have hheld (g : Nat) := same (·.phasorsOf g) fun _ => rfl
  have hseen (o g : Nat) := same (·.phasorSeen p o g) fun _ => rfl
  have hdp := same (·.dp) fun _ => rfl
  have hsw := same (·.sw) fun _ => rfl
  have hreg (k : Nat) := same (·.reg k) fun _ => rfl
  have hcut := same (·.cut 0) fun _ => rfl
  have houtcome (e : PendingTx) := same (·.txOutcome e) fun _ => rfl
  have hqueue : (decide (p < 64) && decide (q < 4)) = true := by simp [hp, hq]
  have hhere : decide (p < 64) = true := decide_eq_true hp
  dsimp only
  simp only [hpail, hfetch, hdesc, howner, hreach, hreads, htick, hmem, hbyte, himage, hword, hheld, hseen, hdp, hsw, hreg, hcut, houtcome]
  refine ⟨fun hf hquiet => ?_, fun hf hquiet => ?_, fun hf hquiet => ?_, fun hf hquiet hshort => ?_, fun hf hlength => ?_,
    fun hf hquiet hshort => ?_, fun hf hquiet hlength hunread => ?_, fun hf hlength hread => ?_, fun hidle => ?_,
    fun g rest b len fl more hlocal hbuffers hfound hactive hfreeze hlink hlq hroom hcomplete => ?_, fun hidle => ?_,
    fun e hactive hpending hepoch hout hroom => ?_⟩
  · exact imageCopy_outcomes (C := fun status len bs => Yields (.imageCopy a p q) s fun t => CopyDone u t p q 0x01 status len bs) hquiet hf
      fun hdone => yields_of_act (exec_imageCopy s a p q) hqueue hpower hu hdone
  · exact phasorCopy_outcomes (C := fun status len bs => Yields (.phasorCopy a p q) s fun t => CopyDone u t p q 0x02 status len bs) hquiet hf
      fun hdone => yields_of_act (exec_phasorCopy s a p q) hqueue hpower hu hdone
  · obtain ⟨hinvalid, hmissing, hover, hcopied⟩ := freqCopy_outcomes
      (C := fun status len bs => Yields (.freqCopy a p q) s fun t => CopyDone u t p q 0x03 status len bs) hquiet hf
      fun hdone => yields_of_act (exec_freqCopy s a p q) hqueue hpower hu hdone
    exact ⟨hinvalid, hmissing, hover, fun haddr hx hkept hin hfit => ⟨u.freqOctets (u.descAt p q).tick, u.length_freqOctets _,
      hcopied haddr hx hkept hin hfit, fun g r hg hr => u.freqOctets_block hg hr⟩⟩
  · exact yields_of_act (exec_rxBuffer s a p q) hqueue hpower hu (rxBuffer_short hquiet hf hshort)
  · exact yields_of_act (exec_rxBuffer s a p q) hqueue hpower hu (State.rxBuffer_posted hf hlength)
  · exact yields_of_act (exec_txFrame s a p q ans) hqueue hpower hu (txFrame_short hquiet hf ans hshort)
  · exact yields_of_act (exec_txFrame s a p q ans) hqueue hpower hu (txFrame_unread hquiet hf hlength hunread)
  · exact yields_of_act (exec_txFrame s a p q ans) hqueue hpower hu (State.txFrame_sent hf hlength hread)
  · exact does_of_act (exec_rxFrameCompletion s a p) hhere hpower hu (State.rxCompletion_idle hidle)
  · exact yields_of_act (exec_rxFrameCompletion s a p) hhere hpower hu
      (State.rxCompletion_effects hlocal hbuffers hfound hactive hfreeze hlink hlq hroom hcomplete)
  · exact does_of_act (exec_txTimestampCompletion s a p) hhere hpower hu (State.txCompletion_idle hidle)
  · exact yields_of_act (exec_txTimestampCompletion s a p) hhere hpower hu
      (State.txCompletion_effects hactive hpending hepoch hout hroom)

end Sys2Proof.Machine
end
